-- ==== Sys2Proof/Word.lean ====
section
/-! DEFINITION. The word types: a byte, and a string of bytes as the spec's structures are laid out (00 R10). -/
namespace Sys2Proof

/-- One byte. -/
abbrev Byte := BitVec 8

/-- A byte string, byte 0 first (00 R10, R11). -/
abbrev Bytes := List Byte

end Sys2Proof
end

