-- ==== Sys2Proof/Syntax.lean ====
section
/-! DEFINITION. The commands: the images and packets they carry, and `Instr`, one constructor for each row of the opcode table. -/
namespace Sys2Proof

/-- One segment as a header phase reads it (10 R291, 11 R304): the segment record, the Mould, the index table, the fingerprint table, and
the offset of the record's first byte: in a reserve from the slot's first byte, otherwise from the object's. -/
structure SegImage where
  off : Nat
  record : Bytes
  mould : Bytes
  index : Bytes
  prints : Bytes
  deriving DecidableEq, Repr

/-- One shard as a header phase reads it: the header with its tensor table (empty for reserve frames) and its segments. -/
structure ShardImage where
  header : Bytes
  segs : List SegImage
  deriving DecidableEq, Repr

/-- What a source holds for one step: the reserve slot's STATE and STEP (10 R268), the Maquette if there is one, and its shards. -/
structure StepImage where
  slotState : Nat
  slotStep : Nat
  slot : Nat
  maquette : Option Bytes
  shards : List ShardImage
  deriving DecidableEq, Repr

/-- What a received frame is, as its headers say (12 R326). -/
inductive Frame where
  /-- UDP port 4791: destination QPN, whether the ICRC is good, whether the packet is marked CE -/
  | roce (qpn : Nat) (icrcOk ce : Bool) (len : Nat)
  /-- ARP, IPv6 neighbour discovery, LLDP -/
  | control (bytes : Bytes)
  /-- TCP, and whether firmware holds the port open -/
  | tcp (held : Bool) (bytes : Bytes)
  | other (len : Nat)
  deriving DecidableEq, Repr

/-- What an IJTAG scan drives (15 R428). -/
inductive IjtagOp where
  /-- SRAM self-test and repair of a bank, with what the test finds -/
  | bist (bank : Nat) (good : Bool)
  /-- a patrol test of a unit, with what the test finds -/
  | patrol (cls phys : Nat) (good : Bool)
  /-- retire a unit -/
  | retire (cls phys : Nat)
  /-- read of the privileged view -/
  | read (off size : Nat)
  /-- the IDCODE register (15 R427) -/
  | idcode
  /-- n bits through BYPASS, first bit lowest (15 R427) -/
  | bypass (bits n : Nat)
  deriving DecidableEq, Repr

/-- When a command of the guard port comes (03 R110, R112): ns, and for each lane on which GO_READY has been low the ns it has been low in all. -/
structure GuardClock where
  ns : Nat
  low : List (Nat × Nat)
  deriving DecidableEq, Repr

-- BEGIN
/-- The commands: one constructor for each row of spec/opcode_table.json, with what the row's rule says arrives with it. Times: `ofs` is the
number of CLK_REF cycles since the tick boundary, `now` the guard port's clock. -/
inductive Instr where
  /-- COLD_RESET (R448) -/
  | coldReset (inst present : Nat)
  /-- PACKAGE_RESET (R448) -/
  | packageReset (inst present : Nat)
  /-- FUNCTION_RESET (R448) -/
  | functionReset (ofs : Nat)
  /-- TENANT_RESET (R448) -/
  | tenantReset (ctx ofs : Nat)
  /-- ENGINE_RST (R448) -/
  | engineRst (ofs : Nat)
  /-- PWR_FAIL_N (R463) -/
  | pwrFailN (ofs : Nat)
  /-- BUS_V_STROBE (R462) -/
  | busVStrobe (code ofs : Nat)
  /-- BUSV_STALE_TIMEOUT (R424) -/
  | busvStaleTimeout
  /-- SAG_FAST_RISE (R423) -/
  | sagFastRise (level ofs : Nat)
  /-- SAG_STEP_UP (R460) -/
  | sagStepUp (level ofs : Nat)
  /-- TICK_IN_EDGE (R51) -/
  | tickInEdge (delta : Int)
  /-- TICK_BOUNDARY (R53) -/
  | tickBoundary
  /-- THROTTLE_WINDOW_END (R77) -/
  | throttleWindowEnd
  /-- POWER_FAULT (R76) -/
  | powerFault (ofs : Nat)
  /-- STEP_END (R97) -/
  | stepEnd (step : Nat) (cut : Bool) (ofs : Nat)
  /-- GUARD_WRITE (R102) -/
  | guardWrite (lane addr : Nat) (data : Bytes) (be : Nat) (ord : Bool) (id : Nat) (now : GuardClock)
  /-- RESCUE_ISSUE (R107) -/
  | rescueIssue (now : GuardClock)
  /-- RESCUE_LANDING (R107) -/
  | rescueLanding (gran : Nat) (data : Bytes) (err : Bool) (now : GuardClock)
  /-- POOL_DRAIN (R108) -/
  | poolDrain
  /-- GUARD_WRITE_RESPONSE (R408) -/
  | guardWriteResponse (lane : Nat) (spill : Bool) (id : Nat) (err : Bool)
  /-- COPY_READ_LANDING (R109) -/
  | copyReadLanding (gran : Nat) (data : Bytes) (err : Bool) (now : GuardClock)
  /-- BITMAP_CLEAR_DONE (R100) -/
  | bitmapClearDone
  /-- FABRIC_READ_RESPONSE (R405) -/
  | fabricReadResponse (tag : Nat) (data : Bytes) (err : Bool)
  /-- FABRIC_WRITE_ACK (R407) -/
  | fabricWriteAck (id : Nat) (err : Bool)
  /-- GROUP_CLOSE_TIMEOUT (R65) -/
  | groupCloseTimeout (ctx ring : Nat)
  /-- ADMISSION_DECISION (R68) -/
  | admissionDecision (gid : Nat)
  /-- DOORBELL (R362) -/
  | doorbell (ctx ring tail ofs : Nat)
  /-- ENTRY_FETCH (R361) -/
  | entryFetch (ctx ring : Nat) (bytes : Bytes)
  /-- OWN_RECHECK (R363) -/
  | ownRecheck (ctx ring : Nat) (bytes : Bytes)
  /-- RING_ENABLE (R352) -/
  | ringEnable (ctx ring cfg ofs : Nat)
  /-- CRING_HEAD (R370) -/
  | cringHead (ctx ring head ofs : Nat)
  /-- NOP (R356) -/
  | nop (ctx ring : Nat)
  /-- FENCE (R391) -/
  | fence (ctx ring : Nat)
  /-- COPY (R125) -/
  | copy (ctx ring : Nat)
  /-- SNAP (R274) -/
  | snap (ctx ring : Nat)
  /-- RESTORE (R291) -/
  | restore (ctx ring : Nat) (img : List StepImage)
  /-- SWAP_IN (R139) -/
  | swapIn (ctx ring : Nat) (img : List StepImage)
  /-- CHAIN (R137) -/
  | chain (ctx ring : Nat) (img : List StepImage)
  /-- SEAL (R540) -/
  | sealJob (ctx ring : Nat)
  /-- OPEN (R540) -/
  | openJob (ctx ring : Nat)
  /-- DIGEST (R212) -/
  | digest (ctx ring : Nat)
  /-- DIGEST_FINAL (R216) -/
  | digestFinal (ctx ring : Nat)
  /-- MOULD_LOAD (R175); `data` is not used: the bytes come with the responses of its read (log entry 49) -/
  | mouldLoad (ctx ring : Nat) (data : Bytes)
  /-- PERM_LOAD (R254); `data` is not used, as for MOULD_LOAD -/
  | permLoad (ctx ring : Nat) (data : Bytes)
  /-- LATTICE (R229) -/
  | lattice (ctx ring : Nat)
  /-- SIGNAL_SET (R383) -/
  | signalSet (ctx ring : Nat)
  /-- SIGNAL_ADD (R383) -/
  | signalAdd (ctx ring : Nat)
  /-- SIGNAL_SUB (R383) -/
  | signalSub (ctx ring : Nat)
  /-- WAIT_EQ (R383) -/
  | waitEq (ctx ring : Nat)
  /-- WAIT_GE (R383) -/
  | waitGe (ctx ring : Nat)
  /-- WAIT_NE (R383) -/
  | waitNe (ctx ring : Nat)
  /-- BARRIER_ARRIVE_WAIT (R393) -/
  | barrierArriveWait (ctx ring : Nat)
  /-- BARRIER_ARRIVE (R393) -/
  | barrierArrive (ctx ring : Nat)
  /-- BARRIER_INIT (R392) -/
  | barrierInit (ctx ring : Nat)
  /-- RESUME (R144) -/
  | resume (ctx ring : Nat)
  /-- V1_NOP (R375) -/
  | v1Nop (ctx ring : Nat)
  /-- V1_COPY (R375) -/
  | v1Copy (ctx ring : Nat)
  /-- V1_SNAP (R375) -/
  | v1Snap (ctx ring : Nat)
  /-- V1_RESTORE (R375) -/
  | v1Restore (ctx ring : Nat) (img : List StepImage)
  /-- V1_SEAL (R375) -/
  | v1Seal (ctx ring : Nat)
  /-- V1_OPEN (R375) -/
  | v1Open (ctx ring : Nat)
  /-- V1_FENCE (R375) -/
  | v1Fence (ctx ring : Nat)
  /-- SYNC_TIMEOUT (R382) -/
  | syncTimeout (ctx ring : Nat)
  /-- SYNC_PAGE_SET (R386) -/
  | syncPageSet (ctx id value ofs : Nat)
  /-- SYNC_PAGE_ADD (R386) -/
  | syncPageAdd (ctx id value ofs : Nat)
  /-- SYNC_MAP_WRITE (R381) -/
  | syncMapWrite (value ofs : Nat)
  /-- TICK_MODE_GO (R64) -/
  | tickModeGo (request ofs : Nat)
  /-- STG_CTRL_SWAP (R132) -/
  | stgCtrlSwap (ofs : Nat)
  /-- INV_ALL (R150) -/
  | invAll (ofs : Nat)
  /-- INV_CTX (R150) -/
  | invCtx (ctx ofs : Nat)
  /-- SLOT_FLUSH (R178) -/
  | slotFlush (ofs : Nat)
  /-- GRD_PEAK_CLR (R120) -/
  | grdPeakClr (ofs : Nat)
  /-- DIG_PEAK_CLR (R222) -/
  | digPeakClr (ofs : Nat)
  /-- MIN_CLR (R484) -/
  | minClr (ofs : Nat)
  /-- KEY_LOAD (R191) -/
  | keyLoad (value ofs : Nat)
  /-- KEY_UNWRAP_DONE (R191) -/
  | keyUnwrapDone
  /-- KEY_ERASE (R193) -/
  | keyErase (value ofs : Nat)
  /-- ACK_LOST (R189) -/
  | ackLost (ofs : Nat)
  /-- PNT_INV_CTX (R263) -/
  | pntInvCtx (ctx ofs : Nat)
  /-- PNT_VL_WRITE (R251) -/
  | pntVlWrite (ctx vl ofs : Nat)
  /-- WARN (R271) -/
  | warn (ofs : Nat)
  /-- ABANDON (R286) -/
  | abandon (ofs : Nat)
  /-- ADOPT (R288) -/
  | adopt (role ofs : Nat)
  /-- GO (R441) -/
  | go (ofs : Nat) (header : Bytes)
  /-- RETAIN_REQ (R453) -/
  | retainReq (ofs : Nat)
  /-- ARM_UPD (R454) -/
  | armUpd (ofs : Nat) (image : Bytes)
  /-- QP_RESET (R329) -/
  | qpReset (ofs : Nat)
  /-- QP_RTS (R329) -/
  | qpRts (ofs : Nat)
  /-- RETIRE (R477) -/
  | retire (ofs : Nat)
  /-- PAT_ECC_ADD (R480) -/
  | patEccAdd (count ofs : Nat)
  /-- CLOSE (R490) -/
  | close (ofs : Nat)
  /-- IRQ_EN_WRITE (R509) -/
  | irqEnWrite (ctx value ofs : Nat)
  /-- REGISTER_WRITE (R13) -/
  | registerWrite (tenant : Bool) (ctx off size value ofs : Nat) (data : Bytes)
  /-- HALF_SWAP (R132) -/
  | halfSwap
  /-- MOULD_BUILD_DONE (R159) -/
  | mouldBuildDone
  /-- SEAL_OPEN_VERDICT (R195) -/
  | sealOpenVerdict (pipe : Nat)
  /-- DECODE_SLOT_LOAD_DONE (R174) -/
  | decodeSlotLoadDone (slot : Nat)
  /-- FINGERPRINT_DONE (R202) -/
  | fingerprintDone (job blk : Nat)
  /-- ARRIVAL_DIGEST_DONE (R210) -/
  | arrivalDigestDone (job blk : Nat)
  /-- TILE_BOUNDARY (R84) -/
  | tileBoundary (ofs : Nat)
  /-- ATS_TRANSLATION_RESPONSE (R142) -/
  | atsTranslationResponse (tag : Nat) (ok : Bool)
  /-- ATS_INVALIDATION (R411) -/
  | atsInvalidation (fn : Nat)
  /-- HOST_READ_COMPLETION (R413) -/
  | hostReadCompletion (tag : Nat) (data : Bytes) (status : Nat)
  /-- HOST_LINK_DOWN (R431) -/
  | hostLinkDown
  /-- HOST_REQUEST_WAKE (R453) -/
  | hostRequestWake (fn off size : Nat) (wr : Option Nat)
  /-- WAKE_COMPLETE (R453) -/
  | wakeComplete (ticks : Nat) (data : Bytes)
  /-- RECEIVE_FRAME (R326) -/
  | receiveFrame (lane : Nat) (err : Bool) (frame : Frame)
  /-- RDMA_WRITE_REQUEST (R330) -/
  | rdmaWriteRequest (qp psn rkey addr : Nat) (data : Bytes)
  /-- RDMA_READ_REQUEST (R330) -/
  | rdmaReadRequest (qp psn rkey addr len : Nat)
  /-- RDMA_READ_RESPONSE (R328) -/
  | rdmaReadResponse (qp psn : Nat) (data : Bytes)
  /-- FINGERPRINT_BATCH (R276) -/
  | fingerprintBatch (qp psn : Nat) (bytes : Bytes)
  /-- COMMIT_NOTICE (R280) -/
  | commitNotice (qp psn : Nat) (bytes : Bytes)
  /-- SEND_WITH_INVALIDATE (R338) -/
  | sendWithInvalidate (qp psn key : Nat)
  /-- RC_ACK (R333) -/
  | rcAck (qp psn : Nat)
  /-- NAK (R346) -/
  | nak (qp psn kind : Nat)
  /-- CNP (R344) -/
  | cnp (qp : Nat)
  /-- CNP_RECOVER (R344) -/
  | cnpRecover (qp : Nat)
  /-- ACK_TIMEOUT (R328) -/
  | ackTimeout (qp : Nat)
  /-- REMOTE_OP_TIMEOUT (R87) -/
  | remoteOpTimeout (tag : Nat)
  /-- LINK_UP_FALL (R416) -/
  | linkUpFall (lane : Nat)
  /-- LINK_DOWN_TIMEOUT (R346) -/
  | linkDownTimeout (lane : Nat)
  /-- DUE_TICK_CONGESTED (R345) -/
  | dueTickCongested (gid : Nat)
  /-- NVME_COMPLETION (R337) -/
  | nvmeCompletion (tgt cid status : Nat) (data : Bytes)
  /-- KEEP_ALIVE (R337) -/
  | keepAlive (tgt : Nat)
  /-- XCHG_WAIT_TIMEOUT (R277) -/
  | xchgWaitTimeout (seg : Nat)
  /-- COMMIT_NOTICE_TIMEOUT (R282) -/
  | commitNoticeTimeout
  /-- ARRIVE (R443) -/
  | arrive (src phase : Nat)
  /-- RELEASE (R444) -/
  | release (src phase : Nat)
  /-- HOLDUP (R463) -/
  | holdup (src busV ofs : Nat)
  /-- WARN_PACKET (R271) -/
  | warnPacket (src cause ofs : Nat)
  /-- ABSENT (R442) -/
  | absent (src cause : Nat)
  /-- BOOT_WAIT_TIMEOUT (R443) -/
  | bootWaitTimeout
  /-- PHASE1_TIMEOUT (R443) -/
  | phase1Timeout
  /-- START_ALONE (R446) -/
  | startAlone
  /-- KEY_PORT_ACK (R425) -/
  | keyPortAck (data : Nat) (err : Bool)
  /-- KEY_PORT_TIMEOUT (R426) -/
  | keyPortTimeout
  /-- NVM_READ_DONE (R417) -/
  | nvmReadDone (data : Bytes)
  /-- NVM_PROGRAM_DONE (R417) -/
  | nvmProgramDone (ok : Bool)
  /-- NVM_ERASE_DONE (R468) -/
  | nvmEraseDone
  /-- SIGNATURE_VERIFY_DONE (R437) -/
  | signatureVerifyDone
  /-- WATCHDOG_EXPIRY (R447) -/
  | watchdogExpiry (ofs : Nat)
  /-- IDLE_ENTRY (R451) -/
  | idleEntry
  /-- PM_WAKE_TICK (R451) -/
  | pmWakeTick
  /-- PATROL_SLOT (R476) -/
  | patrolSlot (pass1 pass2 : Bool) (corrected : Nat)
  /-- SUBSTITUTION_DONE (R478) -/
  | substitutionDone (cls phys ofs : Nat)
  /-- ECC_WINDOW_END (R480) -/
  | eccWindowEnd
  /-- YELJO_HEADER_REWRITE (R491) -/
  | yeljoHeaderRewrite
  /-- REPLAY_INPUT (R495) -/
  | replayInput (rec data : Bytes)
  /-- HFLR_REQ_FALL (R412) -/
  | hflrReqFall (fn : Nat)
  /-- HCFG_MSIX_MASK_CLEAR (R511) -/
  | hcfgMsixMaskClear (fn : Nat)
  /-- LINK_UP_RISE (R416) -/
  | linkUpRise (lane : Nat)
  /-- STRAP_CHANGE (R419) -/
  | strapChange (inst present : Nat)
  /-- SB_DROP (R421) -/
  | sbDrop (packet : Nat)
  /-- DBG_EN_FALL (R428) -/
  | dbgEnFall
  /-- IJTAG_ACCESS (R428) -/
  | ijtagAccess (op : IjtagOp)
  /-- FIRMWARE_BACK (R447) -/
  | firmwareBack (sram nvm : Bool)
  /-- RAIL_REMOVED (R451) -/
  | railRemoved
  deriving DecidableEq, Repr

-- END
end Sys2Proof
end

