-- ==== Sys2Proof/Decode.lean ====
section
/-! DEFINITION. The block takes commands, not encoded instructions: no row of the command table gives a command's bits. -/
namespace Sys2Proof

/-- The command that a word spells by the table's bits: none, since no row of the table gives bits. -/
def decodeTableWord (_nbits _w : Nat) : Option Instr := none

end Sys2Proof
end

