-- ==== Sys2Proof/Machine/Bytes.lean ====
section
/-! DEFINITION. Byte strings and the numbers in them: little-endian fields (00 R10), big-endian fields of published standards (00 R11),
bit strings packed from bit 0 of byte 0 (00 R12). -/
namespace Sys2Proof.Machine

/-- The number a byte string spells, byte 0 least significant (00 R10). -/
def leNat : Bytes → Nat
  | [] => 0
  | b :: bs => b.toNat + 256 * leNat bs

/-- `n` bytes of a number, byte 0 least significant (00 R10). -/
def natLe : Nat → Nat → Bytes
  | 0, _ => []
  | n + 1, v => BitVec.ofNat 8 v :: natLe n (v / 256)

/-- The number a byte string spells, byte 0 most significant (00 R11). -/
def beNat (bs : Bytes) : Nat := bs.foldl (fun a b => a * 256 + b.toNat) 0

/-- `n` bytes of a number, byte 0 most significant (00 R11). -/
def natBe (n v : Nat) : Bytes := (natLe n v).reverse

def zeros (n : Nat) : Bytes := List.replicate n 0

/-- Bytes `off` to `off + n − 1` of a string, zero beyond its end. -/
def sliceZ (bs : Bytes) (off n : Nat) : Bytes :=
  let t := (bs.drop off).take n
  t ++ zeros (n - t.length)

/-- Bytes `off` to `off + n − 1` of a string, those that it has. -/
def slice (bs : Bytes) (off n : Nat) : Bytes := (bs.drop off).take n

/-- The little-endian field of `n` bytes at `off`. -/
def fieldAt (bs : Bytes) (off n : Nat) : Nat := leNat (sliceZ bs off n)

/-- Bits [lo + w − 1 : lo] of a number (00 R10). -/
def bitsOf (v lo w : Nat) : Nat := v / 2 ^ lo % 2 ^ w

def bitOf (v i : Nat) : Bool := v / 2 ^ i % 2 == 1

def b2n (b : Bool) : Nat := if b then 1 else 0

def ceilDiv (a b : Nat) : Nat := (a + b - 1) / b

def roundUp (a b : Nat) : Nat := ceilDiv a b * b

def roundDown (a b : Nat) : Nat := a / b * b

/-- The bits of a number, most significant first. -/
def bitsMsb : Nat → Nat → List Bool
  | 0, _ => []
  | n + 1, v => bitOf v n :: bitsMsb n v

/-- The bits of a number, least significant first. -/
def bitsLsb : Nat → Nat → List Bool
  | 0, _ => []
  | n + 1, v => (v % 2 == 1) :: bitsLsb n (v / 2)

/-- The number eight or fewer bits spell, first bit least significant. -/
def ofBitsLsb : List Bool → Nat
  | [] => 0
  | b :: bs => b2n b + 2 * ofBitsLsb bs

/-- Bits packed into bytes from bit 0 of byte 0, the last byte padded with zeros (00 R12); the fuel is the number of bytes. -/
def packBitsFuel : Nat → List Bool → Bytes
  | 0, _ => []
  | n + 1, bs => BitVec.ofNat 8 (ofBitsLsb (bs.take 8)) :: packBitsFuel n (bs.drop 8)

def packBits (bs : List Bool) : Bytes := packBitsFuel (ceilDiv bs.length 8) bs

/-- The bits of a byte string, bit 0 of byte 0 first (00 R12). -/
def unpackBits (bs : Bytes) : List Bool := bs.flatMap (fun b => bitsLsb 8 b.toNat)

/-- A list cut into pieces of `n`, the last possibly shorter; the fuel bounds the number of pieces. -/
def chunksFuel {α : Type} : Nat → Nat → List α → List (List α)
  | 0, _, _ => []
  | f + 1, n, l => if l.isEmpty then [] else l.take n :: chunksFuel f n (l.drop n)

def chunks {α : Type} (n : Nat) (l : List α) : List (List α) := chunksFuel l.length n l

/-- ASCII bytes of a label. -/
def ascii (s : String) : Bytes := s.toList.map (fun c => BitVec.ofNat 8 c.toNat)

/-- A list with element `i` replaced. -/
def setAt {α : Type} (l : List α) (i : Nat) (a : α) : List α := l.set i a

/-- Two's-complement reading of a `w`-bit field. -/
def signedOf (w v : Nat) : Int := if v < 2 ^ (w - 1) then (v : Int) else (v : Int) - 2 ^ w

/-- Addition to a counter of `w` bits that saturates (the counters of the register tables). -/
def satAdd (w a b : Nat) : Nat := min (a + b) (2 ^ w - 1)

end Sys2Proof.Machine
end

