-- ==== Sys2Proof/Machine/Crypto.lean ====
section
/-! DEFINITION. The published algorithms the spec names: CRC-32C (05 R164), SHA-256 and SHA-384 (07 R202, R211; FIPS 180-4),
HMAC (07 R213; FIPS 198-1), AES-256 (FIPS 197), GCM (06 R180; NIST SP 800-38D), AES key unwrap with padding (06 R190; RFC 5649)
and ECDSA over P-384 (16 R437; FIPS 186-5). -/
namespace Sys2Proof.Machine

/-! ### CRC-32C, and the CRC-32 of Ethernet -/

/-- Eight steps of a reflected polynomial. -/
def crcByte (poly c : BitVec 32) (b : Byte) : BitVec 32 :=
  (List.range 8).foldl (fun x _ => if x.getLsbD 0 then (x >>> 1) ^^^ poly else x >>> 1) (c ^^^ b.setWidth 32)

/-- Initial value and final exclusive or all ones. -/
def crcOf (poly : BitVec 32) (bs : Bytes) : Nat := ((bs.foldl (crcByte poly) 0xFFFFFFFF#32) ^^^ 0xFFFFFFFF#32).toNat

/-- The Castagnoli polynomial (05 R164). -/
def crc32c (bs : Bytes) : Nat := crcOf 0x82F63B78#32 bs

/-- The polynomial of Ethernet, which the ICRC of a RoCEv2 packet uses (12 R325). -/
def crc32 (bs : Bytes) : Nat := crcOf 0xEDB88320#32 bs

/-! ### SHA-2 (FIPS 180-4): one description of both word widths -/

/-- Fractions of the cube roots of the first 80 primes, eight of 64 bits a row, the first least significant. -/
def shaRows : List Nat :=
  [0xab1c5ed5da6d8118923f82a4af194f9b59f111f1b605d0193956c25bf348b538e9b5dba58189dbbcb5c0fbcfec4d3b2f7137449123ef65cd428a2f98d728ae22,
   0xc19bf174cf6926949bdc06a725c7123580deb1fe3b1696b172be5d74f27b896f550c7dc3d5ffb4e2243185be4ee4b28c12835b0145706fbed807aa98a3030242,
   0x76f988da831153b55cb0a9dcbd41fbd44a7484aa6ea6e4832de92c6f592b0275240ca1cc77ac9c650fc19dc68b8cd5b5efbe4786384f25e3e49b69c19ef14ad2,
   0x142929670a0e6e7006ca6351e003826fd5a79147930aa725c6e00bf33da88fc2bf597fc7beef0ee4b00327c898fb213fa831c66d2db43210983e5152ee66dfab,
   0x92722c851482353b81c2c92e47edaee6766a0abb3c77b2a8650a73548baf63de53380d139d95b3df4d2c6dfc5ac42aed2e1b21385c26c92627b70a8546d22ffc,
   0x106aa07032bbd1b8f40e35855771202ad69906245565a910d192e819d6ef5218c76c51a30654be30c24b8b70d0f89791a81a664bbc423001a2bfe8a14cf10364,
   0x682e6ff3d6b2b8a35b9cca4f7763e3734ed8aa4ae3418acb391c0cb3c5c95a6334b0bcb5e19b48a82748774cdf8eeb991e376c085141ab5319a4c116b8d2d0c8,
   0xc67178f2e372532bbef9a3f7b2c67915a4506cebde82bde990befffa23631e288cc702081a6439ec84c87814a1f0ab7278a5636f43172f60748f82ee5defb2fc,
   0x1b710b35131c471b113f9804bef90dae0a637dc5a2c898a606f067aa72176fbaf57d4f7fee6ed178eada7dd6cde0eb1ed186b8c721c0c207ca273eceea26619c,
   0x6c44198c4a4758175fcb6fab3ad6faec597f299cfc657e2a4cc5d4becb3e42b6431d67c49c100d4c3c9ebe0a15c9bebc32caab7b40c7249328db77f523047d84]

/-- Constant of round i, at 64 bits. -/
def shaConst (i : Nat) : Nat := shaRows.getD (i / 8) 0 >>> (64 * (i % 8)) % 2 ^ 64

/-- Eight words of w bits packed in a number, the first least significant. -/
def eightWords (w n : Nat) : List Nat := (List.range 8).map (fun i => n >>> (w * i) % 2 ^ w)

/-- Fractions of the square roots of the first eight primes. -/
def sha256Init : List Nat := eightWords 32 0x5be0cd191f83d9ab9b05688c510e527fa54ff53a3c6ef372bb67ae856a09e667

/-- Fractions of the square roots of the next eight. -/
def sha384Init : List Nat := eightWords 64 0x47b5481dbefa4fa4db0c2e0d64f98fa78eb44a876858151167332667ffc00b31152fecd8f70e59399159015a3070dd17629a292a367cd507cbbb9d5dc1059ed8

/-- What tells SHA-256 and SHA-512 apart: word width, rounds, rotations of the two large sums, and rotations and shift of the two small. -/
structure Sha2 where
  width : Nat
  rounds : Nat
  sumA : List Nat
  sumE : List Nat
  mix0 : List Nat × Nat
  mix1 : List Nat × Nat

def shaNarrow : Sha2 := ⟨32, 64, [2, 13, 22], [6, 11, 25], ([7, 18], 3), ([17, 19], 10)⟩
def shaWide : Sha2 := ⟨64, 80, [28, 34, 39], [14, 18, 41], ([1, 8], 7), ([19, 61], 6)⟩

/-- A word turned by each of some amounts, the results combined by exclusive or into `z`. -/
def turned {w : Nat} (z x : BitVec w) (l : List Nat) : BitVec w := l.foldl (fun a n => a ^^^ x.rotateRight n) z

/-- The message schedule of the newest 16 words, newest first: the words of the rounds from here on. -/
def Sha2.words (f : Sha2) : Nat → List (BitVec f.width) → List (BitVec f.width)
  | 0, _ => []
  | n + 1, l =>
    let old := l.getD 14 0
    let late := l.getD 1 0
    let next := turned (old >>> f.mix0.2) old f.mix0.1 + turned (late >>> f.mix1.2) late f.mix1.1 + l.getD 15 0 + l.getD 6 0
    l.getD 15 0 :: f.words n (next :: l.take 15)

/-- One round on the eight working variables: choose in place of e's mask, majority by its or form. -/
def Sha2.round (f : Sha2) (v : List (BitVec f.width)) (k : BitVec f.width) : List (BitVec f.width) :=
  let x := fun (i : Nat) => v.getD i 0
  let pick := x 6 ^^^ (x 4 &&& (x 5 ^^^ x 6))
  let most := (x 0 &&& x 1) ||| (x 2 &&& (x 0 ||| x 1))
  let t := turned 0 (x 4) f.sumE + pick + x 7 + k
  (turned 0 (x 0) f.sumA + most + t) :: (v.take 3 ++ (x 3 + t) :: (v.drop 4).take 3)

/-- One block into the chaining state. -/
def Sha2.block (f : Sha2) (h : List Nat) (blk : Bytes) : List Nat :=
  let first : List (BitVec f.width) := (chunks (f.width / 8) blk).map (fun c => BitVec.ofNat f.width (beNat c))
  let start : List (BitVec f.width) := h.map (BitVec.ofNat f.width)
  let last := ((f.words f.rounds first.reverse).zipIdx).foldl
    (fun v (w, i) => f.round v (w + BitVec.ofNat f.width (shaConst i >>> (64 - f.width)))) start
  (start.zip last).map (fun p => (p.1 + p.2).toNat)

def sha256Block (h : List Nat) (blk : Bytes) : List Nat := shaNarrow.block h blk

def sha512Block (h : List Nat) (blk : Bytes) : List Nat := shaWide.block h blk

/-- The padding of FIPS 180-4 for a message of `n` bytes. -/
def shaPad (blkLen lenBytes n : Nat) : Bytes :=
  let z := (blkLen - (n + 1 + lenBytes) % blkLen) % blkLen
  0x80#8 :: zeros z ++ natBe lenBytes (8 * n)

def sha256 (m : Bytes) : Bytes :=
  ((chunks 64 (m ++ shaPad 64 8 m.length)).foldl sha256Block sha256Init).flatMap (natBe 4)

def sha384 (m : Bytes) : Bytes :=
  (((chunks 128 (m ++ shaPad 128 16 m.length)).foldl sha512Block sha384Init).take 6).flatMap (natBe 8)

/-- The two one-block keys of HMAC: the key exclusive-ORed with the inner and the outer pad (FIPS 198-1). -/
def hmacPad (blkLen : Nat) (key : Bytes) (p : Byte) : Bytes := (sliceZ key 0 blkLen).map (· ^^^ p)

def hmac384 (key m : Bytes) : Bytes :=
  sha384 (hmacPad 128 key 0x5c ++ sha384 (hmacPad 128 key 0x36 ++ m))

/-! ### AES-256: a block, and a word of the key schedule, as the number that its bytes spell, byte 0 most significant -/

/-- The S-box of FIPS 197: 64 entries a row, entry 0 least significant. -/
def sboxRows : List Nat :=
  [0x75b227ebe28012079a059618c323c7041531d871f1e5a534ccf73f362693fdb7c072a49cafa2d4adf04759fa7dc982ca76abd7fe2b670130c56f6bf27b777c63,
   0xd2f3ff1021dab6bcf5389d928f40a351a89f3c507f02f94585334d43fbaaefd0cf584c4a39becb6a5bb1fc20ed00d153842fe329b3d63b52a05a6e1b1a2c8309,
   0x8ae7a65eaf4566ca94ed58d6d37c8e779e4959162acd3c25c2406490a3a32e0db0b5ede14b8ee4688902a22dc4f816073195d643d7ea7c41744975fec130ccd,
   0x16bb54b00f2d99416842e6bf0d89a18cdf2855cee9871e9b948ed9691198f8e19e1dc186b95735610ef6034866b53e708a8bbd4b1f74dde8c6b4a61c2e2578ba]

/-- The inverse S-box. -/
def invSboxRows : List Nat :=
  [0x25d18b6d49a25b76b224d92866a12e084ec3fa420b954cee3d23c2a632947b54cbe9dec444438e3487ff2f9b8239e37cfbd7f3819ea340bf38a53630d56a0952,
   0x6b8a130103bdafc1020f3fca8f1e2cd00645b3b80558e4f70ad3bc8c00abd890849d8da75746155edab9edfd5048706c92b6655dcc5ca4d41698688664f6f872,
   0xf45acd78fec0db9a2079d2c64b3e56fc1bbe18aa0e62b76f89c5291d711af1476edf751ce837f9e28535ade72274ac9673e6b4f0cecff297eadc674f4111913a,
   0x7d0c2155631469e126d677ba7e042b17619953833cbbebc8b0f52aae4d3be0a0ef9cc9939f7ae52d0d4ab519a97f51605fec8027591012b131c7078833a8dd1f]

/-- Entry a of a table. -/
def boxAt (rows : List Nat) (a : Nat) : Nat := rows.getD (a / 64) 0 >>> (8 * (a % 64)) % 256

/-- Byte i of an n-byte number. -/
def byteBe (n x i : Nat) : Nat := x >>> (8 * (n - 1 - i)) % 256

/-- The table applied to n bytes, byte i of the result coming from byte `src i`. -/
def subBytes (rows : List Nat) (n : Nat) (src : Nat → Nat) (x : Nat) : Nat :=
  (List.range n).foldl (fun v i => v * 256 + boxAt rows (byteBe n x (src i))) 0

/-- Multiplication of each byte by x in GF(2^8) modulo x^8 + x^4 + x^3 + x + 1. -/
def xtime (a : Nat) : Nat :=
  ((a &&& 0x7f7f7f7f7f7f7f7f7f7f7f7f7f7f7f7f) <<< 1) ^^^ (((a >>> 7) &&& 0x01010101010101010101010101010101) * 0x1b)

/-- Each column turned by one row: row r takes row r + 1. -/
def rotRows (a : Nat) : Nat :=
  ((a &&& 0x00ffffff00ffffff00ffffff00ffffff) <<< 8) ||| ((a >>> 24) &&& 0x000000ff000000ff000000ff000000ff)

def mixColumns (a : Nat) : Nat :=
  let r1 := rotRows a
  let r2 := rotRows r1
  xtime (a ^^^ r1) ^^^ r1 ^^^ r2 ^^^ rotRows r2

def invMixColumns (a : Nat) : Nat :=
  let b := xtime a
  let c := xtime b
  let d := xtime c
  d ^^^ c ^^^ b ^^^ rotRows (d ^^^ b ^^^ a ^^^ rotRows (d ^^^ c ^^^ a ^^^ rotRows (d ^^^ a)))

/-- SubBytes and ShiftRows, and their inverses. -/
def subShift (a : Nat) : Nat := subBytes sboxRows 16 (fun i => (i + 4 * (i % 4)) % 16) a
def invSubShift (a : Nat) : Nat := subBytes invSboxRows 16 (fun i => (i + 12 * (i % 4)) % 16) a

def subWord (t : Nat) : Nat := subBytes sboxRows 4 id t

/-- The key schedule, newest word first, extended word by word from word `i`. -/
def aesExpand : Nat → Nat → Nat → List Nat → List Nat
  | 0, _, _, w => w
  | f + 1, i, rcon, w =>
    let t := w.getD 0 0
    let t' :=
      if i % 8 = 0 then subWord (t % 2 ^ 24 * 256 + t / 2 ^ 24) ^^^ (rcon * 2 ^ 24)
      else if i % 8 = 4 then subWord t else t
    aesExpand f (i + 1) (if i % 8 = 0 then xtime rcon else rcon) ((t' ^^^ w.getD 7 0) :: w)

/-- The 15 round keys of AES-256. -/
def aesKeys (key : Bytes) : List Nat :=
  (chunks 4 (aesExpand 52 8 1 ((chunks 4 (sliceZ key 0 32)).map beNat).reverse).reverse).map (fun c => c.foldl (fun v w => v * 2 ^ 32 + w) 0)

def aesEnc (keys : List Nat) (blk : Nat) : Nat :=
  let s := (List.range 13).foldl (fun s r => mixColumns (subShift s) ^^^ keys.getD (r + 1) 0) (blk ^^^ keys.getD 0 0)
  subShift s ^^^ keys.getD 14 0

def aesDec (keys : List Nat) (blk : Nat) : Nat :=
  let s := (List.range 13).foldl (fun s r => invMixColumns (invSubShift s ^^^ keys.getD (13 - r) 0)) (blk ^^^ keys.getD 14 0)
  invSubShift s ^^^ keys.getD 0 0

def xorB (a b : Bytes) : Bytes := (a.zip b).map (fun p => p.1 ^^^ p.2)

/-! ### GCM -/

/-- Multiplication in GF(2^128) of NIST SP 800-38D: bit 0 of the field is the most significant bit of the block. -/
def gmul128Fuel : Nat → BitVec 128 → BitVec 128 → BitVec 128 → BitVec 128
  | 0, z, _, _ => z
  | f + 1, z, v, x =>
    let z' := if x.getMsbD 0 then z ^^^ v else z
    let v' := if v.getLsbD 0 then (v >>> 1) ^^^ (0xE1#128 <<< 120) else v >>> 1
    gmul128Fuel f z' v' (x <<< 1)

def gmul128 (x y : BitVec 128) : BitVec 128 := gmul128Fuel 128 0 y x

def blk128 (b : Bytes) : Nat := beNat (sliceZ b 0 16)

def ghash (h : BitVec 128) (bs : Bytes) : BitVec 128 :=
  (chunks 16 bs).foldl (fun y b => gmul128 (y ^^^ BitVec.ofNat 128 (blk128 b)) h) 0

def pad16 (b : Bytes) : Bytes := b ++ zeros ((16 - b.length % 16) % 16)

/-- Counter mode from J0 + 1: the low 32 bits of the counter block count (NIST SP 800-38D). -/
def gcmCtr (keys : List Nat) (iv data : Bytes) : Bytes :=
  ((chunks 16 data).zipIdx).flatMap (fun p => xorB p.1 (natBe 16 (aesEnc keys (blk128 (iv ++ natBe 4 (p.2 + 2))))))

def gcmTag (keys : List Nat) (iv aad ct : Bytes) : Bytes :=
  let h := BitVec.ofNat 128 (aesEnc keys 0)
  let s := ghash h (pad16 aad ++ pad16 ct ++ natBe 8 (8 * aad.length) ++ natBe 8 (8 * ct.length))
  natBe 16 (s.toNat ^^^ aesEnc keys (blk128 (iv ++ natBe 4 1)))

/-- AES-256-GCM sealing with the parameters of 06 R180: ciphertext and 16-byte tag. -/
def gcmSeal (key iv aad pt : Bytes) : Bytes × Bytes :=
  let ks := aesKeys key
  let ct := gcmCtr ks iv pt
  (ct, gcmTag ks iv aad ct)

/-- Opening: the plaintext when the tag matches in all 16 bytes (06 R180, R194). -/
def gcmOpen (key iv aad ct tag : Bytes) : Option Bytes :=
  let ks := aesKeys key
  if gcmTag ks iv aad ct = tag then some (gcmCtr ks iv ct) else none

/-! ### AES key unwrap with padding (RFC 5649) -/

/-- The 6 · n inner steps of the unwrap, `t` counting down from 6 n: the register A and the 64-bit pieces. -/
def kwUnwrapSteps (keys : List Nat) (n : Nat) : Nat → Nat → List Nat → Nat × List Nat
  | 0, a, r => (a, r)
  | t + 1, a, r =>
    let i := t % n
    let b := aesDec keys ((a ^^^ (t + 1)) * 2 ^ 64 + r.getD i 0)
    kwUnwrapSteps keys n t (b / 2 ^ 64) (r.set i (b % 2 ^ 64))

/-- The unwrapped message, none when the integrity check fails (RFC 5649: the alternative initial value, the length, the zero padding). -/
def kwpUnwrap (kek c : Bytes) : Option Bytes :=
  let ks := aesKeys kek
  let n := c.length / 8 - 1
  if c.length % 8 ≠ 0 || n < 1 then none
  else
    let ar : Nat × List Nat :=
      if n = 1 then
        let b := aesDec ks (beNat c)
        (b / 2 ^ 64, [b % 2 ^ 64])
      else kwUnwrapSteps ks n (6 * n) (beNat (c.take 8)) ((chunks 8 (c.drop 8)).map beNat)
    let p := ar.2.flatMap (natBe 8)
    let mli := ar.1 % 2 ^ 32
    if ar.1 / 2 ^ 32 = 0xA65959A6 ∧ 8 * (n - 1) < mli ∧ mli ≤ 8 * n ∧ (p.drop mli).all (· == 0) then some (p.take mli) else none

/-- The 6 · n inner steps of the wrap, `t` of them done before. -/
def kwWrapSteps (keys : List Nat) (n : Nat) : Nat → Nat → Nat → List Nat → Nat × List Nat
  | 0, _, a, r => (a, r)
  | fuel + 1, t, a, r =>
    let i := t % n
    let b := aesEnc keys (a * 2 ^ 64 + r.getD i 0)
    kwWrapSteps keys n fuel (t + 1) (b / 2 ^ 64 ^^^ (t + 1)) (r.set i (b % 2 ^ 64))

/-- AES Key Wrap with padding (RFC 5649). -/
def kwpWrap (kek p : Bytes) : Bytes :=
  let ks := aesKeys kek
  let d := (chunks 8 (p ++ zeros (roundUp p.length 8 - p.length))).map beNat
  let a := 0xA65959A6 * 2 ^ 32 + p.length
  let n := d.length
  if n = 1 then natBe 16 (aesEnc ks (a * 2 ^ 64 + d.getD 0 0))
  else
    let ar := kwWrapSteps ks n (6 * n) 0 a d
    (ar.1 :: ar.2).flatMap (natBe 8)

/-! ### ECDSA over P-384 -/

def p384P : Nat := 2 ^ 384 - 2 ^ 128 - 2 ^ 96 + 2 ^ 32 - 1
def p384N : Nat := 0xffffffffffffffffffffffffffffffffffffffffffffffffc7634d81f4372ddf581a0db248b0a77aecec196accc52973
def p384B : Nat := 0xb3312fa7e23ee7e4988e056be3f82d19181d9c6efe8141120314088f5013875ac656398d8a2ed19d2a85c8edd3ec2aef
def p384Gx : Nat := 0xaa87ca22be8b05378eb1c71ef320ad746e1d3b628ba79b9859f741e082542a385502f25dbf55296c3a545e3872760ab7
def p384Gy : Nat := 0x3617de4a96262c6f5d9e98bf9292dc29f8f41dbd289a147ce9da3113b5f0b8c00a60b1ce1d7e819d7a431d7c90ea0e5f

/-- x^e mod m by squaring, over the low `f` bits of e. -/
def powModFuel : Nat → Nat → Nat → Nat → Nat → Nat
  | 0, _, _, _, acc => acc
  | f + 1, x, e, m, acc => powModFuel f (x * x % m) (e / 2) m (if e % 2 = 1 then acc * x % m else acc)

/-- The inverse modulo a prime. -/
def invMod (x m : Nat) : Nat := powModFuel 384 (x % m) (m - 2) m 1

/-- A point of the curve in Jacobian coordinates: x = X / Z², y = Y / Z³; Z = 0 is the point at infinity. -/
abbrev Pt := Nat × Nat × Nat

def subMod (a b m : Nat) : Nat := (a + m - b % m) % m

def ptDouble (q : Pt) : Pt :=
  match q with
  | (x, y, z) =>
    if z = 0 ∨ y = 0 then (1, 1, 0)
    else
      let yy := y * y % p384P
      let zz := z * z % p384P
      let s := 4 * x * yy % p384P
      let m := (3 * x * x + (p384P - 3) * zz * zz) % p384P
      let x3 := subMod (m * m) (2 * s) p384P
      (x3, subMod (m * subMod s x3 p384P) (8 * yy * yy) p384P, 2 * y * z % p384P)

def ptAdd (p q : Pt) : Pt :=
  match p, q with
  | (x1, y1, z1), (x2, y2, z2) =>
    if z1 = 0 then q
    else if z2 = 0 then p
    else
      let w1 := z1 * z1 % p384P
      let w2 := z2 * z2 % p384P
      let u1 := x1 * w2 % p384P
      let u2 := x2 * w1 % p384P
      let s1 := y1 * w2 * z2 % p384P
      let s2 := y2 * w1 * z1 % p384P
      if u1 = u2 then (if s1 = s2 then ptDouble p else (1, 1, 0))
      else
        let h := subMod u2 u1 p384P
        let r := subMod s2 s1 p384P
        let hh := h * h % p384P
        let v := u1 * hh % p384P
        let x3 := subMod (r * r) (h * hh + 2 * v) p384P
        (x3, subMod (r * subMod v x3 p384P) (s1 * h * hh) p384P, h * z1 * z2 % p384P)

def ptMulFuel : Nat → Nat → Pt → Pt → Pt
  | 0, _, _, acc => acc
  | f + 1, k, p, acc => ptMulFuel f (k / 2) (ptDouble p) (if k % 2 = 1 then ptAdd acc p else acc)

def ptMul (k : Nat) (p : Pt) : Pt := ptMulFuel 384 k p (1, 1, 0)

/-- The public key of an uncompressed SEC 1 encoding: 0x04, x, y, on the curve (16 R434). -/
def pubKeyOf (k : Bytes) : Option Pt :=
  let x := beNat (slice k 1 48); let y := beNat (slice k 49 48)
  if k.length = 97 ∧ k.getD 0 0 = 4 ∧ x < p384P ∧ y < p384P
      ∧ y * y % p384P = (x * x * x + (p384P - 3) * x + p384B) % p384P then some (x, y, 1) else none

/-- ECDSA verification over P-384 with SHA-384 (16 R437; FIPS 186-5): the signature is r then s, 48 bytes each. -/
def ecdsaVerify (pub msg sig : Bytes) : Bool :=
  let r := beNat (slice sig 0 48); let s := beNat (slice sig 48 48)
  match pubKeyOf pub with
  | none => false
  | some q =>
    if sig.length ≠ 96 ∨ r = 0 ∨ r ≥ p384N ∨ s = 0 ∨ s ≥ p384N then false
    else
      let z := beNat (sha384 msg)
      let w := invMod s p384N
      match ptAdd (ptMul (z * w % p384N) (p384Gx, p384Gy, 1)) (ptMul (r * w % p384N) q) with
      | (x, _, c) => c != 0 && x * invMod (c * c) p384P % p384P % p384N == r

end Sys2Proof.Machine
end

