-- ==== Sys2Proof/Config.lean ====
section
/-! DEFINITION. What the spec leaves open: uninterpreted values. Nothing in Lean can evaluate them. -/
namespace Sys2Proof.Config

/-- A value the spec leaves open, drawn by the number of the draw (log entry 4): the level of ENG_STATE in OFF (16 R451), the ARG of a
FIRMWARE record (18 R492), the place a divergence by a missing record shows (18 R497), where the writer's file-store Maquette lies (log entry 18), the
digest of a peer's fingerprint record (07 R205, log entry 137), the bank that a failed INDEX is told Patina of (09 R258, log entry 114). -/
opaque freeValue : Nat → Nat

/-- A value of a frame's headers that the standards leave to the sender and the spec does not give, by the field (log entry 141). -/
opaque headerField : Nat → Nat

end Sys2Proof.Config
end

