-- ==== Sys2Proof/Machine/Fld.lean ====
section
/-! DEFINITION. The register fields of the spec's register tables, one constructor for each quantity: a quantity that
occupies a low and a high register (R18) is one constructor. The tables are those of the file and rule named before each group. -/
namespace Sys2Proof.Machine

/-- A register quantity (00 R13; the field tables of each chapter). -/
inductive Fld where
  -- 02 R89
  | tickNowNow
  | tickPeriodPeriod
  | tickStatTickFault
  | tickStatFreeRun
  | tickStatSuspended
  | tickStatPowerFault
  | tickStatClkStep
  | tickStatMissed
  | tickModeCurrent
  | tickModeRequest
  | tickModeGo
  | tickModeRefused
  | tickModeArmatureMode
  | tickThrWinWin
  | tickThrAllowAllow
  | tickThrUsedUsed
  | tickRttAllowRtt
  | tickStepStep
  | tickRsvRsv
  | tickCapCap
  | tickShareCeil
  | tickShareWeight
  | tickParkedParked
  | tickAcctRdBeats
  | tickAcctWrBeats
  | tickAcctRmBeats
  | tickAcctHeldTicks
  -- 03 R120
  | grdStatArmed
  | grdStatGen
  | grdStatClean0
  | grdStatClean1
  | grdStatSnapPending
  | grdStatUnpromised
  | grdStatSpillFull
  | grdStatUnavailable
  | grdStatOverstall
  | grdStatAbandoned
  | grdStatRlatExceeded
  | grdCtrlPeakClr
  | grdSnapDeadlineTicks
  | grdRlatMaxNs
  | grdStallBoundNs
  | grdStallMaxNs
  | grdArmStepStep
  | grdArmInfoLat
  | grdArmInfoResult
  | grdHoldOcc
  | grdHoldPeak
  | grdPoolOcc
  | grdPoolPeak
  | grdSpillOccOcc
  | grdSpillPeakPeak
  | grdSpillBaseBase
  | grdSpillSlotsSlots
  | grdProgressGranules
  | grdTotalGranules
  | grdRescuesCount
  | grdSkippedCount
  | grdOverstallsCount
  | grdWinBaseBase
  | grdWinSizeSize
  | grdWinAttrFormat
  | grdWinAttrGroup
  -- 04 R151
  | stgStatAState
  | stgStatBState
  | stgStatACtx
  | stgStatBCtx
  | stgCtrlSwap
  | stgMergeThresh
  | stgMergeWindow
  | stgTagCapBubble
  | stgTagsInflight
  | stgTagsPeak
  | stgLandingBusy
  | stgLandingStreams
  | stgShortSegsCount
  | stgFaultsCount
  | stgMcCtrlEnable
  | stgMcCtrlInvAll
  | stgMcCtrlInvCtx
  | stgMcCtrlCtx
  | stgMcOccBlocks
  | stgMcOccPinned
  | stgMcHitsCount
  | stgMcMissesCount
  | stgSaveOccOcc
  -- 05 R178
  | cdrStatSlotRef
  | cdrStatSlotValid
  | cdrStatDecHeld
  | cdrStatEncBusy
  | cdrStatBuildBusy
  | cdrCtrlSlotFlush
  | cdrFailInfoStatus
  | cdrFailInfoCtx
  | cdrFailInfoCheck
  | cdrEncInBytes
  | cdrEncOutBytes
  | cdrRawBlocksCount
  | cdrDecBlocksCount
  | cdrCheckFailsCount
  | cdrEscapesCount
  | cdrSlotWaitsCount
  | cdrSlotTagTag
  | cdrSlotInfoRef
  | cdrSlotInfoCtx
  | cdrSlotInfoFormat
  | cdrSlotInfoNSym
  | cdrSlotLoadsCount
  -- 06 R200
  | sealStatReserveWait
  | sealStatReserveFail
  | sealStatTableLost
  | sealCtrlAckLost
  | sealPrefixPrefix
  | sealKeyBlobData
  | sealKeyCmdLoad
  | sealKeyCmdErase
  | sealKeyCmdEraseSlot
  | sealKeyResultState
  | sealKeyResultCause
  | sealKeyResultSlot
  | sealTagFailsCount
  | sealVerifyFailsCount
  | sealReserveWaitsCount
  | sealSlotSelSlot
  | sealSlotInfoValid
  | sealSlotInfoReplayOnly
  | sealSlotInfoOpenOnly
  | sealSlotInfoArmature
  | sealSlotInfoExhausted
  | sealSlotInfoReserveFail
  | sealSlotInfoCtx
  | sealSlotCtrCtr
  | sealSlotHwmHwm
  | sealPipeVfailCount
  -- 07 R222
  | digStatFptFull
  | digStatSaveFail
  | digStatArrivalFail
  | digStatLongCores
  | digCtrlPeakClr
  | digFptBaseBase
  | digFptEntriesEntries
  | digFptUsedUsed
  | digFptPeakPeak
  | digFptFailsCount
  | digSaveBaseBase
  | digEvictionsCount
  | digArrivalFailsCount
  | digLenFailsCount
  | digFpBlocksCount
  | digSlotValid
  | digSlotKeyed
  | digSlotInvalid
  | digSlotBusy
  | digSlotAlg
  | digSlotCtx
  | digSlotHandle
  -- 08 R246
  | latStatLanes
  | latStatSmall
  | latStatLaneDrop
  | latStatReshaped
  | latSaveBaseBase
  | latSnapStepStep
  | latSnapNonfiniteCount
  | latSnapFirstGranule
  | latSnapFirstValid
  | latMacsCount
  | latNonfiniteCount
  | latSaturatedCount
  | latOverflowsCount
  | latReshapedJobsCount
  -- 09 R264
  | pntStatUseFail
  | pntCtrlInvCtx
  | pntCtrlCtx
  | pntTblSelCtx
  | pntTblSelTable
  | pntTblInfoLoaded
  | pntTblInfoValid
  | pntTblInfoBijective
  | pntTblInfoGran
  | pntTblInfoNEnt
  | pntTblLoadnoLoadno
  | pntBytesBytes
  | pntRangeRefusalsCount
  | pntUseFailsCount
  | pntVlVl
  | pntVlPending
  | pntLoadctrCount
  -- 10 R298
  | fjCkptCfgPolicy
  | fjCkptCfgUnit
  | fjCkptCfgHostEn
  | fjCkptCfgFloorEn
  | fjCkptCfgSpare
  | fjCkptCfgKeySlot
  | fjCkptNN
  | fjCkptKK
  | fjCkptXchgWaitTicks
  | fjCkptCtrlWarn
  | fjCkptCtrlAbandon
  | fjCkptCtrlAdopt
  | fjCkptCtrlRole
  | fjCkptStatCommitPending
  | fjCkptStatWarnPending
  | fjCkptStatFloorWait
  | fjCkptStatAdopted
  | fjCkptStatGoodSlot
  | fjCkptStatNoMirror
  | fjCkptStatDiverged
  | fjCkptStatSuspect
  | fjCkptStatDivOvf
  | fjCkptGoodStepStep
  | fjCkptFileStepStep
  | fjCkptFloorStep
  | fjMirrorBaseBase
  | fjMirrorSizeBytes
  | fjReplicaGroupGroup
  | fjReplicaRankRank
  | fjReplicaRankSize
  | fjTopoQpBuddy
  | fjTopoQpPrev
  | fjTopoQpNext
  | fjTopoQpPrevV
  | fjTopoQpNextV
  | fjPeerResBaseBase
  | fjPeerResFramesFrames
  | fjCkptHostBaseBase
  | fjDivBaseBase
  | fjDivHeadHead
  | fjDivHeadAck
  | fjCkptCommitsCount
  | fjCkptHeldCount
  | fjCkptWarnsCount
  | fjCkptUnmatchedCount
  | fjDedupBlocksCount
  | fjDivBlocksCount
  -- 12 R349
  | xptStatLaneUp
  | xptStatLinkDown
  | xptStatQpError
  | xptStatCongested
  | xptStatTcpReady
  | xptCfgLanes
  | xptCfgTcpEn
  | xptRkeyOwnKey
  | xptRkeyPeerKey
  | xptPeerShareBytes
  | xptCcMinRate
  | xptCcRecover
  | xptQpSelQp
  | xptQpCmdCmd
  | xptQpStateState
  | xptQpStateLastErr
  | xptQpAttrLane
  | xptQpAttrPathLen
  | xptQpAttrRdOk
  | xptQpAttrWrOk
  | xptQpAttrSendOk
  | xptQpAttrRes
  | xptQpAttrDscp
  | xptQpAttrRetry
  | xptQpAttrTimeout
  | xptQpAttrMtu
  | xptQpLqpnQpn
  | xptQpDqpnQpn
  | xptQpSpsnPsn
  | xptQpRpsnPsn
  | xptQpDmacMac
  | xptQpDipIp
  | xptQpRkeyKey
  | xptQpOpsOut
  | xptLaneSmacMac
  | xptLaneSipIp
  | xptTgtSelTgt
  | xptTgtCfgAdminQp
  | xptTgtCfgIoQp
  | xptTgtCfgSlots
  | xptTgtCfgTcp
  | xptTgtNsidNsid
  | xptTgtBaseLba
  | xptTgtSlotLbas
  | xptTgtStateState
  | xptTgtStateVwc
  | xptTgtStateNextSlot
  | xptTgtStateLastSc
  | xptTgtFseqSeq
  | xptOpsOut
  | xptOpsPeak
  | xptTxBytesBytes
  | xptRxBytesBytes
  | xptRetransCount
  | xptTimeoutsCount
  | xptNakRxCount
  | xptCnpTxCount
  | xptCnpRxCount
  | xptDroppedCount
  -- 13 R378
  | ringBaseBase
  | ringCfgEnable
  | ringCfgFormat
  | ringCfgSpace
  | ringCfgSz
  | ringTailTail
  | ringHeadHead
  | ringStatOwnWait
  | ringStatTailErr
  | ringStatCmplWait
  | ringEntriesCount
  | ringMalformedCount
  | cringBaseBase
  | cringCfgSz
  | cringCfgIrqAll
  | cringCfgSpace
  | cringCfgVector
  | cringHeadHead
  | cringTailTail
  | cringTailPhase
  | cringStatFull
  | cringStatWaited
  | cringWaitsCount
  -- 14 R400
  | syncStatMapBusy
  | syncStatOverrun
  | syncMapSelId
  | syncMapSelCtx
  | syncMapPhys
  | syncMapValid
  | syncMapSigOk
  | syncMapWaitOk
  | syncMapBarOk
  | syncSignalsCount
  | syncOverrunsCount
  | syncTimeoutsCount
  -- 15 R432
  | fjBuildFabAw
  | fjBuildSmall
  | fjBuildHbm4
  | fjBuildXptLanesMax
  | fjBuildHostDw1024
  | fjBuildNumVf
  | fjBuildGuardIdW
  | fjBuildHostRateMax
  | fjHostDeclOut
  | fjHostDeclIn
  | fjPortStatStepEndEarly
  | fjPortStatBusvStale
  | fjPortStatStrapChg
  | fjPortStatKpDone
  | fjPortStatDbgEn
  | fjPortStatHostFlit
  | fjPortStatFabErr
  | fjPortStatSbDrop
  | fjSbDropsCount
  | fjPosInst
  | fjPosPresent
  | fjMemmapStacks
  | fjMemmapIntlvLog2
  -- 16 R457
  | fjStateState
  | fjStateLocked
  | fjStateAwaitDriver
  | fjStateAlone
  | fjStateEngineBusy
  | fjStateRetainPend
  | fjStateCause
  | fjStateFault
  | fjCtrlGo
  | fjCtrlEngineRst
  | fjCtrlRetainReq
  | fjCtrlArmUpd
  | fjBootCfgDriverHold
  | fjBootCfgBootWait
  | fjBootInfoField
  | fjBootInfoCopy
  | fjBootInfoOtherOk
  | fjBootInfoCode
  | fjArmSeqSeq
  | fjPkgIdId
  | fjFwVersionVersion
  | fjBarrierMembers
  | fjBarrierMissing
  | fjArmDigestDigest
  | fjPmIdleTicks
  | fjPmWakeTick
  | fjWdogRestarts
  | fjWdogFwDown
  | fjArmUpdAddrAddr
  | fjArmUpdLenLen
  | fjArmUpdStatState
  | fjArmUpdStatCode
  -- 17 R484
  | pwrStatSag
  | pwrStatBusLow
  | pwrStatPlinthReady
  | pwrStatJournalReady
  | pwrStatClass
  | pwrStatLastSave
  | pwrStatBusWarn
  | pwrBusvHold
  | pwrBusvWarn
  | pwrBusvNowCode
  | pwrBusvNowMin
  | pwrSagHold
  | pwrCtrlMinClr
  | pwrSaveTimeNs
  | pwrTppNs
  | pwrStepsS1Count
  | pwrStepsS2Count
  | pwrSavesSeq
  | pwrJournalNext
  | pwrJournalHalf
  | pwrPlSelWord
  | pwrPlDataData
  -- 17 R485
  | patStatSubstBusy
  | patStatSubst
  | patStatReduced
  | patStatWarned
  | patStatOutOfService
  | patStatPatrolHeld
  | patCtrlPatrolEn
  | patCtrlRetire
  | patPatrolPeriod
  | patWarnSpareMin
  | patWarnWinLog2
  | patWarnEccThr
  | patEccAddCount
  | patEccWinCount
  | patMemUncorrCount
  | patRotationsCount
  | patSubstsCount
  | patLastClass
  | patLastLogical
  | patLastWarnCause
  | patClassSelClass
  | patClassInfoPhys
  | patClassInfoLogical
  | patClassSpareLeft
  | patClassSpareFailed
  | patUnitSelUnit
  | patUnitInfoLogical
  | patUnitInfoFailed
  | patUnitInfoSpare
  | patUnitWearCount
  -- 18 R499
  | yljCfgMode
  | yljCfgWrap
  | yljStatRecording
  | yljStatReplaying
  | yljStatLost
  | yljStatDiverged
  | yljStatDone
  | yljStatCond
  | yljCtrlClose
  | yljBaseBase
  | yljSizeUnits
  | yljSrcBaseBase
  | yljSrcSizeUnits
  | yljRsvBytes
  | yljNextIndex
  | yljDivIndexIndex
  | yljDivInfoType
  | yljDivInfoOffset
  | yljLostCount
  | yljIgnoredCount
  -- 19 R508
  | fjIrqStatTick
  | fjIrqStatPowerFault
  | fjIrqStatGuard
  | fjIrqStatSeal
  | fjIrqStatDigest
  | fjIrqStatLattice
  | fjIrqStatPointing
  | fjIrqStatCkpt
  | fjIrqStatTransport
  | fjIrqStatPower
  | fjIrqStatPatina
  | fjIrqStatPort
  | fjIrqStatSync
  | fjIrqStatYeljo
  | fjIrqStatFirmware
  | fjIrqStatDone
  | fjIrqEnEn
  | fjIrqDoneKey
  | fjIrqDoneArmUpd
  | fjIrqDoneAdopt
  | fjIrqDoneGo
  | fjIrqDoneMode
  | fjIrqDoneEngineRst
  -- 19 R510
  | fjMsixAddrLoAddr
  | fjMsixAddrHiAddr
  | fjMsixDataData
  | fjMsixCtrlMask
  | fjMsixPbaPending
  -- 19 R513
  | fjDbgSelTarget
  | fjDbgSelPage
  | fjDbgClearWord
  | fjDbgClearBusy
  | fjDbgClearWhich
  deriving DecidableEq, Repr

end Sys2Proof.Machine
end

