-- ==== Sys2Proof/Machine/RegTable.lean ====
section
/-! DEFINITION. The register tables: each field's width, access, reset value and survival, and the offsets of the privileged view,
the ring block and the MSI-X table. Every row is a row of the spec's tables (02 R89, 03 R120, 04 R151, 05 R178, 06 R200, 07 R222,
08 R246, 09 R264, 10 R298, 12 R349, 13 R378, 14 R400, 15 R432, 16 R457, 17 R484 and R485, 18 R499, 19 R507 to R513). -/
namespace Sys2Proof.Machine

/-- Access types of 00 R13 (no field of the tables is W1S). -/
inductive Access where | ro | rw | rwl | w1c | wo
  deriving DecidableEq, Repr

/-- What a field survives (16 R455), one constructor for each Survives entry of the tables. -/
inductive Keep where
  /-- "all resets and power states" -/
  | always
  /-- "all but COLD, PACKAGE, OFF" -/
  | notCold
  /-- "TENANT, FUNCTION, ENGINE, IDLE, RETAIN" -/
  | lock
  /-- "TENANT, FUNCTION, IDLE, RETAIN" -/
  | stat
  /-- "TENANT, IDLE, RETAIN" -/
  | ctl
  /-- "TENANT, ENGINE, IDLE, RETAIN"; of its own context, not TENANT -/
  | ring
  /-- "ENGINE, IDLE, RETAIN; TENANT of other contexts" -/
  | ringCtx
  /-- "IDLE, RETAIN": lost for the reset context under TENANT -/
  | ctxOwned
  /-- "TENANT": cannot be present in IDLE or RETAIN -/
  | work
  /-- "TENANT, IDLE" -/
  | link
  /-- no entry: the field shows a condition, or acts when written -/
  | live
  deriving DecidableEq, Repr

/-- Which context an index of the field belongs to. -/
inductive Owner where
  /-- no context -/
  | none
  /-- index n is context n -/
  | ctx
  /-- index 4 n + r is ring r of context n (13 R350) -/
  | ring
  /-- index 64 n + v is vector v of function n (19 R510) -/
  | msix
  /-- index 1,024 n + id is SYNC_ID id of context n (14 R380) -/
  | map
  deriving DecidableEq, Repr

structure FldInfo where
  width : Nat
  acc : Access
  reset : Nat
  keep : Keep
  owner : Owner
  deriving DecidableEq, Repr

/-- The row of each field. A reset value that the tables give by a build parameter or another field is 0 here and is said in `fldReset`. -/
def fldInfo : Fld → FldInfo
  | .tickNowNow => ⟨64, .ro, 0, .lock, .none⟩
  | .tickPeriodPeriod => ⟨13, .rwl, 0x3e8, .lock, .none⟩
  | .tickStatTickFault => ⟨1, .w1c, 0, .ctl, .none⟩
  | .tickStatFreeRun => ⟨1, .ro, 0, .ctl, .none⟩
  | .tickStatSuspended => ⟨1, .ro, 0, .ctl, .none⟩
  | .tickStatPowerFault => ⟨1, .w1c, 0, .ctl, .none⟩
  | .tickStatClkStep => ⟨2, .ro, 0, .live, .none⟩
  | .tickStatMissed => ⟨16, .ro, 0, .ctl, .none⟩
  | .tickModeCurrent => ⟨2, .ro, 0, .ctl, .none⟩
  | .tickModeRequest => ⟨2, .rw, 0, .ctl, .none⟩
  | .tickModeGo => ⟨1, .wo, 0, .live, .none⟩
  | .tickModeRefused => ⟨1, .w1c, 0, .ctl, .none⟩
  | .tickModeArmatureMode => ⟨2, .rwl, 0, .lock, .none⟩
  | .tickThrWinWin => ⟨32, .rwl, 0x400, .lock, .none⟩
  | .tickThrAllowAllow => ⟨32, .rwl, 0x7d00, .lock, .none⟩
  | .tickThrUsedUsed => ⟨32, .ro, 0, .ctl, .none⟩
  | .tickRttAllowRtt => ⟨16, .rwl, 4, .lock, .none⟩
  | .tickStepStep => ⟨48, .ro, 0, .lock, .none⟩
  | .tickRsvRsv => ⟨32, .ro, 0, .ctxOwned, .none⟩
  | .tickCapCap => ⟨32, .ro, 0, .ctl, .none⟩
  | .tickShareCeil => ⟨8, .rw, 0x64, .ctl, .ctx⟩
  | .tickShareWeight => ⟨8, .rw, 0x10, .ctl, .ctx⟩
  | .tickParkedParked => ⟨64, .ro, 0, .ctxOwned, .none⟩
  | .tickAcctRdBeats => ⟨64, .ro, 0, .stat, .ctx⟩
  | .tickAcctWrBeats => ⟨64, .ro, 0, .stat, .ctx⟩
  | .tickAcctRmBeats => ⟨64, .ro, 0, .stat, .ctx⟩
  | .tickAcctHeldTicks => ⟨64, .ro, 0, .stat, .ctx⟩
  | .grdStatArmed => ⟨1, .ro, 0, .work, .none⟩
  | .grdStatGen => ⟨1, .ro, 0, .lock, .none⟩
  | .grdStatClean0 => ⟨1, .ro, 0, .ctl, .none⟩
  | .grdStatClean1 => ⟨1, .ro, 0, .ctl, .none⟩
  | .grdStatSnapPending => ⟨1, .ro, 0, .ctl, .none⟩
  | .grdStatUnpromised => ⟨1, .ro, 0, .work, .none⟩
  | .grdStatSpillFull => ⟨1, .ro, 0, .work, .none⟩
  | .grdStatUnavailable => ⟨1, .w1c, 0, .ctl, .none⟩
  | .grdStatOverstall => ⟨1, .w1c, 0, .ctl, .none⟩
  | .grdStatAbandoned => ⟨1, .w1c, 0, .ctl, .none⟩
  | .grdStatRlatExceeded => ⟨1, .w1c, 0, .ctl, .none⟩
  | .grdCtrlPeakClr => ⟨1, .wo, 0, .live, .none⟩
  | .grdSnapDeadlineTicks => ⟨32, .rwl, 0, .lock, .none⟩
  | .grdRlatMaxNs => ⟨16, .rwl, 0x5dc, .lock, .none⟩
  | .grdStallBoundNs => ⟨32, .ro, 0x8b6c, .lock, .none⟩
  | .grdStallMaxNs => ⟨32, .ro, 0, .stat, .none⟩
  | .grdArmStepStep => ⟨48, .ro, 0, .lock, .none⟩
  | .grdArmInfoLat => ⟨8, .ro, 0, .lock, .none⟩
  | .grdArmInfoResult => ⟨2, .ro, 0, .lock, .none⟩
  | .grdHoldOcc => ⟨12, .ro, 0, .work, .none⟩
  | .grdHoldPeak => ⟨12, .ro, 0, .stat, .none⟩
  | .grdPoolOcc => ⟨11, .ro, 0, .work, .none⟩
  | .grdPoolPeak => ⟨11, .ro, 0, .stat, .none⟩
  | .grdSpillOccOcc => ⟨17, .ro, 0, .work, .none⟩
  | .grdSpillPeakPeak => ⟨17, .ro, 0, .stat, .none⟩
  | .grdSpillBaseBase => ⟨64, .rwl, 0, .lock, .none⟩
  | .grdSpillSlotsSlots => ⟨17, .rwl, 0, .lock, .none⟩
  | .grdProgressGranules => ⟨32, .ro, 0, .work, .none⟩
  | .grdTotalGranules => ⟨32, .ro, 0, .lock, .none⟩
  | .grdRescuesCount => ⟨64, .ro, 0, .stat, .none⟩
  | .grdSkippedCount => ⟨32, .ro, 0, .stat, .none⟩
  | .grdOverstallsCount => ⟨32, .ro, 0, .stat, .none⟩
  | .grdWinBaseBase => ⟨64, .rwl, 0, .lock, .none⟩
  | .grdWinSizeSize => ⟨23, .rwl, 0, .lock, .none⟩
  | .grdWinAttrFormat => ⟨4, .rwl, 0, .lock, .none⟩
  | .grdWinAttrGroup => ⟨16, .rwl, 0, .lock, .none⟩
  | .stgStatAState => ⟨2, .ro, 0, .live, .none⟩
  | .stgStatBState => ⟨2, .ro, 0, .live, .none⟩
  | .stgStatACtx => ⟨6, .ro, 0, .live, .none⟩
  | .stgStatBCtx => ⟨6, .ro, 0, .live, .none⟩
  | .stgCtrlSwap => ⟨1, .wo, 0, .live, .none⟩
  | .stgMergeThresh => ⟨12, .rw, 0x200, .ctl, .none⟩
  | .stgMergeWindow => ⟨5, .rw, 0x10, .ctl, .none⟩
  | .stgTagCapBubble => ⟨15, .rw, 0x1000, .ctl, .none⟩
  | .stgTagsInflight => ⟨15, .ro, 0, .live, .none⟩
  | .stgTagsPeak => ⟨15, .ro, 0, .stat, .none⟩
  | .stgLandingBusy => ⟨7, .ro, 0, .live, .none⟩
  | .stgLandingStreams => ⟨4, .ro, 0, .live, .none⟩
  | .stgShortSegsCount => ⟨32, .ro, 0, .stat, .none⟩
  | .stgFaultsCount => ⟨32, .ro, 0, .stat, .none⟩
  | .stgMcCtrlEnable => ⟨1, .rw, 1, .ctl, .none⟩
  | .stgMcCtrlInvAll => ⟨1, .wo, 0, .live, .none⟩
  | .stgMcCtrlInvCtx => ⟨1, .wo, 0, .live, .none⟩
  | .stgMcCtrlCtx => ⟨6, .rw, 0, .ctl, .none⟩
  | .stgMcOccBlocks => ⟨10, .ro, 0, .ctxOwned, .none⟩
  | .stgMcOccPinned => ⟨7, .ro, 0, .live, .none⟩
  | .stgMcHitsCount => ⟨64, .ro, 0, .stat, .none⟩
  | .stgMcMissesCount => ⟨64, .ro, 0, .stat, .none⟩
  | .stgSaveOccOcc => ⟨5, .ro, 0, .ctxOwned, .ctx⟩
  | .cdrStatSlotRef => ⟨8, .ro, 0, .live, .none⟩
  | .cdrStatSlotValid => ⟨8, .ro, 0, .ctxOwned, .none⟩
  | .cdrStatDecHeld => ⟨4, .ro, 0, .live, .none⟩
  | .cdrStatEncBusy => ⟨1, .ro, 0, .live, .none⟩
  | .cdrStatBuildBusy => ⟨1, .ro, 0, .live, .none⟩
  | .cdrCtrlSlotFlush => ⟨1, .wo, 0, .live, .none⟩
  | .cdrFailInfoStatus => ⟨8, .ro, 0, .stat, .none⟩
  | .cdrFailInfoCtx => ⟨6, .ro, 0, .stat, .none⟩
  | .cdrFailInfoCheck => ⟨3, .ro, 0, .stat, .none⟩
  | .cdrEncInBytes => ⟨64, .ro, 0, .stat, .none⟩
  | .cdrEncOutBytes => ⟨64, .ro, 0, .stat, .none⟩
  | .cdrRawBlocksCount => ⟨64, .ro, 0, .stat, .none⟩
  | .cdrDecBlocksCount => ⟨64, .ro, 0, .stat, .none⟩
  | .cdrCheckFailsCount => ⟨32, .ro, 0, .stat, .none⟩
  | .cdrEscapesCount => ⟨32, .ro, 0, .stat, .none⟩
  | .cdrSlotWaitsCount => ⟨32, .ro, 0, .stat, .none⟩
  | .cdrSlotTagTag => ⟨32, .ro, 0, .ctxOwned, .none⟩
  | .cdrSlotInfoRef => ⟨4, .ro, 0, .live, .none⟩
  | .cdrSlotInfoCtx => ⟨6, .ro, 0, .ctxOwned, .none⟩
  | .cdrSlotInfoFormat => ⟨2, .ro, 0, .ctxOwned, .none⟩
  | .cdrSlotInfoNSym => ⟨6, .ro, 0, .ctxOwned, .none⟩
  | .cdrSlotLoadsCount => ⟨32, .ro, 0, .stat, .none⟩
  | .sealStatReserveWait => ⟨1, .ro, 0, .live, .none⟩
  | .sealStatReserveFail => ⟨1, .w1c, 0, .lock, .none⟩
  | .sealStatTableLost => ⟨1, .ro, 0, .lock, .none⟩
  | .sealCtrlAckLost => ⟨1, .wo, 0, .live, .none⟩
  | .sealPrefixPrefix => ⟨32, .rwl, 0, .lock, .none⟩
  | .sealKeyBlobData => ⟨32, .wo, 0, .live, .none⟩
  | .sealKeyCmdLoad => ⟨1, .wo, 0, .live, .none⟩
  | .sealKeyCmdErase => ⟨1, .wo, 0, .live, .none⟩
  | .sealKeyCmdEraseSlot => ⟨8, .rw, 0, .ctl, .none⟩
  | .sealKeyResultState => ⟨2, .ro, 0, .ctl, .none⟩
  | .sealKeyResultCause => ⟨3, .ro, 0, .ctl, .none⟩
  | .sealKeyResultSlot => ⟨8, .ro, 0, .ctl, .none⟩
  | .sealTagFailsCount => ⟨32, .ro, 0, .stat, .none⟩
  | .sealVerifyFailsCount => ⟨32, .ro, 0, .stat, .none⟩
  | .sealReserveWaitsCount => ⟨32, .ro, 0, .stat, .none⟩
  | .sealSlotSelSlot => ⟨8, .rw, 0, .ctl, .none⟩
  | .sealSlotInfoValid => ⟨1, .ro, 0, .ctxOwned, .none⟩
  | .sealSlotInfoReplayOnly => ⟨1, .ro, 0, .ctxOwned, .none⟩
  | .sealSlotInfoOpenOnly => ⟨1, .ro, 0, .ctxOwned, .none⟩
  | .sealSlotInfoArmature => ⟨1, .ro, 0, .ctxOwned, .none⟩
  | .sealSlotInfoExhausted => ⟨1, .ro, 0, .notCold, .none⟩
  | .sealSlotInfoReserveFail => ⟨1, .ro, 0, .lock, .none⟩
  | .sealSlotInfoCtx => ⟨6, .ro, 0, .ctxOwned, .none⟩
  | .sealSlotCtrCtr => ⟨64, .ro, 0, .lock, .none⟩
  | .sealSlotHwmHwm => ⟨64, .ro, 0, .lock, .none⟩
  | .sealPipeVfailCount => ⟨32, .ro, 0, .stat, .none⟩
  | .digStatFptFull => ⟨1, .w1c, 0, .ctl, .none⟩
  | .digStatSaveFail => ⟨1, .w1c, 0, .ctl, .none⟩
  | .digStatArrivalFail => ⟨1, .w1c, 0, .ctl, .none⟩
  | .digStatLongCores => ⟨3, .ro, 4, .notCold, .none⟩
  | .digCtrlPeakClr => ⟨1, .wo, 0, .live, .none⟩
  | .digFptBaseBase => ⟨64, .rwl, 0, .lock, .none⟩
  | .digFptEntriesEntries => ⟨25, .rwl, 0, .lock, .none⟩
  | .digFptUsedUsed => ⟨25, .ro, 0, .lock, .none⟩
  | .digFptPeakPeak => ⟨25, .ro, 0, .stat, .none⟩
  | .digFptFailsCount => ⟨32, .ro, 0, .stat, .none⟩
  | .digSaveBaseBase => ⟨64, .rwl, 0, .lock, .none⟩
  | .digEvictionsCount => ⟨32, .ro, 0, .stat, .none⟩
  | .digArrivalFailsCount => ⟨32, .ro, 0, .stat, .none⟩
  | .digLenFailsCount => ⟨32, .ro, 0, .stat, .none⟩
  | .digFpBlocksCount => ⟨64, .ro, 0, .stat, .none⟩
  | .digSlotValid => ⟨1, .ro, 0, .ctxOwned, .none⟩
  | .digSlotKeyed => ⟨1, .ro, 0, .ctxOwned, .none⟩
  | .digSlotInvalid => ⟨1, .ro, 0, .ctxOwned, .none⟩
  | .digSlotBusy => ⟨1, .ro, 0, .live, .none⟩
  | .digSlotAlg => ⟨2, .ro, 0, .ctxOwned, .none⟩
  | .digSlotCtx => ⟨6, .ro, 0, .ctxOwned, .none⟩
  | .digSlotHandle => ⟨4, .ro, 0, .ctxOwned, .none⟩
  | .latStatLanes => ⟨6, .ro, 0x20, .notCold, .none⟩
  | .latStatSmall => ⟨1, .ro, 0, .always, .none⟩
  | .latStatLaneDrop => ⟨1, .w1c, 0, .ctl, .none⟩
  | .latStatReshaped => ⟨1, .w1c, 0, .ctl, .none⟩
  | .latSaveBaseBase => ⟨64, .rwl, 0, .lock, .none⟩
  | .latSnapStepStep => ⟨48, .ro, 0, .lock, .none⟩
  | .latSnapNonfiniteCount => ⟨64, .ro, 0, .lock, .none⟩
  | .latSnapFirstGranule => ⟨26, .ro, 0, .lock, .none⟩
  | .latSnapFirstValid => ⟨1, .ro, 0, .lock, .none⟩
  | .latMacsCount => ⟨64, .ro, 0, .stat, .none⟩
  | .latNonfiniteCount => ⟨64, .ro, 0, .stat, .none⟩
  | .latSaturatedCount => ⟨32, .ro, 0, .stat, .none⟩
  | .latOverflowsCount => ⟨32, .ro, 0, .stat, .none⟩
  | .latReshapedJobsCount => ⟨32, .ro, 0, .stat, .none⟩
  | .pntStatUseFail => ⟨1, .w1c, 0, .ctl, .none⟩
  | .pntCtrlInvCtx => ⟨1, .wo, 0, .live, .none⟩
  | .pntCtrlCtx => ⟨6, .rw, 0, .ctl, .none⟩
  | .pntTblSelCtx => ⟨6, .rw, 0, .ctl, .none⟩
  | .pntTblSelTable => ⟨3, .rw, 0, .ctl, .none⟩
  | .pntTblInfoLoaded => ⟨1, .ro, 0, .ctxOwned, .none⟩
  | .pntTblInfoValid => ⟨1, .ro, 0, .ctxOwned, .none⟩
  | .pntTblInfoBijective => ⟨1, .ro, 0, .ctxOwned, .none⟩
  | .pntTblInfoGran => ⟨2, .ro, 0, .ctxOwned, .none⟩
  | .pntTblInfoNEnt => ⟨10, .ro, 0, .ctxOwned, .none⟩
  | .pntTblLoadnoLoadno => ⟨32, .ro, 0, .ctxOwned, .none⟩
  | .pntBytesBytes => ⟨64, .ro, 0, .stat, .none⟩
  | .pntRangeRefusalsCount => ⟨32, .ro, 0, .stat, .none⟩
  | .pntUseFailsCount => ⟨32, .ro, 0, .stat, .none⟩
  | .pntVlVl => ⟨2, .rw, 3, .ctl, .ctx⟩
  | .pntVlPending => ⟨1, .ro, 0, .live, .ctx⟩
  | .pntLoadctrCount => ⟨32, .ro, 1, .ctxOwned, .ctx⟩
  | .fjCkptCfgPolicy => ⟨1, .rwl, 0, .lock, .none⟩
  | .fjCkptCfgUnit => ⟨1, .rwl, 0, .lock, .none⟩
  | .fjCkptCfgHostEn => ⟨1, .rwl, 0, .lock, .none⟩
  | .fjCkptCfgFloorEn => ⟨1, .rwl, 0, .lock, .none⟩
  | .fjCkptCfgSpare => ⟨1, .rwl, 0, .lock, .none⟩
  | .fjCkptCfgKeySlot => ⟨8, .rwl, 0, .lock, .none⟩
  | .fjCkptNN => ⟨32, .rwl, 1, .lock, .none⟩
  | .fjCkptKK => ⟨32, .rwl, 0, .lock, .none⟩
  | .fjCkptXchgWaitTicks => ⟨16, .rwl, 0x400, .lock, .none⟩
  | .fjCkptCtrlWarn => ⟨1, .wo, 0, .live, .none⟩
  | .fjCkptCtrlAbandon => ⟨1, .wo, 0, .live, .none⟩
  | .fjCkptCtrlAdopt => ⟨1, .wo, 0, .live, .none⟩
  | .fjCkptCtrlRole => ⟨4, .rw, 0, .ctl, .none⟩
  | .fjCkptStatCommitPending => ⟨1, .ro, 0, .work, .none⟩
  | .fjCkptStatWarnPending => ⟨1, .ro, 0, .ctl, .none⟩
  | .fjCkptStatFloorWait => ⟨1, .ro, 0, .ctl, .none⟩
  | .fjCkptStatAdopted => ⟨1, .ro, 0, .lock, .none⟩
  | .fjCkptStatGoodSlot => ⟨1, .ro, 0, .lock, .none⟩
  | .fjCkptStatNoMirror => ⟨1, .w1c, 0, .ctl, .none⟩
  | .fjCkptStatDiverged => ⟨1, .w1c, 0, .ctl, .none⟩
  | .fjCkptStatSuspect => ⟨1, .w1c, 0, .ctl, .none⟩
  | .fjCkptStatDivOvf => ⟨1, .w1c, 0, .ctl, .none⟩
  | .fjCkptGoodStepStep => ⟨48, .ro, 0xffffffffffff, .lock, .none⟩
  | .fjCkptFileStepStep => ⟨48, .ro, 0xffffffffffff, .lock, .none⟩
  | .fjCkptFloorStep => ⟨48, .rw, 0, .lock, .none⟩
  | .fjMirrorBaseBase => ⟨64, .rwl, 0, .lock, .none⟩
  | .fjMirrorSizeBytes => ⟨64, .ro, 0, .lock, .none⟩
  | .fjReplicaGroupGroup => ⟨32, .rwl, 0, .lock, .none⟩
  | .fjReplicaRankRank => ⟨16, .rwl, 0, .lock, .none⟩
  | .fjReplicaRankSize => ⟨16, .rwl, 1, .lock, .none⟩
  | .fjTopoQpBuddy => ⟨8, .rwl, 0, .lock, .none⟩
  | .fjTopoQpPrev => ⟨8, .rwl, 0, .lock, .none⟩
  | .fjTopoQpNext => ⟨8, .rwl, 0, .lock, .none⟩
  | .fjTopoQpPrevV => ⟨1, .rwl, 0, .lock, .none⟩
  | .fjTopoQpNextV => ⟨1, .rwl, 0, .lock, .none⟩
  | .fjPeerResBaseBase => ⟨64, .rwl, 0, .lock, .none⟩
  | .fjPeerResFramesFrames => ⟨32, .rwl, 0, .lock, .none⟩
  | .fjCkptHostBaseBase => ⟨64, .rwl, 0, .lock, .none⟩
  | .fjDivBaseBase => ⟨64, .rwl, 0, .lock, .none⟩
  | .fjDivHeadHead => ⟨10, .ro, 0, .stat, .none⟩
  | .fjDivHeadAck => ⟨10, .rw, 0, .stat, .none⟩
  | .fjCkptCommitsCount => ⟨32, .ro, 0, .stat, .none⟩
  | .fjCkptHeldCount => ⟨32, .ro, 0, .stat, .none⟩
  | .fjCkptWarnsCount => ⟨32, .ro, 0, .stat, .none⟩
  | .fjCkptUnmatchedCount => ⟨32, .ro, 0, .stat, .none⟩
  | .fjDedupBlocksCount => ⟨64, .ro, 0, .stat, .none⟩
  | .fjDivBlocksCount => ⟨32, .ro, 0, .stat, .none⟩
  | .xptStatLaneUp => ⟨4, .ro, 0, .live, .none⟩
  | .xptStatLinkDown => ⟨1, .w1c, 0, .ctl, .none⟩
  | .xptStatQpError => ⟨1, .w1c, 0, .ctl, .none⟩
  | .xptStatCongested => ⟨1, .w1c, 0, .ctl, .none⟩
  | .xptStatTcpReady => ⟨1, .ro, 0, .live, .none⟩
  | .xptCfgLanes => ⟨3, .rwl, 1, .lock, .none⟩
  | .xptCfgTcpEn => ⟨1, .rwl, 0, .lock, .none⟩
  | .xptRkeyOwnKey => ⟨32, .rwl, 0, .lock, .none⟩
  | .xptRkeyPeerKey => ⟨32, .rwl, 0, .lock, .none⟩
  | .xptPeerShareBytes => ⟨32, .rwl, 0, .lock, .none⟩
  | .xptCcMinRate => ⟨16, .rwl, 0x64, .lock, .none⟩
  | .xptCcRecover => ⟨8, .rwl, 0x37, .lock, .none⟩
  | .xptQpSelQp => ⟨8, .rw, 0, .ctl, .none⟩
  | .xptQpCmdCmd => ⟨2, .wo, 0, .live, .none⟩
  | .xptQpStateState => ⟨2, .ro, 0, .link, .none⟩
  | .xptQpStateLastErr => ⟨8, .ro, 0, .lock, .none⟩
  | .xptQpAttrLane => ⟨2, .rw, 0, .lock, .none⟩
  | .xptQpAttrPathLen => ⟨3, .rw, 1, .lock, .none⟩
  | .xptQpAttrRdOk => ⟨1, .rw, 0, .lock, .none⟩
  | .xptQpAttrWrOk => ⟨1, .rw, 0, .lock, .none⟩
  | .xptQpAttrSendOk => ⟨1, .rw, 0, .lock, .none⟩
  | .xptQpAttrRes => ⟨3, .rw, 0, .lock, .none⟩
  | .xptQpAttrDscp => ⟨6, .rw, 0, .lock, .none⟩
  | .xptQpAttrRetry => ⟨3, .rw, 7, .lock, .none⟩
  | .xptQpAttrTimeout => ⟨5, .rw, 8, .lock, .none⟩
  | .xptQpAttrMtu => ⟨2, .rw, 2, .lock, .none⟩
  | .xptQpLqpnQpn => ⟨24, .rw, 0, .lock, .none⟩
  | .xptQpDqpnQpn => ⟨24, .rw, 0, .lock, .none⟩
  | .xptQpSpsnPsn => ⟨24, .rw, 0, .lock, .none⟩
  | .xptQpRpsnPsn => ⟨24, .rw, 0, .lock, .none⟩
  | .xptQpDmacMac => ⟨48, .rw, 0, .lock, .none⟩
  | .xptQpDipIp => ⟨32, .rw, 0, .lock, .none⟩
  | .xptQpRkeyKey => ⟨32, .rw, 0, .lock, .none⟩
  | .xptQpOpsOut => ⟨11, .ro, 0, .live, .none⟩
  | .xptLaneSmacMac => ⟨48, .rwl, 0, .lock, .none⟩
  | .xptLaneSipIp => ⟨32, .rwl, 0, .lock, .none⟩
  | .xptTgtSelTgt => ⟨4, .rw, 0, .ctl, .none⟩
  | .xptTgtCfgAdminQp => ⟨8, .rwl, 0, .lock, .none⟩
  | .xptTgtCfgIoQp => ⟨8, .rwl, 0, .lock, .none⟩
  | .xptTgtCfgSlots => ⟨5, .rwl, 0, .lock, .none⟩
  | .xptTgtCfgTcp => ⟨1, .rwl, 0, .lock, .none⟩
  | .xptTgtNsidNsid => ⟨32, .rwl, 0, .lock, .none⟩
  | .xptTgtBaseLba => ⟨64, .rwl, 0, .lock, .none⟩
  | .xptTgtSlotLbas => ⟨64, .rwl, 0, .lock, .none⟩
  | .xptTgtStateState => ⟨2, .ro, 0, .link, .none⟩
  | .xptTgtStateVwc => ⟨1, .ro, 0, .link, .none⟩
  | .xptTgtStateNextSlot => ⟨4, .ro, 0, .lock, .none⟩
  | .xptTgtStateLastSc => ⟨8, .ro, 0, .lock, .none⟩
  | .xptTgtFseqSeq => ⟨32, .ro, 0, .lock, .none⟩
  | .xptOpsOut => ⟨11, .ro, 0, .live, .none⟩
  | .xptOpsPeak => ⟨11, .ro, 0, .stat, .none⟩
  | .xptTxBytesBytes => ⟨64, .ro, 0, .stat, .none⟩
  | .xptRxBytesBytes => ⟨64, .ro, 0, .stat, .none⟩
  | .xptRetransCount => ⟨32, .ro, 0, .stat, .none⟩
  | .xptTimeoutsCount => ⟨32, .ro, 0, .stat, .none⟩
  | .xptNakRxCount => ⟨32, .ro, 0, .stat, .none⟩
  | .xptCnpTxCount => ⟨32, .ro, 0, .stat, .none⟩
  | .xptCnpRxCount => ⟨32, .ro, 0, .stat, .none⟩
  | .xptDroppedCount => ⟨32, .ro, 0, .stat, .none⟩
  | .ringBaseBase => ⟨64, .rw, 0, .ring, .ring⟩
  | .ringCfgEnable => ⟨1, .rw, 0, .ring, .ring⟩
  | .ringCfgFormat => ⟨1, .rw, 0, .ring, .ring⟩
  | .ringCfgSpace => ⟨1, .rw, 0, .ring, .ring⟩
  | .ringCfgSz => ⟨4, .rw, 0, .ring, .ring⟩
  | .ringTailTail => ⟨16, .rw, 0, .ring, .ring⟩
  | .ringHeadHead => ⟨16, .ro, 0, .ring, .ring⟩
  | .ringStatOwnWait => ⟨1, .ro, 0, .ring, .ring⟩
  | .ringStatTailErr => ⟨1, .w1c, 0, .ring, .ring⟩
  | .ringStatCmplWait => ⟨1, .ro, 0, .ring, .ring⟩
  | .ringEntriesCount => ⟨32, .ro, 0, .ring, .ring⟩
  | .ringMalformedCount => ⟨32, .ro, 0, .ring, .ring⟩
  | .cringBaseBase => ⟨64, .rw, 0, .ring, .ring⟩
  | .cringCfgSz => ⟨4, .rw, 0, .ring, .ring⟩
  | .cringCfgIrqAll => ⟨1, .rw, 0, .ring, .ring⟩
  | .cringCfgSpace => ⟨1, .rw, 0, .ring, .ring⟩
  | .cringCfgVector => ⟨6, .rw, 0, .ring, .ring⟩
  | .cringHeadHead => ⟨16, .rw, 0, .ring, .ring⟩
  | .cringTailTail => ⟨16, .ro, 0, .ring, .ring⟩
  | .cringTailPhase => ⟨1, .ro, 0, .ring, .ring⟩
  | .cringStatFull => ⟨1, .ro, 0, .ring, .ring⟩
  | .cringStatWaited => ⟨1, .w1c, 0, .ring, .ring⟩
  | .cringWaitsCount => ⟨32, .ro, 0, .ring, .ring⟩
  | .syncStatMapBusy => ⟨1, .w1c, 0, .ctl, .none⟩
  | .syncStatOverrun => ⟨1, .w1c, 0, .ctl, .none⟩
  | .syncMapSelId => ⟨10, .rw, 0, .ctl, .none⟩
  | .syncMapSelCtx => ⟨6, .rw, 0, .ctl, .none⟩
  | .syncMapPhys => ⟨16, .rw, 0, .ringCtx, .map⟩
  | .syncMapValid => ⟨1, .rw, 1, .ringCtx, .map⟩
  | .syncMapSigOk => ⟨1, .rw, 1, .ringCtx, .map⟩
  | .syncMapWaitOk => ⟨1, .rw, 1, .ringCtx, .map⟩
  | .syncMapBarOk => ⟨1, .rw, 1, .ringCtx, .map⟩
  | .syncSignalsCount => ⟨64, .ro, 0, .stat, .none⟩
  | .syncOverrunsCount => ⟨32, .ro, 0, .stat, .none⟩
  | .syncTimeoutsCount => ⟨32, .ro, 0, .stat, .none⟩
  | .fjBuildFabAw => ⟨6, .ro, 0, .always, .none⟩
  | .fjBuildSmall => ⟨1, .ro, 0, .always, .none⟩
  | .fjBuildHbm4 => ⟨1, .ro, 0, .always, .none⟩
  | .fjBuildXptLanesMax => ⟨3, .ro, 0, .always, .none⟩
  | .fjBuildHostDw1024 => ⟨1, .ro, 0, .always, .none⟩
  | .fjBuildNumVf => ⟨6, .ro, 0, .always, .none⟩
  | .fjBuildGuardIdW => ⟨5, .ro, 0, .always, .none⟩
  | .fjBuildHostRateMax => ⟨8, .ro, 0, .always, .none⟩
  | .fjHostDeclOut => ⟨8, .rwl, 0, .lock, .none⟩
  | .fjHostDeclIn => ⟨8, .rwl, 0, .lock, .none⟩
  | .fjPortStatStepEndEarly => ⟨1, .w1c, 0, .ctl, .none⟩
  | .fjPortStatBusvStale => ⟨1, .ro, 0, .live, .none⟩
  | .fjPortStatStrapChg => ⟨1, .w1c, 0, .ctl, .none⟩
  | .fjPortStatKpDone => ⟨1, .ro, 0, .notCold, .none⟩
  | .fjPortStatDbgEn => ⟨1, .ro, 0, .live, .none⟩
  | .fjPortStatHostFlit => ⟨1, .ro, 0, .live, .none⟩
  | .fjPortStatFabErr => ⟨1, .w1c, 0, .ctl, .none⟩
  | .fjPortStatSbDrop => ⟨1, .w1c, 0, .ctl, .none⟩
  | .fjSbDropsCount => ⟨32, .ro, 0, .stat, .none⟩
  | .fjPosInst => ⟨4, .ro, 0, .notCold, .none⟩
  | .fjPosPresent => ⟨16, .ro, 0, .notCold, .none⟩
  | .fjMemmapStacks => ⟨5, .ro, 0, .always, .none⟩
  | .fjMemmapIntlvLog2 => ⟨4, .ro, 0, .always, .none⟩
  | .fjStateState => ⟨3, .ro, 0, .live, .none⟩
  | .fjStateLocked => ⟨1, .ro, 0, .lock, .none⟩
  | .fjStateAwaitDriver => ⟨1, .ro, 0, .live, .none⟩
  | .fjStateAlone => ⟨1, .ro, 0, .lock, .none⟩
  | .fjStateEngineBusy => ⟨1, .ro, 0, .live, .none⟩
  | .fjStateRetainPend => ⟨1, .ro, 0, .live, .none⟩
  | .fjStateCause => ⟨2, .ro, 0, .lock, .none⟩
  | .fjStateFault => ⟨8, .ro, 0, .lock, .none⟩
  | .fjCtrlGo => ⟨1, .wo, 0, .live, .none⟩
  | .fjCtrlEngineRst => ⟨1, .wo, 0, .live, .none⟩
  | .fjCtrlRetainReq => ⟨1, .wo, 0, .live, .none⟩
  | .fjCtrlArmUpd => ⟨1, .wo, 0, .live, .none⟩
  | .fjBootCfgDriverHold => ⟨1, .rwl, 0, .lock, .none⟩
  | .fjBootCfgBootWait => ⟨16, .rwl, 0x64, .lock, .none⟩
  | .fjBootInfoField => ⟨20, .ro, 0, .lock, .none⟩
  | .fjBootInfoCopy => ⟨1, .ro, 0, .lock, .none⟩
  | .fjBootInfoOtherOk => ⟨1, .ro, 0, .lock, .none⟩
  | .fjBootInfoCode => ⟨8, .ro, 0, .lock, .none⟩
  | .fjArmSeqSeq => ⟨32, .ro, 0, .lock, .none⟩
  | .fjPkgIdId => ⟨32, .ro, 0, .lock, .none⟩
  | .fjFwVersionVersion => ⟨32, .ro, 0, .lock, .none⟩
  | .fjBarrierMembers => ⟨16, .ro, 0, .lock, .none⟩
  | .fjBarrierMissing => ⟨16, .ro, 0, .lock, .none⟩
  | .fjArmDigestDigest => ⟨32, .ro, 0, .lock, .none⟩
  | .fjPmIdleTicks => ⟨16, .rw, 0x100, .ctl, .none⟩
  | .fjPmWakeTick => ⟨64, .rw, 0, .ctl, .none⟩
  | .fjWdogRestarts => ⟨16, .ro, 0, .stat, .none⟩
  | .fjWdogFwDown => ⟨1, .ro, 0, .live, .none⟩
  | .fjArmUpdAddrAddr => ⟨64, .rw, 0, .ctl, .none⟩
  | .fjArmUpdLenLen => ⟨21, .rw, 0, .ctl, .none⟩
  | .fjArmUpdStatState => ⟨2, .ro, 0, .ctl, .none⟩
  | .fjArmUpdStatCode => ⟨8, .ro, 0, .ctl, .none⟩
  | .pwrStatSag => ⟨1, .ro, 0, .live, .none⟩
  | .pwrStatBusLow => ⟨1, .ro, 0, .live, .none⟩
  | .pwrStatPlinthReady => ⟨1, .ro, 0, .lock, .none⟩
  | .pwrStatJournalReady => ⟨1, .ro, 0, .lock, .none⟩
  | .pwrStatClass => ⟨1, .ro, 0, .notCold, .none⟩
  | .pwrStatLastSave => ⟨2, .ro, 0, .lock, .none⟩
  | .pwrStatBusWarn => ⟨1, .w1c, 0, .ctl, .none⟩
  | .pwrBusvHold => ⟨12, .rwl, 0, .lock, .none⟩
  | .pwrBusvWarn => ⟨12, .rwl, 0, .lock, .none⟩
  | .pwrBusvNowCode => ⟨12, .ro, 0, .live, .none⟩
  | .pwrBusvNowMin => ⟨12, .ro, 0xfff, .stat, .none⟩
  | .pwrSagHold => ⟨16, .rwl, 0x400, .lock, .none⟩
  | .pwrCtrlMinClr => ⟨1, .wo, 0, .live, .none⟩
  | .pwrSaveTimeNs => ⟨32, .ro, 0, .notCold, .none⟩
  | .pwrTppNs => ⟨20, .ro, 0, .notCold, .none⟩
  | .pwrStepsS1Count => ⟨32, .ro, 0, .stat, .none⟩
  | .pwrStepsS2Count => ⟨32, .ro, 0, .stat, .none⟩
  | .pwrSavesSeq => ⟨32, .ro, 0, .notCold, .none⟩
  | .pwrJournalNext => ⟨13, .ro, 0, .lock, .none⟩
  | .pwrJournalHalf => ⟨1, .ro, 0, .lock, .none⟩
  | .pwrPlSelWord => ⟨11, .rw, 0, .ctl, .none⟩
  | .pwrPlDataData => ⟨32, .ro, 0, .notCold, .none⟩
  | .patStatSubstBusy => ⟨1, .ro, 0, .live, .none⟩
  | .patStatSubst => ⟨1, .w1c, 0, .ctl, .none⟩
  | .patStatReduced => ⟨1, .w1c, 0, .ctl, .none⟩
  | .patStatWarned => ⟨1, .w1c, 0, .ctl, .none⟩
  | .patStatOutOfService => ⟨1, .ro, 0, .notCold, .none⟩
  | .patStatPatrolHeld => ⟨1, .ro, 0, .live, .none⟩
  | .patCtrlPatrolEn => ⟨1, .rw, 1, .ctl, .none⟩
  | .patCtrlRetire => ⟨1, .wo, 0, .live, .none⟩
  | .patPatrolPeriod => ⟨16, .rwl, 0x10, .lock, .none⟩
  | .patWarnSpareMin => ⟨4, .rwl, 1, .lock, .none⟩
  | .patWarnWinLog2 => ⟨4, .rwl, 0xa, .lock, .none⟩
  | .patWarnEccThr => ⟨16, .rwl, 0x100, .lock, .none⟩
  | .patEccAddCount => ⟨32, .wo, 0, .live, .none⟩
  | .patEccWinCount => ⟨32, .ro, 0, .live, .none⟩
  | .patMemUncorrCount => ⟨32, .ro, 0, .stat, .none⟩
  | .patRotationsCount => ⟨32, .ro, 0, .stat, .none⟩
  | .patSubstsCount => ⟨32, .ro, 0, .stat, .none⟩
  | .patLastClass => ⟨3, .ro, 0, .stat, .none⟩
  | .patLastLogical => ⟨12, .ro, 0, .stat, .none⟩
  | .patLastWarnCause => ⟨8, .ro, 0, .stat, .none⟩
  | .patClassSelClass => ⟨3, .rw, 0, .ctl, .none⟩
  | .patClassInfoPhys => ⟨12, .ro, 0, .always, .none⟩
  | .patClassInfoLogical => ⟨12, .ro, 0, .notCold, .none⟩
  | .patClassSpareLeft => ⟨8, .ro, 0, .notCold, .none⟩
  | .patClassSpareFailed => ⟨8, .ro, 0, .notCold, .none⟩
  | .patUnitSelUnit => ⟨12, .rw, 0, .ctl, .none⟩
  | .patUnitInfoLogical => ⟨12, .ro, 0, .notCold, .none⟩
  | .patUnitInfoFailed => ⟨1, .ro, 0, .notCold, .none⟩
  | .patUnitInfoSpare => ⟨1, .ro, 0, .notCold, .none⟩
  | .patUnitWearCount => ⟨32, .ro, 0, .notCold, .none⟩
  | .yljCfgMode => ⟨2, .rwl, 0, .lock, .none⟩
  | .yljCfgWrap => ⟨1, .rwl, 0, .lock, .none⟩
  | .yljStatRecording => ⟨1, .ro, 0, .live, .none⟩
  | .yljStatReplaying => ⟨1, .ro, 0, .live, .none⟩
  | .yljStatLost => ⟨1, .w1c, 0, .ctl, .none⟩
  | .yljStatDiverged => ⟨1, .ro, 0, .lock, .none⟩
  | .yljStatDone => ⟨1, .ro, 0, .lock, .none⟩
  | .yljStatCond => ⟨4, .ro, 0, .lock, .none⟩
  | .yljCtrlClose => ⟨1, .wo, 0, .live, .none⟩
  | .yljBaseBase => ⟨64, .rwl, 0, .lock, .none⟩
  | .yljSizeUnits => ⟨24, .rwl, 0, .lock, .none⟩
  | .yljSrcBaseBase => ⟨64, .rwl, 0, .lock, .none⟩
  | .yljSrcSizeUnits => ⟨24, .rwl, 0, .lock, .none⟩
  | .yljRsvBytes => ⟨32, .rwl, 0x400, .lock, .none⟩
  | .yljNextIndex => ⟨64, .ro, 0, .lock, .none⟩
  | .yljDivIndexIndex => ⟨64, .ro, 0, .lock, .none⟩
  | .yljDivInfoType => ⟨5, .ro, 0, .lock, .none⟩
  | .yljDivInfoOffset => ⟨5, .ro, 0, .lock, .none⟩
  | .yljLostCount => ⟨32, .ro, 0, .stat, .none⟩
  | .yljIgnoredCount => ⟨32, .ro, 0, .stat, .none⟩
  | .fjIrqStatTick => ⟨1, .ro, 0, .live, .none⟩
  | .fjIrqStatPowerFault => ⟨1, .ro, 0, .live, .none⟩
  | .fjIrqStatGuard => ⟨1, .ro, 0, .live, .none⟩
  | .fjIrqStatSeal => ⟨1, .ro, 0, .live, .none⟩
  | .fjIrqStatDigest => ⟨1, .ro, 0, .live, .none⟩
  | .fjIrqStatLattice => ⟨1, .ro, 0, .live, .none⟩
  | .fjIrqStatPointing => ⟨1, .ro, 0, .live, .none⟩
  | .fjIrqStatCkpt => ⟨1, .ro, 0, .live, .none⟩
  | .fjIrqStatTransport => ⟨1, .ro, 0, .live, .none⟩
  | .fjIrqStatPower => ⟨1, .ro, 0, .live, .none⟩
  | .fjIrqStatPatina => ⟨1, .ro, 0, .live, .none⟩
  | .fjIrqStatPort => ⟨1, .ro, 0, .live, .none⟩
  | .fjIrqStatSync => ⟨1, .ro, 0, .live, .none⟩
  | .fjIrqStatYeljo => ⟨1, .ro, 0, .live, .none⟩
  | .fjIrqStatFirmware => ⟨1, .ro, 0, .live, .none⟩
  | .fjIrqStatDone => ⟨1, .ro, 0, .live, .none⟩
  | .fjIrqEnEn => ⟨16, .rw, 0, .ctl, .none⟩
  | .fjIrqDoneKey => ⟨1, .w1c, 0, .ctl, .none⟩
  | .fjIrqDoneArmUpd => ⟨1, .w1c, 0, .ctl, .none⟩
  | .fjIrqDoneAdopt => ⟨1, .w1c, 0, .ctl, .none⟩
  | .fjIrqDoneGo => ⟨1, .w1c, 0, .ctl, .none⟩
  | .fjIrqDoneMode => ⟨1, .w1c, 0, .ctl, .none⟩
  | .fjIrqDoneEngineRst => ⟨1, .w1c, 0, .ctl, .none⟩
  | .fjMsixAddrLoAddr => ⟨30, .rw, 0, .ring, .msix⟩
  | .fjMsixAddrHiAddr => ⟨32, .rw, 0, .ring, .msix⟩
  | .fjMsixDataData => ⟨32, .rw, 0, .ring, .msix⟩
  | .fjMsixCtrlMask => ⟨1, .rw, 1, .ring, .msix⟩
  | .fjMsixPbaPending => ⟨64, .ro, 0, .ring, .ctx⟩
  | .fjDbgSelTarget => ⟨2, .rw, 0, .ctl, .none⟩
  | .fjDbgSelPage => ⟨7, .rw, 0, .ctl, .none⟩
  | .fjDbgClearWord => ⟨17, .ro, 0, .live, .none⟩
  | .fjDbgClearBusy => ⟨1, .ro, 0, .live, .none⟩
  | .fjDbgClearWhich => ⟨1, .ro, 0, .live, .none⟩

/-- Bits [lo + w − 1 : lo] of a 32-bit register hold bits [sh + w − 1 : sh] of the quantity. -/
structure BitsOf where
  lo : Nat
  w : Nat
  fld : Fld
  sh : Nat
  deriving DecidableEq, Repr

/-- How a register of the privileged view finds the index of its fields: by its place in an array of `n` rows `stride` apart, each of
`m` words, or by a selector register (12 R349: XPT_QP_SEL, XPT_TGT_SEL; 14 R400: SYNC_MAP_SEL). -/
inductive Sel where | arr | qp | qpArr | tgt | syncMap
  deriving DecidableEq, Repr

structure MapRow where
  off : Nat
  n : Nat
  stride : Nat
  m : Nat
  sel : Sel
  bits : List BitsOf
  deriving DecidableEq, Repr

/-- Registers with prefix TICK_ of the privileged view (19 R505). -/
def mapTick : List MapRow :=
  [⟨0x00001000, 1, 0, 1, .arr, [⟨0, 32, .tickNowNow, 0⟩]⟩,
   ⟨0x00001004, 1, 0, 1, .arr, [⟨0, 32, .tickNowNow, 32⟩]⟩,
   ⟨0x00001008, 1, 0, 1, .arr, [⟨0, 13, .tickPeriodPeriod, 0⟩]⟩,
   ⟨0x0000100C, 1, 0, 1, .arr, [⟨0, 1, .tickStatTickFault, 0⟩, ⟨1, 1, .tickStatFreeRun, 0⟩, ⟨2, 1, .tickStatSuspended, 0⟩, ⟨3, 1, .tickStatPowerFault, 0⟩, ⟨4, 2, .tickStatClkStep, 0⟩, ⟨16, 16, .tickStatMissed, 0⟩]⟩,
   ⟨0x00001010, 1, 0, 1, .arr, [⟨0, 2, .tickModeCurrent, 0⟩, ⟨4, 2, .tickModeRequest, 0⟩, ⟨6, 1, .tickModeGo, 0⟩, ⟨7, 1, .tickModeRefused, 0⟩, ⟨8, 2, .tickModeArmatureMode, 0⟩]⟩,
   ⟨0x00001014, 1, 0, 1, .arr, [⟨0, 32, .tickThrWinWin, 0⟩]⟩,
   ⟨0x00001018, 1, 0, 1, .arr, [⟨0, 32, .tickThrAllowAllow, 0⟩]⟩,
   ⟨0x0000101C, 1, 0, 1, .arr, [⟨0, 32, .tickThrUsedUsed, 0⟩]⟩,
   ⟨0x00001020, 1, 0, 1, .arr, [⟨0, 16, .tickRttAllowRtt, 0⟩]⟩,
   ⟨0x00001024, 1, 0, 1, .arr, [⟨0, 32, .tickStepStep, 0⟩]⟩,
   ⟨0x00001028, 1, 0, 1, .arr, [⟨0, 16, .tickStepStep, 32⟩]⟩,
   ⟨0x00001040, 15, 4, 1, .arr, [⟨0, 32, .tickRsvRsv, 0⟩]⟩,
   ⟨0x00001080, 15, 4, 1, .arr, [⟨0, 32, .tickCapCap, 0⟩]⟩,
   ⟨0x00001100, 64, 4, 1, .arr, [⟨0, 8, .tickShareCeil, 0⟩, ⟨8, 8, .tickShareWeight, 0⟩]⟩,
   ⟨0x00001200, 1, 0, 1, .arr, [⟨0, 32, .tickParkedParked, 0⟩]⟩,
   ⟨0x00001204, 1, 0, 1, .arr, [⟨0, 32, .tickParkedParked, 32⟩]⟩,
   ⟨0x1400, 64, 32, 1, .arr, [⟨0, 32, .tickAcctRdBeats, 0⟩]⟩,
   ⟨0x1404, 64, 32, 1, .arr, [⟨0, 32, .tickAcctRdBeats, 32⟩]⟩,
   ⟨0x1408, 64, 32, 1, .arr, [⟨0, 32, .tickAcctWrBeats, 0⟩]⟩,
   ⟨0x140c, 64, 32, 1, .arr, [⟨0, 32, .tickAcctWrBeats, 32⟩]⟩,
   ⟨0x1410, 64, 32, 1, .arr, [⟨0, 32, .tickAcctRmBeats, 0⟩]⟩,
   ⟨0x1414, 64, 32, 1, .arr, [⟨0, 32, .tickAcctRmBeats, 32⟩]⟩,
   ⟨0x1418, 64, 32, 1, .arr, [⟨0, 32, .tickAcctHeldTicks, 0⟩]⟩,
   ⟨0x141c, 64, 32, 1, .arr, [⟨0, 32, .tickAcctHeldTicks, 32⟩]⟩]

/-- Registers with prefix GRD_ of the privileged view (19 R505). -/
def mapGrd : List MapRow :=
  [⟨0x00002000, 1, 0, 1, .arr, [⟨0, 1, .grdStatArmed, 0⟩, ⟨1, 1, .grdStatGen, 0⟩, ⟨2, 1, .grdStatClean0, 0⟩, ⟨3, 1, .grdStatClean1, 0⟩, ⟨4, 1, .grdStatSnapPending, 0⟩, ⟨5, 1, .grdStatUnpromised, 0⟩, ⟨6, 1, .grdStatSpillFull, 0⟩, ⟨8, 1, .grdStatUnavailable, 0⟩, ⟨9, 1, .grdStatOverstall, 0⟩, ⟨10, 1, .grdStatAbandoned, 0⟩, ⟨11, 1, .grdStatRlatExceeded, 0⟩]⟩,
   ⟨0x00002004, 1, 0, 1, .arr, [⟨0, 1, .grdCtrlPeakClr, 0⟩]⟩,
   ⟨0x00002008, 1, 0, 1, .arr, [⟨0, 32, .grdSnapDeadlineTicks, 0⟩]⟩,
   ⟨0x0000200C, 1, 0, 1, .arr, [⟨0, 16, .grdRlatMaxNs, 0⟩]⟩,
   ⟨0x00002010, 1, 0, 1, .arr, [⟨0, 32, .grdStallBoundNs, 0⟩]⟩,
   ⟨0x00002014, 1, 0, 1, .arr, [⟨0, 32, .grdStallMaxNs, 0⟩]⟩,
   ⟨0x00002020, 1, 0, 1, .arr, [⟨0, 32, .grdArmStepStep, 0⟩]⟩,
   ⟨0x00002024, 1, 0, 1, .arr, [⟨0, 16, .grdArmStepStep, 32⟩]⟩,
   ⟨0x00002028, 1, 0, 1, .arr, [⟨0, 8, .grdArmInfoLat, 0⟩, ⟨8, 2, .grdArmInfoResult, 0⟩]⟩,
   ⟨0x00002030, 1, 0, 1, .arr, [⟨0, 12, .grdHoldOcc, 0⟩, ⟨16, 12, .grdHoldPeak, 0⟩]⟩,
   ⟨0x00002034, 1, 0, 1, .arr, [⟨0, 11, .grdPoolOcc, 0⟩, ⟨16, 11, .grdPoolPeak, 0⟩]⟩,
   ⟨0x00002038, 1, 0, 1, .arr, [⟨0, 17, .grdSpillOccOcc, 0⟩]⟩,
   ⟨0x0000203C, 1, 0, 1, .arr, [⟨0, 17, .grdSpillPeakPeak, 0⟩]⟩,
   ⟨0x00002040, 1, 0, 1, .arr, [⟨12, 20, .grdSpillBaseBase, 12⟩]⟩,
   ⟨0x00002044, 1, 0, 1, .arr, [⟨0, 32, .grdSpillBaseBase, 32⟩]⟩,
   ⟨0x00002048, 1, 0, 1, .arr, [⟨0, 17, .grdSpillSlotsSlots, 0⟩]⟩,
   ⟨0x00002050, 1, 0, 1, .arr, [⟨0, 32, .grdProgressGranules, 0⟩]⟩,
   ⟨0x00002054, 1, 0, 1, .arr, [⟨0, 32, .grdTotalGranules, 0⟩]⟩,
   ⟨0x00002060, 1, 0, 1, .arr, [⟨0, 32, .grdRescuesCount, 0⟩]⟩,
   ⟨0x00002064, 1, 0, 1, .arr, [⟨0, 32, .grdRescuesCount, 32⟩]⟩,
   ⟨0x00002068, 1, 0, 1, .arr, [⟨0, 32, .grdSkippedCount, 0⟩]⟩,
   ⟨0x0000206C, 1, 0, 1, .arr, [⟨0, 32, .grdOverstallsCount, 0⟩]⟩,
   ⟨0x00002400, 64, 16, 1, .arr, [⟨16, 16, .grdWinBaseBase, 16⟩]⟩,
   ⟨0x00002404, 64, 16, 1, .arr, [⟨0, 32, .grdWinBaseBase, 32⟩]⟩,
   ⟨0x00002408, 64, 16, 1, .arr, [⟨0, 23, .grdWinSizeSize, 0⟩]⟩,
   ⟨0x0000240C, 64, 16, 1, .arr, [⟨0, 4, .grdWinAttrFormat, 0⟩, ⟨16, 16, .grdWinAttrGroup, 0⟩]⟩]

/-- Registers with prefix STG_ of the privileged view (19 R505). -/
def mapStg : List MapRow :=
  [⟨0x00003000, 1, 0, 1, .arr, [⟨0, 2, .stgStatAState, 0⟩, ⟨2, 2, .stgStatBState, 0⟩, ⟨4, 6, .stgStatACtx, 0⟩, ⟨10, 6, .stgStatBCtx, 0⟩]⟩,
   ⟨0x00003004, 1, 0, 1, .arr, [⟨0, 1, .stgCtrlSwap, 0⟩]⟩,
   ⟨0x00003008, 1, 0, 1, .arr, [⟨0, 12, .stgMergeThresh, 0⟩, ⟨16, 5, .stgMergeWindow, 0⟩]⟩,
   ⟨0x0000300C, 1, 0, 1, .arr, [⟨0, 15, .stgTagCapBubble, 0⟩]⟩,
   ⟨0x00003010, 1, 0, 1, .arr, [⟨0, 15, .stgTagsInflight, 0⟩, ⟨16, 15, .stgTagsPeak, 0⟩]⟩,
   ⟨0x00003014, 1, 0, 1, .arr, [⟨0, 7, .stgLandingBusy, 0⟩, ⟨12, 4, .stgLandingStreams, 0⟩]⟩,
   ⟨0x00003020, 1, 0, 1, .arr, [⟨0, 32, .stgShortSegsCount, 0⟩]⟩,
   ⟨0x00003024, 1, 0, 1, .arr, [⟨0, 32, .stgFaultsCount, 0⟩]⟩,
   ⟨0x00003080, 1, 0, 1, .arr, [⟨0, 1, .stgMcCtrlEnable, 0⟩, ⟨1, 1, .stgMcCtrlInvAll, 0⟩, ⟨2, 1, .stgMcCtrlInvCtx, 0⟩, ⟨8, 6, .stgMcCtrlCtx, 0⟩]⟩,
   ⟨0x00003084, 1, 0, 1, .arr, [⟨0, 10, .stgMcOccBlocks, 0⟩, ⟨16, 7, .stgMcOccPinned, 0⟩]⟩,
   ⟨0x00003088, 1, 0, 1, .arr, [⟨0, 32, .stgMcHitsCount, 0⟩]⟩,
   ⟨0x0000308C, 1, 0, 1, .arr, [⟨0, 32, .stgMcHitsCount, 32⟩]⟩,
   ⟨0x00003090, 1, 0, 1, .arr, [⟨0, 32, .stgMcMissesCount, 0⟩]⟩,
   ⟨0x00003094, 1, 0, 1, .arr, [⟨0, 32, .stgMcMissesCount, 32⟩]⟩,
   ⟨0x00003100, 64, 4, 1, .arr, [⟨0, 5, .stgSaveOccOcc, 0⟩]⟩]

/-- Registers with prefix CDR_ of the privileged view (19 R505). -/
def mapCdr : List MapRow :=
  [⟨0x00004000, 1, 0, 1, .arr, [⟨0, 8, .cdrStatSlotRef, 0⟩, ⟨8, 8, .cdrStatSlotValid, 0⟩, ⟨16, 4, .cdrStatDecHeld, 0⟩, ⟨20, 1, .cdrStatEncBusy, 0⟩, ⟨21, 1, .cdrStatBuildBusy, 0⟩]⟩,
   ⟨0x00004004, 1, 0, 1, .arr, [⟨0, 1, .cdrCtrlSlotFlush, 0⟩]⟩,
   ⟨0x00004008, 1, 0, 1, .arr, [⟨0, 8, .cdrFailInfoStatus, 0⟩, ⟨8, 6, .cdrFailInfoCtx, 0⟩, ⟨14, 3, .cdrFailInfoCheck, 0⟩]⟩,
   ⟨0x00004020, 1, 0, 1, .arr, [⟨0, 32, .cdrEncInBytes, 0⟩]⟩,
   ⟨0x00004024, 1, 0, 1, .arr, [⟨0, 32, .cdrEncInBytes, 32⟩]⟩,
   ⟨0x00004028, 1, 0, 1, .arr, [⟨0, 32, .cdrEncOutBytes, 0⟩]⟩,
   ⟨0x0000402C, 1, 0, 1, .arr, [⟨0, 32, .cdrEncOutBytes, 32⟩]⟩,
   ⟨0x00004030, 1, 0, 1, .arr, [⟨0, 32, .cdrRawBlocksCount, 0⟩]⟩,
   ⟨0x00004034, 1, 0, 1, .arr, [⟨0, 32, .cdrRawBlocksCount, 32⟩]⟩,
   ⟨0x00004038, 1, 0, 1, .arr, [⟨0, 32, .cdrDecBlocksCount, 0⟩]⟩,
   ⟨0x0000403C, 1, 0, 1, .arr, [⟨0, 32, .cdrDecBlocksCount, 32⟩]⟩,
   ⟨0x00004040, 1, 0, 1, .arr, [⟨0, 32, .cdrCheckFailsCount, 0⟩]⟩,
   ⟨0x00004044, 1, 0, 1, .arr, [⟨0, 32, .cdrEscapesCount, 0⟩]⟩,
   ⟨0x00004048, 1, 0, 1, .arr, [⟨0, 32, .cdrSlotWaitsCount, 0⟩]⟩,
   ⟨0x00004100, 8, 16, 1, .arr, [⟨0, 32, .cdrSlotTagTag, 0⟩]⟩,
   ⟨0x00004104, 8, 16, 1, .arr, [⟨0, 4, .cdrSlotInfoRef, 0⟩, ⟨8, 6, .cdrSlotInfoCtx, 0⟩, ⟨14, 2, .cdrSlotInfoFormat, 0⟩, ⟨16, 6, .cdrSlotInfoNSym, 0⟩]⟩,
   ⟨0x00004108, 8, 16, 1, .arr, [⟨0, 32, .cdrSlotLoadsCount, 0⟩]⟩]

/-- Registers with prefix SEAL_ of the privileged view (19 R505). -/
def mapSeal : List MapRow :=
  [⟨0x00005000, 1, 0, 1, .arr, [⟨0, 1, .sealStatReserveWait, 0⟩, ⟨1, 1, .sealStatReserveFail, 0⟩, ⟨2, 1, .sealStatTableLost, 0⟩]⟩,
   ⟨0x00005004, 1, 0, 1, .arr, [⟨0, 1, .sealCtrlAckLost, 0⟩]⟩,
   ⟨0x00005008, 1, 0, 1, .arr, [⟨0, 32, .sealPrefixPrefix, 0⟩]⟩,
   ⟨0x00005010, 12, 4, 1, .arr, [⟨0, 32, .sealKeyBlobData, 0⟩]⟩,
   ⟨0x00005040, 1, 0, 1, .arr, [⟨0, 1, .sealKeyCmdLoad, 0⟩, ⟨1, 1, .sealKeyCmdErase, 0⟩, ⟨8, 8, .sealKeyCmdEraseSlot, 0⟩]⟩,
   ⟨0x00005044, 1, 0, 1, .arr, [⟨0, 2, .sealKeyResultState, 0⟩, ⟨4, 3, .sealKeyResultCause, 0⟩, ⟨8, 8, .sealKeyResultSlot, 0⟩]⟩,
   ⟨0x00005050, 1, 0, 1, .arr, [⟨0, 32, .sealTagFailsCount, 0⟩]⟩,
   ⟨0x00005054, 1, 0, 1, .arr, [⟨0, 32, .sealVerifyFailsCount, 0⟩]⟩,
   ⟨0x00005058, 1, 0, 1, .arr, [⟨0, 32, .sealReserveWaitsCount, 0⟩]⟩,
   ⟨0x00005080, 1, 0, 1, .arr, [⟨0, 8, .sealSlotSelSlot, 0⟩]⟩,
   ⟨0x00005084, 1, 0, 1, .arr, [⟨0, 1, .sealSlotInfoValid, 0⟩, ⟨1, 1, .sealSlotInfoReplayOnly, 0⟩, ⟨2, 1, .sealSlotInfoOpenOnly, 0⟩, ⟨3, 1, .sealSlotInfoArmature, 0⟩, ⟨4, 1, .sealSlotInfoExhausted, 0⟩, ⟨5, 1, .sealSlotInfoReserveFail, 0⟩, ⟨8, 6, .sealSlotInfoCtx, 0⟩]⟩,
   ⟨0x00005088, 1, 0, 1, .arr, [⟨0, 32, .sealSlotCtrCtr, 0⟩]⟩,
   ⟨0x0000508C, 1, 0, 1, .arr, [⟨0, 32, .sealSlotCtrCtr, 32⟩]⟩,
   ⟨0x00005090, 1, 0, 1, .arr, [⟨0, 32, .sealSlotHwmHwm, 0⟩]⟩,
   ⟨0x00005094, 1, 0, 1, .arr, [⟨0, 32, .sealSlotHwmHwm, 32⟩]⟩,
   ⟨0x00005200, 32, 4, 1, .arr, [⟨0, 32, .sealPipeVfailCount, 0⟩]⟩]

/-- Registers with prefix DIG_ of the privileged view (19 R505). -/
def mapDig : List MapRow :=
  [⟨0x00006000, 1, 0, 1, .arr, [⟨0, 1, .digStatFptFull, 0⟩, ⟨1, 1, .digStatSaveFail, 0⟩, ⟨2, 1, .digStatArrivalFail, 0⟩, ⟨3, 3, .digStatLongCores, 0⟩]⟩,
   ⟨0x00006004, 1, 0, 1, .arr, [⟨0, 1, .digCtrlPeakClr, 0⟩]⟩,
   ⟨0x00006010, 1, 0, 1, .arr, [⟨16, 16, .digFptBaseBase, 16⟩]⟩,
   ⟨0x00006014, 1, 0, 1, .arr, [⟨0, 32, .digFptBaseBase, 32⟩]⟩,
   ⟨0x00006018, 1, 0, 1, .arr, [⟨0, 25, .digFptEntriesEntries, 0⟩]⟩,
   ⟨0x0000601C, 1, 0, 1, .arr, [⟨0, 25, .digFptUsedUsed, 0⟩]⟩,
   ⟨0x00006020, 1, 0, 1, .arr, [⟨0, 25, .digFptPeakPeak, 0⟩]⟩,
   ⟨0x00006024, 1, 0, 1, .arr, [⟨0, 32, .digFptFailsCount, 0⟩]⟩,
   ⟨0x00006030, 1, 0, 1, .arr, [⟨16, 16, .digSaveBaseBase, 16⟩]⟩,
   ⟨0x00006034, 1, 0, 1, .arr, [⟨0, 32, .digSaveBaseBase, 32⟩]⟩,
   ⟨0x00006040, 1, 0, 1, .arr, [⟨0, 32, .digEvictionsCount, 0⟩]⟩,
   ⟨0x00006044, 1, 0, 1, .arr, [⟨0, 32, .digArrivalFailsCount, 0⟩]⟩,
   ⟨0x00006048, 1, 0, 1, .arr, [⟨0, 32, .digLenFailsCount, 0⟩]⟩,
   ⟨0x00006050, 1, 0, 1, .arr, [⟨0, 32, .digFpBlocksCount, 0⟩]⟩,
   ⟨0x00006054, 1, 0, 1, .arr, [⟨0, 32, .digFpBlocksCount, 32⟩]⟩,
   ⟨0x00006100, 16, 4, 1, .arr, [⟨0, 1, .digSlotValid, 0⟩, ⟨1, 1, .digSlotKeyed, 0⟩, ⟨2, 1, .digSlotInvalid, 0⟩, ⟨3, 1, .digSlotBusy, 0⟩, ⟨4, 2, .digSlotAlg, 0⟩, ⟨8, 6, .digSlotCtx, 0⟩, ⟨14, 4, .digSlotHandle, 0⟩]⟩]

/-- Registers with prefix LAT_ of the privileged view (19 R505). -/
def mapLat : List MapRow :=
  [⟨0x00007000, 1, 0, 1, .arr, [⟨0, 6, .latStatLanes, 0⟩, ⟨6, 1, .latStatSmall, 0⟩, ⟨8, 1, .latStatLaneDrop, 0⟩, ⟨9, 1, .latStatReshaped, 0⟩]⟩,
   ⟨0x00007008, 1, 0, 1, .arr, [⟨16, 16, .latSaveBaseBase, 16⟩]⟩,
   ⟨0x0000700C, 1, 0, 1, .arr, [⟨0, 32, .latSaveBaseBase, 32⟩]⟩,
   ⟨0x00007010, 1, 0, 1, .arr, [⟨0, 32, .latSnapStepStep, 0⟩]⟩,
   ⟨0x00007014, 1, 0, 1, .arr, [⟨0, 16, .latSnapStepStep, 32⟩]⟩,
   ⟨0x00007018, 1, 0, 1, .arr, [⟨0, 32, .latSnapNonfiniteCount, 0⟩]⟩,
   ⟨0x0000701C, 1, 0, 1, .arr, [⟨0, 32, .latSnapNonfiniteCount, 32⟩]⟩,
   ⟨0x00007020, 1, 0, 1, .arr, [⟨0, 26, .latSnapFirstGranule, 0⟩, ⟨31, 1, .latSnapFirstValid, 0⟩]⟩,
   ⟨0x00007030, 1, 0, 1, .arr, [⟨0, 32, .latMacsCount, 0⟩]⟩,
   ⟨0x00007034, 1, 0, 1, .arr, [⟨0, 32, .latMacsCount, 32⟩]⟩,
   ⟨0x00007038, 1, 0, 1, .arr, [⟨0, 32, .latNonfiniteCount, 0⟩]⟩,
   ⟨0x0000703C, 1, 0, 1, .arr, [⟨0, 32, .latNonfiniteCount, 32⟩]⟩,
   ⟨0x00007040, 1, 0, 1, .arr, [⟨0, 32, .latSaturatedCount, 0⟩]⟩,
   ⟨0x00007044, 1, 0, 1, .arr, [⟨0, 32, .latOverflowsCount, 0⟩]⟩,
   ⟨0x00007048, 1, 0, 1, .arr, [⟨0, 32, .latReshapedJobsCount, 0⟩]⟩]

/-- Registers with prefix PNT_ of the privileged view (19 R505). -/
def mapPnt : List MapRow :=
  [⟨0x00008000, 1, 0, 1, .arr, [⟨0, 1, .pntStatUseFail, 0⟩]⟩,
   ⟨0x00008004, 1, 0, 1, .arr, [⟨0, 1, .pntCtrlInvCtx, 0⟩, ⟨8, 6, .pntCtrlCtx, 0⟩]⟩,
   ⟨0x00008010, 1, 0, 1, .arr, [⟨0, 6, .pntTblSelCtx, 0⟩, ⟨8, 3, .pntTblSelTable, 0⟩]⟩,
   ⟨0x00008014, 1, 0, 1, .arr, [⟨0, 1, .pntTblInfoLoaded, 0⟩, ⟨1, 1, .pntTblInfoValid, 0⟩, ⟨2, 1, .pntTblInfoBijective, 0⟩, ⟨3, 2, .pntTblInfoGran, 0⟩, ⟨16, 10, .pntTblInfoNEnt, 0⟩]⟩,
   ⟨0x00008018, 1, 0, 1, .arr, [⟨0, 32, .pntTblLoadnoLoadno, 0⟩]⟩,
   ⟨0x00008020, 1, 0, 1, .arr, [⟨0, 32, .pntBytesBytes, 0⟩]⟩,
   ⟨0x00008024, 1, 0, 1, .arr, [⟨0, 32, .pntBytesBytes, 32⟩]⟩,
   ⟨0x00008028, 1, 0, 1, .arr, [⟨0, 32, .pntRangeRefusalsCount, 0⟩]⟩,
   ⟨0x0000802C, 1, 0, 1, .arr, [⟨0, 32, .pntUseFailsCount, 0⟩]⟩,
   ⟨0x00008100, 64, 4, 1, .arr, [⟨0, 2, .pntVlVl, 0⟩, ⟨8, 1, .pntVlPending, 0⟩]⟩,
   ⟨0x00008200, 64, 4, 1, .arr, [⟨0, 32, .pntLoadctrCount, 0⟩]⟩]

/-- Registers with prefix FJ_ of the privileged view (19 R505). -/
def mapFj0 : List MapRow :=
  [⟨0x00000100, 1, 0, 1, .arr, [⟨0, 1, .fjCkptCfgPolicy, 0⟩, ⟨1, 1, .fjCkptCfgUnit, 0⟩, ⟨2, 1, .fjCkptCfgHostEn, 0⟩, ⟨3, 1, .fjCkptCfgFloorEn, 0⟩, ⟨4, 1, .fjCkptCfgSpare, 0⟩, ⟨8, 8, .fjCkptCfgKeySlot, 0⟩]⟩,
   ⟨0x00000104, 1, 0, 1, .arr, [⟨0, 32, .fjCkptNN, 0⟩]⟩,
   ⟨0x00000108, 1, 0, 1, .arr, [⟨0, 32, .fjCkptKK, 0⟩]⟩,
   ⟨0x0000010C, 1, 0, 1, .arr, [⟨0, 16, .fjCkptXchgWaitTicks, 0⟩]⟩,
   ⟨0x00000110, 1, 0, 1, .arr, [⟨0, 1, .fjCkptCtrlWarn, 0⟩, ⟨1, 1, .fjCkptCtrlAbandon, 0⟩, ⟨2, 1, .fjCkptCtrlAdopt, 0⟩, ⟨8, 4, .fjCkptCtrlRole, 0⟩]⟩,
   ⟨0x00000114, 1, 0, 1, .arr, [⟨0, 1, .fjCkptStatCommitPending, 0⟩, ⟨1, 1, .fjCkptStatWarnPending, 0⟩, ⟨2, 1, .fjCkptStatFloorWait, 0⟩, ⟨3, 1, .fjCkptStatAdopted, 0⟩, ⟨4, 1, .fjCkptStatGoodSlot, 0⟩, ⟨8, 1, .fjCkptStatNoMirror, 0⟩, ⟨9, 1, .fjCkptStatDiverged, 0⟩, ⟨10, 1, .fjCkptStatSuspect, 0⟩, ⟨11, 1, .fjCkptStatDivOvf, 0⟩]⟩,
   ⟨0x00000118, 1, 0, 1, .arr, [⟨0, 32, .fjCkptGoodStepStep, 0⟩]⟩,
   ⟨0x0000011C, 1, 0, 1, .arr, [⟨0, 16, .fjCkptGoodStepStep, 32⟩]⟩,
   ⟨0x00000120, 1, 0, 1, .arr, [⟨0, 32, .fjCkptFileStepStep, 0⟩]⟩,
   ⟨0x00000124, 1, 0, 1, .arr, [⟨0, 16, .fjCkptFileStepStep, 32⟩]⟩,
   ⟨0x00000128, 1, 0, 1, .arr, [⟨0, 32, .fjCkptFloorStep, 0⟩]⟩,
   ⟨0x0000012C, 1, 0, 1, .arr, [⟨0, 16, .fjCkptFloorStep, 32⟩]⟩,
   ⟨0x00000130, 1, 0, 1, .arr, [⟨16, 16, .fjMirrorBaseBase, 16⟩]⟩,
   ⟨0x00000134, 1, 0, 1, .arr, [⟨0, 32, .fjMirrorBaseBase, 32⟩]⟩,
   ⟨0x00000138, 1, 0, 1, .arr, [⟨0, 32, .fjMirrorSizeBytes, 0⟩]⟩,
   ⟨0x0000013C, 1, 0, 1, .arr, [⟨0, 32, .fjMirrorSizeBytes, 32⟩]⟩,
   ⟨0x00000140, 1, 0, 1, .arr, [⟨0, 32, .fjReplicaGroupGroup, 0⟩]⟩,
   ⟨0x00000144, 1, 0, 1, .arr, [⟨0, 16, .fjReplicaRankRank, 0⟩, ⟨16, 16, .fjReplicaRankSize, 0⟩]⟩,
   ⟨0x00000148, 1, 0, 1, .arr, [⟨0, 8, .fjTopoQpBuddy, 0⟩, ⟨8, 8, .fjTopoQpPrev, 0⟩, ⟨16, 8, .fjTopoQpNext, 0⟩, ⟨24, 1, .fjTopoQpPrevV, 0⟩, ⟨25, 1, .fjTopoQpNextV, 0⟩]⟩,
   ⟨0x00000150, 4, 16, 1, .arr, [⟨16, 16, .fjPeerResBaseBase, 16⟩]⟩,
   ⟨0x00000154, 4, 16, 1, .arr, [⟨0, 32, .fjPeerResBaseBase, 32⟩]⟩,
   ⟨0x00000158, 4, 16, 1, .arr, [⟨0, 32, .fjPeerResFramesFrames, 0⟩]⟩,
   ⟨0x00000190, 1, 0, 1, .arr, [⟨12, 20, .fjCkptHostBaseBase, 12⟩]⟩,
   ⟨0x00000194, 1, 0, 1, .arr, [⟨0, 32, .fjCkptHostBaseBase, 32⟩]⟩,
   ⟨0x000001A0, 1, 0, 1, .arr, [⟨12, 20, .fjDivBaseBase, 12⟩]⟩,
   ⟨0x000001A4, 1, 0, 1, .arr, [⟨0, 32, .fjDivBaseBase, 32⟩]⟩,
   ⟨0x000001A8, 1, 0, 1, .arr, [⟨0, 10, .fjDivHeadHead, 0⟩, ⟨16, 10, .fjDivHeadAck, 0⟩]⟩,
   ⟨0x000001B0, 1, 0, 1, .arr, [⟨0, 32, .fjCkptCommitsCount, 0⟩]⟩,
   ⟨0x000001B4, 1, 0, 1, .arr, [⟨0, 32, .fjCkptHeldCount, 0⟩]⟩,
   ⟨0x000001B8, 1, 0, 1, .arr, [⟨0, 32, .fjCkptWarnsCount, 0⟩]⟩,
   ⟨0x000001BC, 1, 0, 1, .arr, [⟨0, 32, .fjCkptUnmatchedCount, 0⟩]⟩,
   ⟨0x000001C0, 1, 0, 1, .arr, [⟨0, 32, .fjDedupBlocksCount, 0⟩]⟩,
   ⟨0x000001C4, 1, 0, 1, .arr, [⟨0, 32, .fjDedupBlocksCount, 32⟩]⟩,
   ⟨0x000001C8, 1, 0, 1, .arr, [⟨0, 32, .fjDivBlocksCount, 0⟩]⟩,
   ⟨0x00000010, 1, 0, 1, .arr, [⟨0, 6, .fjBuildFabAw, 0⟩, ⟨6, 1, .fjBuildSmall, 0⟩, ⟨7, 1, .fjBuildHbm4, 0⟩, ⟨8, 3, .fjBuildXptLanesMax, 0⟩, ⟨11, 1, .fjBuildHostDw1024, 0⟩, ⟨12, 6, .fjBuildNumVf, 0⟩, ⟨18, 5, .fjBuildGuardIdW, 0⟩, ⟨23, 8, .fjBuildHostRateMax, 0⟩]⟩,
   ⟨0x00000014, 1, 0, 1, .arr, [⟨0, 8, .fjHostDeclOut, 0⟩, ⟨8, 8, .fjHostDeclIn, 0⟩]⟩,
   ⟨0x00000018, 1, 0, 1, .arr, [⟨0, 1, .fjPortStatStepEndEarly, 0⟩, ⟨1, 1, .fjPortStatBusvStale, 0⟩, ⟨2, 1, .fjPortStatStrapChg, 0⟩, ⟨3, 1, .fjPortStatKpDone, 0⟩, ⟨4, 1, .fjPortStatDbgEn, 0⟩, ⟨5, 1, .fjPortStatHostFlit, 0⟩, ⟨6, 1, .fjPortStatFabErr, 0⟩, ⟨7, 1, .fjPortStatSbDrop, 0⟩]⟩,
   ⟨0x0000001C, 1, 0, 1, .arr, [⟨0, 32, .fjSbDropsCount, 0⟩]⟩,
   ⟨0x00000020, 1, 0, 1, .arr, [⟨0, 4, .fjPosInst, 0⟩, ⟨16, 16, .fjPosPresent, 0⟩]⟩,
   ⟨0x00000024, 1, 0, 1, .arr, [⟨0, 5, .fjMemmapStacks, 0⟩, ⟨8, 4, .fjMemmapIntlvLog2, 0⟩]⟩]

/-- Registers with prefix FJ_ of the privileged view (19 R505). -/
def mapFj1 : List MapRow :=
  [⟨0x00000040, 1, 0, 1, .arr, [⟨0, 3, .fjStateState, 0⟩, ⟨3, 1, .fjStateLocked, 0⟩, ⟨4, 1, .fjStateAwaitDriver, 0⟩, ⟨5, 1, .fjStateAlone, 0⟩, ⟨6, 1, .fjStateEngineBusy, 0⟩, ⟨7, 1, .fjStateRetainPend, 0⟩, ⟨8, 2, .fjStateCause, 0⟩, ⟨16, 8, .fjStateFault, 0⟩]⟩,
   ⟨0x00000044, 1, 0, 1, .arr, [⟨0, 1, .fjCtrlGo, 0⟩, ⟨1, 1, .fjCtrlEngineRst, 0⟩, ⟨2, 1, .fjCtrlRetainReq, 0⟩, ⟨3, 1, .fjCtrlArmUpd, 0⟩]⟩,
   ⟨0x00000048, 1, 0, 1, .arr, [⟨0, 1, .fjBootCfgDriverHold, 0⟩, ⟨16, 16, .fjBootCfgBootWait, 0⟩]⟩,
   ⟨0x0000004C, 1, 0, 1, .arr, [⟨0, 20, .fjBootInfoField, 0⟩, ⟨20, 1, .fjBootInfoCopy, 0⟩, ⟨21, 1, .fjBootInfoOtherOk, 0⟩, ⟨24, 8, .fjBootInfoCode, 0⟩]⟩,
   ⟨0x00000050, 1, 0, 1, .arr, [⟨0, 32, .fjArmSeqSeq, 0⟩]⟩,
   ⟨0x00000054, 1, 0, 1, .arr, [⟨0, 32, .fjPkgIdId, 0⟩]⟩,
   ⟨0x00000058, 1, 0, 1, .arr, [⟨0, 32, .fjFwVersionVersion, 0⟩]⟩,
   ⟨0x0000005C, 1, 0, 1, .arr, [⟨0, 16, .fjBarrierMembers, 0⟩, ⟨16, 16, .fjBarrierMissing, 0⟩]⟩,
   ⟨0x00000060, 12, 4, 1, .arr, [⟨0, 32, .fjArmDigestDigest, 0⟩]⟩,
   ⟨0x00000090, 1, 0, 1, .arr, [⟨0, 16, .fjPmIdleTicks, 0⟩]⟩,
   ⟨0x00000098, 1, 0, 1, .arr, [⟨0, 32, .fjPmWakeTick, 0⟩]⟩,
   ⟨0x0000009C, 1, 0, 1, .arr, [⟨0, 32, .fjPmWakeTick, 32⟩]⟩,
   ⟨0x000000A0, 1, 0, 1, .arr, [⟨0, 16, .fjWdogRestarts, 0⟩, ⟨16, 1, .fjWdogFwDown, 0⟩]⟩,
   ⟨0x000000A8, 1, 0, 1, .arr, [⟨12, 20, .fjArmUpdAddrAddr, 12⟩]⟩,
   ⟨0x000000AC, 1, 0, 1, .arr, [⟨0, 32, .fjArmUpdAddrAddr, 32⟩]⟩,
   ⟨0x000000B0, 1, 0, 1, .arr, [⟨0, 21, .fjArmUpdLenLen, 0⟩]⟩,
   ⟨0x000000B4, 1, 0, 1, .arr, [⟨0, 2, .fjArmUpdStatState, 0⟩, ⟨8, 8, .fjArmUpdStatCode, 0⟩]⟩,
   ⟨0x00000200, 1, 0, 1, .arr, [⟨0, 1, .fjIrqStatTick, 0⟩, ⟨1, 1, .fjIrqStatPowerFault, 0⟩, ⟨2, 1, .fjIrqStatGuard, 0⟩, ⟨3, 1, .fjIrqStatSeal, 0⟩, ⟨4, 1, .fjIrqStatDigest, 0⟩, ⟨5, 1, .fjIrqStatLattice, 0⟩, ⟨6, 1, .fjIrqStatPointing, 0⟩, ⟨7, 1, .fjIrqStatCkpt, 0⟩, ⟨8, 1, .fjIrqStatTransport, 0⟩, ⟨9, 1, .fjIrqStatPower, 0⟩, ⟨10, 1, .fjIrqStatPatina, 0⟩, ⟨11, 1, .fjIrqStatPort, 0⟩, ⟨12, 1, .fjIrqStatSync, 0⟩, ⟨13, 1, .fjIrqStatYeljo, 0⟩, ⟨14, 1, .fjIrqStatFirmware, 0⟩, ⟨15, 1, .fjIrqStatDone, 0⟩]⟩,
   ⟨0x00000204, 1, 0, 1, .arr, [⟨0, 16, .fjIrqEnEn, 0⟩]⟩,
   ⟨0x00000208, 1, 0, 1, .arr, [⟨0, 1, .fjIrqDoneKey, 0⟩, ⟨1, 1, .fjIrqDoneArmUpd, 0⟩, ⟨2, 1, .fjIrqDoneAdopt, 0⟩, ⟨3, 1, .fjIrqDoneGo, 0⟩, ⟨4, 1, .fjIrqDoneMode, 0⟩, ⟨5, 1, .fjIrqDoneEngineRst, 0⟩]⟩,
   ⟨0x000C0000, 1, 0, 1, .arr, [⟨0, 2, .fjDbgSelTarget, 0⟩, ⟨16, 7, .fjDbgSelPage, 0⟩]⟩,
   ⟨0x000C0004, 1, 0, 1, .arr, [⟨0, 17, .fjDbgClearWord, 0⟩, ⟨17, 1, .fjDbgClearBusy, 0⟩, ⟨18, 1, .fjDbgClearWhich, 0⟩]⟩]

/-- Registers with prefix XPT_ of the privileged view (19 R505). -/
def mapXpt0 : List MapRow :=
  [⟨0x00009000, 1, 0, 1, .arr, [⟨0, 4, .xptStatLaneUp, 0⟩, ⟨4, 1, .xptStatLinkDown, 0⟩, ⟨5, 1, .xptStatQpError, 0⟩, ⟨6, 1, .xptStatCongested, 0⟩, ⟨7, 1, .xptStatTcpReady, 0⟩]⟩,
   ⟨0x00009004, 1, 0, 1, .arr, [⟨0, 3, .xptCfgLanes, 0⟩, ⟨3, 1, .xptCfgTcpEn, 0⟩]⟩,
   ⟨0x00009008, 1, 0, 1, .arr, [⟨0, 32, .xptRkeyOwnKey, 0⟩]⟩,
   ⟨0x00009010, 4, 4, 1, .arr, [⟨0, 32, .xptRkeyPeerKey, 0⟩]⟩,
   ⟨0x00009020, 1, 0, 1, .arr, [⟨0, 32, .xptPeerShareBytes, 0⟩]⟩,
   ⟨0x00009024, 1, 0, 1, .arr, [⟨0, 16, .xptCcMinRate, 0⟩, ⟨16, 8, .xptCcRecover, 0⟩]⟩,
   ⟨0x00009030, 1, 0, 1, .arr, [⟨0, 8, .xptQpSelQp, 0⟩]⟩,
   ⟨0x00009034, 1, 0, 1, .arr, [⟨0, 2, .xptQpCmdCmd, 0⟩]⟩,
   ⟨0x00009038, 1, 0, 1, .qp, [⟨0, 2, .xptQpStateState, 0⟩, ⟨8, 8, .xptQpStateLastErr, 0⟩]⟩,
   ⟨0x0000903C, 1, 0, 1, .qp, [⟨0, 2, .xptQpAttrLane, 0⟩, ⟨2, 3, .xptQpAttrPathLen, 0⟩, ⟨5, 1, .xptQpAttrRdOk, 0⟩, ⟨6, 1, .xptQpAttrWrOk, 0⟩, ⟨7, 1, .xptQpAttrSendOk, 0⟩, ⟨8, 3, .xptQpAttrRes, 0⟩, ⟨11, 6, .xptQpAttrDscp, 0⟩, ⟨17, 3, .xptQpAttrRetry, 0⟩, ⟨20, 5, .xptQpAttrTimeout, 0⟩, ⟨25, 2, .xptQpAttrMtu, 0⟩]⟩,
   ⟨0x00009040, 1, 0, 1, .qp, [⟨0, 24, .xptQpLqpnQpn, 0⟩]⟩,
   ⟨0x00009044, 1, 0, 1, .qp, [⟨0, 24, .xptQpDqpnQpn, 0⟩]⟩,
   ⟨0x00009048, 1, 0, 1, .qp, [⟨0, 24, .xptQpSpsnPsn, 0⟩]⟩,
   ⟨0x0000904C, 1, 0, 1, .qp, [⟨0, 24, .xptQpRpsnPsn, 0⟩]⟩,
   ⟨0x00009050, 1, 0, 1, .qp, [⟨0, 32, .xptQpDmacMac, 0⟩]⟩,
   ⟨0x00009054, 1, 0, 1, .qp, [⟨0, 16, .xptQpDmacMac, 32⟩]⟩,
   ⟨0x00009058, 4, 4, 1, .qpArr, [⟨0, 32, .xptQpDipIp, 0⟩]⟩,
   ⟨0x00009068, 1, 0, 1, .qp, [⟨0, 32, .xptQpRkeyKey, 0⟩]⟩,
   ⟨0x0000906C, 1, 0, 1, .qp, [⟨0, 11, .xptQpOpsOut, 0⟩]⟩,
   ⟨0x00009080, 4, 32, 1, .arr, [⟨0, 32, .xptLaneSmacMac, 0⟩]⟩,
   ⟨0x00009084, 4, 32, 1, .arr, [⟨0, 16, .xptLaneSmacMac, 32⟩]⟩,
   ⟨0x00009088, 4, 32, 4, .arr, [⟨0, 32, .xptLaneSipIp, 0⟩]⟩,
   ⟨0x00009100, 1, 0, 1, .arr, [⟨0, 4, .xptTgtSelTgt, 0⟩]⟩,
   ⟨0x00009104, 1, 0, 1, .tgt, [⟨0, 8, .xptTgtCfgAdminQp, 0⟩, ⟨8, 8, .xptTgtCfgIoQp, 0⟩, ⟨16, 5, .xptTgtCfgSlots, 0⟩, ⟨21, 1, .xptTgtCfgTcp, 0⟩]⟩,
   ⟨0x00009108, 1, 0, 1, .tgt, [⟨0, 32, .xptTgtNsidNsid, 0⟩]⟩,
   ⟨0x0000910C, 1, 0, 1, .tgt, [⟨0, 32, .xptTgtBaseLba, 0⟩]⟩,
   ⟨0x00009110, 1, 0, 1, .tgt, [⟨0, 32, .xptTgtBaseLba, 32⟩]⟩,
   ⟨0x00009114, 1, 0, 1, .tgt, [⟨0, 32, .xptTgtSlotLbas, 0⟩]⟩,
   ⟨0x00009118, 1, 0, 1, .tgt, [⟨0, 32, .xptTgtSlotLbas, 32⟩]⟩,
   ⟨0x0000911C, 1, 0, 1, .tgt, [⟨0, 2, .xptTgtStateState, 0⟩, ⟨2, 1, .xptTgtStateVwc, 0⟩, ⟨4, 4, .xptTgtStateNextSlot, 0⟩, ⟨8, 8, .xptTgtStateLastSc, 0⟩]⟩,
   ⟨0x00009120, 1, 0, 1, .tgt, [⟨0, 32, .xptTgtFseqSeq, 0⟩]⟩,
   ⟨0x00009200, 1, 0, 1, .arr, [⟨0, 11, .xptOpsOut, 0⟩, ⟨16, 11, .xptOpsPeak, 0⟩]⟩,
   ⟨0x9208, 1, 0, 1, .arr, [⟨0, 32, .xptTxBytesBytes, 0⟩]⟩,
   ⟨0x920c, 1, 0, 1, .arr, [⟨0, 32, .xptTxBytesBytes, 32⟩]⟩,
   ⟨0x9210, 1, 0, 1, .arr, [⟨0, 32, .xptRxBytesBytes, 0⟩]⟩,
   ⟨0x9214, 1, 0, 1, .arr, [⟨0, 32, .xptRxBytesBytes, 32⟩]⟩,
   ⟨0x00009218, 1, 0, 1, .arr, [⟨0, 32, .xptRetransCount, 0⟩]⟩,
   ⟨0x0000921C, 1, 0, 1, .arr, [⟨0, 32, .xptTimeoutsCount, 0⟩]⟩,
   ⟨0x00009220, 1, 0, 1, .arr, [⟨0, 32, .xptNakRxCount, 0⟩]⟩,
   ⟨0x00009224, 1, 0, 1, .arr, [⟨0, 32, .xptCnpTxCount, 0⟩]⟩]

/-- Registers with prefix XPT_ of the privileged view (19 R505). -/
def mapXpt1 : List MapRow :=
  [⟨0x00009228, 1, 0, 1, .arr, [⟨0, 32, .xptCnpRxCount, 0⟩]⟩,
   ⟨0x0000922C, 1, 0, 1, .arr, [⟨0, 32, .xptDroppedCount, 0⟩]⟩]

/-- Registers with prefix SYNC_ of the privileged view (19 R505). -/
def mapSync : List MapRow :=
  [⟨0x0000D000, 1, 0, 1, .arr, [⟨0, 1, .syncStatMapBusy, 0⟩, ⟨1, 1, .syncStatOverrun, 0⟩]⟩,
   ⟨0x0000D004, 1, 0, 1, .arr, [⟨0, 10, .syncMapSelId, 0⟩, ⟨16, 6, .syncMapSelCtx, 0⟩]⟩,
   ⟨0x0000D008, 1, 0, 1, .syncMap, [⟨0, 16, .syncMapPhys, 0⟩, ⟨16, 1, .syncMapValid, 0⟩, ⟨17, 1, .syncMapSigOk, 0⟩, ⟨18, 1, .syncMapWaitOk, 0⟩, ⟨19, 1, .syncMapBarOk, 0⟩]⟩,
   ⟨0x0000D010, 1, 0, 1, .arr, [⟨0, 32, .syncSignalsCount, 0⟩]⟩,
   ⟨0x0000D014, 1, 0, 1, .arr, [⟨0, 32, .syncSignalsCount, 32⟩]⟩,
   ⟨0x0000D018, 1, 0, 1, .arr, [⟨0, 32, .syncOverrunsCount, 0⟩]⟩,
   ⟨0x0000D01C, 1, 0, 1, .arr, [⟨0, 32, .syncTimeoutsCount, 0⟩]⟩]

/-- Registers with prefix PWR_ of the privileged view (19 R505). -/
def mapPwr : List MapRow :=
  [⟨0x0000B000, 1, 0, 1, .arr, [⟨0, 1, .pwrStatSag, 0⟩, ⟨1, 1, .pwrStatBusLow, 0⟩, ⟨2, 1, .pwrStatPlinthReady, 0⟩, ⟨3, 1, .pwrStatJournalReady, 0⟩, ⟨4, 1, .pwrStatClass, 0⟩, ⟨5, 2, .pwrStatLastSave, 0⟩, ⟨7, 1, .pwrStatBusWarn, 0⟩]⟩,
   ⟨0x0000B004, 1, 0, 1, .arr, [⟨0, 12, .pwrBusvHold, 0⟩, ⟨16, 12, .pwrBusvWarn, 0⟩]⟩,
   ⟨0x0000B008, 1, 0, 1, .arr, [⟨0, 12, .pwrBusvNowCode, 0⟩, ⟨16, 12, .pwrBusvNowMin, 0⟩]⟩,
   ⟨0x0000B00C, 1, 0, 1, .arr, [⟨0, 16, .pwrSagHold, 0⟩]⟩,
   ⟨0x0000B010, 1, 0, 1, .arr, [⟨0, 1, .pwrCtrlMinClr, 0⟩]⟩,
   ⟨0x0000B014, 1, 0, 1, .arr, [⟨0, 32, .pwrSaveTimeNs, 0⟩]⟩,
   ⟨0x0000B018, 1, 0, 1, .arr, [⟨0, 20, .pwrTppNs, 0⟩]⟩,
   ⟨0x0000B020, 1, 0, 1, .arr, [⟨0, 32, .pwrStepsS1Count, 0⟩]⟩,
   ⟨0x0000B024, 1, 0, 1, .arr, [⟨0, 32, .pwrStepsS2Count, 0⟩]⟩,
   ⟨0x0000B028, 1, 0, 1, .arr, [⟨0, 32, .pwrSavesSeq, 0⟩]⟩,
   ⟨0x0000B02C, 1, 0, 1, .arr, [⟨0, 13, .pwrJournalNext, 0⟩, ⟨13, 1, .pwrJournalHalf, 0⟩]⟩,
   ⟨0x0000B040, 1, 0, 1, .arr, [⟨0, 11, .pwrPlSelWord, 0⟩]⟩,
   ⟨0x0000B044, 1, 0, 1, .arr, [⟨0, 32, .pwrPlDataData, 0⟩]⟩]

/-- Registers with prefix PAT_ of the privileged view (19 R505). -/
def mapPat : List MapRow :=
  [⟨0x0000A000, 1, 0, 1, .arr, [⟨0, 1, .patStatSubstBusy, 0⟩, ⟨1, 1, .patStatSubst, 0⟩, ⟨2, 1, .patStatReduced, 0⟩, ⟨3, 1, .patStatWarned, 0⟩, ⟨4, 1, .patStatOutOfService, 0⟩, ⟨5, 1, .patStatPatrolHeld, 0⟩]⟩,
   ⟨0x0000A004, 1, 0, 1, .arr, [⟨0, 1, .patCtrlPatrolEn, 0⟩, ⟨1, 1, .patCtrlRetire, 0⟩]⟩,
   ⟨0x0000A008, 1, 0, 1, .arr, [⟨0, 16, .patPatrolPeriod, 0⟩]⟩,
   ⟨0x0000A00C, 1, 0, 1, .arr, [⟨0, 4, .patWarnSpareMin, 0⟩, ⟨4, 4, .patWarnWinLog2, 0⟩, ⟨16, 16, .patWarnEccThr, 0⟩]⟩,
   ⟨0x0000A010, 1, 0, 1, .arr, [⟨0, 32, .patEccAddCount, 0⟩]⟩,
   ⟨0x0000A014, 1, 0, 1, .arr, [⟨0, 32, .patEccWinCount, 0⟩]⟩,
   ⟨0x0000A018, 1, 0, 1, .arr, [⟨0, 32, .patMemUncorrCount, 0⟩]⟩,
   ⟨0x0000A01C, 1, 0, 1, .arr, [⟨0, 32, .patRotationsCount, 0⟩]⟩,
   ⟨0x0000A020, 1, 0, 1, .arr, [⟨0, 32, .patSubstsCount, 0⟩]⟩,
   ⟨0x0000A024, 1, 0, 1, .arr, [⟨0, 3, .patLastClass, 0⟩, ⟨8, 12, .patLastLogical, 0⟩, ⟨24, 8, .patLastWarnCause, 0⟩]⟩,
   ⟨0x0000A030, 1, 0, 1, .arr, [⟨0, 3, .patClassSelClass, 0⟩]⟩,
   ⟨0x0000A034, 1, 0, 1, .arr, [⟨0, 12, .patClassInfoPhys, 0⟩, ⟨16, 12, .patClassInfoLogical, 0⟩]⟩,
   ⟨0x0000A038, 1, 0, 1, .arr, [⟨0, 8, .patClassSpareLeft, 0⟩, ⟨8, 8, .patClassSpareFailed, 0⟩]⟩,
   ⟨0x0000A040, 1, 0, 1, .arr, [⟨0, 12, .patUnitSelUnit, 0⟩]⟩,
   ⟨0x0000A044, 1, 0, 1, .arr, [⟨0, 12, .patUnitInfoLogical, 0⟩, ⟨12, 1, .patUnitInfoFailed, 0⟩, ⟨13, 1, .patUnitInfoSpare, 0⟩]⟩,
   ⟨0x0000A048, 1, 0, 1, .arr, [⟨0, 32, .patUnitWearCount, 0⟩]⟩]

/-- Registers with prefix YLJ_ of the privileged view (19 R505). -/
def mapYlj : List MapRow :=
  [⟨0x0000C000, 1, 0, 1, .arr, [⟨0, 2, .yljCfgMode, 0⟩, ⟨2, 1, .yljCfgWrap, 0⟩]⟩,
   ⟨0x0000C004, 1, 0, 1, .arr, [⟨0, 1, .yljStatRecording, 0⟩, ⟨1, 1, .yljStatReplaying, 0⟩, ⟨2, 1, .yljStatLost, 0⟩, ⟨3, 1, .yljStatDiverged, 0⟩, ⟨4, 1, .yljStatDone, 0⟩, ⟨8, 4, .yljStatCond, 0⟩]⟩,
   ⟨0x0000C008, 1, 0, 1, .arr, [⟨0, 1, .yljCtrlClose, 0⟩]⟩,
   ⟨0x0000C010, 1, 0, 1, .arr, [⟨16, 16, .yljBaseBase, 16⟩]⟩,
   ⟨0x0000C014, 1, 0, 1, .arr, [⟨0, 32, .yljBaseBase, 32⟩]⟩,
   ⟨0x0000C018, 1, 0, 1, .arr, [⟨0, 24, .yljSizeUnits, 0⟩]⟩,
   ⟨0x0000C020, 1, 0, 1, .arr, [⟨16, 16, .yljSrcBaseBase, 16⟩]⟩,
   ⟨0x0000C024, 1, 0, 1, .arr, [⟨0, 32, .yljSrcBaseBase, 32⟩]⟩,
   ⟨0x0000C028, 1, 0, 1, .arr, [⟨0, 24, .yljSrcSizeUnits, 0⟩]⟩,
   ⟨0x0000C02C, 1, 0, 1, .arr, [⟨0, 32, .yljRsvBytes, 0⟩]⟩,
   ⟨0x0000C030, 1, 0, 1, .arr, [⟨0, 32, .yljNextIndex, 0⟩]⟩,
   ⟨0x0000C034, 1, 0, 1, .arr, [⟨0, 32, .yljNextIndex, 32⟩]⟩,
   ⟨0x0000C038, 1, 0, 1, .arr, [⟨0, 32, .yljDivIndexIndex, 0⟩]⟩,
   ⟨0x0000C03C, 1, 0, 1, .arr, [⟨0, 32, .yljDivIndexIndex, 32⟩]⟩,
   ⟨0x0000C040, 1, 0, 1, .arr, [⟨0, 5, .yljDivInfoType, 0⟩, ⟨8, 5, .yljDivInfoOffset, 0⟩]⟩,
   ⟨0x0000C044, 1, 0, 1, .arr, [⟨0, 32, .yljLostCount, 0⟩]⟩,
   ⟨0x0000C048, 1, 0, 1, .arr, [⟨0, 32, .yljIgnoredCount, 0⟩]⟩]

/-- The privileged view, but for its ring block, sync page, MSI-X table, monitor and debug windows (19 R505). -/
def privMap : List MapRow :=
  mapTick ++ mapGrd ++ mapStg ++ mapCdr ++ mapSeal ++ mapDig ++ mapLat ++ mapPnt ++ mapFj0 ++ mapFj1 ++ mapXpt0 ++ mapXpt1 ++ mapSync ++ mapPwr ++ mapPat ++ mapYlj

/-- One ring's registers, offsets relative to the ring (13 R378). -/
def ringMap : List MapRow :=
  [⟨0x00, 1, 0, 1, .arr, [⟨12, 20, .ringBaseBase, 12⟩]⟩,
   ⟨0x04, 1, 0, 1, .arr, [⟨0, 32, .ringBaseBase, 32⟩]⟩,
   ⟨0x08, 1, 0, 1, .arr, [⟨0, 1, .ringCfgEnable, 0⟩, ⟨1, 1, .ringCfgFormat, 0⟩, ⟨2, 1, .ringCfgSpace, 0⟩, ⟨8, 4, .ringCfgSz, 0⟩]⟩,
   ⟨0x0C, 1, 0, 1, .arr, [⟨0, 16, .ringTailTail, 0⟩]⟩,
   ⟨0x10, 1, 0, 1, .arr, [⟨0, 16, .ringHeadHead, 0⟩]⟩,
   ⟨0x14, 1, 0, 1, .arr, [⟨0, 1, .ringStatOwnWait, 0⟩, ⟨1, 1, .ringStatTailErr, 0⟩, ⟨2, 1, .ringStatCmplWait, 0⟩]⟩,
   ⟨0x18, 1, 0, 1, .arr, [⟨0, 32, .ringEntriesCount, 0⟩]⟩,
   ⟨0x1C, 1, 0, 1, .arr, [⟨0, 32, .ringMalformedCount, 0⟩]⟩,
   ⟨0x40, 1, 0, 1, .arr, [⟨12, 20, .cringBaseBase, 12⟩]⟩,
   ⟨0x44, 1, 0, 1, .arr, [⟨0, 32, .cringBaseBase, 32⟩]⟩,
   ⟨0x48, 1, 0, 1, .arr, [⟨0, 4, .cringCfgSz, 0⟩, ⟨4, 1, .cringCfgIrqAll, 0⟩, ⟨5, 1, .cringCfgSpace, 0⟩, ⟨16, 6, .cringCfgVector, 0⟩]⟩,
   ⟨0x4C, 1, 0, 1, .arr, [⟨0, 16, .cringHeadHead, 0⟩]⟩,
   ⟨0x50, 1, 0, 1, .arr, [⟨0, 16, .cringTailTail, 0⟩, ⟨16, 1, .cringTailPhase, 0⟩]⟩,
   ⟨0x54, 1, 0, 1, .arr, [⟨0, 1, .cringStatFull, 0⟩, ⟨1, 1, .cringStatWaited, 0⟩]⟩,
   ⟨0x58, 1, 0, 1, .arr, [⟨0, 32, .cringWaitsCount, 0⟩]⟩]

/-- One function's MSI-X table, offsets relative to the table (19 R510). -/
def msixMap : List MapRow :=
  [⟨0, 64, 16, 1, .arr, [⟨2, 30, .fjMsixAddrLoAddr, 0⟩]⟩,
   ⟨4, 64, 16, 1, .arr, [⟨0, 32, .fjMsixAddrHiAddr, 0⟩]⟩,
   ⟨8, 64, 16, 1, .arr, [⟨0, 32, .fjMsixDataData, 0⟩]⟩,
   ⟨12, 64, 16, 1, .arr, [⟨0, 1, .fjMsixCtrlMask, 0⟩]⟩]

end Sys2Proof.Machine
end

