-- ==== Sys2Proof/Machine/Coder.lean ====
section
/-! DEFINITION. Exponent coding and the Mould (05), and the block header and block record (06 R181, R182): the pure functions. -/
namespace Sys2Proof.Machine

/-- A coded format: element bytes, mantissa bits, exponent bits (05 R152). -/
structure CodedFmt where
  size : Nat
  m : Nat
  e : Nat
  deriving DecidableEq, Repr

/-- The three coded formats, by FORMAT code (05 R152); no other format is coded. -/
def codedFmt : Nat → Option CodedFmt
  | 1 => some ⟨4, 23, 8⟩
  | 2 => some ⟨2, 7, 8⟩
  | 3 => some ⟨2, 10, 5⟩
  | _ => none

/-- The whole elements of a block, little-endian (05 R154); trailing bytes form no value (R155). -/
def elementsOf (f : CodedFmt) (raw : Bytes) : List Nat :=
  ((chunks f.size raw).filter (fun c => c.length = f.size)).map leNat

def expOf (f : CodedFmt) (v : Nat) : Nat := bitsOf v f.m f.e

/-- (sign << m) | mantissa (05 R154). -/
def residueOf (f : CodedFmt) (v : Nat) : Nat := bitsOf v (f.m + f.e) 1 * 2 ^ f.m + bitsOf v 0 f.m

def joinValue (f : CodedFmt) (exp res : Nat) : Nat :=
  bitsOf res f.m 1 * 2 ^ (f.m + f.e) + exp * 2 ^ f.m + bitsOf res 0 f.m

/-- The census of a segment: one count for each exponent value (05 R155). -/
def censusAdd (f : CodedFmt) (counts : List Nat) (raw : Bytes) : List Nat :=
  (elementsOf f raw).foldl (fun c v => c.modify (expOf f v) (· + 1)) counts

def censusZero (f : CodedFmt) : List Nat := List.replicate (2 ^ f.e) 0

def censusOf (f : CodedFmt) (blocks : List Bytes) : List Nat := blocks.foldl (censusAdd f) (censusZero f)

/-- The escape symbol ranks as symbol value 256 (05 R156). -/
def symEsc : Nat := 256

/-- Insertion into a list sorted by `lt`, behind equal elements. -/
def insertBy {α : Type} (lt : α → α → Bool) (a : α) : List α → List α
  | [] => [a]
  | b :: bs => if lt a b then a :: b :: bs else b :: insertBy lt a bs

def sortBy {α : Type} (lt : α → α → Bool) (l : List α) : List α := l.foldl (fun acc a => insertBy lt a acc) []

/-- The selected symbols with their starting weights: up to 63 exponents by descending count, equal counts by ascending value, and ESC
with 1 plus the counts of the values not selected (05 R156). -/
def selectSymbols (counts : List Nat) : List (Nat × Nat) :=
  let nz := (counts.zipIdx.filter (fun p => p.1 ≠ 0)).map (fun p => (p.2, p.1))
  let sorted := sortBy (fun a b => a.2 > b.2 || (a.2 == b.2 && a.1 < b.1)) nz
  let sel := sorted.take 63
  sel ++ [(symEsc, 1 + ((sorted.drop 63).map (·.2)).sum)]

/-- A tree under construction: its weight, and its leaves with their depths. -/
structure HNode where
  weight : Nat
  leaves : List (Nat × Nat)
  deriving DecidableEq, Repr

/-- The lowest-weight item of the two queues, the leaf on equal weight (05 R157). -/
def takeLow (ls is : List HNode) : Option (HNode × List HNode × List HNode) :=
  match ls, is with
  | [], [] => none
  | l :: lr, [] => some (l, lr, [])
  | [], i :: ir => some (i, [], ir)
  | l :: lr, i :: ir => if l.weight ≤ i.weight then some (l, lr, i :: ir) else some (i, l :: lr, ir)

/-- Merges until one node is left; the fuel is the number of merges (05 R157). -/
def huffMerge : Nat → List HNode → List HNode → List (Nat × Nat)
  | 0, ls, is => match ls ++ is with | n :: _ => n.leaves | [] => []
  | f + 1, ls, is =>
    match takeLow ls is with
    | none => []
    | some (a, ls1, is1) =>
      match takeLow ls1 is1 with
      | none => a.leaves
      | some (b, ls2, is2) =>
        huffMerge f ls2 (is2 ++ [⟨a.weight + b.weight, (a.leaves ++ b.leaves).map (fun p => (p.1, p.2 + 1))⟩])

/-- Code lengths of the symbols with these weights (05 R157). -/
def huffLengths (ws : List (Nat × Nat)) : List (Nat × Nat) :=
  let leaves := (sortBy (fun a b => a.2 < b.2 || (a.2 == b.2 && a.1 < b.1)) ws).map (fun p => (⟨p.2, [(p.1, 0)]⟩ : HNode))
  huffMerge (ws.length - 1) leaves []

/-- Lengths with no length above 15: every weight is halved upward and the tree built again (05 R157); 23 halvings bring every weight to 1. -/
def buildLengthsFuel : Nat → List (Nat × Nat) → List (Nat × Nat)
  | 0, ws => huffLengths ws
  | f + 1, ws =>
    let ls := huffLengths ws
    if ls.all (fun p => p.2 ≤ 15) then ls else buildLengthsFuel f (ws.map (fun p => (p.1, (p.2 + 1) / 2)))

/-- A Mould: the format, the selected exponents with their code lengths in ascending order of exponent, and the length of ESC (05 R166). -/
structure Mould where
  format : Nat
  entries : List (Nat × Nat)
  escLen : Nat
  deriving DecidableEq, Repr

/-- A segment whose census holds only ESC and one other symbol gives both length 1; ESC alone cannot occur, since a segment is coded only
when its census counted a value (05 R153, R156). -/
def buildMould (format : Nat) (counts : List Nat) : Mould :=
  let ls := buildLengthsFuel 24 (selectSymbols counts)
  { format := format
    entries := sortBy (fun a b => a.1 < b.1) (ls.filter (fun p => p.1 ≠ symEsc))
    escLen := ((ls.find? (fun p => p.1 == symEsc)).map (·.2)).getD 0 }

/-- Symbols in canonical order: by length, then symbol value, ESC last among equals (05 R158). -/
def Mould.order (m : Mould) : List (Nat × Nat) :=
  sortBy (fun a b => a.2 < b.2 || (a.2 == b.2 && a.1 < b.1)) (m.entries ++ [(symEsc, m.escLen)])

/-- Codewords assigned canonically: (symbol, length, codeword) (05 R158). -/
def canonCodes : Option (Nat × Nat) → List (Nat × Nat) → List (Nat × Nat × Nat)
  | _, [] => []
  | none, (s, l) :: r => (s, l, 0) :: canonCodes (some (l, 0)) r
  | some (pl, pc), (s, l) :: r =>
    let c := (pc + 1) * 2 ^ (l - pl)
    (s, l, c) :: canonCodes (some (l, c)) r

def Mould.codes (m : Mould) : List (Nat × Nat × Nat) := canonCodes none m.order

/-- The bytes of a Mould without its TAG: bytes 0x00 to 0x03, and bytes 0x08 to the end (05 R166). -/
def Mould.parts (m : Mould) : Bytes × Bytes :=
  let body := m.entries.flatMap (fun p => [BitVec.ofNat 8 p.1, BitVec.ofNat 8 p.2])
  (([1, m.format, m.entries.length, m.escLen].map (BitVec.ofNat 8)), body ++ zeros (roundUp body.length 8 - body.length))

/-- CRC-32C over the bytes before and after it, with bit 0 forced to 1 (05 R166). -/
def mouldTagOf (a b : Bytes) : Nat := let c := crc32c (a ++ b); if c % 2 = 0 then c + 1 else c

def Mould.tag (m : Mould) : Nat := mouldTagOf m.parts.1 m.parts.2

def Mould.bytes (m : Mould) : Bytes := m.parts.1 ++ natLe 4 m.tag ++ m.parts.2

def strictAsc : List Nat → Bool
  | a :: b :: r => a < b && strictAsc (b :: r)
  | _ => true

/-- The Mould a byte string serialises, if it is valid (05 R167, all but the agreement with a segment record). -/
def parseMould (bs : Bytes) : Option Mould :=
  let fmt := fieldAt bs 1 1
  let n := fieldAt bs 2 1
  let esc := fieldAt bs 3 1
  match codedFmt fmt with
  | none => none
  | some f =>
    let es := (chunks 2 (slice bs 8 (2 * n))).map (fun c => (fieldAt c 0 1, fieldAt c 1 1))
    if bs.length ≠ roundUp (8 + 2 * n) 8 then none
    else if fieldAt bs 0 1 = 1 ∧ 1 ≤ n ∧ n ≤ (if fmt = 3 then 32 else 63) ∧ 1 ≤ esc ∧ esc ≤ 15
        ∧ es.all (fun p => p.1 < 2 ^ f.e && 1 ≤ p.2 && p.2 ≤ 15) ∧ strictAsc (es.map (·.1))
        ∧ (bs.drop (8 + 2 * n)).all (· == 0)
        ∧ fieldAt bs 4 4 = mouldTagOf (bs.take 4) (bs.drop 8)
        ∧ ((es.map (fun p => 2 ^ (15 - p.2))).sum + 2 ^ (15 - esc)) = 2 ^ 15 then some ⟨fmt, es, esc⟩
    else none

/-! ### Blocks -/

def codeFor (codes : List (Nat × Nat × Nat)) (e exp : Nat) : List Bool :=
  match codes.find? (fun c => c.1 == exp) with
  | some (_, l, c) => bitsMsb l c
  | none =>
    match codes.find? (fun c => c.1 == symEsc) with
    | some (_, l, c) => bitsMsb l c ++ bitsMsb e exp
    | none => []

/-- The values j, j + 32, j + 64, … of a block (05 R160). -/
def substream (vs : List Nat) (j : Nat) : List Nat := (vs.zipIdx.filter (fun p => p.2 % 32 == j)).map (·.1)

/-- The payload of a coded block (05 R161, R162), none when a substream is longer than SUB_LEN can say. -/
def codedPayload (f : CodedFmt) (mo : Mould) (raw : Bytes) : Bytes :=
  let vs := elementsOf f raw
  let codes := mo.codes
  let subs := (List.range 32).map (fun j => packBits ((substream vs j).flatMap (fun v => codeFor codes f.e (expOf f v))))
  subs.flatMap (fun s => natLe 2 s.length) ++
    packBits (vs.flatMap (fun v => bitsLsb (f.m + 1) (residueOf f v))) ++ subs.flatMap id

/-- The payload a block leaves the encoder with, and its RAW flag (05 R163). -/
def encodeBlock (mo : Option Mould) (raw : Bytes) : Bytes × Bool :=
  match mo with
  | none => (raw, true)
  | some m =>
    match codedFmt m.format with
    | none => (raw, true)
    | some f =>
      if raw.length % f.size ≠ 0 then (raw, true)
      else
        let p := codedPayload f m raw
        if p.length ≥ raw.length then (raw, true) else (p, false)

/-- One codeword off a bit sequence: the symbols whose codeword is a prefix; the fuel bounds the codeword length. -/
def matchCode (codes : List (Nat × Nat × Nat)) : Nat → Nat → Nat → List Bool → Option (Nat × List Bool)
  | 0, _, _, _ => none
  | f + 1, l, acc, bs =>
    match codes.find? (fun c => c.2.1 == l && c.2.2 == acc) with
    | some (s, _, _) => if l = 0 then none else some (s, bs)
    | none =>
      match bs with
      | [] => none
      | b :: r => matchCode codes f (l + 1) (2 * acc + b2n b) r

def bitsToNatMsb (bs : List Bool) : Nat := bs.foldl (fun a b => 2 * a + b2n b) 0

/-- `n` exponents off a substream, then fewer than 8 pad bits, all zero (05 R168 check 5). -/
def decodeSub (codes : List (Nat × Nat × Nat)) (e : Nat) : Nat → List Bool → Option (List Nat)
  | 0, bs => if bs.length < 8 ∧ bs.all (· == false) then some [] else none
  | n + 1, bs =>
    match matchCode codes 17 0 0 bs with
    | none => none
    | some (s, r) =>
      if s = symEsc then
        if r.length < e then none
        else (decodeSub codes e n (r.drop e)).map (bitsToNatMsb (r.take e) :: ·)
      else (decodeSub codes e n r).map (s :: ·)

/-- The number of values of substream j (05 R160). -/
def subCount (n j : Nat) : Nat := if j ≥ n then 0 else ceilDiv (n - j) 32

/-- The raw bytes of a coded payload, none where check 4 or 5 of 05 R168 fails. -/
def decodePayload (mo : Mould) (rawLen : Nat) (p : Bytes) : Option Bytes :=
  match codedFmt mo.format with
  | none => none
  | some f =>
    let n := rawLen / f.size
    let r := ceilDiv (n * (f.m + 1)) 8
    let lens := (List.range 32).map (fun j => fieldAt p (2 * j) 2)
    if rawLen % f.size ≠ 0 ∨ p.length ≠ 64 + r + lens.sum then none
    else
      let res := (chunks (f.m + 1) ((unpackBits (slice p 64 r)).take (n * (f.m + 1)))).map ofBitsLsb
      let starts := lens.foldl (fun (a : List Nat × Nat) l => (a.1 ++ [a.2], a.2 + l)) ([], 64 + r)
      let subs := (List.range 32).map (fun j =>
        if subCount n j = 0 then (if lens.getD j 0 = 0 then some [] else none)
        else decodeSub mo.codes f.e (subCount n j) (unpackBits (slice p (starts.1.getD j 0) (lens.getD j 0))))
      if subs.any Option.isNone then none
      else
        let ss := subs.map (·.getD [])
        some ((List.range n).flatMap (fun i =>
          natLe f.size (joinValue f ((ss.getD (i % 32) []).getD (i / 32) 0) (res.getD i 0))))

/-! ### The block header and the block record (06 R181, R182) -/

structure BlockHdr where
  raw : Bool
  sealed : Bool
  keySlot : Nat
  mouldTag : Nat
  step : Nat
  shardId : Nat
  segment : Nat
  block : Nat
  rawLen : Nat
  codedLen : Nat
  nonce : Bytes
  deriving DecidableEq, Repr

/-- Bytes 0x00 to 0x2F, the additional data of GCM (06 R180, R181). -/
def BlockHdr.aad (h : BlockHdr) : Bytes :=
  [3, BitVec.ofNat 8 (b2n h.raw + 2 * b2n h.sealed), BitVec.ofNat 8 h.keySlot, 0] ++ natLe 4 h.mouldTag ++ natLe 8 h.step ++
    natLe 8 h.shardId ++ natLe 4 h.segment ++ natLe 4 h.block ++ natLe 4 h.rawLen ++ natLe 4 h.codedLen ++ zeros 8

def BlockHdr.bytes (h : BlockHdr) : Bytes := h.aad ++ sliceZ h.nonce 0 12 ++ zeros 4

/-- The header of 64 bytes, none when HDR_VERSION or a res0 field fails (06 R181, 00 R20). -/
def parseBlockHdr (b : Bytes) : Option BlockHdr :=
  if fieldAt b 0 1 = 3 ∧ fieldAt b 1 1 < 4 ∧ fieldAt b 3 1 = 0 ∧ fieldAt b 0x0E 2 = 0 ∧ fieldAt b 0x18 4 < 2 ^ 20
      ∧ fieldAt b 0x1D 3 = 0 ∧ fieldAt b 0x28 8 = 0 ∧ fieldAt b 0x3C 4 = 0 then
    some { raw := bitOf (fieldAt b 1 1) 0, sealed := bitOf (fieldAt b 1 1) 1, keySlot := fieldAt b 2 1, mouldTag := fieldAt b 4 4,
           step := fieldAt b 8 6, shardId := fieldAt b 0x10 8, segment := fieldAt b 0x18 4, block := fieldAt b 0x1C 1,
           rawLen := fieldAt b 0x20 4, codedLen := fieldAt b 0x24 4, nonce := sliceZ b 0x30 12 }
  else none

/-- Record length: CODED_LEN + 68 B unsealed, CODED_LEN + 84 B sealed (06 R182). -/
def BlockHdr.recLen (h : BlockHdr) : Nat := h.codedLen + (if h.sealed then 84 else 68)

/-- The 12-byte nonce: prefix, then counter, little-endian (06 R183). -/
def nonceOf (pfx ctr : Nat) : Bytes := natLe 4 pfx ++ natLe 8 ctr

/-- The record of a block: header, payload and its CRC-32C (05 R164), sealed under a key when one is given (06 R180, R182). -/
def buildRecord (h : BlockHdr) (payload : Bytes) (key : Option Bytes) : Bytes :=
  let body := payload ++ natLe 4 (crc32c payload)
  match key with
  | none => h.bytes ++ body
  | some k => let r := gcmSeal k (sliceZ h.nonce 0 12) h.aad body; h.bytes ++ r.1 ++ r.2

/-- The body of a record opened: none when the tag does not match (06 R195). -/
def openBody (h : BlockHdr) (key : Option Bytes) (rec : Bytes) : Option Bytes :=
  let body := slice rec 64 (h.codedLen + 4)
  match h.sealed, key with
  | false, _ => some body
  | true, some k => gcmOpen k h.nonce h.aad body (slice rec (68 + h.codedLen) 16)
  | true, none => none

/-- The checks of 05 R168 in order on an opened body: the raw bytes, or the number of the check that fails. `mo` is the segment's Mould,
none in an uncoded segment, where a block with RAW clear fails as check 4 (DESIGN CHOICE, log entry 143). -/
def decodeBody (h : BlockHdr) (mo : Option Mould) (body : Bytes) : Except Nat Bytes :=
  let p := body.take h.codedLen
  if body.length ≠ h.codedLen + 4 ∨ fieldAt body h.codedLen 4 ≠ crc32c p then .error 1
  else if h.mouldTag ≠ (mo.map Mould.tag).getD 0 then .error 2
  else if h.raw then (if h.codedLen ≠ h.rawLen then .error 3 else .ok p)
  else
    match mo with
    | none => .error 4
    | some m =>
      match codedFmt m.format with
      | none => .error 4
      | some f =>
        let n := h.rawLen / f.size
        let r := ceilDiv (n * (f.m + 1)) 8
        if h.rawLen % f.size ≠ 0 ∨ h.codedLen ≠ 64 + r + ((List.range 32).map (fun j => fieldAt p (2 * j) 2)).sum then .error 4
        else match decodePayload m h.rawLen p with
          | none => .error 5
          | some raw => .ok raw

/-- One entry of the segment's index table (05 R165). -/
def indexEntry (offset payloadLen : Nat) (raw : Bool) : Bytes :=
  natLe 4 offset ++ natLe 4 (payloadLen + (if raw then 2 ^ 17 else 0))

end Sys2Proof.Machine
end

