-- ==== Sys2Proof/Machine/Float.lean ====
section
/-! DEFINITION. Exact values and their roundings: the formats of the lattice (08 R225) and one rounding to nearest, ties to even (R229). -/
namespace Sys2Proof.Machine

/-- An exact value: ± m × 2^e, an infinity, or a NaN. -/
inductive FVal where
  | fin (neg : Bool) (m : Nat) (e : Int)
  | inf (neg : Bool)
  | nan
  deriving DecidableEq, Repr

/-- How a format uses the top exponent. -/
inductive FSpecial where
  /-- every exponent bit 1 is an infinity or a NaN -/
  | ieee
  /-- only 1111_111 is a NaN (OCP E4M3) -/
  | e4m3
  /-- no non-finite pattern -/
  | none
  deriving DecidableEq, Repr

/-- A binary format: exponent bits, mantissa bits, bias, largest finite value as `maxM × 2^maxE`. -/
structure FFmt where
  eb : Nat
  mb : Nat
  bias : Int
  special : FSpecial
  maxM : Nat
  maxE : Int
  deriving DecidableEq, Repr

def fp32 : FFmt := ⟨8, 23, 127, .ieee, 2 ^ 24 - 1, 104⟩
def bf16 : FFmt := ⟨8, 7, 127, .ieee, 255, 120⟩
def fp16 : FFmt := ⟨5, 10, 15, .ieee, 2047, 5⟩
def e4m3 : FFmt := ⟨4, 3, 7, .e4m3, 14, 5⟩
def e5m2 : FFmt := ⟨5, 2, 15, .ieee, 7, 13⟩
def e2m3 : FFmt := ⟨2, 3, 1, .none, 15, -1⟩
def e3m2 : FFmt := ⟨3, 2, 3, .none, 7, 2⟩
def e2m1 : FFmt := ⟨2, 1, 1, .none, 3, 1⟩

/-- The value of a bit pattern (08 R225). -/
def FFmt.decode (f : FFmt) (v : Nat) : FVal :=
  let neg := bitOf v (f.eb + f.mb)
  let e := bitsOf v f.mb f.eb
  let m := bitsOf v 0 f.mb
  match f.special with
  | .ieee =>
    if e = 2 ^ f.eb - 1 then (if m = 0 then .inf neg else .nan)
    else if e = 0 then .fin neg m (1 - f.bias - f.mb) else .fin neg (2 ^ f.mb + m) (e - f.bias - f.mb)
  | .e4m3 =>
    if e = 15 ∧ m = 7 then .nan
    else if e = 0 then .fin neg m (1 - f.bias - f.mb) else .fin neg (2 ^ f.mb + m) (e - f.bias - f.mb)
  | .none =>
    if e = 0 then .fin neg m (1 - f.bias - f.mb) else .fin neg (2 ^ f.mb + m) (e - f.bias - f.mb)

/-- m × 2^d to the nearest integer, ties to even. -/
def rneScale (m : Nat) (d : Int) : Nat :=
  match d with
  | .ofNat n => m * 2 ^ n
  | .negSucc n =>
    let k := n + 1
    let q := m / 2 ^ k
    let r := m % 2 ^ k
    let half := 2 ^ (k - 1)
    if r > half ∨ (r = half ∧ q % 2 = 1) then q + 1 else q

/-- floor(log2 (m × 2^e)) for m above 0. -/
def floorLog2 (m : Nat) (e : Int) : Int := (Nat.log2 m : Int) + e

/-- m × 2^e on the format's grid with the exponent range unbounded above: the integer and the quantum's exponent. -/
def FFmt.grid (f : FFmt) (m : Nat) (e : Int) : Nat × Int :=
  let emin := 1 - f.bias
  let qe := max (floorLog2 m e) emin - (f.mb : Int)
  (rneScale m (e - qe), qe)

/-- a × 2^x > b × 2^y. -/
def gtScaled (a : Nat) (x : Int) (b : Nat) (y : Int) : Bool :=
  let z := min x y
  decide (a * 2 ^ (x - z).toNat > b * 2 ^ (y - z).toNat)

/-- The bits of a magnitude on the grid that does not exceed the format's maximum. -/
def FFmt.packGrid (f : FFmt) (n : Nat) (qe : Int) : Nat :=
  -- n < 2^(mb+1) unless rounding carried into the next binade
  let (n, qe) := if n = 2 ^ (f.mb + 1) then (2 ^ f.mb, qe + 1) else (n, qe)
  if n < 2 ^ f.mb then n else ((qe + f.mb + f.bias).toNat) * 2 ^ f.mb + (n - 2 ^ f.mb)

def signBit (f : FFmt) (neg : Bool) : Nat := if neg then 2 ^ (f.eb + f.mb) else 0

/-- RNE into an IEEE format: the bits, and whether a finite value overflowed to infinity (08 R228, R235). NaN is canonical. -/
def FFmt.encIeee (f : FFmt) : FVal → Nat × Bool
  | .nan => ((2 ^ f.eb - 1) * 2 ^ f.mb + 2 ^ (f.mb - 1), false)
  | .inf neg => (signBit f neg + (2 ^ f.eb - 1) * 2 ^ f.mb, false)
  | .fin neg m e =>
    if m = 0 then (signBit f neg, false)
    else
      let (n, qe) := f.grid m e
      if gtScaled n qe f.maxM f.maxE then (signBit f neg + (2 ^ f.eb - 1) * 2 ^ f.mb, true)
      else (signBit f neg + f.packGrid n qe, false)

/-- RNE of a finite value into a saturating format: the bits, and whether it saturated (08 R235). -/
def FFmt.encSat (f : FFmt) (neg : Bool) (m : Nat) (e : Int) : Nat × Bool :=
  if m = 0 then (signBit f neg, false)
  else
    let (n, qe) := f.grid m e
    if gtScaled n qe f.maxM f.maxE then
      (signBit f neg + f.packGrid (rneScale f.maxM (f.maxE - ((floorLog2 f.maxM f.maxE) - f.mb))) ((floorLog2 f.maxM f.maxE) - f.mb), true)
    else (signBit f neg + f.packGrid n qe, false)

/-- A value rounded to FP32, as bits. -/
def toF32 (v : FVal) : Nat := (fp32.encIeee v).1

def ofF32 (b : Nat) : FVal := fp32.decode b

/-- Exact product (IEEE 754 rules for infinities and zeros). -/
def FVal.mul : FVal → FVal → FVal
  | .nan, _ => .nan
  | _, .nan => .nan
  | .inf a, .inf b => .inf (a != b)
  | .inf a, .fin b m _ => if m = 0 then .nan else .inf (a != b)
  | .fin a m _, .inf b => if m = 0 then .nan else .inf (a != b)
  | .fin a m e, .fin b n f => .fin (a != b) (m * n) (e + f)

/-- Exact sum; an exact zero sum is +0 unless both terms are −0 (08 R228). -/
def FVal.add : FVal → FVal → FVal
  | .nan, _ => .nan
  | _, .nan => .nan
  | .inf a, .inf b => if a = b then .inf a else .nan
  | .inf a, .fin _ _ _ => .inf a
  | .fin _ _ _, .inf b => .inf b
  | .fin a m e, .fin b n f =>
    let z := min e f
    let x : Int := (if a then -1 else 1) * (m * 2 ^ (e - z).toNat : Nat)
    let y : Int := (if b then -1 else 1) * (n * 2 ^ (f - z).toNat : Nat)
    let s := x + y
    if s = 0 then .fin (a && b && m == 0 && n == 0) 0 0 else .fin (decide (s < 0)) s.natAbs z

def FVal.isFinite : FVal → Bool
  | .fin _ _ _ => true
  | _ => false

def f32Finite (b : Nat) : Bool := bitsOf b 23 8 != 255

end Sys2Proof.Machine
end

