-- ==== Sys2Proof/Machine/LatticeFn.lean ====
section
/-! DEFINITION. The transform lattice's arithmetic (08 R225 to R239): what a stream of elements becomes, its row statistics, and its export. -/
namespace Sys2Proof.Machine

/-- Bits of one element by format code (08 R225), 0 where the code names no format. -/
def elemBits : Nat → Nat
  | 1 => 32 | 2 => 16 | 3 => 16 | 4 => 8 | 5 => 8 | 6 => 8 | 7 => 8 | 8 => 6 | 9 => 6 | 10 => 4 | 11 => 8
  | _ => 0

/-- Group size G by format code (08 R225). -/
def groupOf : Nat → Nat
  | 1 => 4 | 2 => 8 | 3 => 8
  | _ => 16

def isMx (c : Nat) : Bool := 6 ≤ c && c ≤ 10

/-- The element format of a code; INT8 has none. -/
def elemFmt : Nat → FFmt
  | 1 => fp32 | 2 => bf16 | 3 => fp16 | 4 => e4m3 | 5 => e5m2 | 6 => { e4m3 with special := .e4m3 } | 7 => e5m2
  | 8 => e2m3 | 9 => e3m2 | _ => e2m1

/-- e_max of an MX element type (08 R236). -/
def mxEmax : Nat → Int
  | 6 => 8 | 7 => 15 | 8 => 2 | 9 => 4
  | _ => 2

/-- Bytes of `n` elements. -/
def bytesOfElems (c n : Nat) : Nat := ceilDiv (n * elemBits c) 8

/-- The whole elements of a byte string, packed from bit 0 (00 R12, 08 R226). -/
def elemsOf (c : Nat) (bs : Bytes) : List Nat :=
  match elemBits c with
  | 0 => []
  | 8 => bs.map (·.toNat)
  | 16 => ((chunks 2 bs).filter (fun x => x.length = 2)).map leNat
  | 32 => ((chunks 4 bs).filter (fun x => x.length = 4)).map leNat
  | w => ((chunks w (unpackBits bs)).filter (fun x => x.length = w)).map ofBitsLsb

def packElems (c : Nat) (vs : List Nat) : Bytes :=
  match elemBits c with
  | 0 => []
  | 8 => vs.map (BitVec.ofNat 8)
  | 16 => vs.flatMap (natLe 2)
  | 32 => vs.flatMap (natLe 4)
  | w => packBits (vs.flatMap (bitsLsb w))

/-- The FP32 bits element `i` decodes to, none while its scale has not arrived (08 R225). `rowLen` places the per-row scale of INT8. -/
def decodeElem (c rowLen : Nat) (scales : Bytes) (i v : Nat) : Option Nat :=
  if isMx c then
    if i / 32 < scales.length then
      let s := (scales.getD (i / 32) 0).toNat
      if s = 255 then some 0x7FC00000
      else some (toF32 (((elemFmt c).decode v).mul (.fin false 1 ((s : Int) - 127))))
    else none
  else if c = 11 then
    let r := if rowLen = 0 then 0 else i / rowLen
    if 4 * r + 4 ≤ scales.length then
      let iv := signedOf 8 v
      some (toF32 ((FVal.fin (decide (iv < 0)) iv.natAbs 0).mul (ofF32 (fieldAt scales (4 * r) 4))))
    else none
  else some (toF32 ((elemFmt c).decode v))

/-- Whether an input element is non-finite by its own pattern (08 R227; the classifier of R244 has no scales: MX and INT8 windows are
classified by their element patterns alone). -/
def patternNonfinite (c v : Nat) : Bool :=
  if c = 11 then false else !((elemFmt c).decode v).isFinite

/-- A job's lattice fields (08 "Where the lattice runs"). -/
structure LatCfg where
  op : Nat
  inFmt : Nat
  outFmt : Nat
  stats : Bool
  rowLen : Nat
  coefA : Nat
  coefB : Nat
  k : Nat
  w : List Nat
  part : Nat
  parts : Nat
  scaleSrc : Nat
  lanes : Nat
  deriving DecidableEq, Repr

/-- A job with OP NONE, STATS 0 and equal formats does not enter the lattice (08). -/
def LatCfg.active (l : LatCfg) : Bool := l.op != 0 || l.stats || l.inFmt != l.outFmt

/-- MACs per element (08 R229). y is FP32, so every OUT_FMT but FP32 narrows it (DEDUCED, log entry 20). -/
def LatCfg.macs (l : LatCfg) : Nat :=
  (match l.op with | 1 => 2 | 2 => l.k | _ => 0) + (if l.stats then 2 else 0) + (if l.outFmt != 1 then 1 else 0)

/-- y of one element from the decoded sources (08 R229). -/
def latElem (l : LatCfg) (xs : List Nat) : Nat :=
  match l.op with
  | 1 => toF32 (((ofF32 l.coefA).mul (ofF32 (xs.getD 1 0))).add ((ofF32 l.coefB).mul (ofF32 (xs.getD 0 0))))
  | 2 =>
    let y0 := toF32 ((ofF32 (l.w.getD 0 0)).mul (ofF32 (xs.getD 0 0)))
    (List.range (l.k - 1)).foldl (fun y i =>
      toF32 ((ofF32 y).add ((ofF32 (l.w.getD (i + 1) 0)).mul (ofF32 (xs.getD (i + 1) 0))))) y0
  | _ => xs.getD 0 0

/-- Non-finite elements leave the reductions as +0 (08 R228). -/
def finOrZero (y : Nat) : FVal := if f32Finite y then ofF32 y else .fin false 0 0

def magOf : FVal → Nat × Int
  | .fin _ m e => (m, e)
  | _ => (0, 0)

/-- The sum of a group's products: FP32 bits, and whether the promotion overflowed (08 R232). -/
def groupSum (ps : List FVal) : Nat × Bool :=
  let mags := (ps.map magOf).filter (fun p => p.1 ≠ 0)
  match mags with
  | [] => (0, false)
  | p :: r =>
    let top := (r.map (fun q => floorLog2 q.1 q.2)).foldl max (floorLog2 p.1 p.2)
    let qe := top - 15
    let s : Int := (ps.map (fun v => match v with
      | .fin neg m e => (if neg then -1 else 1) * (rneScale m (e - qe) : Int)
      | _ => 0)).sum
    fp32.encIeee (.fin (decide (s < 0)) s.natAbs qe)

/-- An FP32 addition: the bits, and whether finite operands gave an infinity (08 R233). -/
def f32Add (a b : Nat) : Nat × Bool :=
  let r := fp32.encIeee ((ofF32 a).add (ofF32 b))
  (r.1, r.2 && f32Finite a && f32Finite b)

/-- One level of the balanced binary tree (08 R233). -/
def treeLevel : List Nat → List Nat × Bool
  | a :: b :: r =>
    let s := f32Add a b
    let t := treeLevel r
    (s.1 :: t.1, s.2 || t.2)
  | l => (l, false)

def treeSum : Nat → List Nat × Bool → Nat × Bool
  | 0, l => (l.1.getD 0 0, l.2)
  | f + 1, l => if l.1.length ≤ 1 then (l.1.getD 0 0, l.2) else let t := treeLevel l.1; treeSum f (t.1, l.2 || t.2)

/-- The reduced sum of a row's products over `lanes` lanes (08 R232, R233). -/
def rowReduce (g lanes : Nat) (ps : List FVal) : Nat × Bool :=
  let groups := (chunks g ps).map groupSum
  let acc := groups.zipIdx.foldl (fun (a : List Nat × Bool) p =>
    let ln := p.2 % lanes
    let s := f32Add (a.1.getD ln 0) p.1.1
    (a.1.set ln s.1, a.2 || p.1.2 || s.2)) (List.replicate lanes 0, false)
  treeSum 6 acc

/-- Row statistics (08 R231). -/
structure RowStats where
  count : Nat
  nonfinite : Nat
  max : Nat
  sum : Nat
  sumsq : Nat
  ovf : Bool
  deriving DecidableEq, Repr

def rowMax (ys : List Nat) : Nat := (ys.filter f32Finite).foldl (fun a y => Nat.max a (y % 2 ^ 31)) 0

def rowStats (g lanes : Nat) (ys : List Nat) : RowStats :=
  let s := rowReduce g lanes (ys.map finOrZero)
  let q := rowReduce g lanes (ys.map (fun y => (finOrZero y).mul (finOrZero y)))
  { count := ys.length, nonfinite := (ys.filter (fun y => !f32Finite y)).length, max := rowMax ys,
    sum := s.1, sumsq := q.1, ovf := s.2 || q.2 }

/-- The 32-byte statistics record of a row (08 R239). -/
def RowStats.record (r : RowStats) (l : LatCfg) (row : Nat) : Bytes :=
  natLe 4 row ++ natLe 1 (if l.parts = 1 then 0 else l.part) ++ natLe 1 l.parts ++ natLe 2 (b2n r.ovf) ++ natLe 4 r.count ++
    natLe 4 r.nonfinite ++ natLe 4 r.max ++ natLe 4 r.sum ++ natLe 4 r.sumsq ++ zeros 4

/-- What the export of some elements gives: the element bit patterns, the scales, and the counts of overflow and saturation. -/
structure Export where
  elems : List Nat
  scales : Bytes
  ovf : Nat
  sat : Nat
  deriving DecidableEq, Repr

/-- k of a per-row FP8 scale s = 2^k for a row whose MAX has these FP32 bits, sign aside (08 R235). -/
def fp8Scale (c maxBits : Nat) : Int :=
  let b := maxBits % 2 ^ 31
  if b = 0 then 0
  else if !f32Finite b then 127
  else
    let f := elemFmt c
    let (m, e) := magOf (ofF32 b)
    let k0 := floorLog2 m e - floorLog2 f.maxM f.maxE
    let k := if gtScaled m e f.maxM (f.maxE + k0) then k0 + 1 else k0
    max (-126) (min 127 k)

def encFp8 (c : Nat) (k : Int) (y : Nat) : Nat × Bool :=
  match ofF32 y with
  | .nan => (0x7F, false)
  | .inf neg => (if c = 4 then 0x7F else signBit e5m2 neg + 0x7C, false)
  | .fin neg m e => (elemFmt c).encSat neg m (e - k)

/-- The export of one scale unit: a row for FP8, 32 elements for MX, anything for the rest (08 R235, R236). -/
def exportUnit (c rowScale : Nat) (ys : List Nat) : Export :=
  if c = 4 ∨ c = 5 then
    let k := fp8Scale c rowScale
    let es := ys.map (encFp8 c k)
    ⟨es.map (·.1), natLe 4 (toF32 (.fin false 1 k)), 0, (es.filter (·.2)).length⟩
  else if isMx c then
    if ys.any (fun y => !f32Finite y) then ⟨ys.map (fun _ => 0), [0xFF], 0, 0⟩
    else
      let mags := (ys.map (fun y => magOf (ofF32 y))).filter (fun p => p.1 ≠ 0)
      let x : Int := match mags with
        | [] => -127
        | p :: r => max (-127) (min 127 ((r.map (fun q => floorLog2 q.1 q.2)).foldl max (floorLog2 p.1 p.2) - mxEmax c))
      let es := ys.map (fun y => match ofF32 y with
        | .fin neg m e => (elemFmt c).encSat neg m (e - x)
        | _ => (0, false))
      ⟨es.map (·.1), [BitVec.ofNat 8 (x + 127).toNat], 0, (es.filter (·.2)).length⟩
  else
    let es := ys.map (fun y => (elemFmt c).encIeee (ofF32 y))
    ⟨es.map (·.1), [], (es.filter (·.2)).length, 0⟩

def Export.cat (a b : Export) : Export := ⟨a.elems ++ b.elems, a.scales ++ b.scales, a.ovf + b.ovf, a.sat + b.sat⟩

/-- What the landed prefixes of the sources determine: output bytes, output scales, statistics of the whole rows, and the counts. -/
structure LatOut where
  out : Bytes
  scales : Bytes
  recs : List Bytes
  elems : Nat
  nonfinite : Nat
  ovf : Nat
  sat : Nat
  /-- elements in the row still open -/
  openRow : Nat
  deriving DecidableEq, Repr

/-- The FP32 results that the landed prefixes determine. -/
def latYs (l : LatCfg) (srcs scs : List Bytes) : List Nat :=
  let ess := srcs.map (elemsOf l.inFmt)
  let n := match ess.map List.length with | [] => 0 | a :: r => r.foldl min a
  let dec := (List.range n).map (fun i =>
    ess.zipIdx.map (fun p => decodeElem l.inFmt l.rowLen (scs.getD p.2 []) i (p.1.getD i 0)))
  (dec.takeWhile (fun xs => xs.all Option.isSome)).map (fun xs => latElem l (xs.map (·.getD 0)))

/-- Lane sums of the whole groups of an open row. -/
def laneSums (g lanes : Nat) (ps : List FVal) : List Nat :=
  let groups := ((chunks g ps).filter (fun c => c.length = g)).map groupSum
  groups.zipIdx.foldl (fun (a : List Nat) p => a.set (p.2 % lanes) (f32Add (a.getD (p.2 % lanes) 0) p.1.1).1) (List.replicate 32 0)

/-- The lattice part of a parked or a saved record (08 R242), from the results so far. Held y values are those of an open row whose scale
comes from the row itself (R238). -/
def latSaveBytes (l : LatCfg) (ys : List Nat) : Bytes :=
  let row := if l.rowLen = 0 then 0 else ys.length / l.rowLen
  let open_ := ys.drop (row * l.rowLen)
  let g := groupOf l.inFmt
  let fill := open_.length % g
  let whole := open_.take (open_.length - fill)
  let held := if (l.outFmt = 4 ∨ l.outFmt = 5) ∧ l.scaleSrc = 0 then open_ else []
  let sums := laneSums g l.lanes (whole.map finOrZero)
  let sqs := laneSums g l.lanes (whole.map (fun y => (finOrZero y).mul (finOrZero y)))
  let words : List (Nat × Nat) :=
    [(1, 1), (1, l.op), (1, l.lanes), (1, l.inFmt), (1, l.outFmt), (1, b2n l.stats), (2, 0), (4, row), (4, open_.length / g), (4, rowMax open_),
     (4, open_.length), (4, (open_.filter (fun y => !f32Finite y)).length), (4, held.length), (4, fill), (28, 0)]
  let lanes : List (Nat × Nat) := (List.range 32).flatMap (fun i => [(4, sums.getD i 0), (4, sqs.getD i 0)])
  let head : Bytes := words.flatMap (fun p => natLe p.1 p.2)
  let ys16 : Bytes := sliceZ ((open_.drop whole.length).flatMap (natLe 4)) 0 64
  let sumB : Bytes := lanes.flatMap (fun p => natLe p.1 p.2)
  let heldB : Bytes := held.flatMap (natLe 4)
  [head, ys16, sumB, zeros 640, heldB].flatten

/-- Results of a tile that closes full, or at the end of the last whole row that fits (08 R238; log entry 140). -/
def LatCfg.tile (l : LatCfg) : Nat := if l.scaleSrc = 0 ∧ 1 ≤ l.rowLen ∧ l.rowLen ≤ 16384 then 16384 / l.rowLen * l.rowLen else 16384

/-- Results that have left the lattice, of n formed and `total` in the stream: those of closed tiles. The rest fills the open tile (08
R238). -/
def LatCfg.drained (l : LatCfg) (total n : Nat) : Nat := if n ≥ total then n else n / l.tile * l.tile

/-- The lattice over the landed prefixes: `srcs` the element streams (main first), `scs` their input scales, `recScale` the records read
under SCALE_SRC RECORD, `total` the elements of the whole stream (08 R225 to R239). Results come out as tiles close, so that the scale of a
row that gives its own is known before any element of it is narrowed (R238). -/
def latRun (l : LatCfg) (srcs scs : List Bytes) (recScale : Bytes) (total : Nat) : LatOut :=
  let ys := latYs l srcs scs
  let shown := ys.take (l.drained total ys.length)
  let rows := if l.rowLen = 0 then [] else (chunks l.rowLen ys).filter (fun r => r.length = l.rowLen)
  let recs := if l.stats then rows.zipIdx.map (fun p => ((rowStats (groupOf l.inFmt) l.lanes p.1).record l p.2)) else []
  let statOvf := if l.stats then (rows.filter (fun r => (rowStats (groupOf l.inFmt) l.lanes r).ovf)).length else 0
  let units : List Export :=
    if l.outFmt = 4 ∨ l.outFmt = 5 then
      let rs := if l.rowLen = 0 then [] else chunks l.rowLen shown
      let known := if l.scaleSrc = 1 then rs.take (recScale.length / 32) else rs.filter (fun r => r.length = l.rowLen)
      known.zipIdx.map (fun p => exportUnit l.outFmt
        (if l.scaleSrc = 1 then fieldAt recScale (32 * p.2 + 0x10) 4 else rowMax p.1) p.1)
    else if isMx l.outFmt then ((chunks 32 shown).filter (fun c => c.length = 32)).map (exportUnit l.outFmt 0)
    else [exportUnit l.outFmt 0 shown]
  let ex := units.foldl Export.cat ⟨[], [], 0, 0⟩
  { out := packElems l.outFmt ex.elems, scales := ex.scales, recs := recs, elems := ys.length,
    nonfinite := (ys.filter (fun y => !f32Finite y)).length, ovf := ex.ovf + statOvf, sat := ex.sat,
    openRow := if l.rowLen = 0 then 0 else ys.length % l.rowLen }

end Sys2Proof.Machine
end

