-- ==== Sys2Proof/Machine/Status.lean ====
section
/-! DEFINITION. The status codes (20 R518), the RESOURCE codes (02 R58) and the opcode codes (13 R356). -/
namespace Sys2Proof.Machine

def stOk : Nat := 0x00
def stMalformed : Nat := 0x01
def stLengthMismatch : Nat := 0x03
def stPermRange : Nat := 0x04
def stSyncKind : Nat := 0x05
def stMouldInvalid : Nat := 0x06
def stCheckFail : Nat := 0x20
def stTagFail : Nat := 0x21
def stMixedStep : Nat := 0x22
def stDivergent : Nat := 0x23
def stSuspect : Nat := 0x24
def stDigestInvalid : Nat := 0x25
def stNoManifest : Nat := 0x26
def stManifestInvalid : Nat := 0x27
def stPageFaultResumable : Nat := 0x40
def stPageFault : Nat := 0x41
def stAccessDenied : Nat := 0x42
def stSyncUnmapped : Nat := 0x43
def stHostError : Nat := 0x44
def stMemError : Nat := 0x45
def stXptTimeout : Nat := 0x60
def stXptRetryExceeded : Nat := 0x61
def stXptNakAccess : Nat := 0x62
def stXptNakOp : Nat := 0x63
def stXptQpDown : Nat := 0x64
def stXptLinkDown : Nat := 0x65
def stXptCongested : Nat := 0x66
def stNvmeStatus : Nat := 0x70
def stNvmeConnect : Nat := 0x71
def stTargetFull : Nat := 0x72
def stTcpUnavailable : Nat := 0x73
def stNotAdmitted : Nat := 0x80
def stBarrierOverrun : Nat := 0x81
def stSyncTimeout : Nat := 0x82
def stLatticeReshaped : Nat := 0x83
def stKeyInvalid : Nat := 0xA0
def stReplayKey : Nat := 0xA1
def stNonceReserveFail : Nat := 0xA2
def stSealExhausted : Nat := 0xC0
def stSaveFull : Nat := 0xC1
def stFptFull : Nat := 0xC2
def stResetAbort : Nat := 0xE0
def stSramError : Nat := 0xE1

def resReadClass : Nat := 0
def resWriteClass : Nat := 1
def resRemoteClass : Nat := 2
def resFabricRead : Nat := 3
def resFabricWrite : Nat := 4
def resFingerprint : Nat := 5
def resLattice : Nat := 6
def resPointing : Nat := 7
def resEncoder : Nat := 8
def resDecoder : Nat := 9
def resSeal : Nat := 10
def resStoreTx : Nat := 11
def resStoreRx : Nat := 12
def resHostOut : Nat := 13
def resHostIn : Nat := 14
def resOwnChecks : Nat := 15
def resSuspended : Nat := 16
def resCeiling : Nat := 17

def opNop : Nat := 0
def opFence : Nat := 1
def opCopy : Nat := 2
def opSnap : Nat := 3
def opRestore : Nat := 4
def opSwapIn : Nat := 5
def opChain : Nat := 6
def opSeal : Nat := 7
def opOpen : Nat := 8
def opDigest : Nat := 9
def opDigestFinal : Nat := 10
def opMouldLoad : Nat := 11
def opPermLoad : Nat := 12

/-- The opcodes that load a Mould or a permute table. -/
def loads (opcode : Nat) : Bool := opcode == opMouldLoad || opcode == opPermLoad

def opLattice : Nat := 13
def opWait : Nat := 14
def opSignal : Nat := 15
def opBarrier : Nat := 16
def opResume : Nat := 17

/-- The step number that means "no step" (02 R54). -/
def noStep : Nat := 0xFFFFFFFFFFFF

end Sys2Proof.Machine
end

