-- ==== Sys2Proof/Machine/Container.lean ====
section
/-! DEFINITION. The Bruic container (11), the reserve layout (10 R266 to R268) and the checks of a header phase (11 R316, R317). -/
namespace Sys2Proof.Machine

/-! ### Reserves -/

/-- A place outside the block where bytes of a shard, a record stream or an object lie. -/
inductive Place where
  | fabric
  | host
  /-- a remote reserve, by the first queue pair of its path -/
  | remote (qp : Nat)
  /-- a file-store target -/
  | store (target : Nat)
  deriving DecidableEq, Repr

def frameSize : Nat := 0x810000
def slotSize (frames : Nat) : Nat := 0x10000 + frames * frameSize
def reserveSize (frames : Nat) : Nat := 0x10000 + 2 * slotSize frames
def slotOff (frames k : Nat) : Nat := 0x10000 + k * slotSize frames
/-- Offset of frame f in its slot (10 R267). -/
def frameOff (f : Nat) : Nat := 0x10000 + f * frameSize

/-- Slot states of a reserve header (10 R268). -/
def slEmpty : Nat := 0
def slWriting : Nat := 1
def slGood : Nat := 2
def slSuspect : Nat := 3
def slLocal : Nat := 4
def slAbandoned : Nat := 5

/-- The 32-byte slot descriptor at 0x20 + 32 k of a reserve header (10 R268). -/
def slotDescriptor (state step tick maqLen : Nat) : Bytes := natLe 8 state ++ natLe 8 step ++ natLe 8 tick ++ natLe 4 maqLen ++ zeros 4

/-- Bytes 0 to 0x1F of a reserve header (10 R268). -/
def reserveHead (inst pkg frames : Nat) : Bytes :=
  [1, BitVec.ofNat 8 inst, 0, 0] ++ natLe 4 pkg ++ natLe 8 (slotSize frames) ++ natLe 4 frames ++ zeros 12

/-! ### Segment records and shard headers -/

structure SegRec where
  coded : Bool
  sealed : Bool
  fp : Bool
  sparse : Bool
  fpCanon : Bool
  blocks : Nat
  format : Nat
  mouldTag : Nat
  step : Nat
  mouldLen : Nat
  shardId : Nat
  segment : Nat
  bodyLen : Nat
  rawOffset : Nat
  rawLen : Nat
  deriving DecidableEq, Repr

/-- The segment record (11 R305). -/
def SegRec.bytes (r : SegRec) : Bytes :=
  let b := [3, BitVec.ofNat 8 (b2n r.coded + 2 * b2n r.sealed + 4 * b2n r.fp + 8 * b2n r.sparse + 16 * b2n r.fpCanon),
      BitVec.ofNat 8 r.blocks, BitVec.ofNat 8 r.format] ++ natLe 4 r.mouldTag ++ natLe 6 r.step ++ natLe 2 r.mouldLen ++
    natLe 8 r.shardId ++ natLe 4 r.segment ++ natLe 4 r.bodyLen ++ natLe 8 r.rawOffset ++ natLe 4 r.rawLen ++ zeros 16
  b ++ natLe 4 (crc32c b)

/-- The record of 64 bytes, none when VERSION, a res0 field, a range or SEG_CRC fails (11 R305, R316 row 8). -/
def parseSegRec (b : Bytes) : Option SegRec :=
  let fl := fieldAt b 1 1
  let fmt := fieldAt b 3 1
  let n := fieldAt b 2 1
  if b.length = 64 ∧ fieldAt b 0 1 = 3 ∧ fl < 32 ∧ fmt < 16 ∧ 1 ≤ n ∧ n ≤ 128 ∧ fieldAt b 0x18 4 < 2 ^ 20
      ∧ fieldAt b 0x2C 16 = 0 ∧ fieldAt b 0x3C 4 = crc32c (b.take 0x3C) then
    some { coded := bitOf fl 0, sealed := bitOf fl 1, fp := bitOf fl 2, sparse := bitOf fl 3, fpCanon := bitOf fl 4, blocks := n,
           format := fmt, mouldTag := fieldAt b 4 4, step := fieldAt b 8 6, mouldLen := fieldAt b 0x0E 2, shardId := fieldAt b 0x10 8,
           segment := fieldAt b 0x18 4, bodyLen := fieldAt b 0x1C 4, rawOffset := fieldAt b 0x20 8, rawLen := fieldAt b 0x28 4 }
  else none

structure ShardHdr where
  divergence : Bool
  sealed : Bool
  fp : Bool
  shardId : Nat
  step : Nat
  group : Nat
  baseShard : Nat
  segments : Nat
  tensors : Bytes
  dirOffset : Nat
  objLen : Nat
  rawBytes : Nat
  pkg : Nat
  inst : Nat
  keySlot : Nat
  rank : Nat
  sealPrefix : Nat
  deriving DecidableEq, Repr

def tensorCountOf (t : Bytes) : Nat := t.length / 128

/-- DATA_OFFSET (11 R300). -/
def dataOffset (tensors : Nat) : Nat := roundUp (256 + 128 * tensors) 4096

/-- The shard header with its tensor table, padded to DATA_OFFSET (11 R300, R301). -/
def ShardHdr.bytes (h : ShardHdr) : Bytes :=
  let n := tensorCountOf h.tensors
  let doff := dataOffset n
  let a := ascii "BRUICSH3" ++ natLe 2 3 ++ natLe 2 (b2n h.divergence + 2 * b2n h.sealed + 4 * b2n h.fp)
  let z := natLe 8 h.shardId ++ natLe 6 h.step ++ natLe 2 h.group ++ natLe 8 h.baseShard ++ natLe 4 h.segments ++ natLe 2 n ++ zeros 2 ++
    natLe 8 doff ++ natLe 8 h.dirOffset ++ natLe 8 h.objLen ++ natLe 8 h.rawBytes ++ natLe 4 h.pkg ++
    [BitVec.ofNat 8 h.inst, BitVec.ofNat 8 h.keySlot] ++ natLe 2 h.rank ++ natLe 4 h.sealPrefix ++ zeros (4 + 160) ++ h.tensors
  let body := sliceZ (a ++ zeros 4 ++ z) 0 doff
  a ++ natLe 4 (crc32c body) ++ body.drop 16

/-- Row 5 of 11 R316 for a Bruic 3 shard header given with everything up to DATA_OFFSET. -/
def shardHdrOk (b : Bytes) : Bool :=
  let n := fieldAt b 0x2C 2
  let fl := fieldAt b 0x0A 2
  b.take 8 == ascii "BRUICSH3" && fieldAt b 8 2 == 3 && fl < 16 && 1 ≤ n && n ≤ 510 && fieldAt b 0x2E 2 == 0 &&
  fieldAt b 0x30 8 == dataOffset n && b.length == dataOffset n && fieldAt b 0x54 1 < 16 && fieldAt b 0x5C 4 == 0 &&
  (slice b 0x60 160).all (· == 0) && (b.drop (256 + 128 * n)).all (· == 0) &&
  fieldAt b 0x0C 4 == crc32c (b.take 12 ++ zeros 4 ++ b.drop 16)

/-! ### Tensor tables (11 R302, R303) -/

structure Tensor where
  format : Nat
  ndims : Nat
  isScale : Bool
  splitDim : Nat
  scaleOf : Nat
  rawOffset : Nat
  rawLen : Nat
  dims : List Nat
  splitStart : Nat
  fullExtent : Nat
  resOk : Bool
  deriving DecidableEq, Repr

/-- Every res0 field of a tensor entry is zero (11 R302). -/
def tensorRes0 (b : Bytes) : Bool :=
  fieldAt b 0x30 1 < 16 && fieldAt b 0x31 1 < 16 && fieldAt b 0x32 1 < 2 && fieldAt b 0x33 1 < 16 && fieldAt b 0x36 2 == 0 &&
    fieldAt b 0x70 16 == 0

def parseTensor (b : Bytes) : Tensor :=
  { format := fieldAt b 0x30 1 % 16, ndims := fieldAt b 0x31 1 % 16, isScale := bitOf (fieldAt b 0x32 1) 0,
    splitDim := fieldAt b 0x33 1 % 16, scaleOf := fieldAt b 0x34 2, rawOffset := fieldAt b 0x38 8, rawLen := fieldAt b 0x40 8,
    dims := (List.range 8).map (fun i => fieldAt b (0x48 + 4 * i) 4), splitStart := fieldAt b 0x68 4, fullExtent := fieldAt b 0x6C 4,
    resOk := tensorRes0 b && (b.take 48).any (· != 0) }

def parseTensors (t : Bytes) : List Tensor := (chunks 128 t).map parseTensor

def Tensor.prod (t : Tensor) : Nat := (t.dims.take t.ndims).foldl (· * ·) 1

def Tensor.bits (t : Tensor) : Nat := if t.isScale then (if t.format = 11 then 32 else 8) else elemBits t.format

def Tensor.selfOk (t : Tensor) (rawBytes : Nat) : Bool :=
  t.resOk && 1 ≤ t.format && t.format ≤ 11 && 1 ≤ t.ndims && t.ndims ≤ 8 && (t.dims.take t.ndims).all (· != 0) &&
  (t.dims.drop t.ndims).all (· == 0) && t.rawLen == ceilDiv (t.bits * t.prod) 8 && t.rawOffset + t.rawLen ≤ rawBytes &&
  (!(isMx t.format && !t.isScale) || t.dims.getD 0 0 % 32 == 0) &&
  (!(t.splitDim < t.ndims) || t.splitStart + t.dims.getD t.splitDim 0 ≤ t.fullExtent) &&
  (t.splitDim < t.ndims || t.splitDim == 15)

/-- The scale links pair up both ways (11 R302, R303). -/
def scaleLinkOk (ts : List Tensor) (i : Nat) (t : Tensor) : Bool :=
  if t.isScale || t.scaleOf != 0xFFFF then
    match ts[t.scaleOf]? with
    | none => false
    | some u => u.scaleOf == i && u.isScale != t.isScale &&
      (let (s, d) := if t.isScale then (t, u) else (u, t)
       s.format == d.format && (isMx d.format || d.format == 11) &&
       s.dims.getD 0 0 == (if d.format = 11 then 1 else d.dims.getD 0 0 / 32) && s.dims.drop 1 == d.dims.drop 1)
  else true

def disjointRanges : List (Nat × Nat) → Bool
  | [] => true
  | (a, n) :: r => r.all (fun q => a + n ≤ q.1 || q.1 + q.2 ≤ a) && disjointRanges r

/-- A tensor table is valid for a raw stream of this length (11 R303). -/
def tensorTableOk (t : Bytes) (rawBytes : Nat) : Bool :=
  let ts := parseTensors t
  t.length % 128 == 0 && 1 ≤ ts.length && ts.length ≤ 510 && ts.all (·.selfOk rawBytes) &&
  disjointRanges (ts.map (fun x => (x.rawOffset, x.rawLen))) && ts.zipIdx.all (fun p => scaleLinkOk ts p.2 p.1)

/-! ### The Maquette (11 R312 to R314) -/

structure MaqEntry where
  shardId : Nat
  segments : Nat
  fromWriter : Bool
  divergence : Bool
  loc : Nat
  location : Nat
  nsid : Nat
  target : Nat
  hdrDigest : Bytes
  deriving DecidableEq, Repr

def MaqEntry.bytes (e : MaqEntry) : Bytes :=
  natLe 8 e.shardId ++ natLe 4 e.segments ++ natLe 2 (b2n e.fromWriter + 2 * b2n e.divergence + 4 * e.loc) ++ zeros 2 ++
    natLe 8 e.location ++ natLe 4 e.nsid ++ [BitVec.ofNat 8 e.target, 0, 0, 0] ++ sliceZ e.hdrDigest 0 32

structure Maq where
  suspect : Bool
  file : Bool
  step : Nat
  pkg : Nat
  inst : Nat
  keySlot : Nat
  hmac : Bool
  group : Nat
  rank : Nat
  size : Nat
  armTick : Nat
  mode : Nat
  lanes : Nat
  fwVersion : Nat
  fileSeq : Nat
  nonfinite : Nat
  divBlocks : Nat
  armDigest : Bytes
  entries : List MaqEntry
  deriving DecidableEq, Repr

/-- The Maquette, signed with a plain SHA-384 or with HMAC-SHA-384 under a key (11 R312, R314). -/
def Maq.bytes (m : Maq) (key : Option Bytes) : Bytes :=
  let len := 256 + 64 * m.entries.length + 48
  let b := ascii "BRUICMQ3" ++ natLe 2 3 ++ natLe 2 ((if m.suspect then 3 else 2) + (if m.file then 16 else 0)) ++ natLe 4 len ++
    natLe 6 m.step ++ zeros 2 ++ natLe 4 m.pkg ++
    [BitVec.ofNat 8 m.inst, BitVec.ofNat 8 (if key.isSome then 3 else 2), BitVec.ofNat 8 (if key.isSome then m.keySlot else 0), 0] ++
    natLe 4 m.group ++ natLe 2 m.rank ++ natLe 2 m.size ++ natLe 8 m.armTick ++ natLe 4 m.entries.length ++
    [BitVec.ofNat 8 m.mode, BitVec.ofNat 8 m.lanes, 0, 0] ++ natLe 4 m.fwVersion ++ natLe 4 m.fileSeq ++ natLe 8 m.nonfinite ++
    natLe 8 m.divBlocks ++ sliceZ m.armDigest 0 48 ++ zeros 48 ++ zeros 80 ++
    (sortBy (fun a c => a.shardId < c.shardId) m.entries).flatMap MaqEntry.bytes
  b ++ (match key with | some k => hmac384 k b | none => sha384 b)

def parseMaqEntry (b : Bytes) : MaqEntry :=
  let fl := fieldAt b 0x0C 2
  { shardId := fieldAt b 0 8, segments := fieldAt b 8 4, fromWriter := bitOf fl 0, divergence := bitOf fl 1, loc := bitsOf fl 2 2,
    location := fieldAt b 0x10 8, nsid := fieldAt b 0x18 4, target := fieldAt b 0x1C 1, hdrDigest := sliceZ b 0x20 32 }

def maqEntryResOk (b : Bytes) : Bool :=
  fieldAt b 0x0C 2 < 16 && bitsOf (fieldAt b 0x0C 2) 2 2 != 3 && fieldAt b 0x0E 2 == 0 && fieldAt b 0x1D 3 == 0

def ascending : List Nat → Bool
  | a :: b :: r => a < b && ascending (b :: r)
  | _ => true

/-- What row 2 of 11 R316 finds. -/
inductive MaqCheck where
  | invalid
  /-- SIG_ALG 3 without a usable key (11 R314) -/
  | noKey
  | ok (m : Maq)
  deriving DecidableEq, Repr

/-- A Bruic 3 Maquette checked; `keyOf` gives the keys the restoring context may use (11 R312 to R314, R316 row 2). -/
def checkMaq (keyOf : Nat → Option Bytes) (b : Bytes) : MaqCheck :=
  let n := fieldAt b 0x30 4
  let len := 256 + 64 * n + 48
  let fl := fieldAt b 0x0A 2
  let st := fl % 8
  let alg := fieldAt b 0x1D 1
  let raw := chunks 64 (slice b 256 (64 * n))
  let es := raw.map parseMaqEntry
  if b.take 8 ≠ ascii "BRUICMQ3" ∨ fieldAt b 8 2 ≠ 3 ∨ (st ≠ 2 ∧ st ≠ 3) ∨ fl ≥ 32 ∨ fieldAt b 0x0C 4 ≠ len ∨ b.length ≠ len ∨ n = 0 ∨ n > 1019
      ∨ fieldAt b 0x16 2 ≠ 0 ∨ fieldAt b 0x1C 1 ≥ 16 ∨ (alg ≠ 2 ∧ alg ≠ 3) ∨ fieldAt b 0x1F 1 ≠ 0 ∨ fieldAt b 0x34 1 ≥ 4
      ∨ fieldAt b 0x35 1 ≥ 64 ∨ fieldAt b 0x36 2 ≠ 0 ∨ (slice b 0xB0 80).any (· != 0) ∨ (alg = 2 ∧ fieldAt b 0x1E 1 ≠ 0)
      ∨ !raw.all maqEntryResOk ∨ !ascending (es.map (·.shardId)) then .invalid
  else
    let body := b.take (len - 48)
    let m : Maq := {
      suspect := st == 3, file := bitOf fl 4, step := fieldAt b 0x10 6, pkg := fieldAt b 0x18 4, inst := fieldAt b 0x1C 1,
      keySlot := fieldAt b 0x1E 1, hmac := alg == 3, group := fieldAt b 0x20 4, rank := fieldAt b 0x24 2, size := fieldAt b 0x26 2,
      armTick := fieldAt b 0x28 8, mode := fieldAt b 0x34 1, lanes := fieldAt b 0x35 1, fwVersion := fieldAt b 0x38 4,
      fileSeq := fieldAt b 0x3C 4, nonfinite := fieldAt b 0x40 8, divBlocks := fieldAt b 0x48 8, armDigest := sliceZ b 0x50 48,
      entries := es }
    if alg = 2 then (if sha384 body = b.drop (len - 48) then .ok m else .invalid)
    else
      match keyOf (fieldAt b 0x1E 1) with
      | none => .noKey
      | some k => if hmac384 k body = b.drop (len - 48) then .ok m else .invalid

/-- A Bruic 2 Maquette checked: it has no STATE and reads as GOOD (11 R320). -/
def checkMaq2 (target : Nat) (b : Bytes) : MaqCheck :=
  let n := fieldAt b 0x10 4
  let len := 0x20 + 16 * n
  let raw := chunks 16 (slice b 0x20 (16 * n))
  if b.take 8 ≠ ascii "BRUICMQ2" ∨ fieldAt b 8 4 ≠ 2 ∨ n = 0 ∨ b.length ≠ len + 32 ∨ (slice b 0x14 12).any (· != 0)
      ∨ raw.any (fun e => fieldAt e 6 2 != 0) ∨ sha256 (b.take len) ≠ b.drop len then .invalid
  else .ok {
             suspect := false, file := true, step := fieldAt b 0x0C 4, pkg := 0, inst := 0, keySlot := 0, hmac := false, group := 0,
             rank := 0, size := 1, armTick := 0, mode := 0, lanes := 0, fwVersion := 0, fileSeq := 0, nonfinite := 0, divBlocks := 0,
             armDigest := [],
             entries := raw.map (fun e => {
               shardId := fieldAt e 0 4, segments := fieldAt e 4 2, fromWriter := false, divergence := false,
               loc := 1, location := fieldAt e 8 8, nsid := 0, target := target, hdrDigest := [] }) }

/-! ### The header phase (10 R291, 11 R316, R317) -/

/-- A block that the data phase will read: where its record lies in its object and what it must carry. -/
structure BlkPlan where
  block : Nat
  off : Nat
  codedLen : Nat
  recLen : Nat
  print : Option Bytes
  /-- FP_CANON of its segment (07 R209) -/
  canon : Bool
  sealed : Bool
  /-- the Mould of the segment the record lies in -/
  mould : Option Mould
  /-- the Maquette's entry whose object holds the record -/
  entry : Nat
  deriving DecidableEq, Repr

structure SegPlan where
  shardId : Nat
  segment : Nat
  step : Nat
  rawOffset : Nat
  rawLen : Nat
  blocks : List BlkPlan
  deriving DecidableEq, Repr

/-- What a header phase answers: a failing status with the report of offending shards, or the plan of the data phase. -/
inductive Phase where
  | fail (status : Nat) (report : List (Nat × Nat))
  | good (m : Maq) (segs : List SegPlan)
  deriving DecidableEq, Repr

/-- Row 11 of 11 R316: entries at present positions ascend and lie inside BODY_LEN; absent positions are zero. Answers the present blocks:
(position, OFFSET, PAYLOAD_LEN). -/
def indexBlocks (r : SegRec) (index : Bytes) : Option (List (Nat × Nat × Nat)) :=
  let es := (List.range 128).map (fun i => (i, fieldAt index (8 * i) 4, fieldAt index (8 * i + 4) 4))
  let present := es.filter (fun e => e.2.2 % 2 ^ 17 != 0)
  let absentOk := (es.filter (fun e => e.2.2 % 2 ^ 17 == 0)).all (fun e => e.2.1 == 0 && e.2.2 == 0)
  let inRange := present.all (fun e => e.1 < r.blocks && e.2.2 < 2 ^ 18 &&
    e.2.1 + e.2.2 % 2 ^ 17 + (if r.sealed then 84 else 68) ≤ r.bodyLen)
  let full := r.sparse || present.length == r.blocks
  if index.length = 1024 ∧ absentOk ∧ inRange ∧ full ∧ ascending (present.map (·.2.1)) then
    some (present.map (fun e => (e.1, e.2.1, e.2.2 % 2 ^ 17)))
  else none

/-- The status of a failing row (11 R316). -/
def rowStatus (row : Nat) : Nat := if row = 10 then stMouldInvalid else stCheckFail

/-- One segment of a Bruic 3 source: the failing row (8, 10 or 11), or its plan. `frame` says that the object is a reserve frame. -/
def checkSeg (frame : Bool) (entry shardId seg : Nat) (img : SegImage) : Except Nat SegPlan :=
  match parseSegRec img.record with
  | none => .error 8
  | some r =>
    if r.shardId ≠ shardId ∨ r.segment ≠ seg ∨ (frame && r.fp) then .error 8
    else
      let mo : Option (Option Mould) :=
        if r.coded then
          match parseMould img.mould with
          | none => none
          | some m => if img.mould.length = r.mouldLen ∧ m.format = r.format ∧ m.tag = r.mouldTag then some (some m) else none
        else if r.mouldTag = 0 ∧ r.mouldLen = 0 then some none else none
      match mo with
      | none => .error 10
      | some mould =>
        match indexBlocks r img.index with
        | none => .error 11
        | some bs =>
          let base := if frame then img.off + 0x2000 else img.off + 64 + r.mouldLen
          .ok {
            shardId := shardId, segment := seg, step := r.step, rawOffset := r.rawOffset, rawLen := r.rawLen,
            blocks := bs.map (fun b => {
              block := b.1, off := base + b.2.1, codedLen := b.2.2, recLen := b.2.2 + (if r.sealed then 84 else 68),
              print := if r.fp then some (sliceZ img.prints (32 * b.1) 32) else none,
              canon := r.fpCanon, sealed := r.sealed, mould := mould, entry := entry }) }

/-- One segment of a Bruic 2 shard (11 R319, R320). -/
def checkSeg2 (entry shardId step seg : Nat) (img : SegImage) : Except Nat SegPlan :=
  let b := img.record
  let n := fieldAt b 2 1
  let fl := fieldAt b 3 1
  if b.length ≠ 32 ∨ fieldAt b 0 2 ≠ seg ∨ n = 0 ∨ n > 64 ∨ (fl ≠ 0 ∧ fl ≠ 2) ∨ (slice b 8 20).any (· != 0)
      ∨ fieldAt b 0x1C 4 ≠ crc32c (b.take 0x1C) then .error 8
  else
    let sealed := fl == 2
    let body := fieldAt b 4 4
    let es := (List.range n).map (fun i => (i, fieldAt img.index (8 * i) 4, fieldAt img.index (8 * i + 4) 4 % 2 ^ 17))
    if img.index.length ≠ 512 ∨ (img.index.drop (8 * n)).any (· != 0) ∨ !ascending (es.map (·.2.1)) ∨ es.any (fun e => e.2.1 + e.2.2 + (if sealed then 52 else 36) > body) then .error 11
    else .ok {
      shardId := shardId, segment := seg, step := step, rawOffset := 0, rawLen := 0,
      blocks := es.map (fun e => {
        block := e.1, off := img.off + 32 + e.2.1, codedLen := e.2.2, recLen := e.2.2 + (if sealed then 52 else 36), print := none,
        canon := false, sealed := sealed, mould := none, entry := entry }) }

def shard2HdrOk (b : Bytes) : Bool :=
  b.take 8 == ascii "BRUICSH2" && fieldAt b 8 4 == 2 && fieldAt b 0x16 2 == 0 && (slice b 0x1C 36).all (· == 0) && b.length == 64 &&
  fieldAt b 0x18 4 == crc32c (b.take 0x18 ++ zeros 4 ++ b.drop 0x1C)

/-- Header step of a shard image, none for reserve frames. -/
def hdrStep (bruic2 : Bool) (img : ShardImage) : Option Nat :=
  if img.header.isEmpty then none else some (if bruic2 then fieldAt img.header 0x10 4 else fieldAt img.header 0x18 6)

/-- The lowest failing row among some results. -/
def lowestRow (l : List Nat) : Option Nat :=
  match l with
  | [] => none
  | a :: r => some (r.foldl min a)

/-- SHARD_ID of the main shard of a snapshot's divergence shard: DIV is 0 (11 R310). -/
def mainShard (id : Nat) : Nat := id / 0x10000 * 0x10000

/-- Rows 5, 6, 8, 10 and 11 for one shard: the failing row, or its segments with the first step that differs from `step`. -/
def checkShard (bruic2 : Bool) (step entry : Nat) (e : MaqEntry) (img : ShardImage) : Except Nat (List SegPlan × Option Nat) :=
  let frame := e.loc == 0
  let hdrOk :=
    if frame then true
    else if bruic2 then shard2HdrOk img.header && fieldAt img.header 0x0C 4 == e.shardId && fieldAt img.header 0x14 2 == e.segments
    else shardHdrOk img.header && sha256 img.header == e.hdrDigest && fieldAt img.header 0x10 8 == e.shardId &&
      fieldAt img.header 0x28 4 == e.segments
  let base := if frame then (if e.divergence then mainShard e.shardId else e.shardId) else if bruic2 then e.shardId else fieldAt img.header 0x20 8
  if !hdrOk || (img.segs.length != e.segments && !(frame && e.fromWriter)) then .error 5
  else
    let rs := img.segs.zipIdx.map (fun p =>
      let seg := if e.divergence then fieldAt p.1.record 0x18 4 else p.2
      if bruic2 then checkSeg2 entry e.shardId (fieldAt img.header 0x10 4) seg p.1 else checkSeg frame entry base seg p.1)
    match lowestRow (rs.filterMap (fun r => match r with | .error row => some row | .ok _ => none)) with
    | some row => .error row
    | none =>
      let segs := rs.filterMap (fun r => match r with | .ok s => some s | .error _ => none)
      let steps := (hdrStep bruic2 img).toList ++ segs.map (·.step)
      if ascending (segs.map (·.segment)) then .ok (segs, steps.find? (fun x => x != step)) else .error 8

/-- Overlays: a block of a main shard comes from the divergence shard that holds it (11 R315). -/
def overlay (segs divs : List SegPlan) : List SegPlan :=
  segs.map (fun s =>
    let ds := (divs.filter (fun d => d.shardId == s.shardId && d.segment == s.segment)).flatMap (·.blocks)
    { s with blocks := s.blocks.map (fun b => (ds.find? (fun d => d.block == b.block)).getD b) })

/-- The header phase over one step's image (10 R291; 11 R316, R317). `own` is a restore from the instance's own reserve; `reserve` from any
reserve. Rows are applied in order, each over every shard before the next is reported. -/
def headerPhase (keyOf : Nat → Option Bytes) (reserve bruic2 suspectOk : Bool) (target step : Nat) (img : StepImage) : Phase :=
  match img.maquette with
  | none => .fail stNoManifest []
  | some mb =>
    match (if bruic2 then checkMaq2 target mb else checkMaq keyOf mb) with
    | .invalid => .fail stManifestInvalid []
    | .noKey => .fail stKeyInvalid []
    | .ok m =>
      if m.step ≠ step then .fail stMixedStep []
      else if reserve && img.slotStep != step then .fail stMixedStep []
      else if (m.suspect || (reserve && img.slotState == slSuspect)) && !suspectOk then .fail stSuspect []
      else if reserve && !(img.slotState == slGood || img.slotState == slLocal || img.slotState == slSuspect) then .fail stNoManifest []
      else
        let rs := (m.entries.zip img.shards).zipIdx.map (fun p => (p.1.1, checkShard bruic2 step p.2 p.1.1 p.1.2))
        if img.shards.length ≠ m.entries.length then .fail stCheckFail []
        else
          match lowestRow (rs.filterMap (fun r => match r.2 with | .error row => some row | .ok _ => none)) with
          | some row => .fail (rowStatus row) []
          | none =>
            let oks := rs.filterMap (fun r => match r.2 with | .ok v => some (r.1, v) | .error _ => none)
            let bad := oks.filterMap (fun p => p.2.2.map (fun st => (p.1.shardId, st)))
            if bad ≠ [] then .fail stMixedStep bad
            else
              let mains := (oks.filter (fun p => !p.1.divergence)).flatMap (·.2.1)
              let divs := (oks.filter (fun p => p.1.divergence)).flatMap (·.2.1)
              .good m (overlay mains divs)

end Sys2Proof.Machine
end

