-- ==== Sys2Proof/Machine/PointingFn.lean ====
section
/-! DEFINITION. The Pointing unit's functions (09 R249 to R261): packing, permutation by a table, and the shuffle patterns. -/
namespace Sys2Proof.Machine

/-- A permute table as a slot holds it (09 R254, R255): the entries are (input lane, zero). -/
structure PermTable where
  gran : Nat
  entries : List (Nat × Bool)
  valid : Bool
  bijective : Bool
  loadNo : Nat
  deriving DecidableEq, Repr

/-- The Pointing fields of a job (09 "Order of operations"). -/
structure PntCfg where
  unpack : Nat
  pack : Nat
  gran : Nat
  table : Nat
  inverse : Bool
  shuf : Nat
  deriving DecidableEq, Repr

def PntCfg.passThrough (p : PntCfg) : Bool := p.unpack == 0 && p.pack == 0 && p.table == 15 && p.shuf == 0

/-- Element width of a packing code (09 R261): 0 for NONE. -/
def packWidth : Nat → Nat
  | 1 => 4 | 2 => 4 | 4 => 4 | 3 => 6 | 5 => 6
  | _ => 0

/-- Packed bytes of `n` unpacked bytes (09 R261). -/
def packedLen (code n : Nat) : Nat :=
  match code with
  | 1 => n / 2 | 2 => n / 2 | 3 => 3 * n / 4
  | _ => n

/-- Unpacked bytes of `n` packed bytes (09 R261). -/
def unpackedLen (code n : Nat) : Nat :=
  match code with
  | 1 => 2 * n | 2 => 2 * n | 3 => 4 * n / 3
  | _ => n

/-- Packing (09 R261): reserved codes, GRAN with packing, mixed element widths. -/
def PntCfg.packOk (p : PntCfg) : Bool :=
  p.unpack ≤ 5 && p.pack ≤ 5 && p.gran ≤ 2 && ((p.unpack == 0 && p.pack == 0) || p.gran == 0) &&
  (packWidth p.unpack == 0 || packWidth p.pack == 0 || packWidth p.unpack == packWidth p.pack)

/-- 13 R359: a table of 0 to 7, or none. -/
def PntCfg.tableOk (p : PntCfg) : Bool := p.table ≤ 7 || p.table == 15

/-- SHUF (09 R260): reserved codes, BSWAP with GRAN 0. -/
def PntCfg.shufOk (p : PntCfg) : Bool := p.shuf ≤ 7 && !(p.shuf == 7 && p.gran == 0)

/-- The field rules of 09 R260 and R261. -/
def PntCfg.fieldsOk (p : PntCfg) : Bool := p.packOk && p.tableOk && p.shufOk

/-- UNPACK: one element per byte (09 R261). -/
def unpackFn (code : Nat) (bs : Bytes) : Bytes :=
  match code with
  | 1 => bs.flatMap (fun b : Byte => [b &&& 0x0F#8, b.ushiftRight 4])
  | 2 => bs.flatMap (fun b : Byte => [b.ushiftRight 4, b &&& 0x0F#8])
  | 3 => (chunks 3 bs).flatMap (fun c => let v := leNat c; (List.range 4).map (fun j => BitVec.ofNat 8 (bitsOf v (6 * j) 6)))
  | 4 => bs.map (· &&& 0x0F#8)
  | 5 => bs.map (· &&& 0x3F#8)
  | _ => bs

/-- PACK: the reverse (09 R261). -/
def packFn (code : Nat) (bs : Bytes) : Bytes :=
  match code with
  | 1 => (chunks 2 bs).map (fun c => (c.getD 0 0 &&& 0x0F#8) ||| (c.getD 1 0).shiftLeft 4)
  | 2 => (chunks 2 bs).map (fun c => (c.getD 0 0).shiftLeft 4 ||| (c.getD 1 0 &&& 0x0F#8))
  | 3 => (chunks 4 bs).flatMap (fun c => natLe 3 ((c.zipIdx.map (fun p => p.1.toNat % 64 * 2 ^ (6 * p.2))).sum))
  | 4 => bs.map (· &&& 0x0F#8)
  | 5 => bs.map (· &&& 0x3F#8)
  | _ => bs

/-- The input lane of output lane i under a shuffle of N lanes (09 R260). -/
def shufIdx (shuf n i : Nat) : Nat :=
  match shuf with
  | 1 => n - 1 - i
  | 2 => (i + n / 2) % n
  | 3 => i % 2 * (n / 2) + i / 2
  | 4 => 2 * (i % (n / 2)) + i / (n / 2)
  | 5 => i % 4 * (n / 4) + i / 4
  | 6 => 4 * (i % (n / 4)) + i / (n / 4)
  | _ => i

def shufFn (shuf lane : Nat) (v : Bytes) : Bytes :=
  let ls := chunks lane v
  if shuf = 7 then ls.flatMap List.reverse
  else (List.range ls.length).flatMap (fun i => ls.getD (shufIdx shuf ls.length i) [])

/-- Output lane i takes input lane INDEX[i], or zeros (09 R254); the inverse puts input lane i at output lane INDEX[i]. -/
def permFn (t : PermTable) (inverse : Bool) (lane : Nat) (v : Bytes) : Bytes :=
  let ls := chunks lane v
  if inverse then
    (List.range ls.length).flatMap (fun o =>
      match t.entries.findIdx? (fun e => e.1 == o) with
      | some i => ls.getD i []
      | none => zeros lane)
  else t.entries.flatMap (fun e => if e.2 then zeros lane else ls.getD e.1 (zeros lane))

/-- One vector through the unit (09 R252). -/
def pointVec (p : PntCfg) (t : Option PermTable) (inbound : Bool) (v : Bytes) : Bytes :=
  let lane := 2 ^ p.gran
  let u := unpackFn p.unpack v
  let perm := fun (x : Bytes) => match t with | some t => permFn t p.inverse lane x | none => x
  let m := if inbound then perm (shufFn p.shuf lane u) else shufFn p.shuf lane (perm u)
  packFn p.pack m

/-- Input bytes of one vector (09 R249). -/
def vecIn (p : PntCfg) (vl : Nat) : Nat := packedLen p.unpack vl

/-- The unit over a prefix of its input stream: every whole vector; the rest is the carry (09 R250). -/
def pointRun (p : PntCfg) (t : Option PermTable) (inbound : Bool) (vl : Nat) (bs : Bytes) : Bytes :=
  if p.passThrough then bs
  else ((chunks (vecIn p vl) bs).filter (fun c => c.length = vecIn p vl)).flatMap (pointVec p t inbound)

/-- Bytes of the whole vectors in n input bytes. -/
def wholeVecs (p : PntCfg) (vl n : Nat) : Nat := n / max 1 (vecIn p vl) * vecIn p vl

/-- An INDEX that the unit applies is not below VL/GRAN (09 R258). -/
def indexBad (p : PntCfg) (t : Option PermTable) (vl : Nat) : Bool :=
  match t with | some t => t.entries.any (fun e => vl / 2 ^ p.gran ≤ e.1) | none => false

/-- Length of the unit's output for a whole stream of `n` input bytes (09 R253). -/
def pointLen (p : PntCfg) (n : Nat) : Nat := if p.passThrough then n else packedLen p.pack (unpackedLen p.unpack n)

def lanesOnce (n : Nat) (es : List (Nat × Bool)) : Bool :=
  es.all (fun e => !e.2) && (List.range n).all (fun i => es.any (fun e => e.1 == i)) && es.length == n

/-- What a serialised table is: malformed, out of range for the VL, or a table not yet stamped (09 R254, R255). -/
inductive PermParse where
  | malformed
  | range
  | table (t : PermTable)
  deriving DecidableEq, Repr

def parsePerm (vl : Nat) (bs : Bytes) : PermParse :=
  let g := fieldAt bs 1 1
  let n := fieldAt bs 2 2
  let raw := (chunks 2 (bs.drop 8)).map leNat
  let es := raw.map (fun v => (bitsOf v 0 10, bitOf v 15))
  if fieldAt bs 0 1 ≠ 1 ∨ g > 2 ∨ fieldAt bs 4 4 ≠ 0 ∨ bs.length ≠ 8 + 2 * n
      ∨ raw.any (fun v => bitsOf v 10 5 != 0) ∨ es.any (fun e => e.2 && e.1 != 0) then .malformed
  else if n * 2 ^ g ≠ vl ∨ es.any (fun e => e.1 ≥ n) then .range
  else .table ⟨g, es, true, lanesOnce n es, 0⟩

/-- Checks 2 and 3 of 09 R255 for another VL (09 R256). -/
def PermTable.fits (t : PermTable) (vl : Nat) : Bool :=
  t.entries.length * 2 ^ t.gran == vl && t.entries.all (fun e => e.1 < t.entries.length)

/-- VL in bytes by the PNT_VL code (09 R249, R264: reset code 3 is 512). -/
def vlBytes (code : Nat) : Nat := 64 * 2 ^ code

end Sys2Proof.Machine
end

