-- ==== Sys2Proof/Machine/State.lean ====
section
/-! DEFINITION. The block's state, as plain data: the registers, the state of each unit, the queue of waiting commands and what the ports
have sent. Every type is a record of numbers, bytes, lists and named alternatives. -/
namespace Sys2Proof.Machine

/-! ### Outcomes -/

/-- Why a step stops without a next state. -/
inductive Fault where
  /-- Raised by a meaning whose command stands for something the engine itself brings about, when the state has nothing that could bring
  it about (a landing of a read that was never issued). Safe: the hardware takes no such step. -/
  | notDue (what : String)
  deriving DecidableEq, Repr

inductive Refusal where
  /-- Raised by an arm of `exec` whose command has no meaning yet. Safe. -/
  | notModelled (mnemonic : String)
  deriving DecidableEq, Repr

/-! ### Registers -/

/-- One register cell: a field, its index, its value. -/
structure Cell where
  fld : Fld
  idx : Nat
  val : Nat
  deriving DecidableEq, Repr

/-! ### Build, straps and pins (15) -/

/-- The build parameters (15 R430). -/
structure Build where
  latLanes : Nat
  fabAw : Nat
  hbm4 : Bool
  memStacks : Nat
  memIntlvLog2 : Nat
  guardIdW : Nat
  hostDw1024 : Bool
  hostRateMax : Nat
  numVf : Nat
  xptLanesMax : Nat
  jedecMfr : Nat
  deriving DecidableEq, Repr

/-- Levels at the input pins, and the straps as the integrator drives them (15 port tables). -/
structure Pins where
  posInst : Nat
  posPresent : Nat
  sagFast : Nat
  busVCode : Nat
  pwrFailN : Bool
  dbgEn : Bool
  hostFlit : Bool
  hostLinkUp : Bool
  bme : Nat
  atsEn : Nat
  priEn : Nat
  msixEn : Nat
  msixMask : Nat
  linkUp : Nat
  hflrReq : Nat
  deriving DecidableEq, Repr

/-! ### Descriptors (13) -/

/-- One outer dimension of a stream (04 R121). -/
structure Dim where
  count : Nat
  stride : Int
  deriving DecidableEq, Repr

/-- A stream in fabric or host memory (04 R121, 13 R357). -/
structure Stream where
  start : Nat
  len : Nat
  dims : List Dim
  host : Bool
  deriving DecidableEq, Repr

/-- Section OBJ (13 R358). -/
structure Obj where
  loc : Nat
  peer : Bool
  bruic2 : Bool
  target : Nat
  path : Nat
  shardId : Nat
  location : Nat
  step : Nat
  tensorAddr : Nat
  tensorCount : Nat
  reportMax : Nat
  reportAddr : Nat
  deriving DecidableEq, Repr

/-- Section XFORM (13 R359), the Pointing fields apart. -/
structure Xform where
  format : Nat
  keySlot : Nat
  snoopHandle : Nat
  snoopEn : Bool
  snoopRecord : Bool
  snoopInit : Bool
  snoopAlg : Nat
  pnt : PntCfg
  deriving DecidableEq, Repr

/-- Section DIG (13 R359). -/
structure Dig where
  handle : Nat
  alg : Nat
  keySlot : Nat
  finalLen : Nat
  resultHost : Bool
  msgLen : Nat
  resultAddr : Nat
  deriving DecidableEq, Repr

/-- Section LAT (13 R360). -/
structure Lat where
  op : Nat
  inFmt : Nat
  outFmt : Nat
  stats : Bool
  scaleRecord : Bool
  statsHost : Bool
  rowLen : Nat
  coefA : Nat
  coefB : Nat
  k : Nat
  part : Nat
  parts : Nat
  scaleAddr : Nat
  scaleDst : Nat
  statsDst : Nat
  aux0 : Nat
  deriving DecidableEq, Repr

/-- Section AVG (13 R360). -/
structure Avg where
  w : List Nat
  aux : List Nat
  deriving DecidableEq, Repr

/-- The flags of 13 R355. -/
structure Flags where
  groupEnd : Bool
  cmpl : Bool
  irq : Bool
  cont : Bool
  swap : Bool
  cache : Bool
  progress : Bool
  transform : Bool
  relayout : Bool
  sealCode : Nat
  codeOff : Bool
  verifyCode : Nat
  suspectOk : Bool
  common : Bool
  init : Bool
  windows : Bool
  file : Bool
  host : Bool
  rollback : Bool
  deriving DecidableEq, Repr

/-- An entry's descriptor (13 R353 to R360). -/
structure Desc where
  opcode : Nat
  slots : Nat
  flags : Flags
  step : Nat
  deadline : Nat
  tag : Nat
  arg : Nat
  src : Option Stream
  dst : Option Stream
  obj : Option Obj
  fan : List Nat
  xform : Option Xform
  dig : Option Dig
  lat : Option Lat
  avg : Option Avg
  inline : Bytes
  v1 : Bool
  deriving DecidableEq, Repr

/-! ### Entries, groups and rings (13, 02) -/

/-- What an entry reports when it ends (13 R366, R367). -/
structure Result where
  status : Nat
  resource : Nat
  detail : Nat
  bytesDone : Nat
  step : Nat
  /-- FORM 2: FAULT_ADDR, SAVE_ID, PRI_SENT -/
  fault : Option (Nat × Nat × Bool)
  /-- FORM 1: FIRST_CTR, LAST_CTR -/
  ctrs : Option (Nat × Nat)
  deriving DecidableEq, Repr

/-- Where an entry stands. -/
inductive Stage where
  /-- fetched; its group is open, or waits for admission -/
  | fetched
  /-- its group is admitted; not yet started -/
  | ready
  /-- started -/
  | running
  /-- a WAIT or an ARRIVE_WAIT that blocks its ring (14 R383, R393) -/
  | blocked
  /-- ended; its completion waits for its turn or for room (13 R369, R371) -/
  | ended
  deriving DecidableEq, Repr

/-- A fetched entry (13 R361 step 5). -/
structure Entry where
  uid : Nat
  ctx : Nat
  ring : Nat
  gid : Nat
  desc : Desc
  /-- its own check failed: status and DETAIL (02 R66) -/
  bad : Option (Nat × Nat)
  stage : Stage
  res : Result
  /-- tick in which it was checked (14 R382) -/
  checked : Nat
  deriving DecidableEq, Repr

/-- Where a step group stands (02 R65 to R71). -/
inductive GStage where
  | opened
  | closed
  /-- held at admission: a window is armed, or a VL change is pending (02 R69, 09 R251) -/
  | held
  | admitted
  | refused
  /-- its last completion is posted; its reservations go at the next boundary (02 R71) -/
  | done
  deriving DecidableEq, Repr

/-- A step group (02 R65). -/
structure Group where
  gid : Nat
  ctx : Nat
  ring : Nat
  step : Nat
  stage : GStage
  /-- descriptors taken -/
  count : Nat
  lastFetch : Nat
  closeTick : Nat
  deadline : Nat
  promised : Bool
  /-- promise lost: a power fault or a page fault (02 R77, 04 R142) -/
  void : Bool
  dueTick : Nat
  /-- held per tick: places 0 to 14 the resources of R58; 15 long-digest core cycles, 16 + h those of handle h, 32 + h marks handle h as
  fed (07 R214); 48 bytes over NVMe/TCP (12 R343) -/
  need : List Nat
  streams : Nat
  writesWindow : Bool
  /-- the autonomous snapshot's group (03 R114) -/
  snapshot : Bool
  /-- completions posted and skipped so far, for COVERED (13 R368) -/
  covered : Nat
  /-- reservations are held -/
  holds : Bool
  /-- order of admission (07 R212), and the mode it was admitted in (02 R64) -/
  order : Nat
  mode : Nat
  /-- tick of admission: it has budget, and holds what it reserved, from the next on (02 R53) -/
  since : Nat := 0
  /-- bytes that its reservation has passed in this tick, by class (02 R78) -/
  served : List Nat := []
  /-- an entry of it uses the Pointing unit (09 R251) -/
  points : Bool := false
  deriving DecidableEq, Repr

/-- A completion waiting for room in its ring, as the 32 bytes will stand but for OWN and SQ_HEAD (13 R371). -/
structure Cmpl where
  ctx : Nat
  ring : Nat
  gid : Nat
  opcode : Nat
  tag : Nat
  covered : Nat
  res : Result
  irq : Bool
  promised : Bool
  due : Nat
  form : Nat
  /-- the last entry of its job: the message follows it (13 R372) -/
  last : Bool
  deriving DecidableEq, Repr

/-- A ring's state beside its registers (13). -/
structure Ring where
  ctx : Nat
  ring : Nat
  /-- group open on the ring -/
  openGid : Option Nat
  /-- tick since which the entry at the head has shown OWN 0 -/
  ownSince : Option Nat
  /-- completions waiting for room -/
  waiting : List Cmpl
  deriving DecidableEq, Repr

/-! ### Transfers and jobs (04) -/

/-- What an outstanding port operation is. -/
inductive XKind where
  | fabRead
  | fabWrite
  | hostRead
  /-- the read that acknowledges host writes (13 R373) -/
  | hostAck
  | ats
  /-- a translated host write that waits for the translations of its job's writes before it (04 R124) -/
  | hostReady
  | rdmaRead
  | rdmaWrite
  | nvmeRead
  | nvmeWrite
  | nvmeFlush
  | nvmeAdmin
  | rdmaSend
  deriving DecidableEq, Repr

/-- What the bytes of a transfer are for. -/
inductive XUse where
  /-- source bytes: input number and offset -/
  | input (inp off : Nat)
  /-- a block of the destination: destination number and block -/
  | block (dst blk : Nat)
  /-- a segment's own bytes: record, Mould, index and fingerprint tables, or a whole segment of an object -/
  | segment (dst seg : Nat)
  /-- the read-back of a sealed block (06 R197) -/
  | verify (dst blk off : Nat)
  /-- a record written beside the data: statistics, scales, results, progress counts, reports -/
  | side
  /-- the lattice's part of a parked or saved record, read back (08 R243) -/
  | lattice
  /-- the saved record of a digest handle (07 R218) -/
  | digest (ctx handle : Nat)
  /-- the Maquette, the slot descriptor and the like of a commit (10): 3 and 4 the reserve's, 5 the buddy's descriptor, 6 and 7 HOST's, 8 and 9
  FILE's Maquette and the read of the writer's; 1 a notice or a batch -/
  | commit (phase : Nat)
  /-- bytes that a peer writes into a reserve: queue pair and packet sequence number (12 R333) -/
  | peer (qp psn : Nat)
  /-- bytes that a peer reads from a reserve, from offset `off` of its request -/
  | peerRead (qp psn off : Nat)
  /-- a batch or a notice sent on to NEXT, in the receive buffer of a queue pair until it leaves (12 R330) -/
  | relay (qp : Nat)
  /-- the first bytes of a target's slot (12 R341) -/
  | area (slot : Nat)
  deriving DecidableEq, Repr

/-- An outstanding port operation (04 R129, R130; 12 R331; 15 R405 to R413). -/
structure Xfer where
  kind : XKind
  tag : Nat
  /-- the job's uid -/
  job : Nat
  use : XUse
  addr : Nat
  /-- bytes the port carries, and the parts of them that are the stream's, as offset and length: the rest are gap bytes (04 R127) -/
  len : Nat
  parts : List (Nat × Nat)
  promised : Bool
  /-- queue pair, lane or target -/
  via : Nat
  /-- its last packet sequence number, for an operation on a queue pair; the entry that carries it, for an NVMe command -/
  psn : Nat
  /-- the key an NVMe command exposes (12 R338) -/
  key : Option Nat
  /-- bytes sent, kept until acknowledged, or bytes received so far -/
  data : Bytes
  /-- an NVMe Write with FUA -/
  fua : Bool := false
  /-- tick of issue of a remote operation (02 R87) -/
  at_ : Nat := 0
  /-- packet sequence number of an NVMe command's capsule (12 R334) -/
  capPsn : Nat := 0
  deriving DecidableEq, Repr

/-- A write that waits for room among the 4,096 unacknowledged (04 R130). -/
structure PendWr where
  job : Nat
  use : XUse
  addr : Nat
  data : Bytes
  be : Nat
  promised : Bool
  deriving DecidableEq, Repr

/-- A remote operation that waits for room among the 1,024 in flight (12 R331). -/
structure PendOp where
  kind : XKind
  job : Nat
  use : XUse
  /-- queue pair, or target for an NVMe command -/
  via : Nat
  rkey : Nat
  addr : Nat
  len : Nat
  data : Bytes
  fua : Bool
  promised : Bool
  deriving DecidableEq, Repr

/-- Some bytes at a place. -/
structure Extent where
  place : Place
  addr : Nat
  len : Nat
  deriving DecidableEq, Repr

/-- Where an input's bytes come from. -/
inductive InpSrc where
  | stream (s : Stream)
  | extents (l : List Extent)
  deriving DecidableEq, Repr

/-- One source of a job as its bytes arrive: the landed prefix, what landed beyond a gap, and the next byte to ask for. -/
structure Inp where
  src : InpSrc
  total : Nat
  data : Bytes
  early : List (Nat × Bytes)
  nextReq : Nat
  deriving DecidableEq, Repr

/-- What an inbound block knows of its place (11, 10 R316): the Mould of its segment and the header it must carry. -/
structure Expect where
  mould : Option Mould
  shardId : Nat
  step : Nat
  segment : Nat
  block : Nat
  rawLen : Nat
  fingerprint : Option Bytes
  /-- the fingerprint is of the shard's own raw bytes (07 R209) -/
  canon : Bool
  /-- where its record lies, and its length -/
  off : Nat
  len : Nat
  place : Place
  deriving DecidableEq, Repr

/-- Key of a model-cache entry (04 R147, 09 R259): of a file store the target, shard, step, segment and block; of the host the address runs of
the block, and those before it where an open vector reaches into it; and the Pointing settings. -/
structure McKey where
  ctx : Nat
  place : Place
  shard : Nat
  step : Nat
  segment : Nat
  block : Nat
  runs : List (Nat × Nat)
  before : List (Nat × Nat)
  loadNo : Nat
  pnt : PntCfg
  vl : Nat
  deriving DecidableEq, Repr

/-- A model-cache entry: the block as laid out, and its bytes before that, which an arrival digest of a canonical fingerprint is of. -/
structure McEntry where
  key : McKey
  data : Bytes
  raw : Bytes
  /-- the jobs that pin it -/
  pins : List Nat
  marked : Bool
  used : Nat
  deriving DecidableEq, Repr

/-- Where an inbound record stands. -/
inductive RecStage where
  /-- landed; waits for a pipe when it is sealed -/
  | landed
  | opening (pipe : Nat)
  /-- opened and readable; waits for a decode slot -/
  | opened
  | loading (slot : Nat)
  /-- decoded; waits for the blocks before it -/
  | decoded
  deriving DecidableEq, Repr

/-- An inbound block on its way through the stages (06 R195, 05 R168, 07 R209). -/
structure Rec where
  idx : Nat
  /-- its place in the source -/
  off : Nat
  bytes : Bytes
  hdr : Option BlockHdr
  expect : Option Expect
  stage : RecStage
  /-- the body once readable -/
  body : Bytes
  raw : Bytes
  /-- from the model cache (04 R148): the body is then the block as laid out -/
  hit : Bool
  key : Option McKey := none
  deriving DecidableEq, Repr

/-- A destination end of a job. -/
inductive DstEnd where
  | stream (s : Stream)
  /-- records packed into a stream (04 R540) -/
  | records (s : Stream)
  /-- frames of a reserve slot, from the slot's first byte (10 R267) -/
  | frames (p : Place) (addr : Nat)
  /-- the guarded windows a RESTORE writes, in order: address and length -/
  | ranges (l : List (Nat × Nat))
  /-- a Bruic 3 shard object (11 R299), from its first byte; a snapshot's objects follow each other (12 R339) -/
  | object (p : Place) (addr : Nat)
  /-- no end: the job feeds a digest handle, a Mould store or a table slot -/
  | none
  deriving DecidableEq, Repr

/-- A block issued to the destination: its bytes of the raw destination stream, and what is known of its record. -/
structure OutBlk where
  idx : Nat
  /-- its segment, and its place in it -/
  seg : Nat
  pos : Nat
  rawOff : Nat
  rawLen : Nat
  /-- pipe that sealed it, and the record, kept while a read-back is due (06 R197) -/
  pipe : Nat
  record : Bytes
  ctr : Nat
  /-- destinations whose read-back has passed -/
  verified : List Nat
  /-- destinations that have acknowledged it -/
  acked : List Nat
  /-- where its record lies at a destination: destination, and byte address or offset -/
  at_ : List (Nat × Nat)
  /-- pieces read back: destination, offset, bytes -/
  back : List (Nat × Nat × Bytes)
  deriving DecidableEq, Repr

/-- A shard object being written (11 R299 to R309): its end among the job's, its first byte, the next segment's offset, the offsets of its
segment records, and its raw bytes so far. -/
structure ObjW where
  dst : Nat
  base : Nat
  shardId : Nat
  group : Nat
  off : Nat
  dir : List Nat
  raw : Nat
  fp : Bool
  /-- what follows the segments: 0 nothing yet, 1 the directory, 2 the header, 3 the Flush, 4 all durable (11 R309, 12 R333) -/
  tail : Nat
  deriving DecidableEq, Repr

/-- A running job. The staging, coding, sealing and writing of its destination stream follow from the landed prefixes of its inputs. -/
structure Job where
  uid : Nat
  ctx : Nat
  desc : Desc
  opcode : Nat
  inbound : Bool
  promised : Bool
  /-- settings it was admitted under (02 R64) -/
  coded : Bool
  sealOn : Bool
  verify : Bool
  keySlot : Nat
  format : Nat
  step : Nat
  shardId : Nat
  inps : List Inp
  /-- index of the first scale input, when the format has scales (08 R225) -/
  scaleInp : Nat
  recInp : Option Nat
  lat : Option LatCfg
  pnt : PntCfg
  table : Option PermTable
  vl : Nat
  srcLen : Nat
  dstLen : Nat
  dsts : List DstEnd
  /-- raw bytes of the inbound path, in order; as the Pointing unit has laid them out; and its carry (09 R250) -/
  raw : Bytes
  laid : Bytes := []
  carry : Bytes := []
  /-- plain blocks that the model cache gave: block and bytes as laid out -/
  hits : List (Nat × Bytes) := []
  /-- model-cache entries that the job's blocks pin, with the raw offset where each block ends (04 R149) -/
  pinsAt : List (McKey × Nat) := []
  recs : List Rec
  /-- MOULD_TAGs of the records taken off a source without segment records (05 R175) -/
  tags : List Nat := []
  expects : List Expect
  /-- records have ended: a terminator or the end of the stream (04 R540) -/
  ended : Bool
  /-- source offset at which the main source stops: a read of it has failed (01 R38, 04 R142) -/
  srcCut : Option Nat
  /-- source offset and raw offset of each record taken into the raw stream -/
  starts : List (Nat × Nat)
  /-- destination blocks handed to staging or issued -/
  nextBlk : Nat
  /-- segment being filled or next to fill; the shard's first; raw bytes of the shard before this job's (11 R305) -/
  segIdx : Nat
  segBase : Nat
  rawBase : Nat
  /-- destinations that have failed, of a snapshot (10 R285) -/
  dead : List Nat
  /-- where the next record goes in a record stream -/
  recOff : Nat
  blks : List OutBlk
  /-- bytes acknowledged in stream order -/
  doneBytes : Nat
  doneBlks : Nat
  firstCtr : Option Nat
  lastCtr : Nat
  /-- rows, scales and counts of the lattice already given out -/
  latRows : Nat
  latScales : Nat
  latNonfin : Nat
  latOvf : Nat
  latSat : Nat
  latElems : Nat
  /-- it needed the lattice when the lattice left service (08 R223) -/
  latGone : Bool := false
  /-- unpacked bytes of the Pointing unit already counted -/
  pntCounted : Nat := 0
  /-- a failure: status, DETAIL; blocks before it still finish (04, 05 R169) -/
  stop : Option (Nat × Nat)
  faultAddr : Nat
  saveId : Nat
  priSent : Bool
  /-- digest handle fed by a snoop, and the point: RECORD when set (07 R212) -/
  snoop : Option (Nat × Bool)
  /-- bytes for the handle that wait for their turn (07 R212) -/
  feed : Bytes
  /-- bytes of the snooped stream handed over so far; and of a stream snooped as written, or by record, the blocks (07 R212) -/
  fedTo : Nat
  fedBlk : Nat := 0
  /-- source blocks whose fingerprint has begun, and the fingerprints that have come (07 R202) -/
  printed : Nat
  prints : List (Nat × Bytes)
  /-- output blocks that stand: those before a failure (05 R169) -/
  limit : Option Nat
  progress : Option Nat
  cached : Bool
  fan : List Nat
  /-- objects being written, and the Maquette's entries of those finished -/
  objs : List ObjW
  shards : List MaqEntry
  /-- tensor table of a shard destination (11 R303): the Armature's, or the input that reads it -/
  tensors : Option Bytes
  tensorInp : Option Nat
  /-- the source is Bruic 2 (11 R318) -/
  bruic2 : Bool
  cont : Bool
  /-- what CONT continues is settled (04 R138); and the job whose shard object it takes over once that job's own segments are written -/
  joined : Bool := true
  after : Option Nat := none
  /-- a RESTORE with ROLLBACK has written what 10 R287 lists -/
  rolled : Bool
  /-- its last block has passed to a port, and every engine-local effect is made (14 R390) -/
  issued : Bool
  deriving DecidableEq, Repr

/-- A stream saved at a host page fault (04 R143). -/
structure Saved where
  ctx : Nat
  id : Nat
  desc : Desc
  job : Job
  restart : Nat
  deriving DecidableEq, Repr

/-! ### Staging and model cache (04) -/

inductive HalfState where
  | free
  | fill
  | drain
  deriving DecidableEq, Repr

/-- A block in a staging half: its job, its index in the job's destination, its bytes (04 R131, R138). -/
structure HBlk where
  job : Nat
  idx : Nat
  data : Bytes
  deriving DecidableEq, Repr

/-- A staging half (04 R131): the segment it holds. -/
structure Half where
  st : HalfState
  /-- the job that fills it, the latest when CONT has joined several -/
  job : Nat
  ctx : Nat
  blocks : List HBlk
  closed : Bool
  /-- the Mould, once built (05 R159) -/
  mould : Option Mould
  built : Bool
  coded : Bool
  format : Nat
  /-- records of the blocks encoded and issued, with their RAW flags -/
  records : List (Bytes × Bool)
  /-- its segment's number in the job -/
  seg : Nat
  /-- what follows the blocks has been written: record, Mould, index table -/
  finished : Bool
  deriving DecidableEq, Repr

/-! ### Coder and seal unit (05, 06) -/

/-- A decode slot (05 R171). -/
structure DecSlot where
  mould : Option Mould
  ctx : Nat
  refs : Nat
  used : Nat
  deriving DecidableEq, Repr

/-- An entry of a context's Mould store (05 R175). -/
structure StoreEntry where
  ctx : Nat
  entry : Nat
  mould : Mould
  deriving DecidableEq, Repr

/-- A key slot (06 R184 to R193). -/
structure KeySlot where
  slot : Nat
  key : Option Bytes
  ctx : Nat
  replayOnly : Bool
  openOnly : Bool
  armature : Bool
  exhausted : Bool
  reserveFail : Bool
  ctr : Nat
  hwm : Nat
  /-- highest HWM requested -/
  req : Nat
  fails : Nat
  /-- an erase waits for the jobs that use the slot (06 R193) -/
  erasing : Bool
  deriving DecidableEq, Repr

/-- A key load in progress (06 R191): the blob taken, and whether the reservation is awaited for a key already unwrapped. -/
structure KeyLoad where
  blob : Bytes
  armature : Bool
  reserving : Option Bytes
  deriving DecidableEq, Repr

/-- A block on an opening pipe: record `blk` of a job, or the read-back of block `blk` at destination `dst` (06 R195, R197). -/
structure PipeUse where
  pipe : Nat
  job : Nat
  back : Bool
  dst : Nat
  blk : Nat
  data : Bytes
  deriving DecidableEq, Repr

/-! ### Digests (07) -/

/-- A digest handle (07 R211 to R220). -/
structure Handle where
  ctx : Nat
  id : Nat
  alg : Nat
  keyed : Bool
  /-- chaining state, inner for HMAC -/
  chain : List Nat
  /-- chaining state of the outer pad, for HMAC -/
  outer : List Nat
  /-- bytes not yet a whole block -/
  carry : Bytes
  fed : Nat
  invalid : Bool
  /-- slot holding the state, none when saved to memory -/
  slot : Option Nat
  /-- its state is in its saved record, and a read of it is in flight (07 R218) -/
  saved : Bool
  restoring : Bool
  /-- when it was last fed: the order of idling -/
  used : Nat
  deriving DecidableEq, Repr

/-- A fingerprint record, and a set of them (07 R202 to R208). -/
structure FptSet where
  /-- 0 own; 1 + j peer reserve j -/
  source : Nat
  /-- its records in the table, in order: runs of an index and a count -/
  runs : List (Nat × Nat)
  step : Nat
  records : Nat
  /-- the set was refused records -/
  full : Bool
  prints : List (Nat × Bytes)
  good : Bool
  deriving DecidableEq, Repr

/-- A block whose digest the fingerprint array takes: the core that hashes it, none while it waits for one (02 R80, 07 R202). -/
structure Print where
  core : Option Nat
  job : Nat
  blk : Nat
  data : Bytes
  deriving DecidableEq, Repr

/-! ### Pointing tables -/

structure TableSlot where
  ctx : Nat
  slot : Nat
  table : PermTable
  /-- emptied when the last job that names it completes (09 R263) -/
  dying : Bool
  deriving DecidableEq, Repr

/-! ### The write guard (03) -/

/-- Why a write is held (03 R103). -/
inductive HoldWhy where
  | order
  | attach
  | rescue
  deriving DecidableEq, Repr

/-- A write in the hold queue, or forwarded and awaiting memory's response. -/
structure GWrite where
  seq : Nat
  lane : Nat
  addr : Nat
  data : Bytes
  be : Nat
  ord : Bool
  id : Nat
  /-- granule index, when inside a window -/
  gran : Option Nat
  why : HoldWhy
  /-- ns of its presentation, and how long GO_READY of its lane had then been low in all (03 R112) -/
  at_ : Nat
  low : Nat
  deriving DecidableEq, Repr

/-- A rescued granule in a pool slot or in a spill slot (03 R107, R108). -/
structure PoolSlot where
  slot : Nat
  gran : Nat
  data : Bytes
  /-- order of landing -/
  seq : Nat
  deriving DecidableEq, Repr

/-- A rescue read in flight (03 R107): its granule, its reserved slot, ns of issue, which 64 of the reserved tags it has, and whether its
snapshot has been abandoned, so that it is discarded when it returns (03 R118). -/
structure Rescue where
  gran : Nat
  slot : Nat
  at_ : Nat
  tags : Nat
  dead : Bool
  deriving DecidableEq, Repr

/-- The guard. -/
structure Guard where
  armed : Bool
  gen : Nat
  bits0 : List Nat
  bits1 : List Nat
  clean0 : Bool
  clean1 : Bool
  /-- bitmap being cleared, and the next word -/
  clearing : Option (Nat × Nat)
  /-- lanes' writes waiting for an entry (03 R102), in order of presentation -/
  waiting : List GWrite
  held : List GWrite
  /-- writes forwarded whose response has not come: (lane, id) -/
  awaiting : List (Nat × Nat)
  rescueQ : List Nat
  rescues : List Rescue
  pool : List PoolSlot
  spill : List PoolSlot
  /-- next granule of the copy, and granules of copy reads in flight -/
  copyNext : Nat
  copyReads : List Nat
  /-- reads of fabric memory among them: granule, first tag, and whether the snapshot has been abandoned, so that the read is discarded when
  it returns (03 R118) -/
  copyTags : List (Nat × Nat × Bool)
  copyOn : Bool
  taken : List Nat
  seq : Nat
  /-- segment the copy takes out of order (03 R113) -/
  detour : Option Nat
  /-- the guard port's clock as its latest command gave it (03 R112) -/
  clock : GuardClock
  deriving DecidableEq, Repr

/-! ### Snapshots and checkpoints (10) -/

/-- Where one destination of a snapshot stands (10 R280 to R284). -/
inductive DestStage where
  | off
  | open_
  | done
  | failed (status : Nat)
  deriving DecidableEq, Repr

/-- Where the commit of the MIRROR copy stands (10 R280). -/
inductive CommitPhase where
  /-- armed, or its blocks are still on their way to LOCAL (step 1) -/
  | copying
  /-- LOCAL is complete; MIRROR records, comparisons or the notice are awaited (step 2) -/
  | mirror
  /-- the Maquette is being written at both ends (step 3) -/
  | maquette
  /-- STATE and STEP are being written in the own descriptor (step 4) -/
  | descOwn
  /-- STATE and STEP are being written at the buddy (step 4) -/
  | descBuddy
  /-- committed, or LOCAL alone -/
  | finished
  deriving DecidableEq, Repr

/-- A fingerprint of a snapshot's segment as a batch carries it (10 R276). -/
structure BatchEntry where
  digest : Bytes
  rawLen : Nat
  deriving DecidableEq, Repr

/-- A received batch (10 R276), or a COMMIT notice. -/
structure Batch where
  step : Nat
  shardId : Nat
  segment : Nat
  entries : List BatchEntry
  last : Bool
  commit : Bool
  suspect : Bool
  file : Bool
  deriving DecidableEq, Repr

/-- A segment of the current snapshot. -/
structure SnapSeg where
  /-- its frame, counted across the windows (10 R267) -/
  seg : Nat
  shardId : Nat
  blocks : Nat
  /-- its window's job, and the job's block at position 0 -/
  job : Nat
  first : Nat
  /-- tick in which the own copy of the segment ended -/
  copied : Option Nat
  /-- the writer's batch -/
  batch : Option (List BatchEntry)
  /-- the batch is sent, or compared, or the segment is sent in full (10 R276, R277) -/
  settled : Bool
  /-- positions that a member sends itself, and those of them that diverge -/
  sent : List Nat
  div : List Nat
  /-- the half as its segment stood when the last of it was written, its raw bytes gone; kept by a member -/
  kept : Option Half
  deriving DecidableEq, Repr

/-- A snapshot (10 R265 to R284): the current one, or one whose HOST copy alone is still open. -/
structure Snap where
  step : Nat
  /-- TICK_NOW, the mode and the lattice's lanes at the arm point (11 R312) -/
  tick : Nat
  mode : Nat
  lanes : Nat
  gid : Nat
  /-- one job for each window -/
  jobs : List Nat
  file : Bool
  host : Bool
  /-- SNAP entries it satisfies -/
  snaps : List Nat
  slot : Nat
  phase : CommitPhase
  segs : List SnapSeg
  /-- records read back from LOCAL to be sent: frame, position, bytes -/
  reads : List (Nat × Nat × Bytes)
  nonfinite : Nat
  divBlocks : Nat
  fptFull : Bool
  noticeSuspect : Bool
  notice : Bool
  noticeFile : Bool
  /-- tick in which step 2 of R280 finished but for the notice -/
  twoTick : Option Nat
  mirror : DestStage
  fileSt : DestStage
  hostSt : DestStage
  /-- where FILE stands: 0 its shards, 1 a member waits for the notice, 2 it reads the writer's Maquette, 3 the Maquette, 4 over -/
  fileAt : Nat
  /-- where HOST stands: 0 its blocks, 1 the Maquette, 2 the descriptor, 3 over -/
  hostAt : Nat
  target : Nat
  fileSlot : Nat
  /-- the SPARSE records have been written (11 R307) -/
  sparse : Bool
  /-- entries of a member's file-store Maquette: its own divergence shards, then the writer's shards -/
  shards : List MaqEntry
  deriving DecidableEq, Repr

/-- A slot of the own reserve as last written (10 R268). -/
structure ResSlot where
  state : Nat
  step : Nat
  maqLen : Nat
  deriving DecidableEq, Repr

/-- A slot of a peer's reserve as the peer's descriptor write left it (10 R268): reserve, slot, STATE and STEP. -/
structure PeerSlot where
  peer : Nat
  slot : Nat
  state : Nat
  step : Nat
  deriving DecidableEq, Repr

/-- What the checkpoint unit holds beside its registers. -/
structure Ckpt where
  /-- step and tick of the latest arm point, none before the first (10 R270) -/
  lastArm : Option (Nat × Nat)
  /-- SNAP entries pending: uid, FILE, HOST -/
  snaps : List (Nat × Bool × Bool)
  slots : List ResSlot
  /-- causes of relayed or local warnings not yet acted on are counted in the registers; the latest is PAT_LAST -/
  snap : Option Snap
  /-- committed snapshots whose HOST copy is still open (10 R295) -/
  tail : List Snap
  peers : List PeerSlot
  /-- an arming was cut off before its arm point: the flags of its answer stand after the reset that cut it (03 R539) -/
  cut : Bool
  /-- every record of the divergence ring is unacknowledged (10 R279) -/
  divFull : Bool
  deriving DecidableEq, Repr

/-! ### Transport (12) -/

/-- An RDMA READ of a peer being answered: its packet sequence number, its length, and the pieces that have come. -/
structure PeerRead where
  psn : Nat
  len : Nat
  got : List (Nat × Bytes)
  deriving DecidableEq, Repr

/-- A queue pair's running state (12 R327 to R331); its attributes and STATE are registers. -/
structure Qp where
  qp : Nat
  sendPsn : Nat
  recvPsn : Nat
  retries : Nat
  /-- sending rate in 0.1 GB/s -/
  rate : Nat
  /-- writes placed or being placed, in order of arrival, whose acknowledgement has not gone out -/
  acks : List Nat
  reads : List PeerRead
  /-- tick of the last congestion notification sent (12 R344) -/
  cnpAt : Option Nat
  deriving DecidableEq, Repr

/-- What the engine has read of a target's step slot (12 R341): its Maquette's FILE_SEQ and STEP, and whether it is GOOD. -/
structure TgtSlot where
  slot : Nat
  seq : Nat
  step : Nat
  good : Bool
  deriving DecidableEq, Repr

/-- A target's running state (12 R336). -/
structure Tgt where
  tgt : Nat
  /-- next step of the connection, 1 to 6 of R336, 7 while the Maquette areas are read, 8 when connected -/
  conn : Nat
  slots : List TgtSlot
  deriving DecidableEq, Repr

/-! ### Sync words (14) -/

/-- A sync word that is not as reset leaves it (14 R379). -/
structure SyncWord where
  phys : Nat
  val : Nat
  barrier : Bool
  broken : Bool
  parties : Nat
  /-- arrivals counted in the round -/
  counted : Nat
  lastSw : Bool
  lastCtx : Nat
  lastRing : Nat
  deriving DecidableEq, Repr

/-- What a waiting sync entry waits for. -/
inductive WaitFor where
  | eq
  | ge
  | ne
  /-- an ARRIVE_WAIT counted in the round -/
  | round
  /-- a held arrival: whether it then waits for the release -/
  | held (wait : Bool)
  deriving DecidableEq, Repr

/-- A waiting WAIT or BARRIER entry (14 R384, R393), in order of arrival. -/
structure Waiter where
  uid : Nat
  ctx : Nat
  ring : Nat
  syncId : Nat
  phys : Nat
  what : WaitFor
  value : Nat
  /-- the tick at which its timeout runs out -/
  timeout : Option Nat
  deriving DecidableEq, Repr

/-! ### Start-up, Armature and NVM (16, 17) -/

/-- One Armature record that applies to this instance (16 R435). -/
structure ArmRec where
  typ : Nat
  body : Bytes
  deriving DecidableEq, Repr

/-- What an NVM operation in progress is for. -/
inductive NvmUse where
  | sfdp
  | directory
  /-- header of Armature copy k -/
  | header (k : Nat)
  /-- image of Armature copy k -/
  | image (k : Nat)
  /-- firmware copy k -/
  | firmware (k : Nat)
  /-- Plinth record slot k at start-up -/
  | plinth (k : Nat)
  /-- journal half k at start-up -/
  | journal (k : Nat)
  /-- a reservation's entry, and its read-back (17 R470) -/
  | reserve
  /-- a page of an Armature update, and its read-back (16 R454) -/
  | update
  /-- the erase of the record slot a save will use (17 R468) -/
  | eraseRecord (k : Nat)
  | eraseJournal (k : Nat)
  /-- the header entry of ACK_LOST (17 R470) -/
  | journalHeader
  /-- a page of the hold-up save, and its read-back -/
  | save
  deriving DecidableEq, Repr

inductive NvmKind where
  | read
  | program
  | erase
  deriving DecidableEq, Repr

/-- An operation at the NVM port (15 R417), in order of issue. -/
structure NvmOp where
  kind : NvmKind
  addr : Nat
  len : Nat
  data : Bytes
  use : NvmUse
  deriving DecidableEq, Repr

/-- The reservation journal's append in progress and those behind it (06 R188, 17 R470): key slot and HWM. -/
structure Journal where
  queue : List (Nat × Nat)
  /-- entries still to be written before the one at the head, when a half has just been opened -/
  copies : List (Nat × Nat)
  halfReady : List Bool
  deriving DecidableEq, Repr

/-- Where start-up stands: the steps of 16 R440, the barrier of R443, and what follows it. -/
inductive BootStage where
  /-- steps 1 and 2: straps, key port, NVM device, checks 1 to 9 -/
  | checks
  /-- step 3: waiting for the driver's GO (R441), or for ever after a mismatch at the end of step 4 (18 R494) -/
  | hold
  /-- step 4: the Plinth record and the journal are read -/
  | plinth
  /-- step 5: keys are loaded -/
  | keys
  /-- step 6: targets connect -/
  | targets
  | phase0
  | phase1
  /-- E is fixed; ACTIVE at boundary 2 (R444) -/
  | started
  | running
  | fault
  deriving DecidableEq, Repr

/-- Start-up and what it has read. -/
structure Boot where
  stage : BootStage
  /-- a failed replay comparison at the end of step 4: every GO is refused (18 R494) -/
  stuck : Bool
  /-- the words of the key port, in order (15 R425) -/
  kpWords : List Nat
  kpErr : Bool
  /-- the device's SFDP, as read (15 R418) -/
  sfdp : Bytes
  directory : Bytes
  /-- headers and images of copies 0 and 1, as read -/
  headers : List (Nat × Bytes)
  images : List (Nat × Bytes)
  /-- firmware images that are read for check 8 -/
  firmware : List (Nat × Bytes)
  /-- reads asked for so far: 0 none, 1 headers, 2 images, 3 firmware, 4 all in -/
  reading : Nat
  plinthRecs : List (Nat × Bytes)
  journals : List (Nat × Bytes)
  /-- key blobs of the Armature still to load (16 R440 step 5) -/
  blobs : List Bytes
  /-- the own reserve's header has been read, or there is none (step 6) -/
  headerIn : Bool
  /-- instances arrived in phase 0, answered in phase 1, and absent (16 R442, R443) -/
  arrived : List Nat
  answered : List Nat
  absent : List Nat
  /-- the coordinator waits for the edge to release phase 1 at -/
  ready1 : Bool
  /-- starting alone: waits for an edge (16 R446) -/
  alone : Bool
  /-- a TICK_IN edge has been sampled in the barrier -/
  edgeSeen : Bool
  /-- boundaries since E -/
  since : Nat
  deriving DecidableEq, Repr

/-- The Armature in force (16 R434). -/
structure Arm where
  records : List ArmRec
  seq : Nat
  pkg : Nat
  fwVersion : Nat
  digest : Bytes
  /-- the key-port values (15 R425): device-unique key and hash of the signing key -/
  duk : Bytes
  keyHash : Bytes
  /-- firmware's SRAM copy matches FW_DIGEST (16 R447) -/
  fwGood : Bool
  fwNvmGood : Bool
  /-- SEQ of each valid copy on the device -/
  copySeq : List (Nat × Nat)
  dirOff : Nat
  deriving DecidableEq, Repr

/-- An Armature update in progress (16 R454). -/
structure ArmUpd where
  image : Bytes
  copy : Nat
  /-- bytes programmed so far -/
  done : Nat
  deriving DecidableEq, Repr

/-! ### Power and Patina (17) -/

/-- The hold-up sequence (17 R463 to R466). -/
structure Holdup where
  cause : Nat
  src : Nat
  busV : Nat
  tick : Nat
  record : Bytes
  slot : Nat
  /-- bytes programmed -/
  done : Nat
  retried : Bool
  halted : Bool
  deriving DecidableEq, Repr

/-- A physical unit that is not as built (17 R475). -/
structure PUnit where
  cls : Nat
  phys : Nat
  failed : Bool
  wear : Nat
  /-- logical unit served, none when spare or failed -/
  logical : Option Nat
  deriving DecidableEq, Repr

/-- A substitution in progress (17 R478). -/
structure Subst where
  cls : Nat
  phys : Nat
  logical : Nat
  spare : Nat
  /-- a tile boundary has passed since the failure -/
  tile : Bool
  deriving DecidableEq, Repr

/-- Patina, beside its registers. -/
structure Patina where
  units : List PUnit
  substs : List Subst
  /-- next unit of the rotation -/
  cls : Nat
  phys : Nat
  /-- units pointed at by faults elsewhere -/
  urgent : List (Nat × Nat)
  /-- corrected errors of each SRAM bank group in the window, and in all -/
  sramWin : List (Nat × Nat)
  sramErr : List (Nat × Nat)
  /-- logical counts in service that are not as built (17 R482), by class -/
  counts : List (Nat × Nat)
  deriving DecidableEq, Repr

/-! ### Yeljo (18) -/

/-- A Yeljo record (18 R492): its index follows from its place. -/
structure YRec where
  tick : Nat
  ofs : Nat
  typ : Nat
  ctx : Nat
  ring : Nat
  a : Nat
  b : Bytes
  deriving DecidableEq, Repr

/-- The recorder and replay (18 R490 to R497). -/
structure Yeljo where
  first : Nat
  /-- records in the on-chip buffer, oldest first -/
  buf : List YRec
  /-- records dropped since the last LOST record -/
  dropped : Nat
  lostEver : Bool
  wrapped : Bool
  /-- header of the session being replayed -/
  srcHeader : Bytes
  /-- bytes 0x0C to 0x57 of the header: the run conditions at the session's start (18 R487, R491) -/
  conds : Bytes
  /-- index of the next logged record to apply -/
  pos : Nat
  /-- logged check records not yet matched by a produced one, with their index -/
  due : List (Nat × Bytes)
  /-- check records produced and not yet compared -/
  made : List YRec
  /-- logged NONCE draws not yet used: slot, counter -/
  nonces : List (Nat × Nat)
  stopped : Bool
  /-- the tile boundary after a divergence has come: every stream stands (18 R497) -/
  frozen : Bool
  /-- remote completions whose turn has come before them, and those that have come before their turn (18 R495) -/
  turns : List (Nat × Nat × Bool)
  held : List Instr
  deriving DecidableEq, Repr

/-! ### Ticks and schedule (02) -/

/-- What TICK_IN did in the tick that is ending (02 R51). -/
inductive EdgeSt where
  | none
  | inWindow (delta : Int)
  | outside
  deriving DecidableEq, Repr

/-- The tick and schedule unit, beside its registers. -/
structure Tick where
  running : Bool
  /-- TICK_MODE.CURRENT; none while it has its reset value, that of ARMATURE_MODE (02 R61) -/
  mode : Option Nat
  pending : Option Nat
  edge : EdgeSt
  missedRow : Nat
  /-- CLK_REF cycles from the latest boundary, as the latest command said -/
  ofs : Nat
  /-- CLK_REF cycle of the tick up to which lost cycles are counted (02 R72) -/
  lostTo : Nat
  /-- ticks without work in a row (16 R451) -/
  idle : Nat
  /-- CLK_CORE cycles that the tick lacks, against its PERIOD, at the clock's steps so far (02 R50, R55) -/
  short : Nat := 0
  /-- bytes of the tick's budget that each class has spent (02 R55) -/
  spent : List Nat := []
  /-- deficit round robin over contexts: context and its deficit in bytes, the next to be served first (02 R79) -/
  turns : List (Nat × Nat) := []
  /-- an answer to a STEP_END is owed until this cycle, counted from tick 0 (15 R410) -/
  owedTo : Nat
  /-- the clock step that a logged CLOCK record holds at this stamp, in replay (18 R495) -/
  replayClock : Option Nat
  deriving DecidableEq, Repr

/-! ### What the ports send (15) -/

/-- One transaction the block drives at a port (15). -/
inductive Out where
  /-- on the read and the write channels that the address steers to (15 R406) -/
  | fabRead (chan tag addr beats cls : Nat)
  | fabWrite (chan id addr : Nat) (data : Bytes) (be : Nat)
  /-- GO: the top bit of the identifier says a spill drain -/
  | guardOut (lane addr : Nat) (data : Bytes) (be : Nat) (spill : Bool) (id : Nat)
  | guardResp (lane id : Nat) (err : Bool)
  | snapArmed (code : Nat)
  | hostWrite (fn addr : Nat) (data : Bytes)
  | hostRead (tag fn addr len : Nat)
  | atsRequest (tag fn addr : Nat)
  | atsDone (fn : Nat)
  | pageRequest (fn addr : Nat)
  | msix (fn vector addr data : Nat)
  | hostReply (data : Nat)
  | hflrDone (fn : Nat) (level : Bool)
  | sideband (packet : Nat)
  | rdmaWrite (qp psn rkey addr : Nat) (data : Bytes)
  | rdmaRead (qp psn rkey addr len : Nat)
  | rdmaReply (qp psn : Nat) (data : Bytes)
  | rdmaSend (qp psn : Nat) (data : Bytes)
  | rdmaAck (qp psn : Nat)
  /-- a NAK: 0 sequence error, 1 invalid request, 2 remote access, 3 RNR -/
  | rdmaNak (qp psn kind : Nat)
  | cnp (qp : Nat)
  | nvme (tgt qp psn cid opc lba blocks : Nat) (fua : Bool) (key : Nat)
  | nvmeAdmin (tgt qp psn cid step : Nat)
  /-- a frame as its lane presents it, without preamble and FCS: what a message above is on the wire (12 R325, 15 R415) -/
  | frame (lane : Nat) (bytes : Bytes)
  | keepAlive (tgt : Nat)
  | nvmRead (addr len : Nat)
  | nvmProgram (addr : Nat) (data : Bytes)
  | nvmErase (addr len : Nat)
  | keyRequest (sel idx : Nat)
  | engState (code : Nat)
  | clock (divisor : Nat)
  | toCore (frame : Bytes)
  | tdo (data : Bytes)
  deriving DecidableEq, Repr

/-! ### The state -/

structure State where
  regs : List Cell
  /-- high halves latched by R18: function (64 for IJTAG), offset of the pair, high half -/
  latch : List (Nat × Nat × Nat)
  build : Build
  pins : Pins
  /-- ENG_STATE (15): 0 RESET, 1 BOOT, 2 ACTIVE, 3 IDLE, 4 RETAIN, 5 HOLDUP, 6 FAULT; 8 stands for OFF (16 R451), where
  the port's level is undefined -/
  eng : Nat
  /-- a wake is in progress (16 R453) -/
  waking : Bool
  boot : Boot
  arm : Arm
  armUpd : Option ArmUpd
  tick : Tick
  groups : List Group
  rings : List Ring
  entries : List Entry
  jobs : List Job
  saved : List Saved
  /-- contexts parked, and whether a remote completion has landed since (02 R86) -/
  parked : List (Nat × Bool)
  /-- inbound jobs that hold no landing buffers, until a tile boundary gives them some (04 R136) -/
  yielded : List Nat
  guard : Guard
  halfA : Half
  halfB : Half
  /-- half A is FILL -/
  fillA : Bool
  xfers : List Xfer
  pendWr : List PendWr
  pendOps : List PendOp
  /-- host reads and writes that wait for room among the 1,024 requests (15 R411) -/
  pendHost : List PendOp
  /-- ATS invalidations to be answered: function, and the host requests that must complete first (15 R411) -/
  atsInv : List (Nat × List Nat)
  cache : List McEntry
  slots : List DecSlot
  store : List StoreEntry
  keys : List KeySlot
  keyLoad : Option KeyLoad
  /-- blocks on the opening pipes -/
  pipes : List PipeUse
  /-- pipes that take in a block being sealed, the longest busy first (06 R179; log entry 133) -/
  sealPipes : List Nat
  prints : List FptSet
  /-- fingerprints in progress: job uid, block, raw bytes -/
  printing : List Print
  handles : List Handle
  tables : List TableSlot
  /-- a VL waiting for the context's groups to end (09 R251) -/
  vlPending : List (Nat × Nat)
  ckpt : Ckpt
  qps : List Qp
  tgts : List Tgt
  words : List SyncWord
  waiters : List Waiter
  nvm : List NvmOp
  journal : Journal
  holdup : Option Holdup
  patina : Patina
  plinth : Bytes
  yeljo : Yeljo
  /-- IJTAG: a scan or a known-answer test is running (15 R428) -/
  ijtag : Bool
  /-- firmware is down under its watchdog (16 R447) -/
  fwDown : Bool
  /-- ENG_STATE's host requests that wait for a wake (16 R453), as register accesses: function, offset, size, write value -/
  hcqWait : List (Nat × Nat × Nat × Option Nat)
  tag : Nat
  uid : Nat
  freeCtr : Nat
  out : List Out
  pending : List Instr
  deriving DecidableEq, Repr

def Build.default : Build :=
  {
    latLanes := 32, fabAw := 56, hbm4 := false, memStacks := 1, memIntlvLog2 := 8, guardIdW := 16, hostDw1024 := false,
    hostRateMax := 128, numVf := 63, xptLanesMax := 4, jedecMfr := 0 }

def Pins.default : Pins :=
  {
    posInst := 0, posPresent := 1, sagFast := 0, busVCode := 0, pwrFailN := true, dbgEn := true, hostFlit := false, hostLinkUp := true,
    bme := 2 ^ 64 - 1, atsEn := 2 ^ 64 - 1, priEn := 2 ^ 64 - 1, msixEn := 2 ^ 64 - 1, msixMask := 0, linkUp := 15, hflrReq := 0 }

def Guard.empty : Guard :=
  {
    armed := false, gen := 0, bits0 := [], bits1 := [], clean0 := false, clean1 := false, clearing := none, waiting := [], held := [],
    awaiting := [], rescueQ := [], rescues := [], pool := [], spill := [], copyNext := 0, copyReads := [], copyTags := [], copyOn := false,
    taken := [], seq := 0, detour := none, clock := ⟨0, []⟩ }

def Half.empty : Half :=
  {
    st := .free, job := 0, ctx := 0, blocks := [], closed := false, mould := none, built := false, coded := false,
    format := 0, records := [], seg := 0, finished := false }

def Boot.start : Boot :=
  {
    stage := .checks, stuck := false, kpWords := [], kpErr := false, sfdp := [], directory := [], headers := [], images := [],
    firmware := [], reading := 0, plinthRecs := [], journals := [], blobs := [], headerIn := false, arrived := [], answered := [],
    absent := [], ready1 := false, alone := false, edgeSeen := false, since := 0 }

def Arm.none : Arm :=
  {
    records := [], seq := 0, pkg := 0, fwVersion := 0, digest := [], duk := [], keyHash := [], fwGood := false, fwNvmGood := false,
    copySeq := [], dirOff := 0 }

def Tick.start : Tick :=
  {
    running := false, mode := none, pending := none, edge := .none, missedRow := 0, ofs := 0, lostTo := 0,
    idle := 0, owedTo := 0, replayClock := none }

def Patina.asBuilt : Patina :=
  { units := [], substs := [], cls := 0, phys := 0, urgent := [], sramWin := [], sramErr := [], counts := [] }

def Yeljo.empty : Yeljo :=
  {
    first := 0, buf := [], dropped := 0, lostEver := false, wrapped := false, srcHeader := [], conds := [], pos := 0, due := [], made := [],
    nonces := [], stopped := false, frozen := false, turns := [], held := [] }

def Ckpt.empty : Ckpt := { lastArm := none, snaps := [], slots := [⟨0, 0, 0⟩, ⟨0, 0, 0⟩], snap := none, tail := [], peers := [], cut := false, divFull := false }

/-- The machine as a COLD reset leaves it (15 R429, 16 R440, R455): in BOOT, the straps sampled, the key port asked for its first word,
the NVM device being brought up. -/
def State.reset : State :=
  {
    regs := [⟨.fjPosPresent, 0, 1⟩], latch := [], build := Build.default, pins := Pins.default, eng := 1, waking := false, boot := Boot.start,
    arm := Arm.none, armUpd := none, tick := Tick.start, groups := [], rings := [], entries := [], jobs := [], saved := [],
    parked := [], yielded := [], guard := Guard.empty, halfA := Half.empty, halfB := Half.empty, fillA := true, xfers := [], pendWr := [], pendOps := [],
    pendHost := [], atsInv := [], cache := [], slots := [], store := [], keys := [], keyLoad := none, pipes := [], sealPipes := [], prints := [], printing := [], handles := [],
    tables := [], vlPending := [], ckpt := Ckpt.empty, qps := [], tgts := [], words := [], waiters := [],
    nvm := [⟨.read, 0, 512, [], .sfdp⟩], journal := ⟨[], [], [false, false]⟩, holdup := none, patina := Patina.asBuilt, plinth := [],
    yeljo := Yeljo.empty, ijtag := false, fwDown := false, hcqWait := [], tag := 0, uid := 1, freeCtr := 0, out := [], pending := [] }

end Sys2Proof.Machine
end

