-- ==== Sys2Proof/Machine/Ops.lean ====
section
/-! DEFINITION. The operations every meaning is built from: registers (00 R13), what the ports send, the states of the engine. -/
namespace Sys2Proof.Machine

/-! ### Register cells -/

def cellSame (a b : Cell) : Bool := a.fld == b.fld && a.idx == b.idx

def cellLt (a b : Cell) : Bool := a.fld.ctorIdx < b.fld.ctorIdx || (a.fld.ctorIdx == b.fld.ctorIdx && a.idx < b.idx)

/-- The reset value of a field (the tables' Reset column). -/
def fldReset (b : Build) (f : Fld) (i : Nat) : Nat :=
  match f with
  | .tickShareCeil => if i = 0 then 100 else 0
  | .syncMapPhys => i
  | .fjHostDeclOut => b.hostRateMax
  | .fjHostDeclIn => b.hostRateMax
  | .latStatLanes => b.latLanes
  | .latStatSmall => b2n (b.latLanes = 16)
  | .fjBuildFabAw => b.fabAw
  | .fjBuildSmall => b2n (b.latLanes = 16)
  | .fjBuildHbm4 => b2n b.hbm4
  | .fjBuildXptLanesMax => b.xptLanesMax
  | .fjBuildHostDw1024 => b2n b.hostDw1024
  | .fjBuildNumVf => b.numVf
  | .fjBuildGuardIdW => b.guardIdW
  | .fjBuildHostRateMax => b.hostRateMax
  | .fjMemmapStacks => b.memStacks
  | .fjMemmapIntlvLog2 => b.memIntlvLog2
  | _ => (fldInfo f).reset

def fldWidth (f : Fld) : Nat := (fldInfo f).width

/-- A cell that the register file need not list. -/
def cellIdle (b : Build) (c : Cell) : Bool := c.val == fldReset b c.fld c.idx

/-- Put a cell into a list in canonical form. -/
def putCell (b : Build) (c : Cell) : List Cell → List Cell
  | [] => if cellIdle b c then [] else [c]
  | d :: t =>
    if cellSame c d then (if cellIdle b c then t else c :: t)
    else if cellLt c d then (if cellIdle b c then d :: t else c :: d :: t)
    else d :: putCell b c t

/-- The canonical form of a register file: one cell a quantity, in order, none at its reset value. -/
def canonRegs (b : Build) (l : List Cell) : List Cell :=
  l.foldr (fun c acc => putCell b { c with val := c.val % 2 ^ fldWidth c.fld } acc) []

def findCell (f : Fld) (i : Nat) : List Cell → Option Nat
  | [] => none
  | c :: t => if c.fld == f && c.idx == i then some c.val else findCell f i t

/-- Register `f`, index `i`. -/
def State.getI (s : State) (f : Fld) (i : Nat) : Nat :=
  match findCell f i s.regs with
  | some v => v % 2 ^ fldWidth f
  | none => fldReset s.build f i

def State.get (s : State) (f : Fld) : Nat := s.getI f 0

def State.flag (s : State) (f : Fld) : Bool := s.get f != 0

def State.setI (s : State) (f : Fld) (i v : Nat) : State := { s with regs := ⟨f, i, v % 2 ^ fldWidth f⟩ :: s.regs }

def State.set (s : State) (f : Fld) (v : Nat) : State := s.setI f 0 v

def State.up (s : State) (f : Fld) : State := s.set f 1

def State.down (s : State) (f : Fld) : State := s.set f 0

/-- Add to a counter that saturates. -/
def State.bumpI (s : State) (f : Fld) (i n : Nat) : State := s.setI f i (satAdd (fldWidth f) (s.getI f i) n)

def State.bump (s : State) (f : Fld) (n : Nat) : State := s.bumpI f 0 n

/-- Raise a peak field to `v`. -/
def State.peak (s : State) (f : Fld) (v : Nat) : State := if s.get f < v then s.set f v else s

/-! ### What the ports send -/

def State.send (s : State) (o : Out) : State := { s with out := s.out ++ [o] }

def State.sendAll (s : State) (os : List Out) : State := { s with out := s.out ++ os }

/-- The next number for an entry, a group or a job. -/
def State.nextUid (s : State) : State := { s with uid := s.uid + 1 }

/-- Draw a value the spec leaves open. -/
def State.drawFree (s : State) : Nat × State := (Config.freeValue s.freeCtr, { s with freeCtr := s.freeCtr + 1 })

/-! ### Counting tables -/

def replaceFirst {α : Type} (p : α → Bool) (f : α → α) : List α → List α
  | [] => []
  | a :: t => if p a then f a :: t else a :: replaceFirst p f t

/-- Replace the first element that p accepts, or add one at the end. -/
def upsert {α : Type} (p : α → Bool) (a : α) : List α → List α
  | [] => [a]
  | b :: t => if p b then a :: t else b :: upsert p a t

def addAt (l : List (Nat × Nat)) (k n : Nat) : List (Nat × Nat) :=
  match l with
  | [] => [(k, n)]
  | (a, b) :: t => if a = k then (a, b + n) :: t else (a, b) :: addAt t k n

def lookupD (l : List (Nat × Nat)) (k d : Nat) : Nat :=
  match l with
  | [] => d
  | (a, b) :: t => if a = k then b else lookupD t k d

/-- Whether two address ranges meet. -/
def meets (a n b m : Nat) : Bool := n != 0 && m != 0 && a < b + m && b < a + n

/-! ### States of the engine (02 R61, 16 R451) -/

/-- TICK_MODE.CURRENT (02 R61). -/
def State.mode (s : State) : Nat :=
  match s.tick.mode with
  | some m => m
  | none => s.get .tickModeArmatureMode

def State.holdingUp (s : State) : Bool := s.holdup.isSome || s.eng == 5

/-- ACTIVE or IDLE: work goes on, unless a replay has diverged and stands still (18 R497). -/
def State.awake (s : State) : Bool := (s.eng == 2 || s.eng == 3) && s.holdup.isNone && !s.yeljo.frozen

def State.setEng (s : State) (code : Nat) : State :=
  let t : State := { s with eng := code }
  if s.eng = code then s else t.send (.engState code)

/-- A wake event in IDLE: ACTIVE, and a pending RETAIN request is cancelled (16 R451, R453). -/
def State.wake (s : State) : State :=
  let t : State := if s.eng = 3 then { s with eng := 2, tick := { s.tick with idle := 0 } } else s
  (if s.eng = 3 then t.send (.engState 2) else t).down .fjStateRetainPend

/-- A model-cache entry is pinned (04 R149). -/
def McEntry.pinned (e : McEntry) : Bool := !e.pins.isEmpty

/-- No work is left (16 R452). -/
def workless (s : State) : Bool :=
  !(s.groups.any (fun g => g.stage == .admitted)) && s.entries.isEmpty && !s.guard.armed && !s.flag .fjCkptStatCommitPending &&
  !(s.xfers.any (fun x => match x.use with | .peer _ _ => true | _ => false)) && !(s.rings.any (fun r => !r.waiting.isEmpty))

/-- TICK_NOW. -/
def State.now (s : State) : Nat := s.get .tickNowNow

/-- Note the CLK_REF cycle of the tick at which a command comes. -/
def State.at_ (s : State) (ofs : Nat) : State := { s with tick := { s.tick with ofs := ofs } }

end Sys2Proof.Machine
end

