-- ==== Sys2Proof/Machine/Flags.lean ====
section
/-! DEFINITION. Interrupt flags and their messages (19 R508 to R511, 20 R522), and `finish`, which ends every meaning. -/
namespace Sys2Proof.Machine

/-! ### Interrupts -/

/-- A message of function n's vector v (19 R511; 20 R523: none in HOLDUP or FAULT). -/
def State.message (s : State) (n v : Nat) : State :=
  if s.eng = 5 ∨ s.eng = 6 ∨ ¬ bitOf s.pins.msixEn n ∨ ¬ bitOf s.pins.bme n then s
  else if s.getI .fjMsixCtrlMask (64 * n + v) = 1 ∨ bitOf s.pins.msixMask n then
    s.setI .fjMsixPbaPending n (s.getI .fjMsixPbaPending n ||| 2 ^ v)
  else
    let a := s.getI .fjMsixAddrHiAddr (64 * n + v) * 2 ^ 32 + s.getI .fjMsixAddrLoAddr (64 * n + v) * 4
    s.send (.msix n v a (s.getI .fjMsixDataData (64 * n + v)))

/-- The source flags of each summary bit (19 R508). -/
def irqSources : List (List Fld) :=
  [[.tickStatTickFault], [.tickStatPowerFault],
   [.grdStatUnavailable, .grdStatOverstall, .grdStatAbandoned, .grdStatRlatExceeded],
   [.sealStatReserveFail, .sealStatTableLost], [.digStatFptFull, .digStatSaveFail, .digStatArrivalFail],
   [.latStatLaneDrop, .latStatReshaped], [.pntStatUseFail],
   [.fjCkptStatNoMirror, .fjCkptStatDiverged, .fjCkptStatSuspect, .fjCkptStatDivOvf],
   [.xptStatLinkDown, .xptStatQpError, .xptStatCongested], [.fjPortStatBusvStale, .pwrStatBusWarn],
   [.patStatSubst, .patStatReduced, .patStatWarned, .patStatOutOfService],
   [.fjPortStatStepEndEarly, .fjPortStatStrapChg, .fjPortStatFabErr, .fjPortStatSbDrop], [.syncStatMapBusy, .syncStatOverrun],
   [.yljStatLost, .yljStatDiverged, .yljStatDone], [.fjWdogFwDown],
   [.fjIrqDoneKey, .fjIrqDoneArmUpd, .fjIrqDoneAdopt, .fjIrqDoneGo, .fjIrqDoneMode, .fjIrqDoneEngineRst]]

/-- Summary bit k of FJ_IRQ_STAT. -/
def State.irqBit (s : State) (k : Nat) : Bool := (irqSources.getD k []).any (fun f => s.flag f)

/-- FJ_IRQ_STAT (19 R508). -/
def State.irqStat (s : State) : Nat := (List.range 16).foldl (fun a k => a + b2n (s.irqBit k) * 2 ^ k) 0

/-- Bit k of FJ_IRQ_STAT AND FJ_IRQ_EN. -/
def State.irqOn (s : State) (k : Nat) : Bool := s.irqBit k && bitOf (s.get .fjIrqEnEn) k

/-- Messages of the summary bits that rise between two states (19 R509; vectors 48 + k, 20 R520). -/
def irqRise (s0 s : State) : State :=
  (List.range 16).foldl (fun a k => if s.irqOn k && !s0.irqOn k then a.message 0 (48 + k) else a) s

/-- Whether the status page of context n changes in a way that R522 of 20 reports. -/
def tenantNews (s0 s : State) (n : Nat) : Bool :=
  (!s0.flag .tickStatSuspended && s.flag .tickStatSuspended) ||
  (!s0.flag .patStatOutOfService && s.flag .patStatOutOfService) ||
  (s0.vlPending.any (fun p => p.1 == n) && !s.vlPending.any (fun p => p.1 == n)) || s0.mode != s.mode

/-- Messages of the tenants' status pages (20 R522). -/
def tenantMessages (s0 s : State) : State :=
  (List.range s.build.numVf).foldl (fun a k => if tenantNews s0 s (k + 1) then a.message (k + 1) 63 else a) s

/-! ### The end of every meaning -/

/-- What ends every meaning: the messages its changes cause are sent, the register file takes its canonical form, and the build and
the queue of waiting commands are as they were. -/
def finishState (s0 s : State) : State :=
  let t := tenantMessages s0 (irqRise s0 s)
  { t with regs := canonRegs s0.build t.regs, build := s0.build, pending := s0.pending }

def finish (s0 s : State) : Host.Outcome State Fault Refusal := .next (finishState s0 s)

/-- An event that the engine brings about itself, in a state that has nothing to bring it about. -/
def notDue (what : String) : Host.Outcome State Fault Refusal := .fault (.notDue what)

end Sys2Proof.Machine
end

