-- ==== Sys2Proof/Machine/Operands.lean ====
section
/-! DEFINITION. Entries as rings hold them: the v2 header and sections (13 R353 to R360), the v1 entry (R374, R375), the checks of R365,
and the extents of a stream (04 R121 to R126). -/
namespace Sys2Proof.Machine

/-! ### Streams (04 R121 to R126) -/

def Stream.runs (s : Stream) : Nat := s.dims.foldl (fun a d => a * d.count) 1

/-- 04 R122. -/
def Stream.total (s : Stream) : Nat := s.len * s.runs

/-- Address of run number r, dimension 1 varying fastest (04 R121). -/
def runAddrOf : List Dim → Int → Nat → Int
  | [], a, _ => a
  | d :: t, a, r => runAddrOf t (a + d.stride * ((r % d.count : Nat) : Int)) (r / d.count)

def Stream.runAddr (s : Stream) (r : Nat) : Int := runAddrOf s.dims s.start r

/-- Lowest byte address, and one past the highest (04 R123). -/
def Stream.range (s : Stream) : Int × Int :=
  let lo := s.dims.foldl (fun (a : Int) d => if d.stride < 0 then a + d.stride * ((d.count - 1 : Nat) : Int) else a) (s.start : Int)
  let hi := s.dims.foldl (fun (a : Int) d => if d.stride > 0 then a + d.stride * ((d.count - 1 : Nat) : Int) else a) (s.start : Int)
  (lo, hi + s.len)

/-- 04 R121 to R123: the counts and the length, and the ends of the address space. -/
def Stream.ok (fabAw : Nat) (s : Stream) : Bool :=
  s.len != 0 && s.dims.all (fun d => d.count != 0) && s.total ≤ 2 ^ 43 && 0 ≤ s.range.1 &&
  s.range.2 ≤ (if s.host then ((2 ^ 64 : Nat) : Int) else ((2 ^ fabAw : Nat) : Int))

def intMeets (a b : Int × Int) : Bool := a.1 < b.2 && b.1 < a.2

/-- Pieces (address, length) that hold bytes [off, off + n) of a stream, in order. -/
def Stream.pieces (s : Stream) : Nat → Nat → Nat → List (Nat × Nat)
  | 0, _, _ => []
  | fuel + 1, off, n =>
    if n = 0 ∨ s.len = 0 then [] else
    let r := off / s.len
    let o := off % s.len
    let k := min n (s.len - o)
    ((s.runAddr r).toNat + o, k) :: Stream.pieces s fuel (off + k) (n - k)

def Stream.slice (s : Stream) (off n : Nat) : List (Nat × Nat) := s.pieces (n + 1) off n

/-- The extra beat of each run (04 R126). -/
def Stream.unaligned (s : Stream) : Bool :=
  s.start % 64 != 0 || s.dims.any (fun d => d.count > 1 && d.stride % 64 != 0)

/-- Beats' bytes that admission charges for a stream (04 R126). -/
def Stream.beatCharge (s : Stream) : Nat := 64 * s.runs * (ceilDiv s.len 64 + b2n s.unaligned)

/-! ### Reserved bits and ranges -/

/-- The first byte in [off, off + n) that has a bit of `mask` (little endian over the n bytes) set. -/
def firstRes (b : Bytes) (off mask : Nat) : Nat → Option Nat
  | 0 => none
  | n + 1 =>
    if (b.getD off 0).toNat &&& (mask % 256) != 0 then some off else firstRes b (off + 1) (mask / 256) n

def firstSome {α : Type} : List (Option α) → Option α
  | [] => none
  | none :: t => firstSome t
  | some a :: _ => some a

/-- The first offset whose rule fails. -/
def firstFail : List (Bool × Nat) → Option Nat
  | [] => none
  | (ok, o) :: t => if ok then firstFail t else some o

def resAll (b : Bytes) (l : List (Nat × Nat × Nat)) : Option Nat :=
  firstSome (l.map (fun (off, n, mask) => firstRes b off mask n))

def allOnes (n : Nat) : Nat := 2 ^ (8 * n) - 1

/-! ### Sections (13 R354) -/

/-- Slots of section s; INLINE's follow FINAL_LEN. -/
def sectSlots (finalLen s : Nat) : Nat :=
  match s with
  | 0 => 3 | 1 => 3 | 2 => 2 | 3 => 4 | 4 => 1 | 5 => 1 | 6 => 2 | 7 => 3
  | _ => ceilDiv finalLen 32

def sectOffIn (sect finalLen s : Nat) : Nat :=
  32 + 32 * (List.range s).foldl (fun a k => if bitOf sect k then a + sectSlots finalLen k else a) 0

/-- FINAL_LEN of the entry, from its DIG section. -/
def finalLenOf (b : Bytes) : Nat :=
  let sect := fieldAt b 2 2
  if bitOf sect 5 then fieldAt b (sectOffIn sect 0 5 + 2) 2 else 0

def sectOff (b : Bytes) (s : Nat) : Nat := sectOffIn (fieldAt b 2 2) (finalLenOf b) s

/-- Sections required and allowed beside them (13 R356), as SECT masks. -/
def opSections (op flags : Nat) : List (Nat × Nat) :=
  match op with
  | 2 => [(0b11, 0b11010000), (0b101, 0b11010000)]
  | 4 => if bitOf flags 17 then [(0b100, 0b1010000)] else [(0b110, 0b1010000)]
  | 5 => [(0b11, 0b11011000), (0b110, 0b11011000)]
  | 6 => [(0b11, 0b11010000), (0b101, 0b11010000), (0b110, 0b11010000)]
  | 7 => [(0b10011, 0)]
  | 8 => [(0b10011, 0)]
  | 9 => [(0b100001, 0)]
  | 10 => [(0b100000, 0b100000000)]
  | 11 => [(0b1, 0)]
  | 12 => [(0b1, 0)]
  | 13 => [(0b1000011, 0b10010000)]
  | _ => [(0, 0)]

/-- AVG goes with OP AVG, and OP AVG with AVG (13 R356). -/
def avgFits (b : Bytes) (sect : Nat) : Bool := bitOf sect 7 == (bitOf sect 6 && fieldAt b (sectOff b 6) 1 % 4 == 2)

/-- Check 2: the offset of the byte of SECT with the first bit that is missing or not allowed. -/
def sectCheck (op flags sect : Nat) : Option Nat :=
  let fits := (opSections op flags).any (fun (req, all) => sect &&& req == req && sect &&& (0xFFFF ^^^ (req ||| all)) == 0)
  if fits then none else
  let all := (opSections op flags).foldl (fun a (req, al) => a ||| req ||| al) 0
  let extra := sect &&& (0x1FF ^^^ (all &&& 0x1FF))
  if extra % 256 = 0 ∧ extra ≠ 0 then some 3 else some 2

/-! ### The sections' fields -/

def streamRes (o : Nat) (b : Bytes) : List (Nat × Nat × Nat) :=
  let nd := fieldAt b (o + 12) 1 % 8
  [(o + 12, 1, 0xF0), (o + 13, 3, allOnes 3)] ++
  (List.range 5).flatMap (fun k => if k + 1 > nd then [(o + 16 + 4 * k, 4, allOnes 4)] else []) ++ [(o + 36, 4, allOnes 4)] ++
  (List.range 5).flatMap (fun k => if k + 1 > nd then [(o + 40 + 8 * k, 8, allOnes 8)] else []) ++ [(o + 80, 16, allOnes 16)]

def parseStream (b : Bytes) (o : Nat) : Stream :=
  let nd := min 5 (fieldAt b (o + 12) 1 % 8)
  {
    start := fieldAt b o 8, len := fieldAt b (o + 8) 4,
    dims := (List.range nd).map (fun k => ⟨fieldAt b (o + 16 + 4 * k) 4, signedOf 64 (fieldAt b (o + 40 + 8 * k) 8)⟩),
    host := bitOf (fieldAt b (o + 12) 1) 3 }

def streamChecks (fabAw : Nat) (b : Bytes) (o : Nat) : List (Bool × Nat) :=
  let s := parseStream b o
  [(s.len != 0, o + 8), (fieldAt b (o + 12) 1 % 8 ≤ 5, o + 12)] ++
  s.dims.zipIdx.map (fun (d, k) => (d.count != 0, o + 16 + 4 * k)) ++ [(s.ok fabAw, o)]

def objRes (o : Nat) : List (Nat × Nat × Nat) :=
  [(o, 1, 0xF0), (o + 1, 1, 0xF0), (o + 3, 5, allOnes 5), (o + 0x1E, 2, 0xFFFF), (o + 0x2C, 4, allOnes 4), (o + 0x38, 8, allOnes 8)]

def parseObj (b : Bytes) (o : Nat) : Obj :=
  {
    loc := fieldAt b o 1 % 4, peer := bitOf (fieldAt b o 1) 2, bruic2 := bitOf (fieldAt b o 1) 3, target := fieldAt b (o + 1) 1 % 16,
    path := fieldAt b (o + 2) 1, shardId := fieldAt b (o + 8) 8, location := fieldAt b (o + 16) 8, step := fieldAt b (o + 0x18) 6,
    tensorAddr := fieldAt b (o + 0x20) 8, tensorCount := fieldAt b (o + 0x28) 2, reportMax := fieldAt b (o + 0x2A) 2,
    reportAddr := fieldAt b (o + 0x30) 8 }

/-- The ranges of OBJ (13 R358): Bruic 2 is read and never written (11 R318). -/
def objChecks (b : Bytes) (o : Nat) (dest : Bool) : List (Bool × Nat) :=
  let x := parseObj b o
  [(x.loc != 3 && !(x.peer && x.loc != 0) && !(x.bruic2 && (x.loc == 0 || dest)), o),
   (!dest || (1 ≤ x.tensorCount && x.tensorCount ≤ 510), o + 0x28)]

def fanRes (o : Nat) (b : Bytes) : List (Nat × Nat × Nat) :=
  let f := fieldAt b o 1 % 32
  [(o, 8, allOnes 8 - 31)] ++ (List.range 15).flatMap (fun k => if k + 1 ≥ f then [(o + 8 + 8 * k, 8, allOnes 8)] else [])

def xformRes (o : Nat) : List (Nat × Nat × Nat) :=
  [(o, 1, 0xF0), (o + 2, 1, 0x80), (o + 3, 1, 0xFC), (o + 5, 1, 0xE0), (o + 6, 1, 0xF0), (o + 7, 25, allOnes 25)]

def parsePnt (b : Bytes) (o : Nat) : PntCfg :=
  let a := fieldAt b (o + 4) 1
  let t := fieldAt b (o + 5) 1
  ⟨a % 8, bitsOf a 3 3, bitsOf a 6 2, t % 16, bitOf t 4, fieldAt b (o + 6) 1 % 16⟩

def parseXform (b : Bytes) (o : Nat) : Xform :=
  let s := fieldAt b (o + 2) 1
  {
    format := fieldAt b o 1 % 16, keySlot := fieldAt b (o + 1) 1, snoopHandle := s % 16, snoopEn := bitOf s 4, snoopRecord := bitOf s 5,
    snoopInit := bitOf s 6, snoopAlg := fieldAt b (o + 3) 1 % 4, pnt := parsePnt b o }

def xformChecks (b : Bytes) (o : Nat) : List (Bool × Nat) :=
  let x := parseXform b o
  [(x.format ≤ 11, o), (!x.snoopInit || x.snoopAlg != 0, o + 3), (x.pnt.packOk, o + 4), (x.pnt.tableOk, o + 5), (x.pnt.shufOk, o + 6)]

def digRes (o : Nat) : List (Nat × Nat × Nat) :=
  [(o, 1, 0xC0), (o + 4, 4, allOnes 4 - 1), (o + 0x18, 8, allOnes 8)]

def parseDig (b : Bytes) (o : Nat) : Dig :=
  {
    handle := fieldAt b o 1 % 16, alg := bitsOf (fieldAt b o 1) 4 2, keySlot := fieldAt b (o + 1) 1, finalLen := fieldAt b (o + 2) 2,
    resultHost := bitOf (fieldAt b (o + 4) 1) 0, msgLen := fieldAt b (o + 8) 8, resultAddr := fieldAt b (o + 16) 8 }

def latRes (o : Nat) : List (Nat × Nat × Nat) :=
  [(o, 1, 0xFC), (o + 1, 1, 0xF0), (o + 2, 1, 0xF0), (o + 3, 1, 0xF8), (o + 0x10, 1, 0xF0), (o + 0x13, 5, allOnes 5),
   (o + 0x38, 8, allOnes 8)]

def parseLat (b : Bytes) (o : Nat) : Lat :=
  let f := fieldAt b (o + 3) 1
  {
    op := fieldAt b o 1 % 4, inFmt := fieldAt b (o + 1) 1 % 16, outFmt := fieldAt b (o + 2) 1 % 16, stats := bitOf f 0,
    scaleRecord := bitOf f 1, statsHost := bitOf f 2, rowLen := fieldAt b (o + 4) 4, coefA := fieldAt b (o + 8) 4,
    coefB := fieldAt b (o + 12) 4, k := fieldAt b (o + 0x10) 1 % 16, part := fieldAt b (o + 0x11) 1, parts := fieldAt b (o + 0x12) 1,
    scaleAddr := fieldAt b (o + 0x18) 8, scaleDst := fieldAt b (o + 0x20) 8, statsDst := fieldAt b (o + 0x28) 8,
    aux0 := fieldAt b (o + 0x30) 8 }

/-- The ranges of LAT (13 R360, R365; 08 R225 to R237): IN_FMT and OUT_FMT may be 0 where the lattice does not run; where it does, an FP8
OUT_FMT with TILE scales needs rows of at most 16,384. -/
def latChecks (b : Bytes) (o : Nat) (used : Bool) : List (Bool × Nat) :=
  let l := parseLat b o
  [(l.op ≤ 2, o), (l.inFmt ≤ 11 && (!used || (l.inFmt != 0 && !(l.op == 1 && l.inFmt ≥ 6))), o + 1),
   (l.outFmt ≤ 10 && (!used || l.outFmt != 0), o + 2),
   (l.rowLen != 0 && (!used || (!((isMx l.inFmt || isMx l.outFmt) && l.rowLen % 32 != 0) &&
     !((l.outFmt == 4 || l.outFmt == 5) && !l.scaleRecord && l.rowLen > 16384))), o + 4),
   (!used || f32Finite l.coefA, o + 8), (!used || f32Finite l.coefB, o + 12),
   (l.op != 2 || (2 ≤ l.k && l.k ≤ 8), o + 0x10), (l.parts == 0 || l.part < l.parts, o + 0x11), (1 ≤ l.parts && l.parts ≤ 16, o + 0x12)]

def avgRes (o k : Nat) : List (Nat × Nat × Nat) :=
  (List.range 8).flatMap (fun j => if j ≥ k then [(o + 4 * j, 4, allOnes 4)] else []) ++
  (List.range 7).flatMap (fun j => if j + 1 ≥ k then [(o + 0x20 + 8 * j, 8, allOnes 8)] else []) ++ [(o + 0x58, 8, allOnes 8)]

def parseAvg (b : Bytes) (o k : Nat) : Avg :=
  {
    w := (List.range k).map (fun j => fieldAt b (o + 4 * j) 4),
    aux := (List.range (k - 1)).map (fun j => fieldAt b (o + 0x20 + 8 * j) 8) }

/-! ### Flags (13 R355) -/

def parseFlags (f : Nat) : Flags :=
  {
    groupEnd := bitOf f 0, cmpl := bitOf f 1, irq := bitOf f 2, cont := bitOf f 3, swap := bitOf f 4, cache := bitOf f 5,
    progress := bitOf f 6, transform := bitOf f 7, relayout := bitOf f 8, sealCode := bitsOf f 9 2, codeOff := bitOf f 11,
    verifyCode := bitsOf f 12 2, suspectOk := bitOf f 14, common := bitOf f 15, init := bitOf f 16, windows := bitOf f 17,
    file := bitOf f 18, host := bitOf f 19, rollback := bitOf f 20 }

/-- SYNC_ID, SYNC_OP and VALUE of a SYNC ARG (13 R356). -/
def syncIdOf (arg : Nat) : Nat := arg % 1024
def syncOpOf (arg : Nat) : Nat := bitsOf arg 16 2
def syncValOf (arg : Nat) : Nat := bitsOf arg 32 32

/-- res0 bits of ARG (13 R356): without PROGRESS, a SWAP_IN's ARG is not used. -/
def argRes (op : Nat) : List (Nat × Nat × Nat) :=
  match op with
  | 0 => []
  | 5 => []
  | 11 => [(0x18, 8, allOnes 8 - 7)]
  | 12 => [(0x18, 8, allOnes 8 - 7)]
  | 14 => [(0x18, 4, 0xFFFCFC00)]
  | 15 => [(0x18, 4, 0xFFFCFC00)]
  | 16 => [(0x18, 4, 0xFFFCFC00)]
  | 17 => [(0x18, 8, allOnes 8 - 15)]
  | _ => [(0x18, 8, allOnes 8)]

/-! ### The v2 entry's checks (13 R365) -/

/-- Rules over the header's fields (13 R355, R365; 02 R62; 10 R287). -/
def headerChecks (mode op flags arg : Nat) (sect : Nat) : List (Bool × Nat) :=
  let f := parseFlags flags
  [(!f.transform || bitOf sect 6, 4),
   (f.sealCode != 3 && f.verifyCode != 3 && !(mode == 2 && (f.sealCode == 2 || f.verifyCode == 2)), 5),
   (!f.rollback || (op == opRestore && f.windows), 6),
   (!(op == opSwapIn && f.progress) || arg % 8 == 0, 0x18),
   (!(op == opWait || op == opSignal || op == opBarrier) || syncOpOf arg != 3, 0x1A),
   (!(op == opBarrier && syncOpOf arg == 2) || (1 ≤ syncValOf arg && syncValOf arg ≤ 256), 0x1C)]

def res0Of (b : Bytes) (op sect : Nat) : List (Nat × Nat × Nat) :=
  let k := fieldAt b (sectOff b 6 + 0x10) 1 % 16
  [(0, 1, 0x60), (1, 1, 0xF0), (2, 2, 0xFE00), (4, 4, 0xFFE00000), (0x0E, 2, 0xFFFF)] ++ argRes op ++
  (if bitOf sect 0 then streamRes (sectOff b 0) b else []) ++ (if bitOf sect 1 then streamRes (sectOff b 1) b else []) ++
  (if bitOf sect 2 then objRes (sectOff b 2) else []) ++ (if bitOf sect 3 then fanRes (sectOff b 3) b else []) ++
  (if bitOf sect 4 then xformRes (sectOff b 4) else []) ++ (if bitOf sect 5 then digRes (sectOff b 5) else []) ++
  (if bitOf sect 6 then latRes (sectOff b 6) else []) ++ (if bitOf sect 7 then avgRes (sectOff b 7) k else []) ++
  (if bitOf sect 8 then
    let o := sectOff b 8
    let n := finalLenOf b
    [(o + n, roundUp n 32 - n, allOnes (roundUp n 32 - n))]
  else [])

def rangesOf (fabAw mode : Nat) (b : Bytes) (op flags sect : Nat) : List (Bool × Nat) :=
  let f := parseFlags flags
  let lat := parseLat b (sectOff b 6)
  let used := f.transform || op == opLattice
  headerChecks mode op flags (fieldAt b 0x18 8) sect ++
  (if bitOf sect 0 then streamChecks fabAw b (sectOff b 0) else []) ++ (if bitOf sect 1 then streamChecks fabAw b (sectOff b 1) else []) ++
  (if bitOf sect 2 then objChecks b (sectOff b 2) (bitOf sect 0) else []) ++
  (if bitOf sect 3 then [(1 ≤ fieldAt b (sectOff b 3) 1 % 32 && fieldAt b (sectOff b 3) 1 % 32 ≤ 16, sectOff b 3)] else []) ++
  (if bitOf sect 4 then xformChecks b (sectOff b 4) else []) ++
  (if bitOf sect 5 then [(!(op == opDigest && f.init) || (parseDig b (sectOff b 5)).alg != 0, sectOff b 5),
    ((parseDig b (sectOff b 5)).finalLen ≤ 256, sectOff b 5 + 2)] else []) ++
  (if bitOf sect 6 then latChecks b (sectOff b 6) used else []) ++
  (if bitOf sect 7 && lat.op == 2 then
    (parseAvg b (sectOff b 7) lat.k).w.zipIdx.map (fun (w, j) => (f32Finite w, sectOff b 7 + 4 * j)) else [])

/-- The first offending byte, in the order of the checks (13 R365), of an entry's bytes with every slot. -/
def v2Malformed (fabAw mode : Nat) (b : Bytes) : Option Nat :=
  let op := fieldAt b 0 1 % 32
  let flags := fieldAt b 4 4
  let sect := fieldAt b 2 2
  let slots := 1 + (List.range 9).foldl (fun a k => if bitOf sect k then a + sectSlots (finalLenOf b) k else a) 0
  if op > 17 then some 0 else
  match sectCheck op flags (sect % 512) with
  | some o => some o
  | none =>
    if ¬ avgFits b sect then some 2 else
    if fieldAt b 1 1 % 16 + 1 ≠ slots then some 1 else
    match resAll b (res0Of b op sect) with
    | some o => some o
    | none => firstFail (rangesOf fabAw mode b op flags sect)

/-- The descriptor of a v2 entry. -/
def parseV2 (b : Bytes) : Desc :=
  let op := fieldAt b 0 1 % 32
  let sect := fieldAt b 2 2
  let has := fun s => bitOf sect s
  let lat := parseLat b (sectOff b 6)
  {
    opcode := op, slots := fieldAt b 1 1 % 16 + 1, flags := parseFlags (fieldAt b 4 4), step := fieldAt b 8 6,
    deadline := fieldAt b 0x10 4, tag := fieldAt b 0x14 4, arg := fieldAt b 0x18 8,
    src := if has 0 then some (parseStream b (sectOff b 0)) else none, dst := if has 1 then some (parseStream b (sectOff b 1)) else none,
    obj := if has 2 then some (parseObj b (sectOff b 2)) else none,
    fan := if has 3 then (List.range (fieldAt b (sectOff b 3) 1 % 32 - 1)).map (fun k => fieldAt b (sectOff b 3 + 8 + 8 * k) 8) else [],
    xform := if has 4 then some (parseXform b (sectOff b 4)) else none, dig := if has 5 then some (parseDig b (sectOff b 5)) else none,
    lat := if has 6 then some lat else none, avg := if has 7 then some (parseAvg b (sectOff b 7) lat.k) else none,
    inline := if has 8 then sliceZ b (sectOff b 8) (finalLenOf b) else [], v1 := false }

/-! ### The v1 entry (13 R374, R375) -/

/-- The v2 opcode of a v1 opcode. -/
def v1Opcode (op : Nat) : Nat :=
  match op with
  | 1 => opCopy | 2 => opSnap | 3 => opRestore | 4 => opSeal | 5 => opOpen | 6 => opFence
  | _ => opNop

def v1Malformed (fabAw hostBase : Nat) (b : Bytes) : Option Nat :=
  let op := fieldAt b 0 1 % 16
  let len := fieldAt b 0x18 4
  let src : Stream := ⟨fieldAt b 8 8, len, [], bitOf (fieldAt b 0x20 1) 0⟩
  let dst : Stream := ⟨fieldAt b 0x10 8, len, [], bitOf (fieldAt b 0x20 1) 1⟩
  let moves := op == 1 || op == 4 || op == 5
  if op > 6 then some 0 else
  match resAll b [(0, 1, 0x70), (1, 1, 0xF8), (3, 1, 0xFF), (0x20, 1, 0xFC), (0x21, 7, allOnes 7), (0x2C, 20, allOnes 20)] with
  | some o => some o
  | none =>
    firstFail
      [(!(op == 2) || dst.start == 0 || dst.start == hostBase, 0x10), (!(op == 3) || dst.start == 0, 0x10),
       (op == 0 || op == 6 || len != 0, 0x18), (!moves || src.ok fabAw, 8), (!moves || dst.ok fabAw, 0x10)]

def Flags.zero : Flags := parseFlags 0

def parseV1 (b : Bytes) : Desc :=
  let op := fieldAt b 0 1 % 16
  let f := fieldAt b 1 1
  let len := fieldAt b 0x18 4
  let moves := op == 1 || op == 4 || op == 5
  {
    opcode := v1Opcode op, slots := 2,
    flags := { Flags.zero with
      groupEnd := true, cmpl := true, irq := bitOf f 0, sealCode := if bitOf f 1 then 1 else 0, codeOff := bitOf f 2, windows := op == 3,
      host := op == 2 },
    step := fieldAt b 0x1C 4, deadline := fieldAt b 0x28 4, tag := fieldAt b 4 4, arg := 0,
    src := if moves then some ⟨fieldAt b 8 8, len, [], bitOf (fieldAt b 0x20 1) 0⟩ else none,
    dst := if moves then some ⟨fieldAt b 0x10 8, len, [], bitOf (fieldAt b 0x20 1) 1⟩ else none,
    obj := if op = 3 then some ⟨2, false, false, 0, 0, 0, fieldAt b 8 8, 0, 0, 0, 0, 0⟩ else none, fan := [],
    xform := if op = 4 ∨ op = 5 then some ⟨0, fieldAt b 2 1, 0, false, false, false, 0, ⟨0, 0, 0, 15, false, 0⟩⟩ else none,
    dig := none, lat := none, avg := none, inline := [], v1 := true }

/-- An entry's fields as far as its size and group need them when it is malformed: the rest is not used. -/
def Desc.bare (d : Desc) : Desc :=
  { d with src := none, dst := none, obj := none, fan := [], xform := none, dig := none, lat := none, avg := none, inline := [] }

end Sys2Proof.Machine
end

