-- ==== Sys2Proof/Machine/Log.lean ====
section
/-! DEFINITION. Fabric writes (04 R130, 15 R405 to R407) and the Yeljo log (18 R490 to R497). -/
namespace Sys2Proof.Machine

/-! ### Fabric writes -/

/-- The beats of a write: address, 64 bytes, byte enables. -/
def beatsFuel : Nat → Nat → Bytes → List (Nat × Bytes × Nat)
  | 0, _, _ => []
  | fuel + 1, a, d =>
    if d.isEmpty then [] else
    let o := a % 64
    let k := min (64 - o) d.length
    (a - o, zeros o ++ d.take k ++ zeros (64 - o - k), (2 ^ k - 1) * 2 ^ o) :: beatsFuel fuel (a + k) (d.drop k)

def beatsOf (a : Nat) (d : Bytes) : List (Nat × Bytes × Nat) := beatsFuel d.length a d

def State.unacked (s : State) : Nat := (s.xfers.filter (fun x => x.kind == .fabWrite)).length

/-- The first identifier at or after `t`, of 4,096, that no unacknowledged write has. -/
def freeIdFuel (used : List Nat) : Nat → Nat → Nat
  | 0, t => t % 4096
  | fuel + 1, t => if used.contains (t % 4096) then freeIdFuel used fuel (t + 1) else t % 4096

def State.freeWriteId (s : State) : Nat :=
  freeIdFuel ((s.xfers.filter (fun x => x.kind == .fabWrite)).map (·.tag)) 4096 s.tag

/-- p of an address: its interleave unit among the memory's pseudo-channels, 32 a stack under HBM3E and 64 under HBM4 (15 R406). -/
def memChan (s : State) (addr : Nat) : Nat :=
  addr / 2 ^ s.build.memIntlvLog2 % max 1 (s.build.memStacks * (if s.build.hbm4 then 64 else 32))

/-- A read as it leaves: on read channel p mod 16. -/
def readOut (s : State) (tag addr beats cls : Nat) : Out := .fabRead (memChan s addr % 16) tag addr beats cls

/-- A write: on write channel p mod 8. -/
def writeOut (s : State) (id addr : Nat) (data : Bytes) (be : Nat) : Out := .fabWrite (memChan s addr % 8) id addr data be

/-- Issue one beat. -/
def State.fabBeat (s : State) (w : PendWr) : State :=
  let id := s.freeWriteId
  let x : Xfer :=
    {
      kind := .fabWrite, tag := id, job := w.job, use := w.use, addr := w.addr, len := 64, parts := [], promised := w.promised, via := 0,
      psn := 0, key := none, data := [] }
  { s with xfers := s.xfers ++ [x], tag := id + 1, out := s.out ++ [writeOut s id w.addr w.data w.be] }

/-- Waiting beats, PROMISED before BUBBLE, each class in order (04 R130). -/
def pendInsert (w : PendWr) (l : List PendWr) : List PendWr :=
  if w.promised then l.filter (fun x => x.promised) ++ w :: l.filter (fun x => !x.promised) else l ++ [w]

/-- A beat leaves at once, or waits while 4,096 writes are unacknowledged (04 R130). -/
def State.fabOffer (s : State) (w : PendWr) : State :=
  if s.pendWr.isEmpty ∧ s.unacked < 4096 then s.fabBeat w else { s with pendWr := pendInsert w s.pendWr }

/-- Write bytes to fabric memory. -/
def State.fabWrite (s : State) (job : Nat) (use : XUse) (addr : Nat) (data : Bytes) (promised : Bool) : State :=
  (beatsOf addr data).foldl (fun a (ad, d, be) => a.fabOffer ⟨job, use, ad, d, be, promised⟩) s

/-- Let waiting beats leave. -/
def drainPendFuel : Nat → State → State
  | 0, s => s
  | fuel + 1, s =>
    match s.pendWr with
    | [] => s
    | w :: t => if s.unacked < 4096 then drainPendFuel fuel ({ s with pendWr := t }.fabBeat w) else s

def State.drainPend (s : State) : State := drainPendFuel s.pendWr.length s

/-! ### Merging and requests (04 R127 to R130, 15 R405, R406) -/

/-- Runs grouped for merging: a candidate joins the run before it when it starts at a higher address in the beat that run ends in or in
the next, and at most `w` candidates join (04 R127). -/
def mergeFuel (w : Nat) : List (Nat × Nat) → List (Nat × Nat) → List (List (Nat × Nat))
  | cur, [] => if cur.isEmpty then [] else [cur]
  | cur, (a, n) :: t =>
    match cur.getLast? with
    | none => mergeFuel w [(a, n)] t
    | some (b, m) =>
      let e := b + m - 1
      if cur.length < w ∧ a > b ∧ a > e ∧ a / 64 ≤ e / 64 + 1 then mergeFuel w (cur ++ [(a, n)]) t
      else cur :: mergeFuel w [(a, n)] t

def mergeRuns (s : State) (runLen : Nat) (pieces : List (Nat × Nat)) : List (List (Nat × Nat)) :=
  if runLen < s.get .stgMergeThresh then mergeFuel (s.get .stgMergeWindow) [] pieces else pieces.map (fun p => [p])

/-- The part of a run inside [lo, hi). -/
def clip (lo hi : Nat) (p : Nat × Nat) : Option (Nat × Nat) :=
  let a := max lo p.1
  let e := min hi (p.1 + p.2)
  if a < e then some (a, e - a) else none

/-- Requests of a group: aligned address, beats, and the parts of the stream in them; one for each interleave unit (15 R405). -/
def requestsFuel (unit : Nat) (g : List (Nat × Nat)) (hi : Nat) : Nat → Nat → List (Nat × Nat × List (Nat × Nat))
  | 0, _ => []
  | fuel + 1, lo =>
    if lo ≥ hi then [] else
    let e := min hi ((lo / unit + 1) * unit)
    let ps := g.filterMap (clip lo e)
    let rest := requestsFuel unit g hi fuel e
    match ps with
    | [] => rest
    | (a, n) :: t =>
      let z := t.foldl (fun m q => max m (q.1 + q.2)) (a + n)
      let a0 := a - a % 64
      (a0, ceilDiv (z - a0) 64, ps.map (fun q => (q.1 - a0, q.2))) :: rest

def interleave (s : State) : Nat := 2 ^ s.build.memIntlvLog2

def requestsOf (s : State) (g : List (Nat × Nat)) : List (Nat × Nat × List (Nat × Nat)) :=
  match g with
  | [] => []
  | (a, n) :: t =>
    let hi := t.foldl (fun m q => max m (q.1 + q.2)) (a + n)
    requestsFuel (interleave s) g hi ((hi - a) / interleave s + 2) a

/-- First of RESCUE's 6,144 read tags (04 R129). -/
def rescueTag : Nat := 10240

/-- Read tags of the classes other than RESCUE, whose tags are lent to them while the guard is disarmed (04 R129). -/
def readTags (s : State) : Nat := if s.guard.armed then rescueTag else 16384

/-- A range of `n` tags below `lim` that no outstanding request uses (15 R405). -/
def freeTagsFuel (lim : Nat) (used : List (Nat × Nat)) (n : Nat) : Nat → Nat → Option Nat
  | 0, _ => none
  | fuel + 1, t =>
    if t + n > lim then none else
    match used.find? (fun u => meets u.1 u.2 t n) with
    | some u => freeTagsFuel lim used n fuel (u.1 + u.2)
    | none => some t

/-- Tags of the requests in flight that are not rescues. -/
def State.lentTags (s : State) : List (Nat × Nat) :=
  (s.xfers.filter (fun x => x.kind == .fabRead)).map (fun x => (x.tag, x.len / 64)) ++ s.guard.copyTags.map (fun c => (c.2.1, 64))

def State.tagsUsed (s : State) : List (Nat × Nat) := s.lentTags ++ s.guard.rescues.map (fun r => (rescueTag + 64 * r.tags, 64))

/-- Read tags in flight, the guard's among them. -/
def State.tagCount (s : State) : Nat := (s.tagsUsed.map (·.2)).sum

/-- The first 64 of the rescue tags that no rescue has, nor a request that was lent them before the guard armed (03 R106). -/
def State.rescueTags (s : State) : Option Nat :=
  (List.range 96).find? (fun k => !s.tagsUsed.any (fun u => meets u.1 u.2 (rescueTag + 64 * k) 64))

def State.tagPeak (s : State) : State := s.peak .stgTagsPeak s.tagCount

/-- A free range of `n` tags. -/
def State.freeTags (s : State) (n : Nat) : Option Nat := freeTagsFuel (readTags s) s.tagsUsed n (s.tagsUsed.length + 1) 0

/-- A bubble request finds a tag within its share (04 R129). -/
def bubbleRoom (s : State) (n : Nat) : Bool :=
  ((s.xfers.filter (fun x => x.kind == .fabRead && !x.promised)).foldl (fun a x => a + x.len / 64) 0) + n ≤ s.get .stgTagCapBubble

/-- Issue one fabric read, when tags are free. -/
def State.fabRead (s : State) (job : Nat) (use : XUse) (addr beats : Nat) (parts : List (Nat × Nat)) (promised : Bool) : Option State :=
  if !promised && !bubbleRoom s beats then none else
  match s.freeTags beats with
  | none => none
  | some t =>
    let x : Xfer :=
      {
        kind := .fabRead, tag := t, job := job, use := use, addr := addr, len := 64 * beats, parts := parts, promised := promised, via := 0,
        psn := 0, key := none, data := [] }
    let s1 : State := { s with xfers := s.xfers ++ [x] }
    some (s1.send (readOut s t addr beats (if promised then 1 else 0))).tagPeak

/-! ### Yeljo records -/

def yStart : Nat := 0

def State.recording (s : State) : Bool := s.flag .yljStatRecording
def State.replaying (s : State) : Bool := s.flag .yljStatReplaying

/-- The engine's check records (18 R497). -/
def isCheck (typ : Nat) : Bool := typ == 12 || typ == 13 || typ == 14 || typ == 15

/-- Whether x is written before y (18 R493), both at one stamp. -/
def yBefore (x y : YRec) : Bool :=
  x.tick == y.tick && x.ofs == y.ofs &&
  (x.typ < y.typ || (x.typ == y.typ && (x.ctx < y.ctx || (x.ctx == y.ctx && x.ring < y.ring))))

/-- Insert into the buffer, newest first. -/
def yInsert (r : YRec) : List YRec → List YRec
  | [] => [r]
  | x :: t => if yBefore r x then x :: yInsert r t else r :: x :: t

/-- The 32 bytes of a record with a given index (18 R492). -/
def YRec.bytes (r : YRec) (index : Nat) : Bytes :=
  natLe 4 r.tick ++ natLe 2 r.ofs ++ natLe 1 r.typ ++ natLe 1 index ++ natLe 8 r.a ++ sliceZ r.b 0 16

def yljBufMax : Nat := 4096

/-- Put a record into the on-chip buffer, or drop it (18 R493). -/
def State.yPut (s : State) (r : YRec) : State :=
  if s.yeljo.buf.length < yljBufMax then
    ({ s with yeljo := { s.yeljo with buf := (yInsert r s.yeljo.buf.reverse).reverse } }).set .yljNextIndex (s.get .yljNextIndex + 1)
  else
    (({ s with yeljo := { s.yeljo with dropped := s.yeljo.dropped + 1, lostEver := true } }).up .yljStatLost).bump .yljLostCount 1

/-- First byte in which two records differ, but for SEQ. -/
def firstDiff (a b : Bytes) : Option Nat :=
  (List.range 32).find? (fun i => i != 7 && a.getD i 0 != b.getD i 0)

/-- A divergence (18 R497). -/
def State.diverge (s : State) (index typ off : Nat) : State :=
  ((({ s with yeljo := { s.yeljo with stopped := true } }).up .yljStatDiverged).set .yljDivIndexIndex index).set .yljDivInfoType typ
    |>.set .yljDivInfoOffset off

/-- Compare produced check records with logged ones, in order (18 R497). -/
def yMatchFuel : Nat → State → State
  | 0, s => s
  | fuel + 1, s =>
    match s.yeljo.made, s.yeljo.due with
    | m :: ms, (i, d) :: ds =>
      let t := { s with yeljo := { s.yeljo with made := ms, due := ds } }
      match firstDiff (m.bytes i) d with
      | none => yMatchFuel fuel t
      | some o => t.diverge i (fieldAt d 6 1 % 32) o
    | _, _ => s

def State.yMatch (s : State) : State := if s.yeljo.stopped then s else yMatchFuel s.yeljo.made.length s

/-- Log an event with its record type, context, ring, and fields A and B (18 R492). -/
def State.logRec (s : State) (typ ctx ring a : Nat) (b : Bytes) : State :=
  let r : YRec := ⟨s.now % 2 ^ 32, s.tick.ofs % 2 ^ 13, typ, ctx, ring, a, b⟩
  let s1 := if s.recording then s.yPut r else s
  if s.replaying && isCheck typ && !s.yeljo.stopped then
    ({ s1 with yeljo := { s1.yeljo with made := s1.yeljo.made ++ [r] } }).yMatch
  else s1

/-- Firmware hands a decision to hardware: 1 a trigger that is due, 2 a substitution, 3 the result of a target's connection, 4 a restart by
the watchdog (18 R492). The spec does not say what ARG holds: it is a free value. -/
def State.logFirmware (s : State) (act : Nat) : State :=
  let (v, s1) := s.drawFree
  s1.logRec 11 0 0 (act + v % 2 ^ 32 * 2 ^ 32) []

/-- A REGWR record (18 R492): a 64-bit write gives two, low half first. -/
def State.logWrite (s : State) (tenant : Bool) (ctx off size value : Nat) : State :=
  let one := fun (a : State) (o v : Nat) => a.logRec 4 ctx 0 (o % 2 ^ 20 + ctx * 2 ^ 20 + b2n tenant * 2 ^ 26 + v % 2 ^ 32 * 2 ^ 32) []
  if size = 8 then one (one s off (value % 2 ^ 32)) (off + 4) (value / 2 ^ 32) else one s off value

/-! ### The region (18 R491, R493) -/

def yljCap (s : State) : Nat := (s.get .yljSizeUnits * 65536 - 256) / 32

def patBuilt (small : Bool) (c : Nat) : Nat × Nat :=
  match c with
  | 0 => (34, 32) | 1 => (136, 128) | 2 => if small then (17, 16) else (34, 32) | 3 => (18, 16) | 4 => (34, 32) | 5 => (68, 64)
  | 6 => (2508, 2432) | _ => (4, 4)

/-- Units of class c that have failed. -/
def State.failedUnits (s : State) (c : Nat) : Nat := (s.patina.units.filter (fun u => u.cls == c && u.failed)).length

/-- The logical count that the good units of class c allow (17 R482): the count halves, and halves again, down to the floor. -/
def State.countFor (s : State) (c : Nat) : Nat :=
  let b := patBuilt (s.build.latLanes == 16) c
  let good := b.1 - s.failedUnits c
  if good ≥ b.2 then b.2 else
  match c with
  | 2 => if good < 8 then 0 else if good < b.2 / 2 then 8 else b.2 / 2
  | 5 => if good < 32 then 0 else 32
  | 6 => 0
  | 7 => good
  | _ => if good < b.2 / 4 then 0 else if good < b.2 / 2 then b.2 / 4 else b.2 / 2

/-- Logical count in service of class c (17 R475, R482). -/
def State.logicalOf (s : State) (c : Nat) : Nat := lookupD s.patina.counts c (patBuilt (s.build.latLanes == 16) c).2

/-- A logical unit that runs on its spare only when the substitution is done takes no new block from the tile boundary on (17 R478). -/
def State.moving (s : State) (c l : Nat) : Bool := s.patina.substs.any (fun x => x.cls == c && x.tile && x.logical == l)

def longCores (s : State) : Nat := s.get .digStatLongCores

/-- FJ_ARM_DIGEST in force, 48 bytes. -/
def State.armDigest (s : State) : Bytes := sliceZ s.arm.digest 0 48

/-- The conditions of a run, as the session header holds them from 0x0C to 0x57 (18 R487, R491). -/
def runConds (s : State) : Bytes :=
  natLe 4 (s.get .fjFwVersionVersion) ++ s.armDigest ++ natLe 1 (s.get .latStatLanes) ++ natLe 1 s.mode ++
  natLe 2 (s.get .tickPeriodPeriod) ++ (List.range 6).flatMap (fun c => natLe 1 (s.logicalOf c)) ++ natLe 1 (longCores s) ++ zeros 1 ++
  natLe 4 (s.get .sealPrefixPrefix) ++ natLe 1 (s.get .fjPosInst) ++ zeros 7

/-- The session header (18 R491), with the conditions at the session's start (log entry 151). -/
def yljHeader (s : State) (closed : Bool) : Bytes :=
  let fl := b2n s.replaying + 2 * b2n s.yeljo.wrapped + 4 * b2n s.yeljo.lostEver + 8 * b2n closed
  let h := ascii "FJYELJO1" ++ natLe 2 1 ++ natLe 2 fl ++ s.yeljo.conds ++ natLe 8 s.yeljo.first ++
    natLe 8 (s.get .yljNextIndex - s.yeljo.buf.length) ++ natLe 8 (if closed then s.now else 0) ++ zeros 140
  h ++ natLe 4 (crc32c h)

def State.yljHeaderWrite (s : State) (closed : Bool) : State :=
  s.fabWrite 0 .side (s.get .yljBaseBase) (yljHeader s closed) false

/-- Write the oldest buffered record to the region; a full region without WRAP ends the session (18 R493). -/
def State.yDrainOne (s : State) : State :=
  match s.yeljo.buf with
  | [] => s
  | r :: t =>
    let i := s.get .yljNextIndex - s.yeljo.buf.length
    let c := yljCap s
    if i ≥ c ∧ ¬ s.flag .yljCfgWrap then (s.yljHeaderWrite true).down .yljStatRecording else
    let s1 := s.fabWrite 0 .side (s.get .yljBaseBase + 0x100 + 32 * (i % c)) (r.bytes i) false
    let y := { s1.yeljo with
      buf := t, wrapped := s1.yeljo.wrapped || c ≤ i, first := if i - s1.yeljo.first ≥ c then i + 1 - c else s1.yeljo.first }
    { s1 with yeljo := y }

/-- A LOST record when room has returned (18 R493). -/
def State.yLost (s : State) : State :=
  if s.recording ∧ s.yeljo.dropped ≠ 0 ∧ s.yeljo.buf.length < yljBufMax then
    let n := s.yeljo.dropped
    ({ s with yeljo := { s.yeljo with dropped := 0 } }).logRec 16 0 0 n []
  else s

def yDrainFuel : Nat → State → State
  | 0, s => s
  | n + 1, s => if s.recording ∧ ¬ s.yeljo.buf.isEmpty then yDrainFuel n s.yDrainOne else s

/-- Drain the share of one tick (18 R493). -/
def State.yDrain (s : State) : State := (yDrainFuel (s.get .yljRsvBytes / 32) s).yLost

/-- The session ends (18 R490): the buffer is drained and the header closed. -/
def State.yClose (s : State) : State :=
  if s.recording then
    let t := yDrainFuel s.yeljo.buf.length s
    if t.recording then (t.yljHeaderWrite true).down .yljStatRecording else t
  else s

/-- A guarded window: base and size in bytes (03 R90; GRD_WIN_SIZE counts units of 64 KiB). -/
def State.window (s : State) (i : Nat) : Nat × Nat := (s.getI .grdWinBaseBase i, 65536 * s.getI .grdWinSizeSize i)

/-- The windows defined, in order. -/
def State.windows (s : State) : List (Nat × Nat) := (List.range 64).map s.window |>.filter (fun w => w.2 != 0)

/-- FRAMES of the own reserve (10 R266). -/
def State.frames (s : State) : Nat := s.windows.foldl (fun a w => a + ceilDiv w.2 0x800000) 0

/-- The regions of fabric memory that the engine keeps for itself: reserves, spill, fingerprint table, save areas (10 R266, 07 R206, R219,
08 R242). -/
def State.ownRegions (s : State) : List (Nat × Nat) :=
  (if s.frames = 0 then [] else [(s.get .fjMirrorBaseBase, reserveSize s.frames)]) ++
  (List.range 4).filterMap (fun j =>
    let f := s.getI .fjPeerResFramesFrames j
    if f = 0 then none else some (s.getI .fjPeerResBaseBase j, reserveSize f)) ++
  [(s.get .digSaveBaseBase, 0x80000), (s.get .latSaveBaseBase, 64 * 17 * 0x11000)] ++
  (if s.get .grdSpillSlotsSlots = 0 then [] else [(s.get .grdSpillBaseBase, s.get .grdSpillSlotsSlots * 4096)]) ++
  (if s.get .digFptEntriesEntries = 0 then [] else [(s.get .digFptBaseBase, s.get .digFptEntriesEntries * 64)])

/-- The log's region keeps the rules of 18 R491. -/
def yljRegionOk (s : State) : Bool :=
  s.get .yljSizeUnits ≥ 16 &&
  (s.windows ++ s.ownRegions).all (fun r => !meets r.1 r.2 (s.get .yljBaseBase) (s.get .yljSizeUnits * 65536))

/-- The session begins at tick boundary 0 (18 R490, R491). -/
def State.yOpen (s : State) : State :=
  let m := s.get .yljCfgMode
  if m = 1 ∨ (m = 2 ∧ s.get .yljBaseBase ≠ 0) then
    if yljRegionOk s then
      let t := (s.up .yljStatRecording).set .yljNextIndex 0
      ({ t with yeljo := { t.yeljo with first := 0, buf := [], dropped := 0, lostEver := false, wrapped := false, conds := runConds t } }).yljHeaderWrite false
    else s.set .yljStatCond 9
  else if m = 3 then s.set .yljStatCond 9
  else s

end Sys2Proof.Machine
end

