-- ==== Sys2Proof/Machine/Ring.lean ====
section
/-! DEFINITION. Completions (13 R366 to R373): how an entry ends, when it posts, and what it writes. -/
namespace Sys2Proof.Machine

/-- Index of a ring's registers (13 R378). -/
def rix (ctx ring : Nat) : Nat := 4 * ctx + ring

def Result.ok : Result := ⟨stOk, 0, 0, 0, 0, none, none⟩

def Result.of (status : Nat) : Result := { Result.ok with status := status }

def State.findEntry (s : State) (uid : Nat) : Option Entry := s.entries.find? (fun e => e.uid == uid)

def State.modEntry (s : State) (uid : Nat) (f : Entry → Entry) : State :=
  { s with entries := replaceFirst (fun e => e.uid == uid) f s.entries }

def State.findGroup (s : State) (gid : Nat) : Option Group := s.groups.find? (fun g => g.gid == gid)

def State.modGroup (s : State) (gid : Nat) (f : Group → Group) : State :=
  { s with groups := replaceFirst (fun g => g.gid == gid) f s.groups }

def Ring.empty (ctx ring : Nat) : Ring := ⟨ctx, ring, none, none, []⟩

def State.ring (s : State) (ctx ring : Nat) : Ring :=
  match s.rings.find? (fun r => r.ctx == ctx && r.ring == ring) with
  | some r => r
  | none => Ring.empty ctx ring

def State.putRing (s : State) (r : Ring) : State :=
  { s with rings := if r = Ring.empty r.ctx r.ring then s.rings.filter (fun x => !(x.ctx == r.ctx && x.ring == r.ring))
                    else upsert (fun x => x.ctx == r.ctx && x.ring == r.ring) r s.rings }

def ringSize (s : State) (i : Nat) : Nat := 2 ^ (6 + s.getI .ringCfgSz i)
def cringSize (s : State) (i : Nat) : Nat := 2 ^ (6 + s.getI .cringCfgSz i)

/-- Entries free in a completion ring: at most SIZE − 1 are unread (13 R370). -/
def cringFree (s : State) (i : Nat) : Nat :=
  let n := cringSize s i
  n - 1 - (s.getI .cringTailTail i + n - s.getI .cringHeadHead i) % n

/-- The 32 bytes of a completion (13 R366, R367), as they stand when it is written. -/
def Cmpl.bytes (s : State) (c : Cmpl) : Bytes :=
  let i := rix c.ctx c.ring
  let due := if c.promised then c.due else 0
  let late := c.promised && s.now > c.due
  let tail :=
    if c.form = 1 then
      match c.res.ctrs with
      | some (a, b) => natLe 8 a ++ natLe 8 b
      | none => zeros 16
    else if c.form = 2 then
      match c.res.fault with
      | some (a, id, pri) => natLe 8 a ++ natLe 8 (c.res.bytesDone % 2 ^ 44 + id % 16 * 2 ^ 44 + b2n pri * 2 ^ 48)
      | none => zeros 16
    else natLe 8 c.res.bytesDone ++ natLe 6 c.res.step ++ natLe 2 c.res.detail
  natLe 1 c.res.status ++ natLe 1 (c.res.resource % 32) ++ natLe 1 (b2n late + 2 * b2n c.promised + 4 * c.form) ++
    natLe 1 (s.getI .cringTailPhase i) ++ natLe 2 (s.getI .ringHeadHead i) ++ natLe 1 c.opcode ++ natLe 1 c.covered ++
    natLe 4 c.tag ++ natLe 4 due ++ tail

/-- Write one completion at the tail (13 R370), log it, and send its message (R372, R373). -/
def State.writeCmpl (s : State) (c : Cmpl) : State :=
  let i := rix c.ctx c.ring
  let n := cringSize s i
  let t := s.getI .cringTailTail i
  let b := c.bytes s
  let a := s.getI .cringBaseBase i + 32 * t
  let s1 := if s.getI .cringCfgSpace i = 1 then s.fabWrite 0 .side a b c.promised else s.send (.hostWrite c.ctx a b)
  let s2 := s1.setI .cringTailTail i ((t + 1) % n)
  let s3 := if t + 1 = n then s2.setI .cringTailPhase i (1 - s2.getI .cringTailPhase i) else s2
  let s4 := s3.logRec 15 c.ctx c.ring (c.ctx + 64 * c.ring) (b.take 16)
  if c.last ∧ (c.irq ∨ s.getI .cringCfgIrqAll i = 1) then s4.message c.ctx (s.getI .cringCfgVector i) else s4

/-- Whether a completion can be written now: there is a free entry, and the function may issue requests (15 R412). -/
def canPost (s : State) (ctx ring : Nat) : Bool :=
  cringFree s (rix ctx ring) != 0 && (s.getI .cringCfgSpace (rix ctx ring) == 1 || bitOf s.pins.bme ctx)

/-- Post a completion, or let it wait for room (13 R371). -/
def State.postCmpl (s : State) (c : Cmpl) : State :=
  let r := s.ring c.ctx c.ring
  if r.waiting.isEmpty ∧ canPost s c.ctx c.ring then s.writeCmpl c
  else
    let i := rix c.ctx c.ring
    (((s.putRing { r with waiting := r.waiting ++ [c] }).setI .cringStatFull i 1).setI .cringStatWaited i 1).setI .ringStatCmplWait i 1

def drainCmplFuel : Nat → Nat → Nat → State → State
  | 0, _, _, s => s
  | fuel + 1, ctx, ring, s =>
    let r := s.ring ctx ring
    match r.waiting with
    | [] => (s.setI .cringStatFull (rix ctx ring) 0).setI .ringStatCmplWait (rix ctx ring) 0
    | c :: t => if canPost s ctx ring then drainCmplFuel fuel ctx ring ((s.putRing { r with waiting := t }).writeCmpl c) else s

/-- Post what waits as far as there is room. -/
def State.drainCmpl (s : State) (ctx ring : Nat) : State := drainCmplFuel ((s.ring ctx ring).waiting.length + 1) ctx ring s

/-- The completions of an ended entry (13 R367): FORM 2 for page faults, FORM 0 else; FORM 1 after it when the job sealed a block. -/
def cmplsOf (e : Entry) (g : Group) (covered : Nat) : List Cmpl :=
  let two := e.res.fault.isSome
  let c : Cmpl :=
    {
      ctx := e.ctx, ring := e.ring, gid := g.gid, opcode := e.desc.opcode, tag := e.desc.tag, covered := covered, res := e.res,
      irq := e.desc.flags.irq, promised := g.promised, due := g.dueTick, form := if two then 2 else 0, last := e.res.ctrs.isNone }
  match e.res.ctrs with
  | some _ => [c, { c with covered := 0, form := 1, last := true }]
  | none => [c]

/-- The entry posts a completion (13 R368). -/
def mustPost (e : Entry) (g : Group) (last : Bool) : Bool :=
  e.res.status != stOk || e.desc.flags.cmpl || e.desc.flags.irq || last || g.stage == .refused

/-- Blocks travel the inbound path (04 R137, R139; 13 R360): of a CHAIN, where its source is OBJ. -/
def Desc.inbound (d : Desc) : Bool :=
  d.opcode == opOpen || d.opcode == opRestore || d.opcode == opSwapIn || (d.opcode == opChain && d.src.isNone)

/-- Entries before `uid` on its ring. -/
def State.earlier (s : State) (e : Entry) : List Entry :=
  (s.entries.filter (fun x => x.ctx == e.ctx && x.ring == e.ring)).takeWhile (fun x => x.uid != e.uid)

/-- An inbound job that has overlapped with one before it on its ring, of another group, posts after it (04 R141, 13 R369). -/
def overlapHeld (s : State) (g : Group) (e : Entry) : Bool :=
  g.stage != .refused && e.desc.inbound &&
  (s.earlier e).any (fun x => x.gid != e.gid && x.desc.inbound && (x.stage == .running || x.stage == .ended))

/-- Post the entries at the front of a group that have ended, in ring order (13 R369). -/
def settleGroupFuel : Nat → Nat → State → State
  | 0, _, s => s
  | fuel + 1, gid, s =>
    match s.findGroup gid, s.entries.find? (fun e => e.gid == gid) with
    | some g, some e =>
      if e.stage ≠ .ended ∨ overlapHeld s g e then s else
      let rest := s.entries.filter (fun x => x.uid != e.uid)
      let last := g.stage != .opened && !(rest.any (fun x => x.gid == gid))
      let s1 := { s with entries := rest }
      let s2 :=
        if mustPost e g last then
          (cmplsOf e g g.covered).foldl (fun a c => a.postCmpl c) (s1.modGroup gid (fun x => { x with covered := 0 }))
        else s1.modGroup gid (fun x => { x with covered := x.covered + 1 })
      let s3 := if last then s2.modGroup gid (fun x => { x with stage := .done }) else s2
      settleGroupFuel fuel gid s3
    | _, _ => s

def State.settleGroup (s : State) (gid : Nat) : State := settleGroupFuel (s.entries.length + 1) gid s

/-- Post what an inbound job of another group held back. -/
def State.settleRing (s : State) (ctx ring : Nat) : State :=
  ((s.entries.filter (fun e => e.ctx == ctx && e.ring == ring && e.stage == .ended)).map (·.gid)).dedup.foldl (fun a g => a.settleGroup g) s

/-- An entry ends, but for the FENCE it may have held back. In hold-up nothing is posted (13 R377). -/
def State.endOne (s : State) (uid : Nat) (res : Result) : State :=
  match s.findEntry uid with
  | none => s
  | some e =>
    let s1 := s.modEntry uid (fun e => { e with stage := .ended, res := res })
    let s2 := if res.status = stMalformed then s1.bumpI .ringMalformedCount (rix e.ctx e.ring) 1 else s1
    if s.holdingUp then s2 else (s2.settleGroup e.gid).settleRing e.ctx e.ring

/-- A FENCE completes once every earlier entry of its ring has ended: an entry that moves data ends only when its writes are acknowledged
and durable (14 R391). -/
def fenceDone (s : State) (e : Entry) : Bool := (s.earlier e).all (fun x => x.stage == .ended)

/-- Complete the FENCE that blocks a ring, when nothing before it is left to wait for. -/
def State.wakeFence (s : State) (ctx ring : Nat) : State :=
  match s.entries.find? (fun e => e.ctx == ctx && e.ring == ring && e.stage == .blocked && e.desc.opcode == opFence) with
  | some e => if fenceDone s e then s.endOne e.uid { Result.ok with step := e.desc.step } else s
  | none => s

/-- An entry ends (13 R366), and the FENCE that waited for it completes. -/
def State.endEntry (s : State) (uid : Nat) (res : Result) : State :=
  match s.findEntry uid with
  | none => s
  | some e => (s.endOne uid res).wakeFence e.ctx e.ring

/-- The entry of a ring that a command of its opcode starts: the first that is admitted and not started, when nothing before it on the
ring blocks it (14 R384, R391). -/
def State.frontReady (s : State) (ctx ring : Nat) : Option Entry :=
  let es := s.entries.filter (fun e => e.ctx == ctx && e.ring == ring)
  let pre := es.takeWhile (fun e => e.stage != .ready)
  if pre.any (fun e => e.stage == .blocked ||
      (e.stage == .fetched && (e.desc.opcode == opFence || e.desc.opcode == opWait || e.desc.opcode == opBarrier))) then none else es.find? (fun e => e.stage == .ready)

/-- Start the front entry of a ring by its opcode: `body` is what the opcode does. -/
def startEntry (name : String) (ctx ring op : Nat) (v1 : Bool) (s : State) (body : Entry → State → State) :
    Host.Outcome State Fault Refusal :=
  match s.frontReady ctx ring with
  | none => notDue name
  | some e =>
    if e.desc.opcode = op ∧ e.desc.v1 = v1 ∧ s.awake then
      finish s (body e (s.modEntry e.uid (fun x => { x with stage := .running })))
    else notDue name

/-- Every fetched entry ends with a status, every job is dropped and every group ends (16 R448, 17 R482). -/
def State.abortEntries (s : State) (status : Nat) : State :=
  let s1 : State := { s with
    jobs := [], halfA := Half.empty, halfB := Half.empty, pendWr := [], pipes := [], sealPipes := [], printing := [], saved := [], parked := [], yielded := [],
    waiters := [], xfers := s.xfers.map (fun (x : Xfer) => { x with job := 0, use := .side }), pendOps := [],
    groups := s.groups.map (fun g => { g with stage := if g.stage = .opened then .closed else g.stage, holds := false }) }
  let s2 := s1.entries.foldl (fun a e => a.endEntry e.uid { Result.of status with step := e.desc.step }) s1
  { s2 with groups := [], rings := s2.rings.map (fun r => { r with openGid := none, ownSince := none }) }

end Sys2Proof.Machine
end

