-- ==== Sys2Proof/Machine/Sync.lean ====
section
/-! DEFINITION. Sync words, barriers, FENCE and NOP (14 R379 to R398). -/
namespace Sys2Proof.Machine

/-! ### Words and translations -/

def SyncWord.fresh (phys : Nat) : SyncWord := ⟨phys, 0, false, false, 0, 0, false, 0, 0⟩

def State.word (s : State) (phys : Nat) : SyncWord :=
  match s.words.find? (fun w => w.phys == phys) with
  | some w => w
  | none => SyncWord.fresh phys

def State.putWord (s : State) (w : SyncWord) : State :=
  { s with words := if w = SyncWord.fresh w.phys then s.words.filter (fun x => x.phys != w.phys)
                    else upsert (fun x => x.phys == w.phys) w s.words }

/-- Index of a context's translation entry (14 R380). -/
def mapIx (ctx id : Nat) : Nat := 1024 * ctx + id

def State.mapped (s : State) (ctx id : Nat) : Option Nat :=
  if s.getI .syncMapValid (mapIx ctx id) = 1 then some (s.getI .syncMapPhys (mapIx ctx id)) else none

/-- The owning context of a physical word. -/
def ownerOf (phys : Nat) : Nat := phys / 1024

/-- (int32)(a − b) ≥ 0. -/
def geWrap (a b : Nat) : Bool := (a + 2 ^ 32 - b % 2 ^ 32) % 2 ^ 32 < 2 ^ 31

def waitHolds (w : WaitFor) (val v : Nat) : Bool :=
  match w with
  | .eq => val == v
  | .ge => geWrap val v
  | .ne => val != v
  | _ => false

def State.dropWaiter (s : State) (uid : Nat) : State := { s with waiters := s.waiters.filter (fun w => w.uid != uid) }

/-- A sync entry ends with a status and BYTES_DONE (14 R385). -/
def State.endSync (s : State) (uid status value : Nat) : State :=
  let step := match s.findEntry uid with | some e => e.desc.step | none => 0
  (s.dropWaiter uid).endEntry uid { Result.of status with bytesDone := value, step := step }

/-- Release the WAITs of a word that its VALUE satisfies (14 R387, R388). -/
def State.evalWaits (s : State) (phys : Nat) : State :=
  let v := (s.word phys).val
  (s.waiters.filter (fun w => w.phys == phys && waitHolds w.what v w.value)).foldl (fun a w => a.endSync w.uid stOk v) s

/-- One update of a word: its VALUE, who made it, and the waiters it releases. In hold-up no update is applied (14 R398). -/
def State.updateWord (s : State) (phys v : Nat) (sw : Bool) (ctx ring : Nat) : State :=
  if s.holdingUp then s else
  let w := s.word phys
  ((s.putWord { w with val := v % 2 ^ 32, lastSw := sw, lastCtx := ctx, lastRing := ring }).bump .syncSignalsCount 1).evalWaits phys

/-! ### Checks of a sync entry (14 R381) -/

inductive SyncCheck where
  | bad (status : Nat)
  | word (phys : Nat)
  deriving DecidableEq, Repr

def syncCheck (s : State) (ctx arg : Nat) (perm : Fld) : SyncCheck :=
  match s.mapped ctx (syncIdOf arg) with
  | none => .bad stSyncUnmapped
  | some p => if s.getI perm (mapIx ctx (syncIdOf arg)) = 1 then .word p else .bad stAccessDenied

/-! ### SIGNAL (14 R383, R395) -/

/-- The earlier entries of the ring have made their engine-local effects and passed their last block (14 R390). -/
def signalReady (s : State) (e : Entry) : Bool :=
  (s.earlier e).all (fun x => x.stage == .ended || x.stage == .blocked || s.jobs.any (fun j => j.uid == x.uid && j.issued))

def State.signal (s : State) (e : Entry) (f : Nat → Nat → Nat) (set : Bool) : State :=
  match syncCheck s e.ctx e.desc.arg .syncMapSigOk with
  | .bad st => s.endSync e.uid st 0
  | .word p =>
    let w := s.word p
    let v := syncValOf e.desc.arg
    if w.barrier then
      if set ∧ ownerOf p = e.ctx ∧ w.counted = 0 ∧ ¬ s.waiters.any (fun x => x.phys == p) then
        ((s.putWord { SyncWord.fresh p with val := v, lastCtx := e.ctx, lastRing := e.ring }).bump .syncSignalsCount 1).endSync e.uid stOk v
      else s.endSync e.uid stSyncKind 0
    else
      let n := f w.val v % 2 ^ 32
      (s.updateWord p n false e.ctx e.ring).endSync e.uid stOk n

def setFn (_ v : Nat) : Nat := v
def addFn (a v : Nat) : Nat := a + v
def subFn (a v : Nat) : Nat := a + 2 ^ 32 - v

/-! ### WAIT (14 R383, R384) -/

def timeoutOf (e : Entry) : Option Nat := if e.desc.deadline = 0 then none else some (e.checked + e.desc.deadline)

def State.block (s : State) (e : Entry) (phys : Nat) (what : WaitFor) (v : Nat) : State :=
  let w : Waiter := ⟨e.uid, e.ctx, e.ring, syncIdOf e.desc.arg, phys, what, v, timeoutOf e⟩
  { (s.modEntry e.uid (fun x => { x with stage := .blocked })) with waiters := s.waiters ++ [w] }

def State.waitOn (s : State) (e : Entry) (what : WaitFor) : State :=
  match syncCheck s e.ctx e.desc.arg .syncMapWaitOk with
  | .bad st => s.endSync e.uid st 0
  | .word p =>
    let w := s.word p
    if w.barrier then s.endSync e.uid stSyncKind 0
    else if waitHolds what w.val (syncValOf e.desc.arg) then s.endSync e.uid stOk w.val
    else s.block e p what (syncValOf e.desc.arg)

/-! ### BARRIER (14 R392 to R396) -/

/-- Complete the arrivals of a word that wait (14 R392, R394). -/
def State.overrunAll (s : State) (phys status : Nat) : State :=
  (s.waiters.filter (fun w => w.phys == phys)).foldl (fun a w => a.endSync w.uid status 0) s

/-- Count one arrival of round R; BYTES_DONE is the round it is counted in. -/
def State.countOne (s : State) (phys uid ctx ring id : Nat) (wait : Bool) (timeout : Option Nat) : State :=
  let w := s.word phys
  let s1 := s.putWord { w with counted := w.counted + 1 }
  if wait then
    { ((s1.dropWaiter uid).modEntry uid (fun x => { x with stage := .blocked })) with
      waiters := (s1.dropWaiter uid).waiters ++ [⟨uid, ctx, ring, id, phys, .round, w.val, timeout⟩] }
  else s1.endSync uid stOk w.val

/-- Release rounds while the last arrival is counted (14 R393): R follows, the sense reverses, the round's ARRIVE_WAITs complete, and the
held arrivals are counted in the new round in order. -/
def releaseFuel : Nat → Nat → State → State
  | 0, _, s => s
  | fuel + 1, phys, s =>
    let w := s.word phys
    if ¬ w.barrier ∨ w.broken ∨ w.counted < w.parties then s else
    let r := w.val
    let s1 := s.putWord { w with val := (r + 1) % 2 ^ 32, counted := 0 }
    let s2 := (s1.waiters.filter (fun x => x.phys == phys && x.what == .round)).foldl (fun a x => a.endSync x.uid stOk r) s1
    let held := s2.waiters.filter (fun x => x.phys == phys && (x.what == .held true || x.what == .held false))
    let s3 := held.foldl (fun a x =>
      let b := a.word phys
      if b.counted < b.parties then a.countOne phys x.uid x.ctx x.ring x.syncId (x.what == .held true) x.timeout else a) s2
    releaseFuel fuel phys s3

def State.release (s : State) (phys : Nat) : State := releaseFuel (s.waiters.length + 2) phys s

/-- A barrier breaks (14 R394). -/
def State.breakBarrier (s : State) (phys uid : Nat) : State :=
  let w := s.word phys
  let s1 := ((s.putWord { w with broken := true, counted := 0 }).up .syncStatOverrun).bump .syncOverrunsCount 1
  (s1.overrunAll phys stBarrierOverrun).endSync uid stBarrierOverrun 0

def State.arriveAt (s : State) (e : Entry) (wait : Bool) : State :=
  match syncCheck s e.ctx e.desc.arg .syncMapBarOk with
  | .bad st => s.endSync e.uid st 0
  | .word p =>
    let w := s.word p
    let v := syncValOf e.desc.arg
    let d := (v + 2 ^ 32 - w.val) % 2 ^ 32
    let s1 := s.putWord { w with lastSw := false, lastCtx := e.ctx, lastRing := e.ring }
    if ¬ w.barrier then s.endSync e.uid stSyncKind 0
    else if w.broken then s1.endSync e.uid stBarrierOverrun 0
    else if d = 0 then (s1.countOne p e.uid e.ctx e.ring (syncIdOf e.desc.arg) wait (timeoutOf e)).release p
    else if d = 1 then s1.block e p (.held wait) v
    else s1.breakBarrier p e.uid

def State.barrierMake (s : State) (e : Entry) : State :=
  match syncCheck s e.ctx e.desc.arg .syncMapBarOk with
  | .bad st => s.endSync e.uid st 0
  | .word p =>
    if ownerOf p ≠ e.ctx then s.endSync e.uid stAccessDenied 0 else
    let w := s.word p
    let s1 := s.overrunAll p (if w.barrier then stBarrierOverrun else stSyncKind)
    (s1.putWord ⟨p, 0, true, false, syncValOf e.desc.arg, 0, false, e.ctx, e.ring⟩).endSync e.uid stOk 0

/-- Withdraw a waiting entry: a counted arrival lowers the count (14 R396). -/
def State.withdraw (s : State) (w : Waiter) : State :=
  let b := s.word w.phys
  let s1 := if w.what = .round then s.putWord { b with counted := b.counted - 1 } else s
  s1.dropWaiter w.uid

/-! ### Page writes and remapping (14 R381, R386) -/

/-- Whether a page write of a context is accepted. -/
def pageTarget (s : State) (ctx id : Nat) : Option Nat :=
  match s.mapped ctx id with
  | none => none
  | some p => if s.getI .syncMapSigOk (mapIx ctx id) = 1 ∧ ¬ (s.word p).barrier then some p else none

/-- A sync-page write (14 R386): an accepted one is logged (18 R492, TYPE 5). -/
def State.pageWrite (s : State) (ctx id v : Nat) (add : Bool) : State :=
  match pageTarget s ctx id with
  | none => s
  | some p =>
    let n := if add then (s.word p).val + v else v
    (s.updateWord p n true ctx 0).logRec 5 ctx 0 (ctx + 64 * id + b2n add * 2 ^ 16 + v % 2 ^ 32 * 2 ^ 32) []

/-- VALUE read through the sync page. -/
def pageRead (s : State) (ctx id : Nat) : Nat :=
  match s.mapped ctx id with
  | some p => (s.word p).val
  | none => 0

/-- A SYNC_MAP write (14 R381). -/
def State.remap (s : State) (ctx id value : Nat) : State :=
  if s.waiters.any (fun w => w.ctx == ctx && w.syncId == id) then s.up .syncStatMapBusy
  else
    let i := mapIx ctx id
    ((((s.setI .syncMapPhys i value).setI .syncMapValid i (bitsOf value 16 1)).setI .syncMapSigOk i (bitsOf value 17 1)).setI
      .syncMapWaitOk i (bitsOf value 18 1)).setI .syncMapBarOk i (bitsOf value 19 1)

/-- The debug entry of a word (14 R399). -/
def syncDebug (s : State) (phys : Nat) : Nat :=
  let w := s.word phys
  let n := if w.barrier then w.counted else (s.waiters.filter (fun x => x.phys == phys)).length
  w.val + 2 ^ 32 * (n % 512 + 512 * b2n w.barrier + 1024 * b2n w.broken + 2048 * b2n w.lastSw + 4096 * w.lastCtx + 2 ^ 18 * w.lastRing +
    2 ^ 20 * (if w.barrier then w.parties else 0))

/-! ### The commands -/

def fenceBody (e : Entry) (s : State) : State :=
  if fenceDone s e then s.endEntry e.uid { Result.ok with step := e.desc.step }
  else s.modEntry e.uid (fun x => { x with stage := .blocked })

def nopBody (e : Entry) (s : State) : State := s.endEntry e.uid { Result.ok with step := e.desc.step }

def execNop (ctx ring : Nat) (s : State) : Host.Outcome State Fault Refusal := startEntry "NOP" ctx ring opNop false s nopBody

def execV1Nop (ctx ring : Nat) (s : State) : Host.Outcome State Fault Refusal := startEntry "V1_NOP" ctx ring opNop true s nopBody

def execFence (ctx ring : Nat) (s : State) : Host.Outcome State Fault Refusal := startEntry "FENCE" ctx ring opFence false s fenceBody

def execV1Fence (ctx ring : Nat) (s : State) : Host.Outcome State Fault Refusal := startEntry "V1_FENCE" ctx ring opFence true s fenceBody

/-- Start a sync entry of the given opcode and SYNC_OP. -/
def startSync (name : String) (ctx ring op sub : Nat) (s : State) (body : Entry → State → State) : Host.Outcome State Fault Refusal :=
  match s.frontReady ctx ring with
  | none => notDue name
  | some e =>
    if syncOpOf e.desc.arg = sub ∧ (op ≠ opSignal ∨ signalReady s e) then startEntry name ctx ring op false s body else notDue name

def execSignalSet (ctx ring : Nat) (s : State) : Host.Outcome State Fault Refusal :=
  startSync "SIGNAL_SET" ctx ring opSignal 0 s (fun e t => t.signal e setFn true)

def execSignalAdd (ctx ring : Nat) (s : State) : Host.Outcome State Fault Refusal :=
  startSync "SIGNAL_ADD" ctx ring opSignal 1 s (fun e t => t.signal e addFn false)

def execSignalSub (ctx ring : Nat) (s : State) : Host.Outcome State Fault Refusal :=
  startSync "SIGNAL_SUB" ctx ring opSignal 2 s (fun e t => t.signal e subFn false)

def execWaitEq (ctx ring : Nat) (s : State) : Host.Outcome State Fault Refusal :=
  startSync "WAIT_EQ" ctx ring opWait 0 s (fun e t => t.waitOn e .eq)

def execWaitGe (ctx ring : Nat) (s : State) : Host.Outcome State Fault Refusal :=
  startSync "WAIT_GE" ctx ring opWait 1 s (fun e t => t.waitOn e .ge)

def execWaitNe (ctx ring : Nat) (s : State) : Host.Outcome State Fault Refusal :=
  startSync "WAIT_NE" ctx ring opWait 2 s (fun e t => t.waitOn e .ne)

def execBarrierArriveWait (ctx ring : Nat) (s : State) : Host.Outcome State Fault Refusal :=
  startSync "BARRIER_ARRIVE_WAIT" ctx ring opBarrier 0 s (fun e t => t.arriveAt e true)

def execBarrierArrive (ctx ring : Nat) (s : State) : Host.Outcome State Fault Refusal :=
  startSync "BARRIER_ARRIVE" ctx ring opBarrier 1 s (fun e t => t.arriveAt e false)

def execBarrierInit (ctx ring : Nat) (s : State) : Host.Outcome State Fault Refusal :=
  startSync "BARRIER_INIT" ctx ring opBarrier 2 s (fun e t => t.barrierMake e)

/-- The timeout of the entry that blocks a ring (14 R382, R396): due once the tick count has reached it. -/
def execSyncTimeout (ctx ring : Nat) (s : State) : Host.Outcome State Fault Refusal :=
  match s.waiters.find? (fun w => w.ctx == ctx && w.ring == ring) with
  | none => notDue "SYNC_TIMEOUT"
  | some w =>
    match w.timeout with
    | none => notDue "SYNC_TIMEOUT"
    | some t =>
      if s.now < t ∨ s.holdingUp then notDue "SYNC_TIMEOUT"
      else finish s (((s.withdraw w).bump .syncTimeoutsCount 1).endSync w.uid stSyncTimeout 0)

end Sys2Proof.Machine
end

