-- ==== Sys2Proof/Machine/Tick.lean ====
section
/-! DEFINITION. Capacities, the clock step and its losses, warnings, modes and window ends (02 R49 to R77; 17 R458 to R462, R481). -/
namespace Sys2Proof.Machine

/-! ### Capacities (02 R55 to R60) -/

/-- Read, write and remote shares, in percent (02 R61). -/
def modeSplit (m : Nat) : Nat × Nat × Nat :=
  match m with
  | 1 => (45, 15, 40)
  | 3 => (60, 30, 10)
  | _ => (50, 20, 30)

/-- Fabric-share cap in B/ns (02 R61). -/
def modeShare (m : Nat) : Nat := if m = 1 ∨ m = 3 then 1024 else 256

def modeSeals (m : Nat) : Bool := m == 2

/-- A unit class at full count keeps its capacity; at half count it halves; below the floor it has none (17 R482). -/
def scaleCap (s : State) (cls cap : Nat) : Nat :=
  let b := (patBuilt (s.build.latLanes == 16) cls).2
  let l := s.logicalOf cls
  if l = b then cap else if l = 0 then 0 else cap / 2

/-- Peer reserves bound (12 R335). -/
def State.boundPeers (s : State) : Nat := ((List.range 4).filter (fun j => s.getI .fjPeerResFramesFrames j != 0)).length

/-- Admission capacity per tick of resource k in mode m (02 R58, R60; 08 R223; 12 R335; 15 R414; 17 R482; 18 R493). -/
def capIn (s : State) (m k : Nat) : Nat :=
  let p := s.get .tickPeriodPeriod
  let eb := 2048 * p
  let (r, w, x) := modeSplit m
  let peers := s.boundPeers * s.get .xptPeerShareBytes
  match k with
  | 0 => roundDown (eb * r / 100) 64
  | 1 => roundDown (eb * w / 100) 64
  | 2 => roundDown (eb * x / 100) 64
  | 3 => modeShare m * p - (if s.windows.isEmpty then 0 else 256 * p)
  | 4 => 512 * p - peers - (if s.get .yljCfgMode = 1 ∨ s.get .yljCfgMode = 2 then s.get .yljRsvBytes else 0)
  | 5 => scaleCap s 1 (512 * p)
  | 6 => if s.logicalOf 2 = 0 then 0 else s.get .latStatLanes * 8 * p
  | 7 => 1024 * p
  | 8 => scaleCap s 3 (512 * p)
  | 9 => scaleCap s 4 (512 * p)
  | 10 => scaleCap s 0 (512 * p)
  | 11 => s.get .xptCfgLanes * 100 * p
  | 12 => s.get .xptCfgLanes * 100 * p - peers
  | 13 => min (s.get .fjHostDeclOut) s.build.hostRateMax * p
  | 14 => min (s.get .fjHostDeclIn) s.build.hostRateMax * p
  | _ => 0

def scalesWithClock (k : Nat) : Bool := k ≤ 10

/-- Groups that hold reservations. -/
def State.holding (s : State) : List Group := s.groups.filter (fun g => g.holds)

/-- Units reserved per tick on resource k (TICK_RSV). -/
def reservedOn (s : State) (k : Nat) : Nat := s.holding.foldl (fun a g => a + g.need.getD k 0) 0

def ctxReservedOn (s : State) (ctx k : Nat) : Nat := (s.holding.filter (fun g => g.ctx == ctx)).foldl (fun a g => a + g.need.getD k 0) 0

/-! ### Sideband packets (15 R421) -/

/-- A broadcast packet of this instance. -/
def sbPacket (s : State) (typ phase body : Nat) : Nat := s.get .fjPosInst + 2 ^ 8 + typ * 2 ^ 9 + phase * 2 ^ 16 + body * 2 ^ 16

/-- A packet to one instance. -/
def sbPacketTo (s : State) (dst typ phase : Nat) : Nat := s.get .fjPosInst + dst * 2 ^ 4 + typ * 2 ^ 9 + phase * 2 ^ 16

/-! ### Warnings (10 R271, 17 R481) -/

/-- A warning reaches this instance: counted, and under WARNED pending until FILE arms. -/
def State.warned (s : State) (cause : Nat) : State :=
  let s1 := s.bump .fjCkptWarnsCount 1
  let s2 := if s.get .fjCkptCfgPolicy = 1 then s1.up .fjCkptStatWarnPending else s1
  s2.set .patLastWarnCause cause

/-- This instance raises a warning: it is relayed to the package. -/
def State.raiseWarn (s : State) (cause : Nat) : State :=
  ((s.warned cause).up .patStatWarned).send (.sideband (sbPacket s 3 0 cause))

/-! ### The clock (17 R458 to R461) and lost cycles (02 R72, R76) -/

/-- Divisor of CLK_CORE. -/
def State.divisor (s : State) : Nat :=
  if s.holdingUp then 8 else match s.get .tickStatClkStep with | 1 => 2 | 2 => 4 | _ => 1

/-- A POWER record (18 R492). -/
def State.logPower (s : State) (kind cls logical cause : Nat) : State :=
  s.logRec 8 0 0 (kind + cls * 2 ^ 4 + logical * 2 ^ 8 + cause * 2 ^ 20 + s.get .tickThrUsedUsed * 2 ^ 32) []

def Group.voided (g : Group) : Group := if g.stage = .admitted then { g with void := true } else g

/-- A power fault (02 R76): promises are suspended, and deadlines of admitted groups are void until they complete (R77). -/
def State.powerFaults (s : State) : State :=
  let s1 := (s.up .tickStatPowerFault).up .tickStatSuspended
  let s2 := { s1 with groups := s1.groups.map Group.voided }
  (s2.logPower 1 0 0 7).raiseWarn 7

/-- Lost cycles are added; crossing the allowance is a power fault. -/
def State.addLost (s : State) (n : Nat) : State :=
  let u := s.get .tickThrUsedUsed
  let s1 := s.bump .tickThrUsedUsed n
  if u ≤ s.get .tickThrAllowAllow ∧ s.get .tickThrAllowAllow < s1.get .tickThrUsedUsed then s1.powerFaults else s1

/-- Whole cycles of CLK_CORE from the last one counted to a CLK_REF cycle of the tick, at the step in force. -/
def coreCycles (s : State) (ofs : Nat) : Nat := (ofs - s.tick.lostTo) / s.divisor

/-- Count the cycles lost up to a CLK_REF cycle of the tick at the step in force (02 R72). A core cycle that has not ended waits for the next
count (log entry 130). -/
def State.accrue (s : State) (ofs : Nat) : State :=
  let t := s.at_ ofs
  if ofs ≤ s.tick.lostTo ∨ s.holdingUp ∨ ¬ s.tick.running then t
  else
    let t1 := { t with tick := { t.tick with lostTo := s.tick.lostTo + coreCycles s ofs * s.divisor } }
    t1.addLost (coreCycles s ofs * (s.divisor - 1))

/-- The step for a SAG_FAST level (15 R423). -/
def stepOf (level : Nat) : Nat := min level 2

/-- The tick's cycles after a step: what is left of it runs at the new divisor (02 R50, R55). -/
def State.recount (s : State) (old ofs : Nat) : State :=
  let rest := s.get .tickPeriodPeriod - ofs
  { s with tick := { s.tick with short := s.tick.short + rest / old - rest / s.divisor } }

/-- Take a clock step at a cycle of the tick (17 R458, R461). -/
def State.clockStep (s : State) (step ofs : Nat) : State :=
  let s1 := s.accrue ofs
  let old := s1.get .tickStatClkStep
  if old = step then s1 else
  let s2 := (s1.set .tickStatClkStep step).recount s1.divisor ofs
  let s3 := if step > old then (if step = 1 then s2.bump .pwrStepsS1Count 1 else s2.bump .pwrStepsS2Count 1) else s2
  let s4 := s3.send (.clock (match step with | 1 => 2 | 2 => 4 | _ => 1))
  let s5 := s4.logRec 7 0 0 (step + 4 * s4.pins.sagFast) []
  if s5.replaying ∧ ¬ s5.yeljo.stopped then
    if s5.tick.replayClock = some step then { s5 with tick := { s5.tick with replayClock := none } } else s5.diverge s5.yeljo.pos 7 8
  else s5

/-- The throttle window ends (02 R72, R77). -/
def State.windowEnd (s : State) : State :=
  let s1 := if s.flag .tickStatSuspended ∧ s.get .tickThrUsedUsed ≤ s.get .tickThrAllowAllow then (s.down .tickStatSuspended).logPower 2 0 0 0
            else s
  s1.set .tickThrUsedUsed 0

/-! ### The tick's budget (02 R53, R55, R78; log entry 128) -/

/-- Cycles of CLK_CORE in this tick. -/
def tickCycles (s : State) : Nat := s.get .tickPeriodPeriod - s.tick.short

/-- A class's budget of this tick: the mode's share of 2,048 B a cycle, in whole beats (02 R55). -/
def classBudget (s : State) (c : Nat) : Nat :=
  let (r, w, x) := modeSplit s.mode
  roundDown (2048 * tickCycles s * (if c = 0 then r else if c = 1 then w else x) / 100) 64

def budgetLeft (s : State) (c : Nat) : Bool := s.tick.spent.getD c 0 < classBudget s c

/-- A group's reservation on a class is not yet served in this tick; a tick with fewer cycles serves the same part of it. -/
def reserveLeft (s : State) (g : Group) (c : Nat) : Bool :=
  g.holds && g.served.getD c 0 * s.get .tickPeriodPeriod < g.need.getD c 0 * tickCycles s

/-- Bytes pass in a class for a group: they are taken from the budget and from the reservation. -/
def State.spend (s : State) (gid c n : Nat) : State :=
  let one := fun (l : List Nat) (k : Nat) => (List.range 3).map (fun i => l.getD i 0 + (if i = k then n else 0))
  { s with
    tick := { s.tick with spent := one s.tick.spent c },
    groups := s.groups.map (fun (g : Group) => if g.gid = gid then { g with served := one g.served c } else g) }

/-- Boundary, step 4 of R53: the new tick's budget. A block that went past the budget, or past a reservation, counts in the new tick. -/
def State.issueBudget (s : State) : State :=
  let p := s.get .tickPeriodPeriod
  { s with
    tick := { s.tick with short := p - p / s.divisor, spent := (List.range 3).map (fun c => s.tick.spent.getD c 0 - classBudget s c) },
    groups := s.groups.map (fun (g : Group) => { g with served := (List.range 3).map (fun c => g.served.getD c 0 - g.need.getD c 0) }) }

/-! ### TICK_IN (02 R51) -/

/-- An edge is missing, or comes outside the window. -/
def State.missEdge (s : State) : State :=
  let n := s.tick.missedRow + 1
  let s1 : State := { s with tick := { s.tick with missedRow := n } }
  let s2 := (s1.bump .tickStatMissed 1).up .tickStatTickFault
  if n ≥ 16 then s2.up .tickStatFreeRun else s2

/-- A window boundary that TICK_NOW has come to (02 R72). -/
def State.windowTurn (s : State) : State := if s.now % max 1 (s.get .tickThrWinWin) = 0 then s.windowEnd else s

/-! ### Modes (02 R61 to R64) -/

/-- Every reservation already held fits mode m. -/
def modeFits (s : State) (m : Nat) : Bool := (List.range 15).all (fun k => reservedOn s k ≤ capIn s m k)

/-- The pending request is applied or refused at the boundary (02 R64). -/
def State.applyMode (s : State) : State :=
  match s.tick.pending with
  | none => s
  | some m =>
    let s1 := ({ s with tick := { s.tick with pending := none } }).up .fjIrqDoneMode
    if modeFits s m then { s1 with tick := { s1.tick with mode := some m } } else s1.up .tickModeRefused

/-! ### The commands -/

/-- SAG_FAST rises (15 R423): a step down within 2 cy. During hold-up the level is ignored (17 R463). -/
def execSagFastRise (level ofs : Nat) (s : State) : Host.Outcome State Fault Refusal :=
  let t := { s with pins := { s.pins with sagFast := level % 4 } }
  if s.holdingUp ∨ s.eng = 4 ∨ s.eng = 8 then finish s (t.set .pwrStatSag (b2n (level % 4 != 0)))
  else
    let t1 := t.set .pwrStatSag (b2n (level % 4 != 0))
    finish s (if stepOf (level % 4) > s.get .tickStatClkStep then t1.clockStep (stepOf (level % 4)) ofs else t1.accrue ofs)

/-- SAG_FAST has stayed below the level in force for PWR_SAG.HOLD cycles: one step up (17 R460). -/
def execSagStepUp (level ofs : Nat) (s : State) : Host.Outcome State Fault Refusal :=
  let old := s.get .tickStatClkStep
  if s.holdingUp ∨ old ≤ stepOf (level % 4) then notDue "SAG_STEP_UP"
  else
    let t := ({ s with pins := { s.pins with sagFast := level % 4 } }).set .pwrStatSag (b2n (level % 4 != 0))
    finish s (t.clockStep (old - 1) ofs)

/-- TICK_THR_USED exceeds the allowance in the cycle `ofs` (02 R76). -/
def execPowerFault (ofs : Nat) (s : State) : Host.Outcome State Fault Refusal :=
  let t := s.accrue ofs
  if s.get .tickThrUsedUsed ≤ s.get .tickThrAllowAllow ∧ s.get .tickThrAllowAllow < t.get .tickThrUsedUsed then finish s t
  else notDue "POWER_FAULT"

end Sys2Proof.Machine
end

