-- ==== Sys2Proof/Machine/Guard.lean ====
section
/-! DEFINITION. The write guard (03 R90 to R118): verdicts, holds, rescue, the pool and the spill, the bitmaps, and the copy's reads. -/
namespace Sys2Proof.Machine

/-! ### Granules (03 R92) -/

def granFuel : List (Nat × Nat) → Nat → Nat → Option Nat
  | [], _, _ => none
  | (b, n) :: t, first, a => if b ≤ a ∧ a < b + n then some (first + (a - b) / 4096) else granFuel t (first + n / 4096) a

/-- The granule index of a fabric address, when it lies in a window. -/
def State.granOf (s : State) (a : Nat) : Option Nat := granFuel s.windows 0 a

def granAddrFuel : List (Nat × Nat) → Nat → Nat
  | [], _ => 0
  | (b, n) :: t, g => if g < n / 4096 then b + g * 4096 else granAddrFuel t (g - n / 4096)

/-- The address of a granule. -/
def State.granAddr (s : State) (g : Nat) : Nat := granAddrFuel s.windows g

def State.granTotal (s : State) : Nat := s.windows.foldl (fun a w => a + w.2 / 4096) 0

/-- Segments of 8 MiB, counted across the windows, each window beginning a new one (10 R267): first granule and count. -/
def winSegs (first n : Nat) : Nat → List (Nat × Nat)
  | 0 => []
  | fuel + 1 => if n = 0 then [] else (first, min n 2048) :: winSegs (first + min n 2048) (n - min n 2048) fuel

def snapSegFuel : List (Nat × Nat) → Nat → List (Nat × Nat)
  | [], _ => []
  | (_, n) :: t, first => winSegs first (n / 4096) (n / 4096 + 1) ++ snapSegFuel t (first + n / 4096)

def State.snapSegs (s : State) : List (Nat × Nat) := snapSegFuel s.windows 0

/-- The segment of a granule. -/
def State.segOfGran (s : State) (g : Nat) : Nat := (s.snapSegs.takeWhile (fun p => p.1 + p.2 ≤ g)).length

/-! ### Bitmaps (03 R100) -/

def Guard.bits (g : Guard) : List Nat := if g.gen = 0 then g.bits0 else g.bits1

def Guard.has (g : Guard) (gran : Nat) : Bool := g.bits.contains gran

def Guard.mark (g : Guard) (gran : Nat) : Guard :=
  if g.has gran then g else if g.gen = 0 then { g with bits0 := gran :: g.bits0 } else { g with bits1 := gran :: g.bits1 }

def Guard.clean (g : Guard) (k : Nat) : Bool := if k = 0 then g.clean0 else g.clean1

/-- A bitmap becomes stale and its clearing begins; clearing runs on one bitmap at a time. Its CLEAN bit falls here and sets when the clearing
completes (03 R100); that the bit stays 1 while the bitmap is the active one and granules' bits set in it is the model's choice, since the
spec says only when CLEAN sets (DESIGN CHOICE, log entry 123). -/
def Guard.stale (g : Guard) (k : Nat) : Guard :=
  let g1 := if k = 0 then { g with clean0 := false } else { g with clean1 := false }
  match g1.clearing with
  | none => { g1 with clearing := some (k, 0) }
  | some _ => g1

/-- Both bitmaps are to be cleared before the next ARMED answer (03 R101). -/
def Guard.clearBoth (g : Guard) : Guard := { g with clean0 := false, clean1 := false, clearing := some (0, 0) }

/-- Slots of the rescue pool in use: occupied, or reserved by a rescue in flight (03 R107); a discarded rescue holds none (R118). -/
def Guard.poolUsed (g : Guard) : Nat := g.pool.length + (g.rescues.filter (fun r => !r.dead)).length

/-- The pool is full and no spill slot is free (03 R113). -/
def State.spillFull (s : State) : Bool := s.guard.poolUsed ≥ 1024 && s.guard.spill.length ≥ s.get .grdSpillSlotsSlots && s.guard.armed

/-- The guard's registers follow its state. -/
def State.guardRegs (s : State) : State :=
  let g := s.guard
  let s1 := (((s.set .grdStatArmed (b2n g.armed)).set .grdStatGen g.gen).set .grdStatClean0 (b2n g.clean0)).set .grdStatClean1 (b2n g.clean1)
  let s2 := ((s1.set .grdHoldOcc g.held.length).peak .grdHoldPeak g.held.length).set .grdStatSpillFull (b2n s.spillFull)
  let s3 := (s2.set .grdPoolOcc g.poolUsed).peak .grdPoolPeak g.poolUsed
  ((s3.set .grdSpillOccOcc g.spill.length).peak .grdSpillPeakPeak g.spill.length).set .grdProgressGranules
    (if g.armed then g.bits.length else s3.get .grdProgressGranules)

/-! ### Verdicts (03 R103) -/

inductive Verdict where
  | pass
  | hold (why : HoldWhy)
  deriving DecidableEq, Repr

/-- A copy or rescue read of the granule is in flight. -/
def Guard.reading (g : Guard) (gran : Nat) : Bool := g.copyReads.contains gran || g.rescues.any (fun r => r.gran == gran && !r.dead)

/-- The first matching row of R103. -/
def Guard.verdict (g : Guard) (lane : Nat) (ord : Bool) (gran : Option Nat) : Verdict :=
  if !g.armed || (gran.isNone && !ord) then .pass
  else if ord && g.held.any (fun w => w.lane == lane) then .hold .order
  else
    match gran with
    | none => .pass
    | some x =>
      if g.held.any (fun w => w.gran == some x) then .hold .order
      else if g.has x then .pass
      else if g.reading x then .hold .attach
      else .hold .rescue

/-- The stall of a write forwarded now: from its presentation, less the time GO_READY was low on its lane (03 R112, 15 R409). -/
def GWrite.stall (w : GWrite) (now : GuardClock) : Nat := (now.ns - w.at_) - (lookupD now.low w.lane 0 - w.low)

/-- Forward a write, and judge its stall (03 R112, R113). -/
def State.forward (s : State) (w : GWrite) (now : GuardClock) : State :=
  let s1 : State := { s with
    guard := { s.guard with awaiting := s.guard.awaiting ++ [(w.lane, w.id)] },
    out := s.out ++ [.guardOut w.lane w.addr w.data w.be false w.id] }
  let s2 := s1.peak .grdStallMaxNs (min (w.stall now) (2 ^ 32 - 1))
  if w.stall now > s.get .grdStallBoundNs then (s2.bump .grdOverstallsCount 1).up .grdStatOverstall else s2

/-- Judge an accepted write. -/
def State.judge (s : State) (w : GWrite) (now : GuardClock) : State :=
  match s.guard.verdict w.lane w.ord w.gran with
  | .pass => s.forward w now
  | .hold why =>
    let g := s.guard
    let q := match why, w.gran with | .rescue, some x => g.rescueQ ++ [x] | _, _ => g.rescueQ
    { s with guard := { g with held := g.held ++ [{ w with why := why, seq := g.seq }], rescueQ := q, seq := g.seq + 1 } }

/-- Accept waiting writes while entries are free (03 R102). -/
def acceptFuel : Nat → GuardClock → State → State
  | 0, _, s => s
  | fuel + 1, now, s =>
    match s.guard.waiting with
    | [] => s
    | w :: t =>
      if s.guard.held.length < 2048 then
        let s1 : State := { s with guard := { s.guard with waiting := t } }
        acceptFuel fuel now (s1.judge w now)
      else s

def State.acceptWaiting (s : State) (now : GuardClock) : State := acceptFuel s.guard.waiting.length now s

/-- What keeps a held write: an earlier held write of its lane when it carries ORD, or of its granule. -/
def Guard.ordered (g : Guard) (w : GWrite) : Bool :=
  g.held.any (fun x => x.seq < w.seq && ((w.ord && x.lane == w.lane) || (w.gran.isSome && x.gran == w.gran)))

/-- Forward the held writes whose conditions have cleared, in order of acceptance (03 R103). A write whose order hold has cleared and whose
granule has not been copied is held for rescue in turn: the guard never forwards a write before the old contents have landed (R104). -/
def releaseHeldFuel : Nat → GuardClock → State → List GWrite → State
  | 0, _, s, _ => s
  | _ + 1, _, s, [] => s
  | fuel + 1, now, s, w :: rest =>
    let g := s.guard
    if g.ordered w then releaseHeldFuel fuel now s rest else
    match w.gran with
    | some x =>
      if !g.armed || g.has x then
        let s1 := { s with guard := { g with held := g.held.filter (fun y => y.seq != w.seq) } }
        releaseHeldFuel fuel now (s1.forward w now) rest
      else if g.reading x || g.rescueQ.contains x then releaseHeldFuel fuel now s rest
      else releaseHeldFuel fuel now { s with guard := { g with rescueQ := g.rescueQ ++ [x] } } rest
    | none =>
      let s1 := { s with guard := { g with held := g.held.filter (fun y => y.seq != w.seq) } }
      releaseHeldFuel fuel now (s1.forward w now) rest

/-- The guard's clock as a command gives it. -/
def State.guardAt (s : State) (now : GuardClock) : State := { s with guard := { s.guard with clock := now } }

def State.releaseHeld (s : State) (now : GuardClock) : State :=
  (releaseHeldFuel (s.guard.held.length + 1) now (s.guardAt now) s.guard.held).acceptWaiting now

/-! ### The copy (03 R104, R109, R113, R115) -/

/-- Granules the copy may still ask for, in the order it takes them. -/
def State.copyOrder (s : State) : List Nat :=
  match s.guard.detour with
  | some seg =>
    let p := s.snapSegs.getD seg (0, 0)
    (List.range p.2).map (p.1 + ·)
  | none => (List.range (s.granTotal - s.guard.copyNext)).map (s.guard.copyNext + ·)

def spillAddr (s : State) (slot : Nat) : Nat := s.get .grdSpillBaseBase + slot * 4096

/-- Ask for one granule: from the window, or from its spill slot; a pooled one needs no read, and one whose rescue is in flight is waited
for (03 R109, R117). A granule that waits in the rescue queue, its rescue not yet issued, leaves the queue and the copy's own read serves it:
the spec names only a rescue in flight (DESIGN CHOICE, log entry 124). -/
def State.copyAsk (s : State) (gran : Nat) : State :=
  let g := s.guard
  let s1 : State := { s with guard := { g with copyReads := g.copyReads ++ [gran], rescueQ := g.rescueQ.filter (· != gran) } }
  if g.pool.any (fun p => p.gran == gran) || g.rescues.any (fun r => r.gran == gran && !r.dead) then s1
  else
    match s.freeTags 64 with
    | none => s
    | some t =>
      let a := match g.spill.find? (fun p => p.gran == gran) with | some p => spillAddr s p.slot | none => s.granAddr gran
      let s2 : State := { s1 with guard := { s1.guard with copyTags := g.copyTags ++ [(gran, t, false)] } }
      let reads := (requestsOf s [(a, 4096)]).map (fun r => readOut s (t + (r.1 - a) / 64) r.1 r.2.1 1)
      (s2.sendAll reads).tagPeak

/-- The segment the copy turns to while the pool and the spill are full: that of the oldest pooled granule it has not come to (03 R113). -/
def State.turnTo (s : State) : Option Nat :=
  if s.spillFull then (s.guard.pool.find? (fun p => !s.guard.copyReads.contains p.gran)).map (fun p => s.segOfGran p.gran) else none

/-- Keep the copy's reads going: one block of 16 granules ahead. At the end of a segment taken out of order it turns to the next one, as
long as pool and spill are full (03 R113). -/
def copyIssueFuel : Nat → State → State
  | 0, s => s
  | fuel + 1, s =>
    let g := s.guard
    if !g.armed || !g.copyOn || g.copyReads.length ≥ 16 then s else
    match s.copyOrder.find? (fun x => !g.taken.contains x && !g.copyReads.contains x) with
    | none => if g.detour.isSome then copyIssueFuel fuel { s with guard := { g with detour := s.turnTo } } else s
    | some x => copyIssueFuel fuel (s.copyAsk x)

def State.copyIssue (s : State) : State := copyIssueFuel 18 s

/-- When the pool and the spill are full, the copy turns to the segment of the oldest pooled granule (03 R113). -/
def State.spillTurn (s : State) : State :=
  let s1 := s.guardRegs
  match s1.turnTo, s1.guard.detour with
  | some k, none => ({ s1 with guard := { s1.guard with detour := some k } }).copyIssue
  | _, _ => s1

/-! ### Errors of fabric memory (15 R431, 17 R480, R481) -/

def State.fabError (s : State) : State := ((s.up .fjPortStatFabErr).bump .patMemUncorrCount 1).raiseWarn 4

/-! ### The commands -/

/-- A write on a guard lane (03 R102, R103). In RETAIN and OFF none is accepted (R96). -/
def execGuardWrite (lane addr : Nat) (data : Bytes) (be : Nat) (ord : Bool) (id : Nat) (now : GuardClock) (s : State) : Host.Outcome State Fault Refusal :=
  if s.eng = 4 ∨ s.eng = 8 ∨ s.eng = 0 then finish s s else
  let gran := s.granOf addr
  let w : GWrite :=
    {
      seq := s.guard.seq, lane := lane % 64, addr := addr, data := sliceZ data 0 64, be := be % 2 ^ 64, ord := ord, id := id, gran := gran,
      why := .order, at_ := now.ns, low := lookupD now.low (lane % 64) 0 }
  if s.guard.armed ∧ (gran.isSome ∨ ord) then
    if s.guard.held.length < 2048 ∧ s.guard.waiting.isEmpty then
      finish s (((s.guardAt now).peak .grdHoldPeak (s.guard.held.length + 1)).judge w now).guardRegs
    else finish s { s with guard := { s.guard with waiting := s.guard.waiting ++ [w] } }
  else finish s (s.judge w now)

/-- The first pool slot that is neither occupied nor reserved. -/
def Guard.freeSlot (g : Guard) : Option Nat :=
  (List.range 1024).find? (fun k => !g.pool.any (fun p => p.slot == k) && !g.rescues.any (fun r => r.slot == k && !r.dead))


/-- Issue the rescue at the head of the queue into a free pool slot (03 R106, R107): 64 reads of 64 B in the reserved tags. -/
def execRescueIssue (now : GuardClock) (s : State) : Host.Outcome State Fault Refusal :=
  match s.guard.rescueQ, s.guard.freeSlot, s.rescueTags with
  | x :: t, some k, some q =>
    if s.guard.armed then
      let reads := (List.range 64).map (fun j => readOut s (rescueTag + 64 * q + j) (s.granAddr x + 64 * j) 1 2)
      let s1 := { s with guard := { s.guard with rescueQ := t, rescues := s.guard.rescues ++ [Rescue.mk x k now.ns q false] } }
      finish s ((((s1.sendAll reads).bump .grdRescuesCount 1).tagPeak).spillTurn)
    else notDue "RESCUE_ISSUE"
  | _, _, _ => notDue "RESCUE_ISSUE"

def Guard.freeSpill (g : Guard) (n : Nat) : Option Nat := (List.range n).find? (fun k => !g.spill.any (fun p => p.slot == k))

/-- The oldest occupied pool slot that may drain: one whose granule the copy has come to is taken from the pool (03 R108, R109). -/
def Guard.drainSlot (g : Guard) : Option PoolSlot := g.pool.find? (fun p => !g.copyReads.contains p.gran)

/-- Drain the oldest occupied pool slot into a spill slot (03 R108). -/
def execPoolDrain (s : State) : Host.Outcome State Fault Refusal :=
  match s.guard.drainSlot, s.guard.freeSpill (s.get .grdSpillSlotsSlots) with
  | some p, some k =>
    let beats := (List.range 64).map (fun j => Out.guardOut j (spillAddr s k + 64 * j) (sliceZ p.data (64 * j) 64) (2 ^ 64 - 1) true k)
    let s1 := { s with guard := { s.guard with pool := s.guard.pool.erase p, spill := s.guard.spill ++ [{ p with slot := k }] } }
    finish s (s1.sendAll beats).spillTurn
  | _, _ => notDue "POOL_DRAIN"

/-- A response of memory (15 R408): a spill drain's ends inside the engine; another is passed up, once. -/
def execGuardWriteResponse (lane : Nat) (spill : Bool) (id : Nat) (err : Bool) (s : State) : Host.Outcome State Fault Refusal :=
  let s1 := if err then s.fabError else s
  if spill then finish s s1
  else if s.guard.awaiting.contains (lane, id) then
    finish s (({ s1 with guard := { s1.guard with awaiting := s1.guard.awaiting.erase (lane, id) } }).send (.guardResp lane id err))
  else notDue "GUARD_WRITE_RESPONSE"

/-- The clearing of a bitmap completes (03 R100, R101); the other bitmap follows when it is to be cleared too. -/
def execBitmapClearDone (s : State) : Host.Outcome State Fault Refusal :=
  match s.guard.clearing with
  | none => notDue "BITMAP_CLEAR_DONE"
  | some (k, _) =>
    let g := s.guard
    let g1 := if k = 0 then { g with bits0 := [], clean0 := true } else { g with bits1 := [], clean1 := true }
    let g2 := { g1 with clearing := if !g1.clean (1 - k) && !(g1.armed && g1.gen = 1 - k) then some (1 - k, 0) else none }
    finish s ({ s with guard := g2 }).guardRegs

end Sys2Proof.Machine
end

