-- ==== Sys2Proof/Machine/Wire.lean ====
section
/-! DEFINITION. Messages as frames on a storage lane (00 R11; 12 R325, R328, R337, R338; 15 R415). The spec names the headers and leaves their
layout to the InfiniBand, RoCEv2 and NVMe standards: PRESUMED (log entry 141). -/
namespace Sys2Proof.Machine

/-- The path MTU of entry q (12 R328). The value 3, which the table does not list, is taken as 4,096: no frame passes 4,222 B (15 R415;
DESIGN CHOICE, log entry 141). -/
def mtuOf (s : State) (q : Nat) : Nat := 1024 * 2 ^ min 2 (s.getI .xptQpAttrMtu q)

def laneOf (s : State) (q : Nat) : Nat := s.getI .xptQpAttrLane q

/-- A header field of w bits that the standards leave to the sender. -/
def anyField (k w : Nat) : Nat := Config.headerField k % 2 ^ w

/-! ### Ethernet, IP and UDP -/

/-- The 16 bytes of an address that four words hold. -/
def ipBytes (s : State) (f : Fld) (i : Nat) : Bytes := (List.range 4).flatMap (fun w => natLe 4 (s.getI f (4 * i + w)))

/-- An IPv4-mapped address. -/
def isV4 (a : Bytes) : Bool := a.take 12 == zeros 10 ++ [0xFF, 0xFF]

/-- The checksum of an IPv4 header. -/
def inetSum (b : Bytes) : Nat :=
  let t := ((chunks 2 b).map beNat).sum
  let f := t % 65536 + t / 65536
  65535 - (f % 65536 + f / 65536)

/-- Source and destination of entry q, and its service byte: DSCP, and ECT(0) on a data packet (12 R328). -/
structure IpEnds where
  src : Bytes
  dst : Bytes
  service : Nat

def ipEnds (s : State) (q : Nat) (data : Bool) : IpEnds :=
  ⟨ipBytes s .xptLaneSipIp (laneOf s q), ipBytes s .xptQpDipIp q, 4 * s.getI .xptQpAttrDscp q + 2 * b2n data⟩

/-- The IP header before n bytes; `masked` as the ICRC takes it, with all ones where a router may write. -/
def ipHeader (e : IpEnds) (n : Nat) (masked : Bool) : Bytes :=
  let hop := if masked then 255 else anyField 0 8
  let svc := if masked then 255 else e.service
  if isV4 e.dst then
    let part := fun (sum : Nat) => natBe 1 0x45 ++ natBe 1 svc ++ natBe 2 (20 + n) ++ natBe 2 (anyField 1 16) ++ natBe 2 0x4000 ++ natBe 1 hop ++
      natBe 1 17 ++ natBe 2 sum ++ e.src.drop 12 ++ e.dst.drop 12
    part (if masked then 65535 else inetSum (part 0))
  else
    let label := if masked then 2 ^ 20 - 1 else anyField 2 20
    natBe 4 (6 * 2 ^ 28 + svc * 2 ^ 20 + label) ++ natBe 2 n ++ natBe 1 17 ++ natBe 1 hop ++ e.src ++ e.dst

def udpHeader (n : Nat) (masked : Bool) : Bytes := natBe 2 (anyField 3 16) ++ natBe 2 4791 ++ natBe 2 (8 + n) ++ natBe 2 (if masked then 65535 else 0)

/-! ### InfiniBand transport headers -/

/-- A packet of entry q: opcode, sequence number, whether it asks for an acknowledgement, its extended headers and its payload. -/
structure Packet where
  op : Nat
  psn : Nat
  asks : Bool
  ext : Bytes
  payload : Bytes

/-- The base transport header; `note` its congestion byte. -/
def baseHeader (s : State) (q : Nat) (p : Packet) (note : Nat) : Bytes :=
  let pad := (4 - p.payload.length % 4) % 4
  natBe 1 p.op ++ natBe 1 (64 * anyField 4 2 + 16 * pad) ++ natBe 2 (anyField 5 16) ++ natBe 1 note ++ natBe 3 (s.getI .xptQpDqpnQpn q) ++
    natBe 1 (128 * b2n p.asks) ++ natBe 3 p.psn

/-- Opcode of a congestion notification packet. -/
def opCnp : Nat := 0x81

/-- A packet as its lane presents it: whole, in network byte order, padded to 60 B (15 R415). -/
def packetFrame (s : State) (q : Nat) (p : Packet) : Bytes :=
  let e := ipEnds s q (!p.payload.isEmpty && p.op != opCnp)
  let rest := p.ext ++ p.payload ++ zeros ((4 - p.payload.length % 4) % 4)
  let n := 12 + rest.length + 4
  let head := fun (masked : Bool) => ipHeader e (8 + n) masked ++ udpHeader n masked ++ baseHeader s q p (if masked then 255 else if p.op = opCnp then 64 else 0)
  let icrc := natLe 4 (crc32 (List.replicate 8 0xFF ++ head true ++ rest))
  let f := natLe 6 (s.getI .xptQpDmacMac q) ++ natLe 6 (s.getI .xptLaneSmacMac (laneOf s q)) ++ natBe 2 (if isV4 e.dst then 0x0800 else 0x86DD) ++
    head false ++ rest ++ icrc
  f ++ zeros (60 - f.length)

/-- The opcodes of a message's first, middle and last packet, and of one that is all of it. -/
structure OpSet where
  first : Nat
  middle : Nat
  last : Nat
  only : Nat

def sendOps : OpSet := ⟨0x00, 0x01, 0x02, 0x04⟩
def writeOps : OpSet := ⟨0x06, 0x07, 0x08, 0x0A⟩
def replyOps : OpSet := ⟨0x0D, 0x0E, 0x0F, 0x10⟩

/-- RETH: address, key, length. -/
def reth (addr key len : Nat) : Bytes := natBe 8 addr ++ natBe 4 key ++ natBe 4 len

/-- AETH: syndrome, and the message number, which the spec does not give. -/
def aeth (syndrome : Nat) : Bytes := natBe 1 syndrome ++ natBe 3 (anyField 6 24)

/-- The packets of a message, cut at the path MTU; `ext` by whether the packet is its first and whether its last. -/
def messagePackets (s : State) (q psn : Nat) (ops : OpSet) (asks : Bool) (ext : Bool → Bool → Bytes) (data : Bytes) : List Packet :=
  let parts := match chunks (mtuOf s q) data with | [] => [[]] | l => l
  parts.zipIdx.map (fun (d, i) =>
    let first := i == 0
    let last := i + 1 == parts.length
    let op := if first && last then ops.only else if first then ops.first else if last then ops.last else ops.middle
    ⟨op, (psn + i) % 2 ^ 24, asks && last, ext first last, d⟩)

/-! ### NVMe capsules (12 R337, R338) -/

/-- The submission entry of Flush, Write and Read: one keyed data block, whose offset 0 is the buffer's first byte. -/
def ioCapsule (s : State) (t cid opc lba blocks : Nat) (fua : Bool) (key len : Nat) : Bytes :=
  natLe 1 opc ++ natLe 1 0x40 ++ natLe 2 cid ++ natLe 4 (s.getI .xptTgtNsidNsid t) ++ zeros 16 ++
    (if opc = 0 then zeros 40
     else natLe 8 0 ++ natLe 3 len ++ natLe 4 key ++ natLe 1 0x40 ++ natLe 8 lba ++ natLe 2 (blocks - 1) ++ natLe 2 (2 ^ 14 * b2n fua) ++ zeros 12)

/-- A connection command's submission entry: the spec gives its place in the order alone (R336). -/
def adminCapsule (cid step : Nat) : Bytes := (natLe 1 (anyField (16 + 64 * step) 8) ++ natLe 1 0x40 ++ natLe 2 cid) ++
  (List.range 60).flatMap (fun i => natLe 1 (anyField (20 + 64 * step + i) 8))

/-! ### Messages -/

/-- The entry that a message leaves by, and its packets; none for what does not leave as RoCEv2: a TCP target's commands go through the
management core (12 R342). -/
def packetsOf (s : State) (o : Out) : Option (Nat × List Packet) :=
  let tcp := fun (t : Nat) => s.getI .xptTgtCfgTcp t == 1
  match o with
  | .rdmaWrite q psn key addr data =>
    some (q, messagePackets s q psn writeOps true (fun first _ => if first then reth addr key data.length else []) data)
  | .rdmaRead q psn key addr len => some (q, [⟨0x0C, psn % 2 ^ 24, true, reth addr key len, []⟩])
  | .rdmaReply q psn data => some (q, messagePackets s q psn replyOps false (fun first last => if first || last then aeth (anyField 7 5) else []) data)
  | .rdmaSend q psn data => some (q, messagePackets s q psn sendOps true (fun _ _ => []) data)
  | .rdmaAck q psn => some (q, [⟨0x11, psn % 2 ^ 24, false, aeth (anyField 7 5), []⟩])
  | .rdmaNak q psn kind => some (q, [⟨0x11, psn % 2 ^ 24, false, aeth (if kind = 3 then 0x20 + anyField 8 5 else 0x60 + kind % 32), []⟩])
  | .cnp q => some (q, [⟨opCnp, 0, false, [], zeros 16⟩])
  | .nvme t q psn cid opc lba blocks fua key =>
    if tcp t then none else some (q, messagePackets s q psn sendOps true (fun _ _ => []) (ioCapsule s t cid opc lba blocks fua key (4096 * blocks)))
  | .nvmeAdmin t q psn cid step => if tcp t then none else some (q, messagePackets s q psn sendOps true (fun _ _ => []) (adminCapsule cid step))
  | _ => none

/-- A message's frames, on its entry's lane. -/
def framesOf (s : State) (o : Out) : List Out :=
  match packetsOf s o with
  | some (q, ps) => ps.map (fun p => .frame (laneOf s q) (packetFrame s q p))
  | none => []

/-- Send a message: its frames leave by their lane, while that lane has its link (15 R416). -/
def State.transmit (s : State) (o : Out) : State :=
  s.sendAll (o :: (framesOf s o).filter (fun f => match f with | .frame l _ => bitOf s.pins.linkUp l | _ => true))

end Sys2Proof.Machine
end

