-- ==== Sys2Proof/Machine/Xpt.lean ====
section
/-! DEFINITION. The transport's operations (12 R324 to R345): queue pairs, paths, operations in flight, targets. -/
namespace Sys2Proof.Machine

/-! ### Queue pairs -/

def Qp.fresh (q : Nat) : Qp := ⟨q, 0, 0, 0, 1000, [], [], none⟩

def State.qp (s : State) (q : Nat) : Qp :=
  match s.qps.find? (fun x => x.qp == q) with
  | some x => x
  | none => Qp.fresh q

def State.putQp (s : State) (q : Qp) : State :=
  { s with qps := if q = Qp.fresh q.qp then s.qps.filter (fun x => x.qp != q.qp) else upsert (fun x => x.qp == q.qp) q s.qps }

def qpReset : Nat := 0
def qpRts : Nat := 1
def qpErr : Nat := 2

def State.rts (s : State) (q : Nat) : Bool := s.getI .xptQpStateState q == qpRts

/-- Entries of the path that begins at `first` (12 R327). -/
def State.path (s : State) (first : Nat) : List Nat := (List.range (max 1 (s.getI .xptQpAttrPathLen first))).map (first + ·)

/-- A path works when each of its entries is in RTS (12 R347). -/
def State.pathUp (s : State) (first : Nat) : Bool := (s.path first).all (fun q => s.rts q)

/-- The entry that carries segment k (12 R327). -/
def State.pathQp (s : State) (first k : Nat) : Nat := first + k % max 1 (s.getI .xptQpAttrPathLen first)

def packets (s : State) (q len : Nat) : Nat := max 1 (ceilDiv len (mtuOf s q))

/-- Operations in flight (12 R331). -/
def isOp (k : XKind) : Bool :=
  match k with
  | .rdmaRead => true | .rdmaWrite => true | .nvmeRead => true | .nvmeWrite => true | .nvmeFlush => true | .nvmeAdmin => true
  | .rdmaSend => true
  | _ => false

def State.opsOut (s : State) : Nat := (s.xfers.filter (fun x => isOp x.kind)).length

def isNvme (k : XKind) : Bool :=
  match k with
  | .nvmeRead => true | .nvmeWrite => true | .nvmeFlush => true | .nvmeAdmin => true
  | _ => false

/-- An NVMe command identifier that no command of the target has. -/
def freeCid (used : List Nat) : Nat → Nat → Nat
  | 0, t => t
  | fuel + 1, t => if used.contains t then freeCid used fuel (t + 1) else t

def State.cidFor (s : State) (tgt : Nat) : Nat :=
  let used := (s.xfers.filter (fun x => isNvme x.kind && x.via == tgt)).map (·.tag)
  freeCid used used.length 0

/-- The key that exposes an NVMe command's buffer (12 R338): one number for each command of the instance. -/
def nvmeKeyBase : Nat := 0x80000000

/-- A queued fabric read as its request: it lies inside one interleave unit. -/
def PendOp.asRead (s : State) (p : PendOp) : Option State :=
  match requestsOf s [(p.addr, p.len)] with
  | (a, beats, parts) :: _ => s.fabRead p.job p.use a beats parts p.promised
  | [] => some s

/-- Segment that an operation serves, which chooses the entry of a path (12 R327). -/
def XUse.segNo (u : XUse) : Nat :=
  match u with
  | .segment _ n => n
  | .block _ b => b / 128
  | .verify _ b _ => b / 128
  | .input _ off => off / 0x800000
  | _ => 0

/-- The entry that carries an NVMe command of a target. -/
def nvmeQp (s : State) (t : Nat) (u : XUse) : Nat := s.pathQp (s.getI .xptTgtCfgIoQp t) u.segNo

/-- An operation as it goes on the wire, from its first packet; an NVMe command as its capsule. -/
def Xfer.wire (s : State) (x : Xfer) : Out :=
  let first := (x.psn + 1 + 2 ^ 24 - packets s x.via x.len) % 2 ^ 24
  match x.kind with
  | .rdmaWrite => .rdmaWrite x.via first (s.getI .xptQpRkeyKey x.via) x.addr x.data
  | .rdmaRead => .rdmaRead x.via first (s.getI .xptQpRkeyKey x.via) x.addr x.len
  | .nvmeAdmin => .nvmeAdmin x.via x.psn x.capPsn x.tag x.addr
  | .nvmeWrite => .nvme x.via x.psn x.capPsn x.tag 1 (x.addr / 4096) (ceilDiv x.len 4096) x.fua (x.key.getD 0)
  | .nvmeRead => .nvme x.via x.psn x.capPsn x.tag 2 (x.addr / 4096) (ceilDiv x.len 4096) x.fua (x.key.getD 0)
  | .nvmeFlush => .nvme x.via x.psn x.capPsn x.tag 0 (x.addr / 4096) (ceilDiv x.len 4096) x.fua (x.key.getD 0)
  | _ => .rdmaSend x.via first x.data

/-- Send an operation now. Every message takes its packet sequence numbers (12 R334); an NVMe command's capsule is one packet. -/
def State.issueOp (s : State) (p : PendOp) : State :=
  if p.kind = .fabRead then (p.asRead s).getD s else
  let n := if p.data.isEmpty then p.len else p.data.length
  let nv := isNvme p.kind
  let q := if nv then nvmeQp s p.via p.use else p.via
  let y := s.qp q
  let k := if nv then 1 else packets s q n
  let x : Xfer :=
    {
      kind := p.kind, tag := if nv then s.cidFor p.via else s.uid, job := p.job, use := p.use, addr := p.addr, len := n, parts := [],
      promised := p.promised, via := p.via, psn := if nv then q else (y.sendPsn + k - 1) % 2 ^ 24,
      key := if nv then some (nvmeKeyBase + s.uid) else none, data := p.data, fua := p.fua, at_ := s.now,
      capPsn := if nv then y.sendPsn else 0 }
  let tcp := nv && s.getI .xptTgtCfgTcp p.via == 1
  let s1 := if tcp then s.nextUid else s.nextUid.putQp { y with sendPsn := (y.sendPsn + k) % 2 ^ 24 }
  let s2 := ({ s1 with xfers := s1.xfers ++ [x] } : State).transmit (x.wire s)
  (s2.peak .xptOpsPeak s2.opsOut).set .xptTxBytesBytes (s2.get .xptTxBytesBytes + p.data.length)

/-- An NVMe/TCP command waits while firmware is down (01 R28). -/
def tcpHeld (s : State) (p : PendOp) : Bool := isNvme p.kind && s.getI .xptTgtCfgTcp p.via == 1 && s.fwDown

/-- Bubble work holds at most 256 of the 1,024 operations (12 R331); an NVMe queue holds 128 commands (R336). -/
def opRoom (s : State) (p : PendOp) : Bool :=
  if tcpHeld s p then false
  else if p.kind == .fabRead then (p.asRead s).isSome else
  s.opsOut < 1024 && (p.promised || (s.xfers.filter (fun x => isOp x.kind && !x.promised)).length < 256) &&
  (!isNvme p.kind || (s.xfers.filter (fun x => isNvme x.kind && x.via == p.via && x.psn == nvmeQp s p.via p.use)).length < 128)

def State.offerOp (s : State) (p : PendOp) : State :=
  if s.pendOps.all (tcpHeld s) ∧ opRoom s p then s.issueOp p else { s with pendOps := s.pendOps ++ [p] }

def drainOpsFuel : Nat → State → State
  | 0, s => s
  | fuel + 1, s =>
    match s.pendOps.find? (fun p => !tcpHeld s p) with
    | none => s
    | some p => if opRoom s p then drainOpsFuel fuel (({ s with pendOps := s.pendOps.erase p }).issueOp p) else s

def State.drainOps (s : State) : State := drainOpsFuel s.pendOps.length s

/-- Read bytes of fabric memory, in requests that wait for tags when none are free. -/
def State.fabReadAll (s : State) (job : Nat) (use : Nat → XUse) (addr len : Nat) (promised : Bool) : State :=
  ((requestsOf s [(addr, len)]).foldl (fun (x : State × Nat) r =>
    let n := (r.2.2.map (·.2)).sum
    (x.1.offerOp ⟨.fabRead, job, use x.2, 256, 0, addr + x.2, n, [], false, promised⟩, x.2 + n)) (s, 0)).1

def State.remoteWrite (s : State) (qp job : Nat) (use : XUse) (rkey addr : Nat) (data : Bytes) (promised : Bool) : State :=
  s.offerOp ⟨.rdmaWrite, job, use, qp, rkey, addr, data.length, data, false, promised⟩

def State.remoteRead (s : State) (qp job : Nat) (use : XUse) (rkey addr len : Nat) (promised : Bool) : State :=
  s.offerOp ⟨.rdmaRead, job, use, qp, rkey, addr, len, [], false, promised⟩

def State.remoteSend (s : State) (qp job : Nat) (use : XUse) (data : Bytes) : State :=
  s.offerOp ⟨.rdmaSend, job, use, qp, 0, 0, data.length, data, false, true⟩

/-- An NVMe Write at a byte address of the namespace, in commands of at most 256 KiB (12 R338). -/
def State.nvmeWrite (s : State) (tgt job : Nat) (use : XUse) (addr : Nat) (data : Bytes) (fua promised : Bool) : State :=
  (chunks 0x40000 data).zipIdx.foldl
    (fun a (d, i) => a.offerOp ⟨.nvmeWrite, job, use, tgt, 0, addr + 0x40000 * i, d.length, d, fua, promised⟩) s

def State.nvmeFlush (s : State) (tgt job : Nat) (use : XUse) (promised : Bool) : State :=
  s.offerOp ⟨.nvmeFlush, job, use, tgt, 0, 0, 0, [], false, promised⟩

/-! ### Targets (12 R336) -/

def Tgt.fresh (t : Nat) : Tgt := ⟨t, 0, []⟩

def State.tgt (s : State) (t : Nat) : Tgt :=
  match s.tgts.find? (fun x => x.tgt == t) with
  | some x => x
  | none => Tgt.fresh t

def State.putTgt (s : State) (t : Tgt) : State := { s with tgts := upsert (fun x => x.tgt == t.tgt) t s.tgts }

def tgtUsed (s : State) (t : Nat) : Bool := s.getI .xptTgtCfgSlots t != 0

def tgtReady (s : State) (t : Nat) : Bool := s.getI .xptTgtStateState t == 2

/-- Send the command of a connection step (12 R336). -/
def State.connStep (s : State) (t step : Nat) : State :=
  let cid := s.cidFor t
  let q := s.getI .xptTgtCfgAdminQp t
  let y := s.qp q
  let x : Xfer :=
    {
      kind := .nvmeAdmin, tag := cid, job := 0, use := .side, addr := step, len := 0, parts := [], promised := true, via := t, psn := q,
      key := none, data := [], capPsn := y.sendPsn }
  let s0 := if s.getI .xptTgtCfgTcp t = 1 then s else s.putQp { y with sendPsn := (y.sendPsn + 1) % 2 ^ 24 }
  let s1 := s0.putTgt { s.tgt t with conn := step }
  ({ s1 with xfers := s1.xfers ++ [x] } : State).transmit (x.wire s)

/-- Firmware begins to connect a target whose entries are in RTS (12 R336); firmware that is down connects nothing (R348). -/
def State.connect (s : State) (t : Nat) : State :=
  if ¬ tgtUsed s t ∨ s.fwDown then s else
  let s1 := s.setI .xptTgtStateState t 1
  let s2 := s1.putTgt { tgt := t, conn := 1, slots := [] }
  if s.getI .xptTgtCfgTcp t = 1 then (if s.flag .xptCfgTcpEn then s2.connStep t 1 else s2)
  else if s.rts (s.getI .xptTgtCfgAdminQp t) ∧ s.pathUp (s.getI .xptTgtCfgIoQp t) then s2.connStep t 1 else s2

/-- Targets that use an entry. -/
def tgtsOf (s : State) (q : Nat) : List Nat :=
  (List.range 16).filter (fun t => tgtUsed s t &&
    (s.getI .xptTgtCfgAdminQp t == q || (s.path (s.getI .xptTgtCfgIoQp t)).contains q))

/-! ### The two ends of an entry's life (12 R329, R348) -/

/-- Drop an entry's operations, on the wire and waiting. -/
def State.dropOps (s : State) (q : Nat) : State :=
  { s with
    xfers := s.xfers.filter (fun x => !(isOp x.kind && !isNvme x.kind && x.via == q)),
    pendOps := s.pendOps.filter (fun p => !(!isNvme p.kind && p.via == q)) }

/-- RESET: the PSNs and the outstanding operations are cleared. -/
def State.qpToReset (s : State) (q : Nat) : State := ((s.dropOps q).putQp (Qp.fresh q)).setI .xptQpStateState q qpReset

/-- RTS: the entry starts at the PSNs of its attributes; firmware reconnects the targets that use it. -/
def State.qpToRts (s : State) (q : Nat) : State :=
  let s1 := (s.putQp { Qp.fresh q with sendPsn := s.getI .xptQpSpsnPsn q, recvPsn := s.getI .xptQpRpsnPsn q }).setI .xptQpStateState q qpRts
  (tgtsOf s q).foldl (fun a t => a.connect t) s1

/-- ERROR at a reset or at hold-up: outstanding operations are dropped, and no job is told. -/
def State.qpKill (s : State) (q : Nat) : State :=
  (s.dropOps q).setI .xptQpStateState q qpErr

def State.killAllQps (s : State) : State :=
  let s1 := (List.range 256).foldl (fun a q => a.qpKill q) s
  let s2 := (List.range 16).foldl (fun a t => if tgtUsed a t then (a.setI .xptTgtStateState t 1).putTgt (Tgt.fresh t) else a) s1
  { s2 with xfers := s2.xfers.filter (fun x => !isOp x.kind), pendOps := [] }

/-- A new connection state of each target is `connecting`, each entry's RESET, on leaving RETAIN (16 R453). -/
def State.resetAllQps (s : State) : State :=
  let s1 := (List.range 256).foldl (fun a q => a.qpToReset q) s
  (List.range 16).foldl (fun a t => if tgtUsed a t then (a.setI .xptTgtStateState t 1).putTgt (Tgt.fresh t) else a) s1

/-- Entries in RTS. -/
def State.anyRts (s : State) : Bool := (List.range 256).any (fun q => s.rts q)

/-- Sideband and lane levels shown by registers. -/
def State.showLanes (s : State) : State := s.set .xptStatLaneUp s.pins.linkUp

end Sys2Proof.Machine
end

