-- ==== Sys2Proof/Machine/Ckpt.lean ====
section
/-! DEFINITION. The checkpoint unit's operations (10 R265 to R290): slot descriptors, the trigger policy, and how a snapshot is abandoned. -/
namespace Sys2Proof.Machine

/-! ### The own reserve and its image at the buddy (10 R268, R269) -/

def buddyQp (s : State) : Nat := s.get .fjTopoQpBuddy

/-- The buddy can be reached. -/
def buddyUp (s : State) : Bool := s.pathUp (buddyQp s)

def State.slotOf (s : State) (k : Nat) : ResSlot := s.ckpt.slots.getD k ⟨0, 0, 0⟩

def State.putSlot (s : State) (k : Nat) (x : ResSlot) : State := { s with ckpt := { s.ckpt with slots := s.ckpt.slots.set k x } }

/-- The descriptor of slot k as it will stand. -/
def descBytes (s : State) (k state step : Nat) : Bytes := slotDescriptor state step s.now (s.slotOf k).maqLen

/-- Write STATE and STEP of slot k into the own reserve. -/
def State.writeDescOwn (s : State) (use : XUse) (k state step : Nat) : State :=
  (s.fabWrite 0 use (s.get .fjMirrorBaseBase + 0x20 + 32 * k) (descBytes s k state step) true).putSlot k ⟨state, step, (s.slotOf k).maqLen⟩

/-- Write STATE and STEP of slot k into the buddy's reserve, whose addresses count from its own first byte (log entry 22). -/
def State.writeDescBuddy (s : State) (use : XUse) (k state step : Nat) : State :=
  s.remoteWrite (buddyQp s) 0 use (s.getI .xptQpRkeyKey (buddyQp s)) (0x20 + 32 * k) (descBytes s k state step) true

/-- The fields of the reserve's header that name its owner and its layout (10 R268), written beside STATE WRITING, in the own reserve and in
the buddy's when it can be reached. Nothing says when they are written (DESIGN CHOICE, log entry 48). -/
def State.writeHead (s : State) : State :=
  let h := reserveHead (s.get .fjPosInst) s.arm.pkg s.frames
  let t := s.fabWrite 0 .side (s.get .fjMirrorBaseBase) h true
  if buddyUp t then t.remoteWrite (buddyQp t) 0 .side (t.getI .xptQpRkeyKey (buddyQp t)) 0 h true else t

/-- Both, the buddy's when it can be reached. -/
def State.writeDesc (s : State) (k state step : Nat) : State :=
  let t := s.writeDescOwn .side k state step
  if buddyUp t then t.writeDescBuddy .side k state step else t

/-- The target slot: the one that does not hold the latest GOOD step (10 R269); slot 0 when there is none (log entry 23). -/
def targetSlot (s : State) : Nat := if s.get .fjCkptGoodStepStep = noStep then 0 else 1 - s.get .fjCkptStatGoodSlot

/-! ### The trigger policy (10 R270 to R273) -/

def wantsPeriodic (s : State) (step : Nat) : Bool :=
  let n := s.get .fjCkptNN
  n != 0 &&
  match s.ckpt.lastArm with
  | none => true
  | some (a, t) => if s.get .fjCkptCfgUnit = 0 then step ≥ a + n else s.now ≥ t + n

/-- A snapshot is due at the STEP_END of a step (10 R270), or its trigger is pending (03 R98). What policy alone triggers waits while
firmware is down (01 R28, log entry 147). -/
def snapDue (s : State) (step : Nat) : Bool :=
  !s.ckpt.snaps.isEmpty || s.flag .grdStatSnapPending ||
  (!s.fwDown && (wantsPeriodic s step || (s.get .fjCkptCfgPolicy == 1 && s.flag .fjCkptStatWarnPending)))

/-- The floor protects the target slot (10 R269). -/
def floorHolds (s : State) : Bool :=
  let x := s.slotOf (targetSlot s)
  s.flag .fjCkptCfgFloorEn && x.state == slGood && x.step ≥ s.get .fjCkptFloorStep

def spareIdle (s : State) : Bool := s.flag .fjCkptCfgSpare && !s.flag .fjCkptStatAdopted

/-- Held back by the trigger decision (10 R273). -/
def heldBack (s : State) : Bool := s.flag .fjCkptStatCommitPending || floorHolds s || spareIdle s

/-- The due snapshot carries FILE (10 R271); with no file step yet, K alone asks for it (log entry 24). -/
def wantsFile (s : State) (step : Nat) : Bool :=
  let k := s.get .fjCkptKK
  let f := s.get .fjCkptFileStepStep
  (k != 0 && (f == noStep || step ≥ f + k)) || (s.get .fjCkptCfgPolicy == 1 && s.flag .fjCkptStatWarnPending) ||
  s.ckpt.snaps.any (fun x => x.2.1)

def wantsHost (s : State) : Bool := s.flag .fjCkptCfgHostEn || s.ckpt.snaps.any (fun x => x.2.2)

/-! ### Abandoning a snapshot (03 R118, 10 R286) -/

/-- The guard's side, at the later of the guard port's clock and the tick's (DESIGN CHOICE, log entry 145): rescues in flight are dead, the pool and
the spill are empty, every held or waiting write is forwarded in order, and both bitmaps are to be cleared. -/
def State.guardAbandon (s : State) : State :=
  let g := s.guard
  let now : GuardClock := { g.clock with ns := max g.clock.ns (s.now * s.get .tickPeriodPeriod + s.tick.ofs) }
  let writes := g.held ++ g.waiting
  let g1 : Guard :=
    { g with
      armed := false, rescues := g.rescues.map (fun r => { r with dead := true }), rescueQ := [], pool := [], spill := [], held := [],
      waiting := [], copyOn := false, copyReads := [], copyTags := g.copyTags.map (fun c => (c.1, c.2.1, true)), copyNext := 0, taken := [],
      detour := none }
  let s1 : State := { s with guard := g1.clearBoth }
  ((writes.foldl (fun a w => a.forward w now) s1).up .grdStatAbandoned).guardRegs

/-- Free the staging halves a job holds. -/
def Half.freeOf (job : Nat) (h : Half) : Half :=
  let bs := h.blocks.filter (fun b => b.job != job)
  if h.st ≠ .free ∧ h.job = job ∧ bs.isEmpty then Half.empty else if h.st = .fill then { h with blocks := bs } else h

/-- Drop a job and what is on its way for it. Its writes already sent are still acknowledged. -/
def State.dropJob (s : State) (job : Nat) : State :=
  { s with
    jobs := s.jobs.filter (fun j => j.uid != job),
    halfA := s.halfA.freeOf job, halfB := s.halfB.freeOf job,
    pendWr := s.pendWr.filter (fun w => w.job != job), pendOps := s.pendOps.filter (fun p => p.job != job),
    pendHost := s.pendHost.filter (fun p => p.job != job),
    pipes := s.pipes.filter (fun p => p.job != job), printing := s.printing.filter (fun p => p.job != job),
    xfers := s.xfers.map (fun x => if x.job = job then { x with job := 0, use := .side } else x) }

/-- Release fingerprint sets; the table's use follows (07 R207). -/
def State.dropSets (s : State) (p : FptSet → Bool) : State :=
  let l := s.prints.filter (fun x => !p x)
  ({ s with prints := l }).set .digFptUsedUsed (l.foldl (fun (a : Nat) (x : FptSet) => a + x.records) 0)

/-- A snapshot's jobs, group and SNAPs end with a status (10 R284). -/
def State.closeSnap (s : State) (x : Snap) (status : Nat) : State :=
  let s1 := ((x.gid :: x.jobs).foldl (fun a j => a.dropJob j) s).modGroup x.gid (fun g => { g with stage := .done })
  let s2 := if status = stOk ∨ status = stSuspect ∨ status = stDivergent ∨ status = stFptFull then s1 else s1.dropSets (fun p => p.source == 0 && p.step == x.step && !p.good)
  x.snaps.foldl (fun a u => a.endEntry u { Result.of status with step := x.step }) (s2.down .grdStatUnpromised)

/-- The current snapshot ends with a status. -/
def State.endSnap (s : State) (status : Nat) : State :=
  match s.ckpt.snap with
  | none => s
  | some x => (({ s with ckpt := { s.ckpt with snap := none } }).closeSnap x status).down .fjCkptStatCommitPending

/-- Snapshots whose HOST copy alone is open end (10 R295, R297). -/
def State.endTails (s : State) (status : Nat) : State :=
  s.ckpt.tail.foldl (fun a x => a.closeSnap x status) { s with ckpt := { s.ckpt with tail := [] } }

/-- An armed snapshot is abandoned; one that has disarmed and not committed is ended. `slot` says whether ABANDONED is written to the
slot's descriptor where it can be reached (10 R286, 15 R431): never over a slot that has committed (10 R269). -/
def State.abandonSnap (s : State) (status : Nat) (slot : Bool) : State :=
  match s.ckpt.snap with
  | none => s
  | some x =>
    let s1 := if s.guard.armed then s.guardAbandon else s
    let s2 := if slot ∧ x.phase ≠ .finished then s1.writeDesc x.slot slAbandoned x.step else s1
    s2.endSnap status

/-- Guard and snapshot at a FUNCTION or ENGINE reset: an armed or committing snapshot ends with ST_RESET_ABORT, and both bitmaps are cleared
before the next ARMED (03 R101, R118; 10 R297). -/
def State.resetGuard (s : State) : State :=
  let s1 := (s.abandonSnap stResetAbort false).endTails stResetAbort
  ({ s1 with guard := s1.guard.clearBoth }).guardRegs

end Sys2Proof.Machine
end

