-- ==== Sys2Proof/Machine/Power.lean ====
section
/-! DEFINITION. Patina (17 R475 to R483), the 40 V bus (R462, R463; 15 R424), and the hold-up sequence (17 R464 to R471). -/
namespace Sys2Proof.Machine

/-! ### Ending all work -/

/-! ### Units (17 R475) -/

def PUnit.asBuilt (small : Bool) (c p : Nat) : PUnit := ⟨c, p, false, 0, if p < (patBuilt small c).2 then some p else none⟩

def State.unit (s : State) (c p : Nat) : PUnit :=
  match s.patina.units.find? (fun u => u.cls == c && u.phys == p) with
  | some u => u
  | none => PUnit.asBuilt (s.build.latLanes == 16) c p

def State.putUnit (s : State) (u : PUnit) : State :=
  { s with patina := { s.patina with units := upsert (fun x => x.cls == u.cls && x.phys == u.phys) u s.patina.units } }

def physCount (s : State) (c : Nat) : Nat := (patBuilt (s.build.latLanes == 16) c).1
def builtCount (s : State) (c : Nat) : Nat := (patBuilt (s.build.latLanes == 16) c).2

/-- Spares of class c still unused; of an SRAM bank, those of its group of 32. -/
def sparesFor (s : State) (c logical : Nat) : List Nat :=
  let n := builtCount s c
  let all := (List.range (physCount s c - n)).map (n + ·)
  let mine := if c = 6 then all.filter (fun p => p - n == logical / 32) else all
  mine.filter (fun p => !(s.unit c p).failed && (s.unit c p).logical.isNone && !s.patina.substs.any (fun x => x.cls == c && x.spare == p))

def sparesLeft (s : State) (c : Nat) : Nat :=
  let n := builtCount s c
  ((List.range (physCount s c - n)).map (n + ·)).filter (fun p => !(s.unit c p).failed && (s.unit c p).logical.isNone) |>.length

/-- The physical unit that serves logical unit l of class c. -/
def servedBy (s : State) (c l : Nat) : Option Nat :=
  match s.patina.units.find? (fun u => u.cls == c && u.logical == some l) with
  | some u => some u.phys
  | none => if (s.unit c l).logical = some l then some l else none

def wearMax (c : Nat) : Nat := if c = 6 then 255 else 2 ^ 32 - 1

/-- A unit fails (17 R477). Its logical unit goes to a spare (R478), paid for out of the throttle allowance (R479); without one, the
class's count falls at the next tile boundary (R482). -/
def State.failUnit (s : State) (c p : Nat) : State :=
  let u := s.unit c p
  let s1 := s.putUnit { u with failed := true, wear := min (u.wear + 1) (wearMax c) }
  match u.logical with
  | none => s1
  | some l =>
    match sparesFor s1 c l with
    | sp :: _ =>
      let s2 : State := { s1 with patina := { s1.patina with substs := s1.patina.substs ++ [Subst.mk c p l sp false] } }
      let n := if c = 6 then 32 else builtCount s c
      (((s2.logFirmware 2).up .patStatSubstBusy).logPower 3 c l 0).addLost (ceilDiv 400000 n)
    | [] => s1.putUnit { u with failed := true, wear := min (u.wear + 1) (wearMax c), logical := none }

/-- The driver or IJTAG retires a unit: ignored when it is already failed or is a spare in use (17 R483). -/
def State.retire (s : State) (c p : Nat) : State :=
  let u := s.unit c p
  if c > 7 ∨ p ≥ physCount s c ∨ u.failed ∨ (p ≥ builtCount s c ∧ u.logical.isSome) then s else s.failUnit c p

/-- An instance goes out of service (17 R482). -/
def State.outOfService (s : State) : State :=
  let s1 := if s.guard.armed then s.abandonSnap stResetAbort false else s
  ((s1.up .patStatOutOfService).raiseWarn 5).abortEntries stResetAbort

/-- At a tile boundary a class takes the count its good units allow, one halving at a time (17 R482). -/
def State.dropClass (s : State) (c : Nat) : State :=
  let allowed := s.countFor c
  let n := if allowed ≠ 0 ∧ c < 5 then max allowed (s.logicalOf c / 2) else allowed
  if n = s.logicalOf c then s else
  let s1 := ({ s with patina := { s.patina with counts := upsert (fun x => x.1 == c) (c, n) s.patina.counts } }).up .patStatReduced
  let s2 := s1.raiseWarn 2
  let s3 := match c with
    | 2 => (s2.set .latStatLanes (if n = 0 then s2.get .latStatLanes else n)).up .latStatLaneDrop
    | 7 => s2.set .digStatLongCores n
    | _ => s2
  if n = 0 ∧ (c = 5 ∨ c = 6) then s3.outOfService else s3

/-! ### The bus (17 R462) -/

/-- A key slot as it is without a key, a counter or a reservation. -/
def KeySlot.fresh (k : Nat) : KeySlot :=
  {
    slot := k, key := none, ctx := 0, replayOnly := false, openOnly := false, armature := false, exhausted := false, reserveFail := false,
    ctr := 0, hwm := 0, req := 0, fails := 0, erasing := false }

/-- Bytes of a Plinth record before its LOG (17 R471). The entry of a slot under a REPLAY_ONLY key is not written: it stays as the record
before has it (06 R198). -/
def plinthHead (s : State) (cause src busV tick logs : Nat) : Bytes :=
  let key := fun k => s.keys.find? (fun (x : KeySlot) => x.slot == k)
  let chunk := fun k => match key k with
    | some x => if x.replayOnly then fieldAt s.plinth (0x40 + 8 * k) 8 else x.req / 2 ^ 24 + b2n x.exhausted * 2 ^ 63
    | none => 0
  let logEntry := fun (c l : Nat) =>
    if l < builtCount s c then (match servedBy s c l with | some p => natLe 1 p | none => [0xFF]) else ([0xFF] : Bytes)
  let bank := fun b => match (s.unit 6 (2432 + b)).logical with | some l => natLe 2 l | none => ([0xFF, 0xFF] : Bytes)
  let abandoned := match s.ckpt.snap with | some x => x.step | none => noStep
  let armTick := match s.ckpt.lastArm with | some (_, t) => t | none => 0
  ascii "FJPLINTH" ++ natLe 2 1 ++ natLe 2 (0x1B24 + 32 * logs) ++ natLe 4 (s.get .pwrSavesSeq + 1) ++ natLe 4 (s.get .sealPrefixPrefix) ++
  natLe 1 (cause + 16 * src) ++ zeros 1 ++ natLe 2 busV ++ natLe 8 tick ++ natLe 4 (s.get .fjArmSeqSeq) ++
  natLe 4 (s.get .fjFwVersionVersion) ++ zeros 24 ++ (List.range 256).flatMap (fun k => natLe 8 (chunk k)) ++
  natLe 6 (s.get .fjCkptGoodStepStep) ++
  natLe 2 (s.get .fjCkptStatGoodSlot + 2 * s.get .fjCkptStatCommitPending) ++ natLe 6 (s.get .fjCkptFileStepStep) ++ zeros 2 ++
  natLe 6 abandoned ++ zeros 2 ++ natLe 8 armTick ++ (List.range 16).flatMap (fun t => natLe 1 (s.getI .xptTgtStateNextSlot t)) ++
  zeros 144 ++ [32, 128, 32, 16, 32, 64].zipIdx.flatMap (fun (n, c) => (List.range n).flatMap (logEntry c)) ++
  (List.range 76).flatMap bank ++ natLe 1 ((List.range 4).foldl (fun a c => a + b2n (s.unit 7 c).failed * 2 ^ c) 0) ++
  natLe 1 (s.get .latStatLanes) ++ zeros 54 ++
  [34, 136, 34, 18, 34, 68].zipIdx.flatMap (fun (n, c) => (List.range n).flatMap (fun p => natLe 4 (s.unit c p).wear)) ++
  (List.range 76).flatMap (fun g => natLe 4 (lookupD s.patina.sramErr g 0)) ++
  (List.range 4).flatMap (fun c => natLe 4 (s.unit 7 c).wear) ++ (List.range 2508).flatMap (fun b => natLe 1 (s.unit 6 b).wear) ++ zeros 4

/-- The newest whole records of the Yeljo buffer that fit the LOG field (17 R471). -/
def plinthLog (s : State) : Bytes :=
  let n := min 38 s.yeljo.buf.length
  let first := s.get .yljNextIndex - n
  ((s.yeljo.buf.drop (s.yeljo.buf.length - n)).zipIdx.flatMap (fun (r, i) => r.bytes (first + i)))

def plinthRecord (s : State) (cause src busV tick : Nat) : Bytes :=
  let log := if s.recording then plinthLog s else []
  let b := plinthHead s cause src busV tick (log.length / 32) ++ log
  b ++ natLe 4 (crc32c b)

/-! ### NVM operations (15 R417): one at a time, in order of issue -/

def nvmOut (o : NvmOp) : Out :=
  match o.kind with
  | .read => .nvmRead o.addr o.len
  | .program => .nvmProgram o.addr o.data
  | .erase => .nvmErase o.addr o.len

def State.nvmIssue (s : State) (o : NvmOp) : State :=
  let t : State := { s with nvm := s.nvm ++ [o] }
  if s.nvm.isEmpty then t.send (nvmOut o) else t

/-- The operation at the head has completed. -/
def State.nvmNext (s : State) : State :=
  let t : State := { s with nvm := s.nvm.drop 1 }
  match t.nvm with
  | o :: _ => t.send (nvmOut o)
  | [] => t

def plinthOff (s : State) : Nat := fieldAt s.boot.directory 0x20 4

/-! ### Hold-up (17 R463 to R466) -/

/-- The record slot a save writes: the one that does not hold the newest valid record. -/
def saveSlot (s : State) : Nat :=
  match s.boot.plinthRecs with
  | [] => 0
  | l => 1 - (l.foldl (fun (best : Nat × Nat) (k, b) => if fieldAt b 12 4 ≥ best.2 then (k, fieldAt b 12 4) else best) (1, 0)).1

/-- Cells that a HOLDUP halt keeps (16 R449). -/
def keepsHoldup (f : Fld) : Bool :=
  match (fldInfo f).keep with
  | .always => true
  | .notCold => true
  | _ => false

/-- The halt at the end of the save (16 R449, R455): key slots are erased, but for what says that one is exhausted (06 R200), every field that does not survive HOLDUP reads its reset
value, and the rest is emptied. -/
def State.halt (s : State) : State :=
  let r := State.reset
  { s with
    regs := s.regs.filter (fun c => keepsHoldup c.fld), latch := [], eng := 5, waking := false, armUpd := none, tick := Tick.start,
    groups := [], rings := [], entries := [], jobs := [], saved := [], parked := [], yielded := [], guard := { Guard.empty with awaiting := s.guard.awaiting },
    halfA := Half.empty, halfB := Half.empty, xfers := [], pendWr := [], pendOps := [], cache := [], slots := [], store := [],
    keys := (s.keys.filter (fun (x : KeySlot) => x.exhausted)).map (fun (x : KeySlot) => { KeySlot.fresh x.slot with exhausted := true }),
    keyLoad := none, pipes := [], sealPipes := [], prints := [], printing := [], handles := [], tables := [], vlPending := [], ckpt := r.ckpt, qps := [],
    tgts := [], words := [], waiters := [], nvm := [], journal := r.journal, yeljo := r.yeljo, hcqWait := [],
    holdup := s.holdup.map (fun h => { h with halted := true }) }

/-- The next page program of the save, or its read-back (17 R464). -/
def State.saveNext (s : State) (h : Holdup) : State :=
  let base := plinthOff s + 0x10000 * h.slot
  if h.done < h.record.length then
    s.nvmIssue ⟨.program, base + h.done, min 256 (h.record.length - h.done), slice h.record h.done 256, .save⟩
  else s.nvmIssue ⟨.read, base, h.record.length, [], .save⟩

/-- Hold-up starts (17 R463, R464; 03 R118, 06 R199, 10 R297, 12 R348, 13 R377, 14 R398). Before the Plinth record has been read nothing is written
(16 R456). -/
def State.startHoldup (s : State) (cause src busV ofs : Nat) : State :=
  if s.holdingUp ∨ s.eng = 0 ∨ s.eng = 6 ∨ s.eng = 8 then s else
  let early := s.eng = 1 ∧ (s.boot.stage = .checks ∨ s.boot.stage = .hold)
  let s0 := if early then s else ((s.accrue ofs).logPower 5 0 0 0).logRec 7 0 0 (3 + 4 * s.pins.sagFast) []
  let rec_ := plinthRecord s0 cause src busV s0.now
  let write := !early && s0.flag .pwrStatPlinthReady
  let h : Holdup :=
    {
      cause := cause, src := src, busV := busV, tick := s0.now, record := if write then rec_ else [], slot := saveSlot s0, done := 0,
      retried := false, halted := false }
  let s1 := ({ s0 with holdup := some h, waking := false }).setEng 5
  let s2 := if cause = 3 then s1 else s1.send (.sideband (sbPacket s1 2 0 s1.pins.busVCode))
  let s3 := ((s2.send (.clock 8)).down .yljStatRecording).abandonSnap stResetAbort false
  let s4 := s3.killAllQps
  let s5 : State := { s4 with
    pipes := [], sealPipes := [], printing := [],
    patina := { s4.patina with substs := [] },
    nvm := match s4.nvm with | o :: _ => if o.kind = .program ∧ o.use = .reserve then [o] else [] | [] => [] }
  if write then s5.saveNext h else s5.halt

/-! ### The commands -/

/-- PWR_FAIL_N falls (17 R463). -/
def execPwrFailN (ofs : Nat) (s : State) : Host.Outcome State Fault Refusal :=
  finish s (({ s with pins := { s.pins with pwrFailN := false } }).startHoldup 2 0 s.pins.busVCode ofs)

/-- A HOLDUP packet (15 R421, 17 R463). -/
def execHoldup (src busV ofs : Nat) (s : State) : Host.Outcome State Fault Refusal :=
  finish s (s.startHoldup 3 (src % 16) (busV % 4096) ofs)

/-- A BUS_V strobe (17 R462). -/
def execBusVStrobe (code ofs : Nat) (s : State) : Host.Outcome State Fault Refusal :=
  let c := code % 4096
  let prev := s.pins.busVCode
  let low := c ≤ s.get .pwrBusvWarn
  if s.holdingUp then finish s s else
  let s1 := ((({ s with pins := { s.pins with busVCode := c } }).set .pwrBusvNowCode c).set .pwrStatBusLow (b2n low)).down .fjPortStatBusvStale
  let s2 := if c < s1.get .pwrBusvNowMin then s1.set .pwrBusvNowMin c else s1
  if s.get .pwrBusvHold ≠ 0 ∧ c ≤ s.get .pwrBusvHold then finish s (s2.startHoldup 1 0 c ofs)
  else if low ∧ prev > s.get .pwrBusvWarn then finish s ((s2.up .pwrStatBusWarn).raiseWarn 6)
  else finish s s2

/-- No strobe for 8 µs (15 R424). -/
def execBusvStaleTimeout (s : State) : Host.Outcome State Fault Refusal := finish s (s.up .fjPortStatBusvStale)

/-- The unit a patrol slot tests: one pointed at by a fault elsewhere, or the next of the rotation (17 R476, R477). -/
def patrolUnit (s : State) : Nat × Nat :=
  match s.patina.urgent with
  | u :: _ => u
  | [] => (s.patina.cls, s.patina.phys)

/-- A physical unit holds a block: a seal pipe or a fingerprint core that serves a logical unit in use. No block of the model stands on a
unit of another class (log entry 150). -/
def holdsBlock (s : State) (c p : Nat) : Bool :=
  match (s.unit c p).logical with
  | none => false
  | some l =>
    c == 0 && (s.pipes.any (fun u => u.pipe == l) || s.sealPipes.contains l) || c == 1 && s.printing.any (fun x => x.core == some l)

/-- The rotation moves on (17 R476). -/
def State.patrolStep (s : State) : State :=
  match s.patina.urgent with
  | _ :: t => { s with patina := { s.patina with urgent := t }, ijtag := s.ijtag && !t.isEmpty }
  | [] =>
    let c := s.patina.cls
    let p := s.patina.phys + 1
    if p < physCount s c then { s with patina := { s.patina with phys := p } }
    else if c < 7 then { s with patina := { s.patina with cls := c + 1, phys := 0 } }
    else ({ s with patina := { s.patina with cls := 0, phys := 0 } }).bump .patRotationsCount 1

/-- A patrol slot (17 R476, R477): `pass1` and `pass2` say whether the test and its retest pass, for a bank whether its scrub finds no
uncorrectable word; `corrected` counts words the scrub rewrote. A failed unit is not tested again. A unit that holds a block is tested at the
next slot instead. While firmware is down patrol waits, and PATROL_HELD shows it. -/
def execPatrolSlot (pass1 pass2 : Bool) (corrected : Nat) (s : State) : Host.Outcome State Fault Refusal :=
  if ¬ s.flag .patCtrlPatrolEn ∨ ¬ s.awake ∨ s.now % max 1 (s.get .patPatrolPeriod) ≠ 0 then notDue "PATROL_SLOT"
  else if s.fwDown ∨ holdsBlock s (patrolUnit s).1 (patrolUnit s).2 then finish s s
  else
    let u := patrolUnit s
    let s1 := s.patrolStep
    if (s.unit u.1 u.2).failed then finish s s1
    else if u.1 = 6 then
      let g := if u.2 < 2432 then u.2 / 32 else u.2 - 2432
      let s2 : State := { s1 with
        patina := { s1.patina with sramWin := addAt s1.patina.sramWin g corrected, sramErr := addAt s1.patina.sramErr g corrected } }
      finish s (if pass1 then s2 else s2.failUnit u.1 u.2)
    else finish s (if pass1 ∨ pass2 then s1 else s1.failUnit u.1 u.2)

/-- A substitution completes (17 R478): the spare passes its test again and the map is updated. -/
def execSubstitutionDone (cls phys ofs : Nat) (s : State) : Host.Outcome State Fault Refusal :=
  match s.patina.substs.find? (fun x => x.cls == cls && x.phys == phys) with
  | none => notDue "SUBSTITUTION_DONE"
  | some x =>
    if ¬ x.tile ∨ s.fwDown ∨ s.holdingUp then notDue "SUBSTITUTION_DONE" else
    let s0 := s.accrue ofs
    let s1 := (s0.putUnit { s0.unit cls phys with logical := none }).putUnit { s0.unit cls x.spare with logical := some x.logical }
    let s2 : State := { s1 with patina := { s1.patina with substs := s1.patina.substs.filter (fun y => !(y.cls == cls && y.phys == phys)) } }
    let s3 := ((s2.up .patStatSubst).bump .patSubstsCount 1).set .patStatSubstBusy (b2n (!s2.patina.substs.isEmpty))
    let s4 := ((s3.set .patLastClass cls).set .patLastLogical x.logical).logPower 4 cls x.logical 0
    finish s (if sparesLeft s4 cls ≤ s4.get .patWarnSpareMin then s4.raiseWarn 1 else s4)

/-- An error-count window ends (17 R480, R481). -/
def execEccWindowEnd (s : State) : Host.Outcome State Fault Refusal :=
  if s.now % 2 ^ (10 + s.get .patWarnWinLog2) ≠ 0 then notDue "ECC_WINDOW_END" else
  let thr := s.get .patWarnEccThr
  let s1 := if s.patina.sramWin.any (fun x => x.2 ≥ thr) then s.raiseWarn 3 else s
  let s2 := if s.get .patEccWinCount ≥ thr then s1.raiseWarn 4 else s1
  finish s (({ s2 with patina := { s2.patina with sramWin := [] } }).set .patEccWinCount 0)

/-- A relayed WARN packet (15 R421, 10 R271). In replay warnings come from the log. -/
def execWarnPacket (_src cause ofs : Nat) (s : State) : Host.Outcome State Fault Refusal :=
  if (s.eng = 2 ∨ s.eng = 3) ∧ ¬ s.replaying then finish s (((s.at_ ofs).warned (cause % 256)).logPower 6 0 0 (cause % 256))
  else finish s s

end Sys2Proof.Machine
end

