-- ==== Sys2Proof/Machine/RegFile.lean ====
section
/-! DEFINITION. The register map as offsets (00 R13 to R18, 19 R505): finding a register, its bits, and writing fields of given access types. -/
namespace Sys2Proof.Machine

/-- The index of a row's fields at an offset, when the offset is one of the row's (RegTable.MapRow). -/
def rowIndex (s : State) (r : MapRow) (off : Nat) : Option Nat :=
  if off < r.off then none else
  let d := off - r.off
  let k := if r.stride = 0 then 0 else d / r.stride
  let w := if r.stride = 0 then d else d % r.stride
  if k < r.n ∧ w % 4 = 0 ∧ w / 4 < r.m then
    let i := k * r.m + w / 4
    match r.sel with
    | .arr => some i
    | .qp => some (s.get .xptQpSelQp)
    | .qpArr => some (4 * s.get .xptQpSelQp + i)
    | .tgt => some (s.get .xptTgtSelTgt)
    | .syncMap => some (1024 * s.get .syncMapSelCtx + s.get .syncMapSelId)
  else none

def findRow (s : State) (off : Nat) : List MapRow → Option (MapRow × Nat)
  | [] => none
  | r :: t => match rowIndex s r off with | some i => some (r, i) | none => findRow s off t

/-- The stored value of a register of 32 bits. -/
def regBits (s : State) (bits : List BitsOf) (i : Nat) : Nat :=
  bits.foldl (fun a b => a + bitsOf (s.getI b.fld i) b.sh b.w * 2 ^ b.lo) 0

/-- A quantity with bits [sh + w − 1 : sh] replaced. -/
def mergeBits (old sh w v : Nat) : Nat := old - bitsOf old sh w * 2 ^ sh + v % 2 ^ w * 2 ^ sh

/-- What a write of v to a field leaves in it: ranges that leave the field unchanged (04 R151, 13 R378), a ceiling above 100 (02 R82), a
declared host rate above the build's (15 R432). -/
def fieldRule (b : Build) (f : Fld) (old v : Nat) : Nat :=
  match f with
  | .tickShareCeil => min v 100
  | .fjHostDeclOut => min v b.hostRateMax
  | .fjHostDeclIn => min v b.hostRateMax
  | .stgMergeThresh => if v % 64 = 0 ∧ 64 ≤ v ∧ v ≤ 2048 then v else old
  | .stgMergeWindow => if 1 ≤ v ∧ v ≤ 16 then v else old
  | .stgTagCapBubble => if v ≤ 10240 then v else old
  | .ringCfgSz => if v ≤ 10 then v else old
  | .cringCfgSz => if v ≤ 10 then v else old
  | _ => v

/-- Write the fields of a register whose access types are in `accs`. -/
def State.putBits (s : State) (accs : List Access) (bits : List BitsOf) (i v : Nat) : State :=
  bits.foldl (fun a b =>
    if accs.contains (fldInfo b.fld).acc then
      let old := a.getI b.fld i
      a.setI b.fld i (fieldRule a.build b.fld old (mergeBits old b.sh b.w (bitsOf v b.lo b.w)))
    else a) s

/-- The privileged-view offset of a field with an index: where check 10 points (16 R438). -/
def offOf (f : Fld) (i : Nat) : Nat :=
  match privMap.find? (fun r => r.bits.any (fun b => b.fld == f && b.sh < 32)) with
  | some r => r.off + (if r.m = 1 then i % r.n * r.stride else i / r.m * r.stride + 4 * (i % r.m))
  | none => 0

/-- A REG pair names an RW or RWL field, and not one of a ring block (16 R436). -/
def regPairOk (s : State) (off : Nat) : Bool :=
  match findRow s off privMap with
  | some (r, _) => r.bits.any (fun b => (fldInfo b.fld).acc == .rw || (fldInfo b.fld).acc == .rwl)
  | none => false

/-- GRD_STALL_BOUND follows GRD_RLAT_MAX (03 R110, R111): 4 × 96 + 16 + 16 × 2,112 ns above it. -/
def State.stallBound (s : State) : State := s.set .grdStallBoundNs (s.get .grdRlatMaxNs + 34192)

/-- FJ_MIRROR_SIZE follows the windows (10 R266). -/
def State.derived (s : State) : State :=
  s.stallBound.set .fjMirrorSizeBytes (if s.frames = 0 then 0 else reserveSize s.frames)

/-- Apply one pair of a REG or ROLE record. -/
def State.applyPair (s : State) (off v : Nat) : State :=
  match findRow s off privMap with
  | some (r, i) => s.putBits [.rw, .rwl] r.bits i v
  | none => s

/-- Apply the pairs of a body, 8 bytes each, in order. -/
def State.applyPairs (s : State) (body : Bytes) : State :=
  ((chunks 8 body).foldl (fun a p => a.applyPair (fieldAt p 0 4) (fieldAt p 4 4)) s).derived

end Sys2Proof.Machine
end

