-- ==== Sys2Proof/Machine/Keys.lean ====
section
/-! DEFINITION. Key slots (06 R184 to R193) and the reservation journal (06 R187 to R189, 17 R469, R470). -/
namespace Sys2Proof.Machine

def State.key (s : State) (k : Nat) : KeySlot :=
  match s.keys.find? (fun x => x.slot == k) with
  | some x => x
  | none => KeySlot.fresh k

def State.putKey (s : State) (x : KeySlot) : State :=
  { s with keys := if x = KeySlot.fresh x.slot then s.keys.filter (fun y => y.slot != x.slot)
                   else upsert (fun y => y.slot == x.slot) x s.keys }

/-- The key-wrapping key (06 R190). -/
def State.kwk (s : State) : Bytes := (hmac384 s.arm.duk (ascii "FJ2 SEAL KWK")).take 32

/-- Sealing as a descriptor's SEAL field and the mode say (02 R62). -/
def sealsOf (mode code : Nat) : Bool := if code = 1 then true else if code = 2 then false else modeSeals mode

/-! ### What kind of job it is (04 R137, R139, R540) -/

/-- The job writes block records. -/
def Desc.outRecs (d : Desc) : Bool :=
  d.opcode == opSeal || (d.opcode == opChain && d.src.isSome) || (d.opcode == opCopy && d.obj.isSome)

/-- The job reads block records. The SRC of a SWAP_IN holds records unless CODE_OFF says that it is plain data (DESIGN CHOICE, log entry
30). -/
def Desc.inRecs (d : Desc) : Bool := d.inbound && !(d.opcode == opSwapIn && d.obj.isNone && d.flags.codeOff)

/-- A job that carries a stream through the block stages. -/
def Desc.streams (d : Desc) : Bool := (d.src.isSome || d.obj.isSome) && !loads d.opcode

/-- A COPY or a LATTICE between memories: raw bytes, no records. -/
def Desc.memory (d : Desc) : Bool := d.streams && !d.inbound && !d.outRecs && d.opcode != opDigest

def Desc.seals (mode : Nat) (d : Desc) : Bool := d.outRecs && (d.opcode == opSeal || sealsOf mode d.flags.sealCode)

/-- Verify-after-write (06 R197, 02 R62). -/
def Desc.verifies (mode : Nat) (d : Desc) : Bool :=
  d.seals mode && (d.flags.verifyCode == 1 || (d.flags.verifyCode == 0 && mode == 2))

def Desc.keySlot (d : Desc) : Nat := match d.xform with | some x => x.keySlot | none => 0

/-! ### The slots that are in use (06 R191 cause 3) -/

def State.savedRec (s : State) (ctx id : Nat) : Option Saved := s.saved.find? (fun x => x.ctx == ctx && x.id == id)

/-- The descriptor whose data an entry moves: its own, or that of the record a RESUME names. -/
def entryDesc (s : State) (e : Entry) : Desc :=
  if e.desc.opcode = opResume then (match s.savedRec e.ctx (e.desc.arg % 16) with | some r => r.desc | none => e.desc) else e.desc

/-- A descriptor names a slot: to seal or to open under it, or for the key of a handle that it opens (06 R192, 07 R213). -/
def Desc.namesKey (mode k : Nat) (d : Desc) : Bool :=
  (d.keySlot == k && (d.seals mode || d.opcode == opOpen || (d.obj.isSome && d.xform.isSome))) ||
  (match d.dig with | some g => g.keySlot == k && d.opcode == opDigest && d.flags.init && g.alg == 3 | none => false) ||
  (match d.xform with | some x => d.streams && x.keySlot == k && x.snoopEn && x.snoopInit && x.snoopAlg == 3 | none => false)

/-- An entry names a slot: in its descriptor, or in that of the record which it resumes; or its job has sealed records of the slot in hand. -/
def namesKey (s : State) (e : Entry) (k : Nat) : Bool :=
  (entryDesc s e).namesKey (((s.findGroup e.gid).map (·.mode)).getD s.mode) k ||
  s.jobs.any (fun j => j.uid == e.uid && ((j.sealOn && j.keySlot == k) || j.recs.any (fun r => match r.hdr with | some h => h.sealed && h.keySlot == k | none => false)))

/-- A job uses the slot (06 R191 cause 3). -/
def State.keyUsed (s : State) (k : Nat) : Bool :=
  s.entries.any (fun e => (e.stage == .ready || e.stage == .running || e.stage == .blocked) && namesKey s e k) ||
  (s.ckpt.snap.isSome && s.get .fjCkptCfgKeySlot == k)

/-- Zero a slot's key; its counter stays (06 R185, R193). -/
def KeySlot.erase (x : KeySlot) : KeySlot :=
  { x with key := none, ctx := 0, replayOnly := false, openOnly := false, armature := false, erasing := false }

/-- Erases that wait take effect once no job uses their slot (06 R193). -/
def State.settleErases (s : State) : State :=
  let due := fun (x : KeySlot) => x.erasing && !s.keyUsed x.slot
  if s.keys.any due then ({ s with keys := s.keys.map (fun x => if due x then x.erase else x) }).up .fjIrqDoneKey else s

/-! ### The journal (17 R469, R470) -/

def journalEntry (slot chunk pfx : Nat) : Bytes :=
  let b := natLe 1 slot ++ [0xA5] ++ natLe 6 chunk ++ natLe 4 pfx
  b ++ natLe 4 (crc32c b)

def halfBase (s : State) (h : Nat) : Nat := plinthOff s + 0x20000 + 0x10000 * h

/-- Program an entry at the next free place of the active half. -/
def State.journalProgram (s : State) (slot hwm : Nat) : State :=
  let n := s.get .pwrJournalNext
  let a := halfBase s (s.get .pwrJournalHalf) + 16 * n
  (s.nvmIssue ⟨.program, a, 16, journalEntry slot (hwm / 2 ^ 24) (s.get .sealPrefixPrefix), .reserve⟩).set .pwrJournalNext (n + 1)

/-- A failed reservation write for a slot: the third in a row sets RESERVE_FAIL (06 R188). A key load that waits for it fails with cause 4. -/
def State.journalFail (s : State) (slot : Nat) : State :=
  let x := s.key slot
  let n := x.fails + 1
  if n < 3 then s.putKey { x with fails := n }
  else
    let s1 := (s.putKey { x with fails := 0, reserveFail := true, req := x.hwm }).up .sealStatReserveFail
    let s2 : State := { s1 with journal := { s1.journal with queue := s1.journal.queue.drop 1 } }
    match s2.keyLoad with
    | some l =>
      if l.reserving.isSome ∧ s2.get .sealKeyResultSlot = slot then
        (({ s2 with keyLoad := none }).set .sealKeyResultState 3).set .sealKeyResultCause 4 |>.up .fjIrqDoneKey
      else s2
    | none => s2

/-- Start the write for the reservation at the head of the queue, opening the other half when the active one is full. A reservation that
finds the next half not erased fails; the erase that firmware has begun is awaited by the retry. -/
def journalStartFuel : Nat → State → State
  | 0, s => s
  | fuel + 1, s =>
    match s.journal.copies, s.journal.queue with
    | _, [] => s
    | (k, h) :: _, _ :: _ => s.journalProgram k h
    | [], (k, h) :: _ =>
      if s.get .pwrJournalNext < 4096 then s.journalProgram k h
      else
        let o := 1 - s.get .pwrJournalHalf
        if s.journal.halfReady.getD o false then
          let cs := (s.keys.filter (fun x => x.hwm != 0)).map (fun x => (x.slot, x.hwm))
          let s1 : State := { s with journal := { s.journal with copies := cs, halfReady := s.journal.halfReady.set o false } }
          let s2 := ((s1.set .pwrJournalHalf o).set .pwrJournalNext 0).down .pwrStatJournalReady
          journalStartFuel fuel s2
        else journalStartFuel fuel (s.journalFail k)

def State.journalBusy (s : State) : Bool := s.nvm.any (fun o => o.use == .reserve)

def State.journalStart (s : State) : State :=
  if s.journalBusy ∨ s.holdingUp then s else journalStartFuel (3 * s.journal.queue.length + 3) s

/-- Request a reservation (06 R188): nothing while the table is lost. A REPLAY_ONLY key asks for none (R198). -/
def State.requestHwm (s : State) (slot hwm : Nat) : State :=
  let x := s.key slot
  if s.flag .sealStatTableLost ∨ hwm ≤ x.req then s
  else
    let s1 := s.putKey { x with req := hwm }
    ({ s1 with journal := { s1.journal with queue := s1.journal.queue ++ [(slot, hwm)] } }).journalStart

/-! ### Key loads (06 R190, R191) -/

/-- Cause 5 is a slot that seals no more; the others as R191 lists them. -/
inductive Unwrap where
  | bad (slot cause : Nat)
  | good (rec : Bytes)
  deriving DecidableEq, Repr

/-- The result of the unwrap. With cause 1 no slot can be read from the record: SEAL_KEY_RESULT.SLOT is then 0 (DESIGN CHOICE, log entry 134). -/
def unwrapBlob (s : State) (blob : Bytes) : Unwrap :=
  match kwpUnwrap s.kwk blob with
  | none => .bad 0 1
  | some r =>
    let slot := fieldAt r 0x20 1
    if r.length ≠ 40 then .bad 0 1
    else if fieldAt r 0x21 1 ≥ 64 ∨ fieldAt r 0x22 1 ≥ 4 ∨ fieldAt r 0x23 5 ≠ 0 then .bad slot 2
    else if (s.key slot).key.isSome ∧ s.keyUsed slot then .bad slot 3
    else if (s.key slot).exhausted ∧ ¬ bitOf (fieldAt r 0x22 1) 1 then .bad slot 5
    else .good r

def State.keyResult (s : State) (state cause : Nat) : State :=
  (({ s with keyLoad := none }).set .sealKeyResultState state).set .sealKeyResultCause cause |>.up .fjIrqDoneKey

/-- The key enters its slot. -/
def State.placeKey (s : State) (r : Bytes) (armature : Bool) : State :=
  let fl := fieldAt r 0x22 1
  let k := fieldAt r 0x20 1
  s.putKey { s.key k with
    key := some (sliceZ r 0 32), ctx := fieldAt r 0x21 1, replayOnly := bitOf fl 0, openOnly := bitOf fl 1, armature := armature,
    erasing := false }

/-- The slot holds at least 2^23 unused reserved counters (06 R189). A REPLAY_ONLY key takes part in no reservation (R198), and an exhausted slot,
which seals nothing more, needs none. -/
def reservedEnough (s : State) (r : Bytes) : Bool :=
  let x := s.key (fieldAt r 0x20 1)
  s.flag .sealStatTableLost || bitOf (fieldAt r 0x22 1) 0 || x.exhausted || x.ctr + 2 ^ 23 ≤ x.hwm

/-- Begin a load (06 R191 step 1). -/
def State.keyBegin (s : State) (blob : Bytes) (armature : Bool) : State :=
  if s.keyLoad.isSome then s
  else (({ s with keyLoad := some ⟨blob, armature, none⟩ }).set .sealKeyResultState 1).set .sealKeyResultCause 0

/-- The next blob of the Armature (06 R191, 16 R440 step 5). -/
def State.nextBlob (s : State) : State :=
  if s.boot.stage = .keys ∧ s.keyLoad = none then
    match s.boot.blobs with
    | b :: t => ({ s with boot := { s.boot with blobs := t } }).keyBegin b true
    | [] => s
  else s

/-- The unwrap ends: the key is loaded, or waits for its reservation, or the load fails. -/
def State.keyUnwrapped (s : State) (l : KeyLoad) : State :=
  match unwrapBlob s l.blob with
  | .bad slot cause => (s.set .sealKeyResultSlot slot).keyResult 3 cause
  | .good r =>
    let s1 := s.set .sealKeyResultSlot (fieldAt r 0x20 1)
    if reservedEnough s1 r then (s1.placeKey r l.armature).keyResult 2 0
    else
      let k := fieldAt r 0x20 1
      ({ s1 with keyLoad := some { l with reserving := some r } }).requestHwm k ((s1.key k).hwm + 2 ^ 24)

/-- A reservation became durable (06 R188): HWM takes its value, and the key load that waited for it ends, or asks for the next chunk. -/
def State.reserved (s : State) (slot hwm : Nat) : State :=
  let s1 := s.putKey { s.key slot with hwm := max hwm (s.key slot).hwm, fails := 0 }
  match s1.keyLoad with
  | some l =>
    match l.reserving with
    | some r =>
      if fieldAt r 0x20 1 ≠ slot then s1
      else if reservedEnough s1 r then (s1.placeKey r l.armature).keyResult 2 0
      else s1.requestHwm slot ((s1.key slot).hwm + 2 ^ 24)
    | none => s1
  | none => s1

/-- The head of the journal's work is durable: a copied entry, or a reservation. -/
def State.journalDurable (s : State) : State :=
  match s.journal.copies, s.journal.queue with
  | _ :: t, _ =>
    let s1 : State := { s with journal := { s.journal with copies := t } }
    if t.isEmpty then
      s1.nvmIssue ⟨.erase, halfBase s1 (1 - s1.get .pwrJournalHalf), 0x10000, [], .eraseJournal (1 - s1.get .pwrJournalHalf)⟩
    else s1
  | [], (k, h) :: t => ({ s with journal := { s.journal with queue := t } }).reserved k h
  | [], [] => s

/-- The program or the read-back of a journal entry failed: the reservation at the head, whose entry or whose half's copies it was, is tried
again (06 R188, 17 R470). -/
def State.journalBad (s : State) : State :=
  match s.journal.queue with
  | (k, _) :: _ => s.journalFail k
  | [] => s

/-! ### Driver commands -/

/-- SEAL_KEY_CMD.ERASE (06 R193). -/
def State.keyErase (s : State) (slot : Nat) : State :=
  let x := s.key slot
  if x.key.isNone then s else if s.keyUsed slot then s.putKey { x with erasing := true } else (s.putKey x.erase).up .fjIrqDoneKey

/-- SEAL_CTRL.ACK_LOST (06 R189, 17 R470): every HWM restarts at 0, and firmware erases both halves and writes a new header entry. -/
def State.ackLost (s : State) : State :=
  if s.flag .sealStatTableLost then
    let s1 : State := { s with
      keys := s.keys.map (fun x => { x with hwm := 0, req := 0, fails := 0 }), journal := ⟨[], [], [false, false]⟩ }
    let s2 := ((s1.down .sealStatTableLost).set .pwrJournalHalf 0).set .pwrJournalNext 1
    let s3 := s2.nvmIssue ⟨.erase, halfBase s2 0, 0x10000, [], .eraseJournal 0⟩
    let s4 := s3.nvmIssue ⟨.erase, halfBase s3 1, 0x10000, [], .eraseJournal 1⟩
    s4.nvmIssue ⟨.program, halfBase s4 0, 16, journalEntry 0xFF 0 (s4.get .sealPrefixPrefix), .journalHeader⟩
  else s

end Sys2Proof.Machine
end

