-- ==== Sys2Proof/Machine/Pointing.lean ====
section
/-! DEFINITION. Permute table slots and VL (09 R249 to R259, R263). -/
namespace Sys2Proof.Machine

/-- Current VL of a context in bytes (09 R249). -/
def State.vl (s : State) (ctx : Nat) : Nat := vlBytes (s.getI .pntVlVl ctx)

/-- The model-cache entries of a context go, but for pinned ones, which go when they are released (04 R150). -/
def State.cacheDrop (s : State) (p : McEntry → Bool) : State :=
  { s with cache := (s.cache.filter (fun e => !(p e && !e.pinned))).map (fun e => if p e then { e with marked := true } else e) }

def State.table (s : State) (ctx slot : Nat) : Option TableSlot := s.tables.find? (fun t => t.ctx == ctx && t.slot == slot)

/-- A job that runs with a table slot of a context. -/
def tableInUse (s : State) (ctx slot : Nat) : Bool := s.jobs.any (fun j => j.ctx == ctx && j.pnt.table == slot && j.table.isSome)

/-- A passed load (09 R255, R259). -/
def State.installTable (s : State) (ctx slot : Nat) (t : PermTable) : State :=
  let wrap := s.getI .pntLoadctrCount ctx = 2 ^ 32 - 1
  let s1 := if wrap then (s.cacheDrop (fun e => e.key.ctx == ctx)).setI .pntLoadctrCount ctx 1 else s
  let n := s1.getI .pntLoadctrCount ctx + 1
  let s2 := s1.setI .pntLoadctrCount ctx n
  { s2 with tables := upsert (fun x => x.ctx == ctx && x.slot == slot) ⟨ctx, slot, { t with loadNo := n }, false⟩ s2.tables }

/-- The Armature's PERM records that apply enter context 0's slots (16 R436). -/
def State.loadArmTables (s : State) : State :=
  (s.arm.records.filter (fun r => r.typ == 3)).foldl (fun a r =>
    let slot := fieldAt r.body 0 1
    let n := 8 + 2 * fieldAt r.body 10 2
    match parsePerm (a.vl 0) (slice r.body 8 n) with
    | .table t => a.installTable 0 (slot % 8) t
    | _ => a) s

/-- Tables that a running job no longer names are emptied (09 R263). -/
def State.settleTables (s : State) : State :=
  { s with tables := s.tables.filter (fun t => !(t.dying && !tableInUse s t.ctx t.slot)) }

/-- PNT_CTRL.INV_CTX (09 R263). -/
def State.pntInvCtx (s : State) (ctx : Nat) : State :=
  ({ s with tables := s.tables.map (fun (t : TableSlot) => if t.ctx = ctx then { t with dying := true } else t) }).settleTables

/-- A VL takes effect: every table of the context is validated again (09 R251, R256). -/
def State.applyVl (s : State) (ctx code : Nat) : State :=
  let s1 := s.setI .pntVlVl ctx code
  { s1 with
    tables := s1.tables.map (fun (t : TableSlot) => if t.ctx = ctx then { t with table := { t.table with valid := t.table.fits (vlBytes (code % 4)) } } else t),
    vlPending := s1.vlPending.filter (fun p => p.1 != ctx) }

end Sys2Proof.Machine
end

