-- ==== Sys2Proof/Machine/Armature.lean ====
section
/-! DEFINITION. The NVM directory, the Armature image, its checks and the configuration's validity rules (16 R433 to R438). -/
namespace Sys2Proof.Machine

/-! ### SFDP (15 R418, 17 R473; JESD216) -/

/-- Pointer and length in bytes of a parameter table, by its identifier. -/
def sfdpTable (b : Bytes) (id : Nat) : Option (Nat × Nat) :=
  (List.range (fieldAt b 6 1 + 1)).findSome? (fun k =>
    let o := 8 + 8 * k
    if fieldAt b o 1 + 256 * fieldAt b (o + 7) 1 = id then some (fieldAt b (o + 4) 3, 4 * fieldAt b (o + 3) 1) else none)

def bfpt (b : Bytes) : Nat := match sfdpTable b 0xFF00 with | some (o, _) => o | none => 0

/-- The device can be used: its SFDP reads, and it has the 8D-8D-8D of Profile 1.0 (15 R417, R418). -/
def sfdpOk (b : Bytes) : Bool := b.take 4 == ascii "SFDP" && (sfdpTable b 0xFF00).isSome && (sfdpTable b 0xFF05).isSome

/-- Size exponents of the erase types declared. -/
def eraseTypes (b : Bytes) : List Nat := ((List.range 4).map (fun k => fieldAt b (bfpt b + 28 + 2 * k) 1)).filter (· != 0)

/-- MRAM class: no erase type declared (17 R473). -/
def sfdpMram (b : Bytes) : Bool := (eraseTypes b).isEmpty

def deviceSize (b : Bytes) : Nat :=
  let d := fieldAt b (bfpt b + 4) 4
  if bitOf d 31 then 2 ^ (d % 2 ^ 31) / 8 else (d + 1) / 8

/-- t_PP in ns: the declared maximum page program time (17 R473). -/
def tPp (b : Bytes) : Nat :=
  let d := fieldAt b (bfpt b + 40) 4
  2 * (d % 16 + 1) * (bitsOf d 8 5 + 1) * (if bitOf d 13 then 64000 else 8000)

/-! ### The directory (16 R433, 17 R467) -/

def dirAreas (d : Bytes) : List (Nat × Nat) :=
  [(0, 4096), (fieldAt d 8 4, fieldAt d 0x10 4), (fieldAt d 12 4, fieldAt d 0x10 4), (fieldAt d 0x14 4, fieldAt d 0x1C 4),
   (fieldAt d 0x18 4, fieldAt d 0x1C 4), (fieldAt d 0x20 4, fieldAt d 0x24 4)]

/-- Check 4. -/
def directoryOk (sfdp d : Bytes) : Bool :=
  d.length == 4096 && d.take 8 == ascii "FJNVDIR2" && fieldAt d 0xFFC 4 == crc32c (d.take 0xFFC) &&
  fieldAt d 8 4 % 4096 == 0 && fieldAt d 12 4 % 4096 == 0 && fieldAt d 0x14 4 % 4096 == 0 && fieldAt d 0x18 4 % 4096 == 0 &&
  4096 ≤ fieldAt d 0x10 4 && fieldAt d 0x10 4 ≤ 0x100000 && fieldAt d 0x20 4 % 0x10000 == 0 && 0x40000 ≤ fieldAt d 0x24 4 &&
  (sfdpMram sfdp || (eraseTypes sfdp).any (· ≤ 16)) && (dirAreas d).all (fun a => a.1 + a.2 ≤ deviceSize sfdp) && disjointRanges (dirAreas d)

/-! ### The image (16 R434, R435) -/

def imgLen (h : Bytes) : Nat := fieldAt h 0x0C 4
def imgSeq (h : Bytes) : Nat := fieldAt h 0x10 4

/-- Records of a body: type, header's second byte, two res0 bytes, body; none when the lengths do not sum exactly. -/
def parseRecords : Nat → Bytes → Option (List (Nat × Nat × Nat × Bytes))
  | 0, b => if b.isEmpty then some [] else none
  | n + 1, b =>
    let l := fieldAt b 4 4
    if b.length < 8 ∨ b.length < 8 + l ∨ l % 8 ≠ 0 then none else
    (parseRecords n (b.drop (8 + l))).map (fun t => (fieldAt b 0 1, fieldAt b 1 1, fieldAt b 2 2, slice b 8 l) :: t)

def imgRecords (b : Bytes) : Option (List (Nat × Nat × Nat × Bytes)) := parseRecords (fieldAt b 0x50 2) (slice b 128 (imgLen b - 328))

/-- The header's own fields allow the image to be read. -/
def headOk (armMax : Nat) (h : Bytes) : Bool :=
  h.take 8 == ascii "FJARMAT2" && fieldAt h 8 2 == 2 && 328 ≤ imgLen h && imgLen h ≤ armMax && imgLen h % 8 == 0

/-- Check 5. -/
def check5 (armMax : Nat) (b : Bytes) : Bool :=
  headOk armMax b && b.length == imgLen b && fieldAt b 0x0A 2 == 0 && (slice b 0x52 46).all (· == 0) &&
  (slice b (imgLen b - 103) 7).all (· == 0) && (imgRecords b).isSome

/-- Check 6. -/
def check6 (keyHash b : Bytes) : Bool := sha384 (slice b (imgLen b - 200) 97) == keyHash

/-- Check 7: SIG covers bytes 0 to LEN − 97. -/
def check7 (b : Bytes) : Bool := ecdsaVerify (slice b (imgLen b - 200) 97) (b.take (imgLen b - 96)) (slice b (imgLen b - 96) 96)

/-- A firmware copy that matches and is not too old, as check 8 asks. -/
def fwCopy (b fw : Bytes) : Bool :=
  let n := fieldAt b 0x1C 4
  n ≤ fw.length && sha384 (fw.take n) == slice b 0x20 48 && fieldAt fw 8 4 ≥ fieldAt b 0x18 4

def peerRoles : List Nat := [0, 1, 2, 4, 5, 6, 7]

def pairsOk (s : State) (body : Bytes) : Bool := (chunks 8 body).all (fun p => regPairOk s (fieldAt p 0 4))

/-- A record of the image passes check 9. -/
def recordOk (s : State) (r : Nat × Nat × Nat × Bytes) : Bool :=
  let b := r.2.2.2
  let n := b.length
  bitsOf r.2.1 4 3 == 0 && r.2.2.1 == 0 &&
  match r.1 with
  | 1 => pairsOk s b
  | 2 => n % 48 == 0
  | 3 =>
    let t := 8 + 2 * fieldAt b 10 2
    fieldAt b 0 1 < 8 && fieldAt b 1 7 == 0 && n == 8 + roundUp t 8 && (b.drop (8 + t)).all (· == 0) &&
      parsePerm 512 (slice b 8 t) != .malformed
  | 4 => n == 8 + 128 * fieldAt b 2 2 && fieldAt b 5 1 < 32 && fieldAt b 6 1 < 16 && fieldAt b 7 1 == 0 && (parsePnt b 0).fieldsOk &&
      (chunks 128 (b.drop 8)).all tensorRes0
  | 5 => 8 ≤ n && fieldAt b 0 1 < 16 && fieldAt b 1 7 == 0 && pairsOk s (b.drop 8)
  | 6 => n == 520 && fieldAt b 0 1 < 16 && fieldAt b 1 7 == 0
  | 7 => n % 16 == 0 && (chunks 16 b).all (fun e =>
      peerRoles.contains (fieldAt e 0 1) && fieldAt e 1 1 < 16 && fieldAt e 2 2 == 0 && fieldAt e 12 4 == 0)
  | _ => false

def recordApplies (inst flags : Nat) : Bool := bitOf flags 7 || flags % 16 == inst

/-- The records that apply to this instance, in order. -/
def appliedRecords (inst : Nat) (b : Bytes) : List ArmRec :=
  match imgRecords b with
  | some rs => (rs.filter (fun r => recordApplies inst r.2.1)).map (fun r => ⟨r.1, r.2.2.2⟩)
  | none => []

/-! ### Check 10: the configuration (16 R436, R438) -/

/-- A checkpoint trigger is enabled: N, or the warning policy (10 R270, R271). -/
def triggerOn (s : State) : Bool := s.get .fjCkptNN != 0 || s.get .fjCkptCfgPolicy == 1

/-- A PEER entry: role, instance, package, FRAMES. -/
def peerEntries (rs : List ArmRec) : List (Nat × Nat × Nat × Nat) :=
  (rs.filter (fun r => r.typ == 7)).flatMap (fun r =>
    (chunks 16 r.body).map (fun e => (fieldAt e 0 1, fieldAt e 1 1 % 16, fieldAt e 4 4, fieldAt e 8 4)))

/-- TENSOR records: group, Pointing fields, table (16 R435). -/
def tensorRecs (rs : List ArmRec) : List (Nat × PntCfg × Bytes) :=
  (rs.filter (fun r => r.typ == 4)).map (fun r => (fieldAt r.body 0 2, parsePnt r.body 0, r.body.drop 8))

def winGroup (s : State) (i : Nat) : Nat := s.getI .grdWinAttrGroup i

/-- Windows defined, with their numbers. -/
def State.winIdx (s : State) : List Nat := (List.range 64).filter (fun i => s.getI .grdWinSizeSize i != 0)

/-- Bytes of a group's windows. -/
def groupBytes (s : State) (g : Nat) : Nat :=
  (s.winIdx.filter (fun i => winGroup s i == g)).foldl (fun a i => a + (s.window i).2) 0

/-- The group's windows are consecutive in number (12 R339). -/
def groupRun (s : State) (i : Nat) : Bool :=
  let js := s.winIdx.filter (fun j => winGroup s j == winGroup s i)
  js.getLast?.getD i + 1 == js.headD i + js.length

def freeOf (rs : List (Nat × Nat)) (a n : Nat) : Bool := rs.all (fun r => !meets r.1 r.2 a n)

/-- The pairs of the REG records and of the ROLE records: a ROLE's come after the role's number (16 R435). -/
def configPairs (rs : List ArmRec) : List Bytes :=
  rs.flatMap (fun r => if r.typ = 1 then chunks 8 r.body else if r.typ = 5 then chunks 8 (r.body.drop 8) else [])

/-- A pair leaves a res0 bit set, or names a FORMAT of a window that is res0 (00 R20, 03 R120): its offset. -/
def res0Breach (s : State) (rs : List ArmRec) : Option Nat :=
  (configPairs rs).findSome? (fun p =>
    match findRow s (fieldAt p 0 4) privMap with
    | some (row, _) =>
      let mask := row.bits.foldl (fun a b => a ||| (2 ^ b.w - 1) * 2 ^ b.lo) 0
      let formats := row.bits.all (fun b => b.fld != .grdWinAttrFormat || decide (bitsOf (fieldAt p 4 4) b.lo b.w ≤ 5))
      if fieldAt p 4 4 &&& (2 ^ 32 - 1 - mask) ≠ 0 ∨ formats = false then some (fieldAt p 0 4) else none
    | none => some (fieldAt p 0 4))

/-- The buddy entries name another package, whatever else is configured (01 R25); a trigger asks for the entries of 16 R436. -/
def peerChecks (s : State) (rs : List ArmRec) (pkg : Nat) : List (Bool × Nat) :=
  let ps := peerEntries rs
  let one := fun r => (ps.filter (fun p => p.1 == r)).length == 1
  let on := triggerOn s
  [(ps.all (fun p => p.1 != 0 || p.2.2.1 != pkg) && (!on || one 0), offOf .fjTopoQpBuddy 0),
   (!on || !s.flag .fjTopoQpPrevV || one 1, offOf .fjTopoQpBuddy 0), (!on || !s.flag .fjTopoQpNextV || one 2, offOf .fjTopoQpBuddy 0)]

def windowChecks (s : State) : List (Bool × Nat) :=
  s.winIdx.map (fun i =>
    let w := s.window i
    (w.1 % 65536 == 0 && w.1 + w.2 ≤ 2 ^ s.build.fabAw &&
      s.winIdx.all (fun j => j ≤ i || !meets w.1 w.2 (s.window j).1 (s.window j).2), offOf .grdWinBaseBase i)) ++
  [(decide (s.windows.foldl (fun a w => a + w.2) 0 ≤ 256 * 2 ^ 30), offOf .grdWinSizeSize 0), (!triggerOn s || !s.windows.isEmpty, offOf .fjCkptNN 0)]

/-- Reserves: base, FRAMES, the offset of the base's field (10 R266). -/
def reserves (s : State) : List (Nat × Nat × Nat) :=
  (if s.frames = 0 then [] else [(s.get .fjMirrorBaseBase, s.frames, offOf .fjMirrorBaseBase 0)]) ++
  (List.range 4).filterMap (fun j =>
    if s.getI .fjPeerResFramesFrames j = 0 then none
    else some (s.getI .fjPeerResBaseBase j, s.getI .fjPeerResFramesFrames j, offOf .fjPeerResBaseBase j))

def reserveChecks (s : State) (rs : List ArmRec) (rest : List (Nat × Nat)) : List (Bool × Nat) :=
  let l := (reserves s).zipIdx
  l.map (fun (r, k) =>
    (r.1 % 65536 == 0 && freeOf rest r.1 (reserveSize r.2.1) &&
      l.all (fun (q, m) => m ≤ k || !meets r.1 (reserveSize r.2.1) q.1 (reserveSize q.2.1)), r.2.2)) ++
  (List.range 4).map (fun j =>
    let f := s.getI .fjPeerResFramesFrames j
    let ds := (peerEntries rs).filter (fun p => p.1 == 4 + j)
    (if f = 0 then true else ds.length == 1 && ds.all (fun d => d.2.2.2 == f), offOf .fjPeerResFramesFrames j))

/-- Every rule of check 10 with the field it is about, in the order R438 names them. -/
def configRules (s : State) (rs : List ArmRec) (pkg : Nat) : List (Bool × Nat) :=
  let spill := (s.get .grdSpillBaseBase, s.get .grdSpillSlotsSlots * 4096)
  let fpt := (s.get .digFptBaseBase, s.get .digFptEntriesEntries * 64)
  let digS := (s.get .digSaveBaseBase, 0x80000)
  let latS := (s.get .latSaveBaseBase, 64 * 17 * 0x11000)
  let p := s.get .tickPeriodPeriod
  peerChecks s rs pkg ++
  [(p % 4 == 0 && 500 ≤ p && p ≤ 8000, offOf .tickPeriodPeriod 0),
   (decide (64 ≤ s.get .tickThrWinWin ∧ s.get .tickThrWinWin ≤ 65536), offOf .tickThrWinWin 0),
   (decide (4 * s.get .tickThrAllowAllow ≤ 3 * s.get .tickThrWinWin * p), offOf .tickThrAllowAllow 0)] ++
  windowChecks s ++
  [(decide (s.get .grdSpillSlotsSlots ≤ 65536) && freeOf s.windows spill.1 spill.2, offOf .grdSpillBaseBase 0),
   (decide (s.get .grdRlatMaxNs ≤ 1500), offOf .grdRlatMaxNs 0), (fpt.1 % 65536 == 0, offOf .digFptBaseBase 0),
   (decide (s.get .digFptEntriesEntries ≤ 2 ^ 24), offOf .digFptEntriesEntries 0), (freeOf (s.windows ++ [spill]) fpt.1 fpt.2, offOf .digFptBaseBase 0),
   (s.windows.isEmpty || 2 * s.granTotal / 16 ≤ s.get .digFptEntriesEntries, offOf .digFptEntriesEntries 0),
   (freeOf (s.windows ++ [spill, fpt]) digS.1 digS.2, offOf .digSaveBaseBase 0),
   (freeOf (s.windows ++ [spill, fpt, digS]) latS.1 latS.2, offOf .latSaveBaseBase 0)] ++
  reserveChecks s rs (s.windows ++ [spill, fpt, digS, latS]) ++
  [(s.get .fjReplicaRankSize != 0 && s.get .fjReplicaRankRank < s.get .fjReplicaRankSize, offOf .fjReplicaRankRank 0)] ++
  s.winIdx.map (fun i =>
    ((tensorRecs rs).all (fun t => t.1 != winGroup s i || tensorTableOk t.2.2 (groupBytes s (winGroup s i))), offOf .grdWinAttrFormat i)) ++
  [(decide (s.get .sealPrefixPrefix < 0x80000000), offOf .sealPrefixPrefix 0)] ++
  s.winIdx.map (fun i => (groupRun s i, offOf .grdWinAttrFormat i)) ++
  (List.range 16).map (fun t =>
    let n := s.getI .xptTgtCfgSlots t
    (n == 0 || (2 ≤ n && n ≤ 16), offOf .xptTgtSelTgt 0)) ++
  [(decide (s.get .xptCfgLanes ≤ s.build.xptLanesMax), offOf .xptCfgLanes 0)]

/-- Check 10: the offset of the first field in breach. -/
def configBreach (s : State) (rs : List ArmRec) (pkg : Nat) : Option Nat :=
  match res0Breach s rs with
  | some o => some o
  | none => firstFail (configRules s rs pkg)

/-! ### Choosing a copy (16 R438) -/

/-- Code of the first of checks 5 to 9 that a copy fails. -/
def copyCode (s : State) (k : Nat) : Option Nat :=
  let b := (s.boot.images.find? (fun x => x.1 == k)).elim [] (·.2)
  let dir := s.boot.directory
  if !check5 (fieldAt dir 0x10 4) b then some 0x10
  else if !check6 s.arm.keyHash b then some 0x11
  else if !check7 b then some 0x12
  else if !(fieldAt b 0x1C 4 ≤ fieldAt dir 0x1C 4 && s.boot.firmware.any (fun f => fwCopy b f.2)) then some 0x13
  else if !((imgRecords b).getD []).all (recordOk s) then some 0x14
  else none

/-- Copies in the order they are tried. -/
def copyOrder (s : State) : List Nat :=
  let img := fun k => (s.boot.images.find? (fun x => x.1 == k)).elim [] (·.2)
  let seq := fun k => imgSeq (((s.boot.headers.find? (fun x => x.1 == k)).elim [] (·.2)))
  let two := if seq 1 > seq 0 then [1, 0] else [0, 1]
  two.filter (fun k => check5 (fieldAt s.boot.directory 0x10 4) (img k)) ++
    two.filter (fun k => !check5 (fieldAt s.boot.directory 0x10 4) (img k))

/-- The registers after an Armature's REG pairs. -/
def State.configured (s : State) (rs : List ArmRec) : State :=
  (rs.filter (fun r => r.typ == 1)).foldl (fun a r => a.applyPairs r.body) s.derived

end Sys2Proof.Machine
end

