-- ==== Sys2Proof/Machine/Plan.lean ====
section
/-! DEFINITION. What an entry will do, as far as admission must know it: its lengths, the ranges it writes, its checks before data moves and
its charge on every resource (02 R56 to R70, 04 R121 to R139, 09 R249 to R262). -/
namespace Sys2Proof.Machine

/-! ### Sections of a descriptor -/

def Desc.slotsBut3 (d : Desc) : Nat :=
  (if d.src.isSome then 3 else 0) + (if d.dst.isSome then 3 else 0) + (if d.obj.isSome then 2 else 0) + (if d.xform.isSome then 1 else 0) +
  (if d.dig.isSome then 1 else 0) + (if d.lat.isSome then 2 else 0) + (if d.avg.isSome then 3 else 0)

/-- A FAN section is there (13 R354): SLOTS tells it, as a FANOUT of 1 leaves no further destination. -/
def Desc.hasFan (d : Desc) : Bool := d.opcode == opSwapIn && d.slots == 5 + d.slotsBut3

def Desc.has (d : Desc) (k : Nat) : Bool :=
  match k with
  | 0 => d.src.isSome | 1 => d.dst.isSome | 2 => d.obj.isSome | 3 => d.hasFan | 4 => d.xform.isSome | 5 => d.dig.isSome | 6 => d.lat.isSome
  | 7 => d.avg.isSome
  | _ => !d.inline.isEmpty

/-- Byte offset of section k in the entry, for DETAIL (13 R365). -/
def Desc.secOff (d : Desc) (k : Nat) : Nat :=
  if d.v1 then (if k = 0 then 8 else 0x10)
  else 32 + 32 * (List.range k).foldl (fun a j => if d.has j then a + sectSlots d.inline.length j else a) 0

def Desc.format (d : Desc) : Nat := match d.xform with | some x => x.format | none => 0

/-- The Pointing fields in force: pass-through unless RELAYOUT is set (13 R355). -/
def Desc.pnt (d : Desc) : PntCfg :=
  match d.xform with
  | some x => if d.flags.relayout then x.pnt else ⟨0, 0, 0, 15, false, 0⟩
  | none => ⟨0, 0, 0, 15, false, 0⟩

/-- The lattice as the job runs it, none when it does not enter it (08 "Where the lattice runs"). -/
def Desc.latCfg (lanes : Nat) (d : Desc) : Option LatCfg :=
  match d.lat with
  | none => none
  | some l =>
    let c : LatCfg :=
      {
        op := l.op, inFmt := l.inFmt, outFmt := l.outFmt, stats := l.stats, rowLen := l.rowLen, coefA := l.coefA, coefB := l.coefB, k := l.k,
        w := (match d.avg with | some a => a.w | none => []), part := l.part, parts := l.parts, scaleSrc := b2n l.scaleRecord,
        lanes := lanes }
    if (d.flags.transform || d.opcode == opLattice) && c.active then some c else none

/-! ### Lengths -/

/-- Output bytes of the lattice for n input bytes, and the reverse. -/
def latLen (l : Option LatCfg) (n : Nat) : Nat :=
  match l with | some c => bytesOfElems c.outFmt (n * 8 / elemBits c.inFmt) | none => n

def latLenInv (l : Option LatCfg) (n : Nat) : Nat :=
  match l with | some c => bytesOfElems c.inFmt (n * 8 / elemBits c.outFmt) | none => n

def pointLenInv (p : PntCfg) (n : Nat) : Nat := if p.passThrough then n else packedLen p.unpack (unpackedLen p.pack n)

def State.windowBytes (s : State) : Nat := s.windows.foldl (fun a w => a + w.2) 0

/-- Bytes of the destination's raw stream: DST, or every guarded window of a RESTORE with WINDOWS. -/
def Desc.dstBytes (s : State) (d : Desc) : Nat :=
  match d.dst with
  | some t => t.total
  | none => if d.opcode = opRestore then s.windowBytes else match d.src with | some t => t.total | none => 0

/-- Raw bytes of the job's source. -/
def Desc.raw (s : State) (d : Desc) : Nat :=
  let l := d.latCfg (s.get .latStatLanes)
  if d.inbound then
    (if d.inRecs then pointLenInv d.pnt (latLenInv l (d.dstBytes s)) else match d.src with | some t => t.total | none => 0)
  else match d.src with | some t => t.total | none => 0

/-- Raw bytes as the destination takes them. -/
def Desc.rawOut (s : State) (d : Desc) : Nat :=
  let l := d.latCfg (s.get .latStatLanes)
  if d.inbound then latLen l (pointLen d.pnt (d.raw s)) else pointLen d.pnt (latLen l (d.raw s))

/-- Elements through the lattice. -/
def Desc.elems (s : State) (d : Desc) (l : LatCfg) : Nat :=
  if d.inbound then d.dstBytes s * 8 / elemBits l.outFmt else d.raw s * 8 / elemBits l.inFmt

/-- A stream's shape in elements of another width. -/
def Stream.inWidth (t : Stream) (old new : Nat) : Stream :=
  { t with
    len := t.len * new / old, dims := t.dims.map (fun x => { x with stride := x.stride * new / old }) }

def blocksOf (n : Nat) : Nat := ceilDiv n 65536

/-! ### Ranges -/

/-- Destinations of a job as streams: DST and its fan-out (04 R139). -/
def Desc.dstStreams (d : Desc) : List Stream :=
  match d.dst with
  | some t => t :: d.fan.map (fun a => { t with start := a })
  | none => []

/-- Further sources of the lattice, in the format IN_FMT (08 R229, 13 R360): AUX[k] with the shape of SRC, or of DST for an inbound job,
counted in elements. A RESTORE with WINDOWS has no DST: its further sources are runs of the `ne` elements that it writes (log entry
142). -/
def Desc.auxStreams (d : Desc) (l : Option LatCfg) (ne : Nat) : List Stream :=
  match l, d.lat with
  | some c, some f =>
    let base := if d.inbound then (match d.dst with
        | some t => t.inWidth (elemBits c.outFmt) (elemBits c.inFmt)
        | none => ⟨0, bytesOfElems c.inFmt ne, [], false⟩) else d.src.getD ⟨0, 0, [], false⟩
    if c.op = 1 then [{ base with start := f.aux0 }]
    else if c.op = 2 then (match d.avg with | some a => a.aux.map (fun x => { base with start := x }) | none => [])
    else []
  | _, _ => []

def streamsMeet (a b : Stream) : Bool := a.host == b.host && intMeets a.range b.range

/-- A stream as the fabric range it touches. -/
def fabRange (t : Stream) : List (Nat × Nat) := if t.host then [] else [(t.range.1.toNat, (t.range.2 - t.range.1).toNat)]

/-- Bytes of the scales that the lattice writes (08 R235, R236). -/
def scaleOutBytes (l : LatCfg) (ne : Nat) : Nat :=
  if l.outFmt = 4 ∨ l.outFmt = 5 then 4 * (ne / l.rowLen) else if isMx l.outFmt then ne / 32 else 0

/-- Bytes of one source's input scales (08 R225). -/
def scaleInBytes (l : LatCfg) (ne : Nat) : Nat := if isMx l.inFmt then ne / 32 else if l.inFmt = 11 then 4 * (ne / l.rowLen) else 0

/-- Fabric-memory ranges that an entry may write (03 R105). -/
def Desc.writes (s : State) (d : Desc) : List (Nat × Nat) :=
  let l := d.latCfg (s.get .latStatLanes)
  (d.dstStreams.flatMap fabRange) ++
  (if d.opcode = opRestore ∧ d.dst.isNone ∧ ¬ d.flags.common then s.windows else []) ++
  (match d.dig with
   | some g => if d.opcode = opDigestFinal ∧ ¬ g.resultHost then [(g.resultAddr, 48)] else []
   | none => []) ++
  (match l, d.lat with
   | some c, some f =>
     let ne := d.elems s c
     (if c.stats ∧ ¬ f.statsHost then [(f.statsDst, 32 * (ne / c.rowLen))] else []) ++
     (if scaleOutBytes c ne ≠ 0 ∧ ¬ (d.dst.any (fun t => t.host)) then [(f.scaleDst, scaleOutBytes c ne)] else [])
   | _, _ => []) ++
  (if d.opcode = opSwapIn ∧ d.flags.progress then [(d.arg, 8)] else []) ++
  (match d.obj with
   | some o => if d.opcode = opRestore ∧ o.reportMax ≠ 0 then [(o.reportAddr, 16 * o.reportMax)] else []
   | none => [])

/-! ### The checks before data moves -/

/-- What a slot answers a job that names it (06 R192, R213). -/
def keyCheck (s : State) (ctx slot : Nat) (sealing : Bool) : Option Nat :=
  let k := s.key slot
  if k.key.isNone ∨ k.ctx ≠ ctx then some stKeyInvalid
  else if sealing ∧ k.openOnly then some stKeyInvalid
  else if k.replayOnly ∧ ¬ s.replaying then some stKeyInvalid
  else none

/-- What a slot answers a new job that names it: one to be erased is named no more (06 R193). -/
def newKeyCheck (s : State) (ctx slot : Nat) (sealing : Bool) : Option Nat :=
  if (s.key slot).erasing then some stKeyInvalid else keyCheck s ctx slot sealing

/-- A job in replay that names a slot without REPLAY_ONLY (06 R198). -/
def replayKeyBad (s : State) (slot : Nat) : Bool := s.replaying && !(s.key slot).replayOnly

/-- A RESTORE with WINDOWS knows its stream in the header phase only. -/
def Desc.toWindows (d : Desc) : Bool := d.opcode == opRestore && d.dst.isNone

/-- Pointing: R249's length, R257's table. -/
def pntCheck (s : State) (ctx : Nat) (d : Desc) : Option (Nat × Nat) :=
  let p := d.pnt
  let l := d.latCfg (s.get .latStatLanes)
  if p.passThrough ∨ ¬ d.streams ∨ d.flags.common then none else
  let unp := if d.inbound then unpackedLen p.pack (latLenInv l (d.dstBytes s)) else unpackedLen p.unpack (latLen l (d.raw s))
  if unp % s.vl ctx ≠ 0 ∧ ¬ d.toWindows then some (stMalformed, d.secOff 4 + 4)
  else if p.table = 15 then none
  else
    match s.table ctx p.table with
    | none => some (stPermRange, 0)
    | some t =>
      if t.dying ∨ ¬ t.table.valid ∨ (p.inverse ∧ ¬ t.table.bijective) ∨ t.table.gran ≠ p.gran then some (stPermRange, 0) else none

/-- Lattice: rows (08 R231), ranges and overlaps (R230), of a stream of `bytes` that goes to some streams. -/
def latFits (s : State) (d : Desc) (bytes : Nat) (dsts : List Stream) : Option (Nat × Nat) :=
  match d.latCfg (s.get .latStatLanes) with
  | some c =>
    let o := d.secOff 6
    let bits := if d.inbound then elemBits c.outFmt else elemBits c.inFmt
    let ne := bytes * 8 / bits
    let aux := d.auxStreams (some c) ne
    let bad := aux.any (fun a => dsts.any (fun t => streamsMeet a t && !(c.op == 1 && a == t && dsts.length == 1 + d.fan.length)))
    if bytes * 8 % bits ≠ 0 ∨ ne % c.rowLen ≠ 0 then some (stMalformed, o + 4)
    else if aux.any (fun a => !a.ok s.build.fabAw) ∨ bad then some (stMalformed, o + 0x30)
    else none
  | none => none

def latCheck (s : State) (d : Desc) : Option (Nat × Nat) :=
  if d.toWindows then none else latFits s d (if d.inbound then d.dstBytes s else d.raw s) d.dstStreams

/-- Ranges and lengths: R123, R125, R540. -/
def lenCheck (s : State) (d : Desc) : Option (Nat × Nat) :=
  let ds := d.dstStreams
  let meet := match d.src with | some t => ds.any (fun x => streamsMeet t x) | none => false
  if ds.any (fun x => !x.ok s.build.fabAw) then some (stMalformed, d.secOff (if d.fan.isEmpty then 1 else 3))
  else if meet then some (stMalformed, d.secOff 1)
  else if d.memory ∧ d.dstBytes s ≠ d.rawOut s then some (stMalformed, d.secOff 1)
  else if d.inbound ∧ ¬ d.inRecs ∧ d.dstBytes s ≠ d.rawOut s then some (stMalformed, d.secOff 1)
  else if d.outRecs ∧ d.dst.isSome ∧ d.dstBytes s < d.raw s + 84 * blocksOf (d.raw s) then some (stMalformed, d.secOff 1)
  else none

/-- The keys an entry names (06 R192, R213). -/
def keysCheck (s : State) (ctx : Nat) (d : Desc) : Option (Nat × Nat) :=
  let k1 := if d.seals s.mode then newKeyCheck s ctx d.keySlot true else if d.opcode = opOpen then newKeyCheck s ctx d.keySlot false else none
  let k2 := match d.dig with
    | some g => if d.opcode = opDigest ∧ d.flags.init ∧ g.alg = 3 then newKeyCheck s ctx g.keySlot false else none
    | none => none
  match k1, k2 with
  | some st, _ => some (st, 0)
  | none, some st => some (st, 0)
  | none, none =>
    match d.xform with
    | some x =>
      if d.streams ∧ x.snoopEn ∧ x.snoopInit ∧ x.snoopAlg = 3 then (newKeyCheck s ctx x.keySlot false).map (fun st => (st, 0)) else none
    | none => none

/-- The permute table that a saved stream used is still the one in its slot, and valid for the VL of now (09 R250, R256, R257). -/
def tableKept (s : State) (ctx : Nat) (j : Job) : Bool :=
  match j.table with
  | none => true
  | some t => (match s.table ctx j.pnt.table with | some u => u.table.loadNo == t.loadNo && u.table.valid && !u.dying | none => false)

/-- The checks of an entry before data moves: status and DETAIL (02 R66). -/
def entryCheck (s : State) (ctx : Nat) (d : Desc) : Option (Nat × Nat) :=
  if d.opcode = opSnap then (if ctx ≠ 0 ∨ spareIdle s then some (stAccessDenied, 0) else none)
  else if d.opcode = opRestore ∧ d.flags.rollback ∧ ctx ≠ 0 then some (stAccessDenied, 0)
  else if d.opcode = opResume then
    match s.savedRec ctx (d.arg % 16) with
    | none => some (stMalformed, 0x18)
    | some r =>
      if ¬ tableKept s ctx r.job then some (stPermRange, 0)
      else if r.job.sealOn then (newKeyCheck s ctx r.job.keySlot true).map (fun st => (st, 0))
      else if r.desc.opcode = opOpen then (newKeyCheck s ctx r.job.keySlot false).map (fun st => (st, 0))
      else none
  else if d.streams ∨ d.opcode = opDigest then
    firstSome [lenCheck s d, latCheck s d, pntCheck s ctx d, keysCheck s ctx d]
  else none

/-! ### Charges (02 R56 to R58, 04 R126, R139; 06 R197; 08 R230, R239, R241; 09 R262) -/

def addC (l : List Nat) (k v : Nat) : List Nat := l.set k (l.getD k 0 + v)

def addAll (l : List Nat) (xs : List (Nat × Nat)) : List Nat := xs.foldl (fun a x => addC a x.1 x.2) l

/-- Raw bytes and 256 B a block (02 R57). -/
def chargeOf (n : Nat) : Nat := n + 256 * blocksOf n

/-- The lattice's charge (08 R241), block by block of the stream that enters it. -/
def macFuel (bits rowLen m ne : Nat) : Nat → Nat → Nat
  | 0, _ => 0
  | fuel + 1, b =>
    let lo := ceilDiv (b * 524288) bits
    if lo ≥ ne then 0 else
    let hi := min ne (ceilDiv ((b + 1) * 524288) bits)
    let first := min (hi - lo) (roundUp (lo + 1) rowLen - lo)
    let rest := hi - lo - first
    let n := roundUp first 8 + rest / rowLen * roundUp rowLen 8 + roundUp (rest % rowLen) 8
    m * (n + 64) + macFuel bits rowLen m ne fuel (b + 1)

def macCharge (l : LatCfg) (ne : Nat) : Nat :=
  if l.macs = 0 then 0 else macFuel (elemBits l.inFmt) l.rowLen l.macs ne (ne * elemBits l.inFmt / 524288 + 1) 0

/-- Where the other end of an OBJ lies: 0 own reserve, 1 remote reserve, 2 file store, 3 host. -/
def Obj.where_ (o : Obj) : Nat := if o.loc = 0 then (if o.peer then 1 else 0) else if o.loc = 1 then 2 else 3

def Desc.remoteEnd (d : Desc) : Bool := match d.obj with | some o => o.where_ == 1 || o.where_ == 2 | none => false

/-- Class of the far end (02 R56). -/
def Desc.classOf (d : Desc) : Nat :=
  let peer := match d.obj with | some o => o.where_ == 1 | none => false
  let fab := match d.dst, d.obj with
    | some t, _ => !t.host
    | none, some o => d.inbound || o.where_ == 0
    | none, none => false
  if peer then resRemoteClass else if fab then resWriteClass else resReadClass

/-- Charges of reading the job's main source. -/
def Desc.readCharge (c : Nat) (d : Desc) : List (Nat × Nat) :=
  match d.src, d.obj with
  | some t, _ => if t.host then [(resHostIn, c)] else [(resFabricRead, max c t.beatCharge)]
  | none, some o =>
    match o.where_ with
    | 0 => [(resFabricRead, c)]
    | 3 => [(resHostIn, c)]
    | _ => [(resStoreRx, c)]
  | none, none => []

/-- Charges of writing the job's destinations. -/
def Desc.writeCharge (c : Nat) (d : Desc) : List (Nat × Nat) :=
  match d.dst, d.obj with
  | some _, _ => d.dstStreams.map (fun t => if t.host then (resHostOut, c) else (resFabricWrite, max c t.beatCharge))
  | none, some o =>
    if d.inbound then [(resFabricWrite, c)]
    else match o.where_ with
      | 0 => [(resFabricWrite, c)]
      | 3 => [(resHostOut, c)]
      | _ => [(resStoreTx, c)]
  | none, none => []

/-- Reading sealed blocks back (06 R197). -/
def Desc.verifyCharge (c : Nat) (d : Desc) : List (Nat × Nat) :=
  match d.dst, d.obj with
  | some t, _ => [(if t.host then resHostIn else resFabricRead, c)]
  | none, some o => [(match o.where_ with | 0 => resFabricRead | 3 => resHostIn | _ => resStoreRx, c)]
  | none, none => []

def Desc.latCharge (s : State) (d : Desc) : List (Nat × Nat) :=
  match d.latCfg (s.get .latStatLanes), d.lat with
  | some l, some f =>
    let ne := d.elems s l
    let rec_ := 32 * (ne / l.rowLen)
    [(resLattice, macCharge l ne)] ++
    (d.auxStreams (some l) ne).flatMap (fun t =>
      [(resReadClass, chargeOf t.total), if t.host then (resHostIn, chargeOf t.total) else (resFabricRead, max (chargeOf t.total) t.beatCharge)]) ++
    (if l.stats then (if f.statsHost then [(resHostOut, rec_)] else [(resWriteClass, rec_), (resFabricWrite, rec_)]) else [])
  | _, _ => []

/-- Charge of one entry on the fifteen resources. -/
def Desc.charge (s : State) (d : Desc) : List Nat :=
  let z := List.replicate 15 0
  if loads d.opcode then
    match d.src with
    | some t => addAll z ((resReadClass, chargeOf t.total) :: d.readCharge (chargeOf t.total))
    | none => z
  else if ¬ d.streams ∨ d.flags.common then z
  else
    let n := d.raw s
    let c := chargeOf n
    let big := max c (max (chargeOf (d.rawOut s)) (chargeOf (if d.inbound then n else latLen (d.latCfg (s.get .latStatLanes)) n)))
    let cls := d.classOf
    let classC := if cls = resWriteClass ∧ d.dst.isSome then (d.dstStreams.map (fun t => (if t.host then resReadClass else resWriteClass, c)))
                  else [(cls, c)]
    addAll z (classC ++ d.readCharge c ++ d.writeCharge c ++ [(resFingerprint, c)] ++ d.latCharge s ++
      (if d.opcode = opDigest then [] else [(resPointing, big)]) ++
      (if d.outRecs ∧ ¬ d.flags.codeOff then [(resEncoder, c)] else []) ++
      (if d.seals s.mode then [(resSeal, c)] else []) ++
      (if d.verifies s.mode then (resSeal, c) :: d.verifyCharge c else []) ++
      (if d.inRecs then [(resSeal, c)] else []) ++ (if d.inbound then [(resDecoder, c)] else []))

/-- A RESUME is charged for the blocks from its restart point on. -/
def resumeCharge (s : State) (r : Saved) : List Nat :=
  let nb := max 1 (blocksOf (r.desc.raw s))
  (r.desc.charge s).map (fun c => ceilDiv (c * (nb - min nb (r.restart / 65536))) nb)

def entryCharge (s : State) (e : Entry) : List Nat :=
  if e.desc.opcode = opResume then (match s.savedRec e.ctx (e.desc.arg % 16) with | some r => resumeCharge s r | none => List.replicate 15 0)
  else e.desc.charge s

/-! ### Long digests (07 R214) -/

/-- SHA blocks of n bytes in core cycles. -/
def digCycles (alg n : Nat) : Nat := if alg = 1 then 16 * ceilDiv n 64 else 20 * ceilDiv n 128

def handleAlg (s : State) (ctx h : Nat) : Nat :=
  match s.handles.find? (fun x => x.ctx == ctx && x.id == h) with | some x => x.alg | none => 1

/-- The handle a descriptor opens, and its algorithm (07 R211, R212). -/
def Desc.opens (d : Desc) : Option (Nat × Nat) :=
  match d.dig, d.xform with
  | some g, _ => if d.opcode = opDigest ∧ d.flags.init then some (g.handle, g.alg) else none
  | none, some x => if d.streams ∧ x.snoopEn ∧ x.snoopInit then some (x.snoopHandle, x.snoopAlg) else none
  | none, none => none

/-- Order of the feeds of a handle: their groups' admission, a group not yet admitted last, then ring order (07 R212). -/
def feedOrder (s : State) (e : Entry) : Nat × Nat :=
  match s.groups.find? (fun g => g.gid == e.gid) with
  | some g => if g.stage = .admitted ∨ g.stage = .done then (g.order, e.uid) else (s.uid, e.uid)
  | none => (0, e.uid)

def orderLt (a b : Nat × Nat) : Bool := a.1 < b.1 || (a.1 == b.1 && a.2 < b.2)

/-- The algorithm of a handle as an entry will find it: that of the last descriptor before it, still to run, that opens the handle. -/
def algFor (s : State) (e : Entry) (h : Nat) : Nat :=
  let before := s.entries.filter (fun x =>
    x.ctx == e.ctx && x.uid != e.uid && x.stage != .ended && (x.stage != .fetched || x.gid == e.gid) && orderLt (feedOrder s x) (feedOrder s e) &&
    (match x.desc.opens with | some (k, _) => k == h | none => false))
  let last := before.foldl (fun (a : Option Entry) x =>
    match a with | none => some x | some y => if orderLt (feedOrder s y) (feedOrder s x) then some x else some y) none
  match last.bind (fun x => x.desc.opens) with
  | some (_, alg) => alg
  | none => handleAlg s e.ctx h

/-- What a RESUME leaves out of a stream of n bytes: what was delivered before the fault. -/
def resumeSkip (s : State) (e : Entry) (n : Nat) : Nat :=
  if e.desc.opcode = opResume then (match s.savedRec e.ctx (e.desc.arg % 16) with | some r => min n r.restart | none => 0) else 0

/-- Bytes that a snoop attachment feeds: stage 2 outbound and stage 7 inbound, or whole records (07 R212). -/
def snoopBytes (s : State) (d : Desc) (records : Bool) : Nat :=
  let n := if d.inbound = records then d.raw s else if d.inbound then d.rawOut s else if records then d.rawOut s else d.raw s
  if records then n + 84 * blocksOf n else n

/-- The handle an entry feeds or finishes, and the core cycles of it. The final of an HMAC hashes one outer block more (07 R217). -/
def entryFeed (s : State) (e : Entry) : Option (Nat × Nat) :=
  let d := entryDesc s e
  match d.dig with
  | some g =>
    let alg := if d.opcode = opDigest ∧ d.flags.init then g.alg else algFor s e g.handle
    let n := if d.opcode = opDigest then d.raw s - resumeSkip s e (d.raw s) else g.finalLen + (if alg = 3 then 128 else 0)
    some (g.handle, digCycles alg n)
  | none =>
    match d.xform with
    | some x =>
      if d.streams ∧ x.snoopEn then
        let n := snoopBytes s d x.snoopRecord
        some (x.snoopHandle, digCycles (if x.snoopInit then x.snoopAlg else algFor s e x.snoopHandle) (n - resumeSkip s e n))
      else none
    | none => none

/-- An entry whose stream enters the lattice (08 R223). -/
def usesLattice (s : State) (e : Entry) : Bool :=
  let d := entryDesc s e
  d.streams && !d.flags.common && (d.latCfg (s.get .latStatLanes)).isSome

/-! ### Other needs -/

/-- A job that runs the Pointing unit with other than pass-through (09 R251). -/
def usesPnt (s : State) (e : Entry) : Bool := !(entryDesc s e).pnt.passThrough && (entryDesc s e).streams

def usesTransport (s : State) (e : Entry) : Bool := (entryDesc s e).remoteEnd

/-- Storage over NVMe/TCP (12 R343). -/
def usesTcp (s : State) (e : Entry) : Bool :=
  match (entryDesc s e).obj with | some o => o.loc == 1 && s.getI .xptTgtCfgTcp o.target == 1 | none => false

/-- Inbound jobs and where they come from: true for storage, false for the host. -/
def inboundFrom (s : State) (e : Entry) : Option Bool :=
  let d := entryDesc s e
  if d.inbound ∧ ¬ d.flags.common then
    match d.src, d.obj with
    | some t, _ => some (!t.host)
    | none, some o => some (o.where_ != 3)
    | none, none => some true
  else none

end Sys2Proof.Machine
end

