-- ==== Sys2Proof/Machine/Admit.lean ====
section
/-! DEFINITION. Fetching entries, step groups and admission (02 R65 to R71; 13 R361 to R365). -/
namespace Sys2Proof.Machine

/-! ### Fetching (13 R361 to R364) -/

def slotAddr (s : State) (i k : Nat) : Nat := s.getI .ringBaseBase i + 32 * (k % ringSize s i)

/-- Slots from the head up to the tail. -/
def covered (s : State) (i : Nat) : Nat :=
  let n := ringSize s i
  (s.getI .ringTailTail i + n - s.getI .ringHeadHead i) % n

/-- Fetched entries of a ring whose completions are not yet posted (13 R364). -/
def State.fetched (s : State) (ctx ring : Nat) : Nat :=
  (s.entries.filter (fun e => e.ctx == ctx && e.ring == ring)).length + (s.ring ctx ring).waiting.length

/-- The engine reads entries of a ring. -/
def mayFetch (s : State) (ctx ring : Nat) : Bool :=
  let i := rix ctx ring
  ctx < 64 && ring < 4 && s.awake && s.getI .ringCfgEnable i == 1 && covered s i != 0 && s.fetched ctx ring < 512 &&
  (s.ring ctx ring).waiting.isEmpty && (s.getI .ringCfgSpace i == 1 || bitOf s.pins.bme ctx)

/-- Clear the OWN byte of one slot (13 R361 step 6). -/
def State.clearOwn (s : State) (ctx i k : Nat) : State :=
  let a := slotAddr s i k
  if s.getI .ringCfgSpace i = 1 then s.fabWrite 0 .side a [0] true else s.send (.hostWrite ctx a [0])

/-- WAIT, SIGNAL and BARRIER form groups of their own (14 R382). -/
def isSync (op : Nat) : Bool := op == opWait || op == opSignal || op == opBarrier

/-! ### Groups (02 R65 to R67) -/

def Group.fresh (gid ctx ring step : Nat) : Group :=
  {
    gid := gid, ctx := ctx, ring := ring, step := step, stage := .opened, count := 0, lastFetch := 0, closeTick := 0, deadline := 0,
    promised := false, void := false, dueTick := 0, need := [], streams := 0, writesWindow := false, snapshot := false, covered := 0,
    holds := false, order := 0, mode := 0 }

/-- The smallest nonzero number. -/
def minNonzero (l : List Nat) : Nat := l.foldl (fun a x => if x = 0 then a else if a = 0 then x else min a x) 0

/-- A SNAP's DEADLINE is ignored (10 R274), and a sync entry's is no promise (14 R382). -/
def promiseOf (d : Desc) : Nat := if d.opcode = opSnap ∨ isSync d.opcode then 0 else d.deadline

def State.closeGroup (s : State) (gid : Nat) : State :=
  match s.findGroup gid with
  | none => s
  | some g =>
    if g.stage ≠ .opened then s else
    let dl := minNonzero ((s.entries.filter (fun e => e.gid == gid)).map (fun e => promiseOf e.desc))
    let s1 := s.modGroup gid (fun g => { g with stage := .closed, closeTick := s.now, deadline := dl })
    s1.putRing { s1.ring g.ctx g.ring with openGid := none }

/-- Close the group open on a ring. -/
def State.closeOpen (s : State) (ctx ring : Nat) : State :=
  match (s.ring ctx ring).openGid with
  | some g => s.closeGroup g
  | none => s

/-- Put a fetched entry into its group (02 R65). -/
def State.joinGroup (s : State) (e : Entry) : State :=
  let alone := e.desc.v1 || isSync e.desc.opcode || e.desc.step == noStep
  let open_ := match (s.ring e.ctx e.ring).openGid with | some g => s.findGroup g | none => none
  let fits := match open_ with | some g => !alone && g.step == e.desc.step | none => false
  let s1 := if fits then s else s.closeOpen e.ctx e.ring
  let gid := match open_, fits with | some g, true => g.gid | _, _ => s1.uid
  let s2 : State :=
    if fits then s1
    else
      let t := s1.nextUid
      let t1 : State := { t with groups := t.groups ++ [Group.fresh gid e.ctx e.ring e.desc.step] }
      t1.putRing { t1.ring e.ctx e.ring with openGid := some gid }
  let s3 := { s2 with entries := s2.entries ++ [{ e with gid := gid }] }
  let s4 := s3.modGroup gid (fun g => { g with count := g.count + 1, lastFetch := s.now })
  let full : Bool := match s4.findGroup gid with | some g => decide (g.count ≥ 256) | none => false
  if alone ∨ e.desc.flags.groupEnd ∨ full then s4.closeGroup gid else s4

/-- The descriptor of an entry's bytes, and what check of 13 R365 it fails. -/
def readEntry (s : State) (i : Nat) (b : Bytes) : Desc × Option Nat :=
  if s.getI .ringCfgFormat i = 1 then (parseV1 b, v1Malformed s.build.fabAw (s.get .fjCkptHostBaseBase) b)
  else (parseV2 b, v2Malformed s.build.fabAw s.mode b)

/-- Slots of the entry whose header stands in `b`. -/
def slotsOf (s : State) (i : Nat) (b : Bytes) : Nat := if s.getI .ringCfgFormat i = 1 then 2 else fieldAt b 1 1 % 16 + 1

/-- The engine reads the entry at the head (13 R361 steps 4 to 8). One that shows OWN 0 is read again (R363); one that the tail cuts waits
for a further doorbell (R362). Out of service, the entry ends at once with ST_RESET_ABORT (17 R482). -/
def State.takeEntry (s : State) (ctx ring : Nat) (bytes : Bytes) : State :=
  let i := rix ctx ring
  let head := s.getI .ringHeadHead i
  let n := slotsOf s i bytes
  let r := s.ring ctx ring
  if ¬ bitOf (fieldAt bytes 0 1) 7 then s.putRing { r with ownSince := some (r.ownSince.getD s.now) }
  else if n > covered s i then s
  else
    let b := sliceZ bytes 0 (32 * n)
    let (d, bad) := readEntry s i b
    let s1 := s.putRing { r with ownSince := none }
    let s2 := (List.range n).foldl (fun a k => a.clearOwn ctx i (head + k)) s1
    let s3 := ((s2.setI .ringHeadHead i ((head + n) % ringSize s i)).bumpI .ringEntriesCount i 1).setI .ringStatOwnWait i 0
    let s4 := s3.logRec 12 ctx ring (ctx + 64 * ring + 2 ^ 8 * head + 2 ^ 24 * (n - 1) + 2 ^ 32 * crc32c b) []
    let e : Entry :=
      {
        uid := s4.uid, ctx := ctx, ring := ring, gid := 0, desc := (if bad.isSome then { d.bare with slots := n } else { d with slots := n }),
        bad := bad.map (fun o => (stMalformed, o)), stage := .fetched, res := Result.ok, checked := s.now }
    let s5 := s4.nextUid.joinGroup e
    if s.flag .patStatOutOfService then s5.abortEntries stResetAbort else s5

def execEntryFetch (ctx ring : Nat) (bytes : Bytes) (s : State) : Host.Outcome State Fault Refusal :=
  if mayFetch s ctx ring ∧ (s.ring ctx ring).ownSince = none then finish s (s.takeEntry ctx ring bytes) else notDue "ENTRY_FETCH"

/-- The entry at the head showed OWN 0 and is read again (13 R363). -/
def execOwnRecheck (ctx ring : Nat) (bytes : Bytes) (s : State) : Host.Outcome State Fault Refusal :=
  if mayFetch s ctx ring ∧ (s.ring ctx ring).ownSince.isSome then finish s (s.takeEntry ctx ring bytes) else notDue "OWN_RECHECK"

/-- 64 ticks after its last descriptor was fetched, a group closes (02 R65). -/
def execGroupCloseTimeout (ctx ring : Nat) (s : State) : Host.Outcome State Fault Refusal :=
  match (s.ring ctx ring).openGid with
  | none => notDue "GROUP_CLOSE_TIMEOUT"
  | some gid =>
    match s.findGroup gid with
    | some g => if g.lastFetch + 64 ≤ s.now ∧ ¬ s.holdingUp then finish s (s.closeGroup gid) else notDue "GROUP_CLOSE_TIMEOUT"
    | none => notDue "GROUP_CLOSE_TIMEOUT"

/-! ### The test (02 R70) -/

/-- What a group asks of admission. -/
structure Ask where
  ctx : Nat
  /-- a deadline was given: what is left of it may be 0 (02 R69) -/
  promised : Bool
  deadline : Nat
  transport : Bool
  charge : List Nat
  /-- inbound jobs, from storage and from the host -/
  inStore : Nat
  inHost : Nat
  /-- handles with feeds, and their core cycles -/
  feeds : List (Nat × Nat)
  tcp : Bool
  /-- a stream enters the lattice -/
  lattice : Bool
  deriving DecidableEq, Repr

def Ask.streams (a : Ask) : Nat := min 2 (a.inStore + a.inHost)

def askOf (s : State) (g : Group) (es : List Entry) (deadline : Nat) : Ask :=
  let froms := es.filterMap (inboundFrom s)
  {
    ctx := g.ctx, promised := g.deadline != 0, deadline := deadline, transport := es.any (usesTransport s),
    charge := (es.map (entryCharge s)).foldl (fun a c => (List.range 15).map (fun k => a.getD k 0 + c.getD k 0)) (List.replicate 15 0),
    inStore := (froms.filter (fun b => b)).length, inHost := (froms.filter (fun b => !b)).length,
    feeds := (es.filterMap (entryFeed s)).foldl (fun a f => addAt a f.1 f.2) [], tcp := es.any (usesTcp s),
    lattice := es.any (usesLattice s) }

/-- Windows touched times the allowance, at most three quarters of the deadline (02 R75). -/
def throttleLoss (s : State) (deadline : Nat) : Nat :=
  let w := s.get .tickThrWinWin
  let win := (deadline + w - 2) / w + 1
  min (win * ceilDiv (s.get .tickThrAllowAllow) (s.get .tickPeriodPeriod)) (3 * deadline / 4)

/-- Streams of promised groups (04 R136). -/
def State.promisedStreams (s : State) : Nat := ((s.groups.filter (fun g => g.holds && g.promised)).map (·.streams)).sum

/-- Handles with feeds in admitted groups (07 R214): their marks stand in Group.need from place 32. -/
def State.fedHandles (s : State) : List (Nat × Nat) :=
  ((s.holding.flatMap (fun (g : Group) => (List.range 16).filterMap (fun h => if g.need.getD (32 + h) 0 = 0 then none else some (g.ctx, h))))).dedup

def tcpReserved (s : State) : Nat := reservedOn s 48

/-- More than 16 handles with feeds would be in admitted groups (07 R214). -/
def tooManyFeeds (s : State) (a : Ask) : Bool :=
  (s.fedHandles ++ (a.feeds.map (fun f => (a.ctx, f.1))).filter (fun x => !s.fedHandles.contains x)).length > 16 && !a.feeds.isEmpty

/-- A unit that the group needs is out of admission (08 R223, 17 R482). -/
def unitOut (s : State) (a : Ask) (k : Nat) : Bool :=
  let uses := a.charge.getD k 0 != 0
  match k with
  | 5 => (uses && s.logicalOf 1 == 0) || (!a.feeds.isEmpty && longCores s == 0)
  | 6 => (uses || a.lattice) && s.logicalOf 2 == 0
  | 8 => uses && s.logicalOf 3 == 0
  | 9 => uses && s.logicalOf 4 == 0
  | 10 => uses && s.logicalOf 0 == 0
  | _ => false

/-- A ninth inbound stream of promised groups (04 R136): RESOURCE 12, or 14 when every source is the host. -/
def streamsOver (s : State) (a : Ask) (k : Nat) : Bool :=
  (a.inStore != 0 || a.inHost != 0) && s.promisedStreams + a.streams > 8 && k == (if a.inStore = 0 then 14 else 12)

/-- Whatever resource k refuses a group for before R70's arithmetic. -/
def barredAt (s : State) (a : Ask) (k : Nat) : Bool :=
  unitOut s a k || (k = 5 && tooManyFeeds s a) || (a.promised && streamsOver s a k)

/-- What resource k refuses for beside R70's inequality (07 R214, 12 R343). -/
def sideRefusal (s : State) (a : Ask) (cut : Nat) (need : Nat) (k : Nat) : Bool :=
  if k = 5 then
    let span := a.deadline - cut
    let cyc := s.get .tickPeriodPeriod
    a.feeds.any (fun f => ceilDiv f.2 span + ctxReservedOn s a.ctx (16 + f.1) > cyc) ||
    ((a.feeds.map (fun f => ceilDiv f.2 span)).sum + reservedOn s 15 > longCores s * cyc && !a.feeds.isEmpty)
  else if k = 11 ∨ k = 12 then
    a.tcp && tcpReserved s + need > 25 * s.get .tickPeriodPeriod
  else false

def admitLoop (s : State) (a : Ask) (base loss : Nat) : List Nat → List Nat → Except Nat (List Nat)
  | [], acc => .ok acc
  | k :: t, acc =>
    let c := a.charge.getD k 0
    let cut := base + (if scalesWithClock k then loss else 0)
    let other := k = 5 && !a.feeds.isEmpty
    if barredAt s a k then .error k
    else if c = 0 ∧ ¬ other then admitLoop s a base loss t (acc ++ [0])
    else if a.deadline ≤ cut then .error k
    else
      let need := ceilDiv c (a.deadline - cut)
      if reservedOn s k + need > capIn s s.mode k ∨ sideRefusal s a cut need k then .error k
      else if k ≤ resRemoteClass ∧ ctxReservedOn s a.ctx k + need > capIn s s.mode k * min 100 (s.getI .tickShareCeil a.ctx) / 100 then
        .error resCeiling
      else admitLoop s a base loss t (acc ++ [need])

/-- The needs beyond R58's fifteen: long-digest cycles, of each handle, feed marks, TCP. -/
def sideNeeds (a : Ask) (promised : Bool) (cut : Nat) (need : List Nat) : List Nat :=
  let span := a.deadline - cut
  let per := fun (h : Nat) => match a.feeds.find? (fun f => f.1 == h) with | some f => if promised then ceilDiv f.2 span else 0 | none => 0
  let marks := (List.range 16).map (fun h => b2n (a.feeds.any (fun f => f.1 == h)))
  [((List.range 16).map per).sum] ++ (List.range 16).map per ++ marks ++ [if a.tcp then need.getD 11 0 + need.getD 12 0 else 0]

/-- Test a group (02 R70): the code of the first resource that fails, or what it holds on every resource. A group without a deadline is
refused while promises are suspended (R76), and for what bars it at a resource (R482). -/
def admitTest (s : State) (a : Ask) : Except Nat (List Nat) :=
  if s.flag .tickStatSuspended then .error resSuspended
  else if ¬ a.promised then
    match (List.range 15).find? (barredAt s a) with
    | some k => .error k
    | none => .ok (List.replicate 15 0 ++ sideNeeds a false 0 [])
  else
    let base := 8 + (if a.transport then s.get .tickRttAllowRtt else 0)
    let loss := throttleLoss s a.deadline
    match admitLoop s a base loss (List.range 15) [] with
    | .error k => .error k
    | .ok need => .ok (need ++ sideNeeds a true (base + loss) need)

/-! ### Deciding (02 R66 to R69) -/

def groupEntries (s : State) (gid : Nat) : List Entry := s.entries.filter (fun e => e.gid == gid)

/-- A VL change is pending in the context of a group that uses the Pointing unit (09 R251). -/
def vlHolds (s : State) (g : Group) (es : List Entry) : Bool := s.vlPending.any (fun p => p.1 == g.ctx) && es.any (usesPnt s)

/-- The moving average that a LATTICE job reads at AUX[0], in fabric memory (08 R245). -/
def Desc.average (s : State) (d : Desc) : List (Nat × Nat) :=
  match d.latCfg (s.get .latStatLanes) with
  | some c => if d.opcode = opLattice ∧ c.op = 1 then (d.auxStreams (some c) (d.elems s c)).flatMap fabRange else []
  | none => []

/-- What holds a group at admission: a window it would write is armed (03 R105), or a VL change is pending (09 R251). -/
def mustHold (s : State) (g : Group) (es : List Entry) : Bool :=
  (s.guard.armed && es.any (fun e => ((entryDesc s e).writes s ++ (entryDesc s e).average s).any (fun r =>
    s.windows.any (fun w => meets r.1 r.2 w.1 w.2)))) || vlHolds s g es

def writesWindows (s : State) (es : List Entry) : Bool :=
  es.any (fun e => ((entryDesc s e).writes s).any (fun r => s.windows.any (fun w => meets r.1 r.2 w.1 w.2)))

/-- A RESUME that ends frees its record (04 R144). -/
def State.freeSaved (s : State) (ctx id : Nat) : State := { s with saved := s.saved.filter (fun x => !(x.ctx == ctx && x.id == id)) }

/-- Refuse a group: every entry ends at once (02 R66, R68), but for a FENCE that fails no check of its own: a FENCE is never refused
(14 R391). DEDUCED: R391 over R66's `every other entry`. -/
def State.refuseGroup (s : State) (gid code : Nat) : State :=
  let es := groupEntries s gid
  let s1 := s.modGroup gid (fun g => { g with stage := .refused })
  es.foldl (fun a e =>
    let own := match e.bad with | some b => some b | none => entryCheck s e.ctx e.desc
    let a1 := match own with | some (st, _) => if st = stPermRange then a.bump .pntRangeRefusalsCount 1 else a | none => a
    let a2 := if e.desc.opcode = opResume ∧ own.all (fun b => b.1 != stMalformed) then a1.freeSaved e.ctx (e.desc.arg % 16) else a1
    match own with
    | some (st, detail) => a2.endEntry e.uid { Result.of st with detail := detail, step := e.desc.step }
    | none =>
      if e.desc.opcode ≠ opFence then a2.endEntry e.uid { Result.of stNotAdmitted with resource := code, step := e.desc.step }
      else if fenceDone a2 e then a2.endEntry e.uid { Result.ok with step := e.desc.step }
      else a2.modEntry e.uid (fun x => { x with stage := .blocked })) s1

/-- The deadline a group is tested with: a held group has spent its wait (02 R69). -/
def testDeadline (s : State) (g : Group) : Nat := if g.stage = .held then g.deadline - (s.now - g.closeTick) else g.deadline

def State.decideGroup (s : State) (g : Group) : State :=
  let es := groupEntries s g.gid
  if vlHolds s g es then s.modGroup g.gid (fun g => { g with stage := .held })
  else if es.any (fun e => e.bad.isSome || (entryCheck s e.ctx e.desc).isSome) then s.refuseGroup g.gid resOwnChecks
  else if mustHold s g es then s.modGroup g.gid (fun g => { g with stage := .held })
  else
    let a := askOf s g es (testDeadline s g)
    match admitTest s a with
    | .error code => s.refuseGroup g.gid code
    | .ok need =>
      let s1 := s.modGroup g.gid (fun g =>
        { g with
          stage := .admitted, promised := g.deadline != 0, dueTick := g.closeTick + g.deadline, need := need, streams := a.streams,
          writesWindow := writesWindows s es, holds := true, order := s.uid, mode := s.mode,
          since := s.now, points := es.any (usesPnt s) })
      { s1.nextUid with entries := s1.entries.map (fun e => if e.gid = g.gid ∧ e.stage = .fetched then { e with stage := .ready } else e) }

/-! ### The snapshot's group (03 R114, 10 R278) -/

def snapBlocks (s : State) : Nat := s.windowBytes / 65536

/-- Windows of a snapshot in order: index, base and size. -/
def winList (s : State) : List (Nat × Nat × Nat) := ((List.range 64).filter (fun i => (s.window i).2 != 0)).map (fun i => (i, s.window i))

/-- The Armature's tensor table and Pointing fields of a group (09 R248, 11 R303). -/
def tensorOf (s : State) (g : Nat) : Option (PntCfg × Bytes) := ((tensorRecs s.arm.records).find? (fun t => t.1 == g)).map (·.2)

/-- Bytes that the windows take in the Pointing unit: each at the larger of its input and its output (09 R262). -/
def snapPointing (s : State) : Nat :=
  ((winList s).map (fun (i, _, n) =>
    match tensorOf s (s.getI .grdWinAttrGroup i) with
    | some (p, _) => max (chargeOf n) (chargeOf (pointLen p n))
    | none => chargeOf n)).sum

/-- The snapshot's charge: LOCAL into its own reserve, MIRROR, and FILE and HOST where they are wanted; its reads are planned inside the
band (02 R60). -/
def snapCharge (s : State) (file host : Bool) (mode : Nat) : List Nat :=
  let c := chargeOf s.windowBytes
  let sealed := modeSeals mode
  addAll (List.replicate 15 0)
    ([(resWriteClass, c), (resFabricWrite, c), (resRemoteClass, c), (resStoreTx, c), (resFingerprint, c), (resPointing, snapPointing s), (resEncoder, c)] ++
     (if file then [(resReadClass, c), (resStoreTx, c)] else []) ++ (if host then [(resReadClass, c), (resHostOut, c)] else []) ++
     (if sealed then [(resSeal, c), (resSeal, c), (resStoreRx, c)] ++ (if host then [(resHostIn, c)] else []) else []))

/-- Why a snapshot cannot seal: the slot that the trigger policy names for context 0 (06 R192, R198; DEDUCED, log entry 144). -/
def snapKeyBar (s : State) (mode : Nat) : Option Nat :=
  let k := s.get .fjCkptCfgKeySlot
  if ¬ modeSeals mode then none else if replayKeyBad s k then some stReplayKey else newKeyCheck s 0 k true

/-- The snapshot's group is admitted, with its promise or without; the mode is the one at the arm point (02 R63, R64). One whose key slot bars it
is abandoned before any data moves (06 R192, R198). -/
def State.decideSnap (s : State) (g : Group) : State :=
  match s.ckpt.snap with
  | none => s
  | some x =>
    let dl := if x.mode = 3 then 0 else g.deadline
    let a : Ask :=
      {
        ctx := 0, promised := true, deadline := dl, transport := true, charge := snapCharge s x.file x.host x.mode, inStore := 0, inHost := 0,
        feeds := [], tcp := false, lattice := false }
    let admitted := fun (need : List Nat) (promised : Bool) (t : State) =>
      let t1 := t.modGroup g.gid (fun g =>
        { g with
          stage := .admitted, promised := promised, dueTick := g.closeTick + dl, need := need, holds := true, mode := x.mode, since := s.now })
      { t1 with jobs := t1.jobs.map (fun (j : Job) => if x.jobs.contains j.uid then { j with promised := promised } else j) }
    match snapKeyBar s x.mode with
    | some st => s.abandonSnap st true
    | none =>
    if dl = 0 then admitted [] false s
    else match admitTest s a with
      | .ok need => admitted need true s
      | .error _ => admitted [] false (s.up .grdStatUnpromised)

/-- Whether a decision on a group is due. -/
def decisionDue (s : State) (g : Group) : Bool :=
  !s.holdingUp && (g.stage == .closed || (g.stage == .held && !mustHold s g (groupEntries s g.gid)))

/-- Admission decides on a closed group (02 R68), or on a held one whose hold has cleared (R69). An engine in IDLE wakes for a group that it admits
(02 R89). -/
def execAdmissionDecision (gid : Nat) (s : State) : Host.Outcome State Fault Refusal :=
  match s.findGroup gid with
  | none => notDue "ADMISSION_DECISION"
  | some g =>
    if decisionDue s g ∧ s.awake then
      let t := if g.snapshot then s.decideSnap g else s.decideGroup g
      finish s (if s.eng = 3 ∧ ¬ workless t then t.wake else t)
    else notDue "ADMISSION_DECISION"

end Sys2Proof.Machine
end

