-- ==== Sys2Proof/Machine/Boot.lean ====
section
/-! DEFINITION. Start-up (16 R438 to R447), the key port (15 R425, R426), the NVM port's completions (15 R417, 17 R466 to R472), and the
start barrier (16 R442 to R446). -/
namespace Sys2Proof.Machine

def State.modBoot (s : State) (f : Boot → Boot) : State := { s with boot := f s.boot }

def copyBytes (l : List (Nat × Bytes)) (k : Nat) : Bytes := (l.find? (fun x => x.1 == k)).elim [] (·.2)

/-! ### FAULT (16 R439) -/

/-- FAULT with a code: ABSENT is broadcast, and the guard lanes forward every write. -/
def State.faultEntry (s : State) (code : Nat) : State :=
  let s1 := if s.guard.armed then s.guardAbandon else s
  let s2 : State := { s1.modBoot (fun b => { b with stage := .fault }) with nvm := [] }
  ((((s2.set .fjStateFault code).set .fjBootInfoCode code).setEng 6).send (.sideband (sbPacket s2 4 0 code))).down .fjStateAwaitDriver

/-! ### Steps 4 to 7 -/

/-- Step 4 begins: both record slots and both journal halves are read (17 R471, R472). -/
def State.step4 (s : State) : State :=
  let p := plinthOff s
  let s1 := s.modBoot (fun b => { b with stage := .plinth, plinthRecs := [], journals := [] })
  (((s1.nvmIssue ⟨.read, p, 0x2000, [], .plinth 0⟩).nvmIssue ⟨.read, p + 0x10000, 0x2000, [], .plinth 1⟩).nvmIssue
    ⟨.read, p + 0x20000, 0x10000, [], .journal 0⟩).nvmIssue ⟨.read, p + 0x30000, 0x10000, [], .journal 1⟩

/-- A Plinth record is valid (17 R472). -/
def plinthValid (pfx : Nat) (b : Bytes) : Bool :=
  let n := fieldAt b 10 2
  b.take 8 == ascii "FJPLINTH" && fieldAt b 8 2 == 1 && n % 4 == 0 && 0x1B24 ≤ n && n ≤ 0x2000 && b.length ≥ n &&
  fieldAt b (n - 4) 4 == crc32c (b.take (n - 4)) && fieldAt b 0x10 4 == pfx && bitsOf (fieldAt b 0x14 1) 2 2 == 0 && fieldAt b 0x15 1 == 0 &&
  fieldAt b 0x16 2 < 4096 && (slice b 0x28 24).all (· == 0) && (slice b 0x870 144).all (· == 0) && (slice b 0xACA 54).all (· == 0) &&
  fieldAt b 0x1B1C 4 == 0

def erased (b : Bytes) : Bool := b.all (· == 0xFF)

/-- Entries of a journal half up to the first erased place: (slot, chunk, prefix) of each, none where an entry is not valid. -/
def journalEntries (b : Bytes) : List (Option (Nat × Nat × Nat)) :=
  ((chunks 16 b).takeWhile (fun e => !erased e)).map (fun e =>
    if fieldAt e 1 1 = 0xA5 ∧ fieldAt e 12 4 = crc32c (e.take 12) then some (fieldAt e 0 1, fieldAt e 2 6, fieldAt e 8 4) else none)

/-- The half that holds the newest valid entry: the other is erased, or full (17 R470). -/
def activeHalf (h0 h1 : List (Option (Nat × Nat × Nat))) : Nat :=
  if h1.all Option.isNone then 0 else if h0.all Option.isNone then 1 else if h0.length ≥ 4096 then 1 else 0

/-- The reservation table is restored (06 R189, 17 R472); a slot that was exhausted stays so, whether or not the table is lost (06 R185). -/
def State.restoreTable (s : State) (record : Option Bytes) : State :=
  let h0 := journalEntries (copyBytes s.boot.journals 0)
  let h1 := journalEntries (copyBytes s.boot.journals 1)
  let a := activeHalf h0 h1
  let act := if a = 0 then h0 else h1
  let pfx := s.get .sealPrefixPrefix
  let ready := [erased (copyBytes s.boot.journals 0), erased (copyBytes s.boot.journals 1)]
  let s1 : State := { s with journal := ⟨[], [], ready⟩ }
  let s2 := ((s1.set .pwrJournalHalf a).set .pwrJournalNext act.length).set .pwrStatJournalReady (b2n (ready.getD (1 - a) false))
  let lost : Bool := match (act.filterMap id).getLast? with | none => true | some (_, _, p) => p != pfx
  let js := if lost then [] else (h0 ++ h1).filterMap id
  (List.range 256).foldl (fun st k =>
    let r := match record with | some b => if lost then 0 else bitsOf (fieldAt b (0x40 + 8 * k) 8) 0 41 | none => 0
    let j := js.foldl (fun m e => if e.1 = k ∧ e.2.2 = pfx then max m e.2.1 else m) 0
    let ex : Bool := match record with | some b => bitOf (fieldAt b (0x40 + 8 * k) 8) 63 | none => false
    let hwm := max r j * 2 ^ 24
    if hwm = 0 ∧ ¬ ex then st
    else st.putKey { st.key k with ctr := hwm, hwm := hwm, req := hwm, exhausted := ex }) (if lost then s2.up .sealStatTableLost else s2)

/-- Offsets of the unit tables of a Plinth record: class, first logical, logical units, first physical, physical units (17 R471). -/
def plinthClasses : List (Nat × Nat × Nat × Nat × Nat) :=
  [(0, 0, 32, 0, 34), (1, 32, 128, 34, 136), (2, 160, 32, 170, 34), (3, 192, 16, 204, 18), (4, 208, 32, 222, 34), (5, 240, 64, 256, 68)]

/-- Patina's units as a record gives them (17 R471, R472). A unit that serves no logical unit and has worn has failed. -/
def plinthUnits (small : Bool) (b : Bytes) : List PUnit :=
  let six := plinthClasses.flatMap (fun (c, l0, nl, p0, np) =>
    (List.range np).map (fun p =>
      let lg := (List.range nl).find? (fun u => fieldAt b (0x900 + l0 + u) 1 == p)
      let w := fieldAt b (0xB00 + 4 * (p0 + p)) 4
      PUnit.mk c p (lg.isNone && w != 0) w lg))
  let banks := (List.range 2508).map (fun p =>
    let w := fieldAt b (0x1150 + p) 1
    if p < 2432 then
      let moved := (List.range 76).any (fun k => fieldAt b (0xA30 + 2 * k) 2 == p)
      PUnit.mk 6 p moved w (if moved then none else some p)
    else
      let l := fieldAt b (0xA30 + 2 * (p - 2432)) 2
      PUnit.mk 6 p (l == 0xFFFF && w != 0) w (if l = 0xFFFF then none else some l))
  let cores := (List.range 4).map (fun c =>
    let out := bitOf (fieldAt b 0xAC8 1) c
    PUnit.mk 7 c out (fieldAt b (0x1140 + 4 * c) 4) (if out then none else some c))
  (six ++ banks ++ cores).filter (fun u => u != PUnit.asBuilt small u.cls u.phys && u.phys < (patBuilt small u.cls).1)

/-- The record restores Patina's map, the wear counters and the commit journal (16 R440 step 4, 17 R472). -/
def State.restoreRecord (s : State) (b : Bytes) : State :=
  let pat := { s.patina with
    units := plinthUnits (s.build.latLanes == 16) b,
    sramErr := (List.range 76).filterMap (fun g =>
      let e := fieldAt b (0x1010 + 4 * g) 4
      if e = 0 then none else some (g, e)) }
  let s1 : State := { s with patina := pat, plinth := b }
  let cs := (List.range 8).filterMap (fun c => if s1.countFor c = (patBuilt (s1.build.latLanes == 16) c).2 then none else some (c, s1.countFor c))
  let s2 : State := { s1 with patina := { s1.patina with counts := cs } }
  ((s2.set .latStatLanes (fieldAt b 0xAC9 1)).set .digStatLongCores (s2.logicalOf 7)).set .pwrSavesSeq (fieldAt b 12 4)

/-- The header of the session to replay is well formed (18 R491, R494). -/
def yljHeaderOk (h : Bytes) : Bool :=
  h.length == 256 && h.take 8 == ascii "FJYELJO1" && fieldAt h 8 2 == 1 && fieldAt h 10 2 < 16 && fieldAt h 0x40 1 < 64 &&
  fieldAt h 0x41 1 < 4 && fieldAt h 0x42 2 < 8192 && fieldAt h 0x4A 1 < 8 && fieldAt h 0x4B 1 == 0 && fieldAt h 0x50 1 < 16 &&
  (slice h 0x51 7).all (· == 0) && (slice h 0x70 140).all (· == 0) && fieldAt h 0xFC 4 == crc32c (h.take 0xFC)

/-- The conditions that GO compares (18 R494): the first mismatch, 0 for none. -/
def condAtGo (s : State) (h : Bytes) : Nat :=
  if !yljHeaderOk h then 1
  else if fieldAt h 0x0C 4 ≠ s.get .fjFwVersionVersion then 2
  else if slice h 0x10 48 ≠ s.armDigest then 3
  else if fieldAt h 0x42 2 ≠ s.get .tickPeriodPeriod then 6
  else if fieldAt h 0x41 1 ≠ s.mode then 7
  else if fieldAt h 0x4C 4 ≠ s.get .sealPrefixPrefix ∨ fieldAt h 0x50 1 ≠ s.get .fjPosInst then 8
  else 0

/-- The conditions compared at the end of step 4. -/
def condAtFour (s : State) (h : Bytes) : Nat :=
  if fieldAt h 0x40 1 ≠ s.get .latStatLanes then 4
  else if (List.range 6).any (fun c => fieldAt h (0x44 + c) 1 != s.logicalOf c) ∨ fieldAt h 0x4A 1 ≠ longCores s then 5
  else 0

/-- Where each step of the barrier sends its packets: the lowest fitted instance that is not absent (16 R442). -/
def coordinator (s : State) : Nat :=
  ((List.range 16).find? (fun i => bitOf (s.get .fjPosPresent) i && !s.boot.absent.contains i)).getD (s.get .fjPosInst)

def isCoord (s : State) : Bool := coordinator s == s.get .fjPosInst

def fitted (s : State) : List Nat := (List.range 16).filter (fun i => bitOf (s.get .fjPosPresent) i)

def maskOf (l : List Nat) : Nat := ((List.range 16).filter (fun i => l.contains i)).foldl (fun a i => a + 2 ^ i) 0

/-- RELEASE PHASE 0: those who have arrived are the members (16 R443). A coordinator whom nobody joined starts alone (R446). -/
def State.release0 (s : State) : State :=
  let me := s.get .fjPosInst
  if s.boot.arrived.all (· == me) then s.modBoot (fun b => { b with alone := true })
  else
    let m := maskOf s.boot.arrived
    let s1 := (s.set .fjBarrierMembers m).set .fjBarrierMissing (s.get .fjPosPresent - m)
    (s1.send (.sideband (sbPacket s 1 0 0))).modBoot (fun b => { b with stage := .phase1, answered := [me] })

/-- Release phase 0 when every fitted instance has arrived or is absent. -/
def State.barrier0 (s : State) : State :=
  if s.boot.stage = .phase0 ∧ isCoord s ∧ (fitted s).all (fun i => s.boot.arrived.contains i || s.boot.absent.contains i) then s.release0
  else s

/-- Phase 1 is ready to be released at the next edge when every member has answered. -/
def State.barrier1 (s : State) : State :=
  if s.boot.stage = .phase1 ∧ isCoord s ∧ s.boot.arrived.all (fun i => s.boot.answered.contains i) then
    s.modBoot (fun b => { b with ready1 := true })
  else s

/-- ARRIVE PHASE 0: counted here, or sent to the coordinator (16 R442, R443). In replay the instance starts alone (18 R494). -/
def State.arrive0 (s : State) : State :=
  let me := s.get .fjPosInst
  let s1 := s.modBoot (fun b => { b with stage := .phase0, answered := [], ready1 := false, edgeSeen := false })
  if s.get .yljCfgMode = 2 then s1.modBoot (fun b => { b with alone := true })
  else if isCoord s1 then (s1.modBoot (fun b => { b with arrived := me :: b.arrived.filter (· != me) })).barrier0
  else s1.send (.sideband (sbPacketTo s1 (coordinator s1) 0 0))

/-- Step 7: check 10 again, the lock, which fixes the count of guarded granules (03 R120), and the barrier (16 R440). -/
def State.step7 (s : State) : State :=
  match configBreach s s.arm.records s.arm.pkg with
  | some o => (s.set .fjBootInfoField o).faultEntry 0x15
  | none => ((s.set .grdTotalGranules s.granTotal).up .fjStateLocked).arrive0

/-- A target is neither connected nor given up, and a command of its connection is outstanding. -/
def connecting (s : State) (t : Nat) : Bool :=
  tgtUsed s t && s.getI .xptTgtStateState t == 1 && s.xfers.any (fun x => isNvme x.kind && x.via == t)

/-- Step 6 ends when the own reserve's header is in and no connection is in progress. A target whose entries are not in RTS stays in
the connecting state. -/
def State.step6Done (s : State) : State :=
  if s.boot.stage = .targets ∧ s.boot.headerIn ∧ !(List.range 16).any (connecting s) then s.step7 else s

/-- Step 6: targets connect; the own reserve's header is read (16 R440, 12 R336, 10 R298). -/
def State.step6 (s : State) : State :=
  let s1 := s.modBoot (fun b => { b with stage := .targets })
  let s2 := (List.range 16).foldl (fun a t => a.connect t) s1
  let s3 := if s2.frames = 0 then s2.modBoot (fun b => { b with headerIn := true })
    else match s2.fabRead 0 .side (s2.get .fjMirrorBaseBase) 2 [(0, 128)] true with
      | some t => t
      | none => s2.modBoot (fun b => { b with headerIn := true })
  s3.step6Done

/-- Step 5: the KEY blobs one at a time, then the PERM tables. -/
def State.step5 (s : State) : State :=
  if s.boot.stage = .keys ∧ s.keyLoad = none then
    match s.boot.blobs with
    | _ :: _ => s.nextBlob
    | [] => s.loadArmTables.step6
  else s

/-- Firmware prepares the record slot of the next save (17 R468): an erase on NOR, bytes of 0xFF on MRAM. -/
def State.erase64 (s : State) (a : Nat) (use : NvmUse) : State :=
  if sfdpMram s.boot.sfdp then
    (List.range 256).foldl (fun st k => st.nvmIssue ⟨.program, a + 256 * k, 256, List.replicate 256 0xFF, use⟩) s
  else s.nvmIssue ⟨.erase, a, 0x10000, [], use⟩

/-- Step 4 ends when all four areas are in (16 R440, 17 R472). -/
def State.step4Done (s : State) : State :=
  if s.boot.stage ≠ .plinth ∨ s.boot.plinthRecs.length < 2 ∨ s.boot.journals.length < 2 then s else
  let pfx := s.get .sealPrefixPrefix
  let ok := s.boot.plinthRecs.filter (fun r => plinthValid pfx r.2)
  let best := ok.foldl (fun (m : Option (Nat × Bytes)) r =>
    match m with | some x => if fieldAt r.2 12 4 > fieldAt x.2 12 4 then some r else m | none => some r) none
  let torn := s.boot.plinthRecs.any (fun r => !erased r.2 && !plinthValid pfx r.2)
  let s0 := s.modBoot (fun b => { b with plinthRecs := ok, stage := .keys })
  let s1 : State := match best with
    | some r => ((s0.restoreRecord (r.2.take (fieldAt r.2 10 2))).set .pwrStatLastSave (if torn then 2 else 1))
    | none => s0.set .pwrStatLastSave 0
  let s2 := s1.restoreTable (best.map (·.2))
  let s3 := s2.erase64 (plinthOff s2 + 0x10000 * saveSlot s2) (.eraseRecord (saveSlot s2))
  let o := 1 - s3.get .pwrJournalHalf
  let s4 : State := if s3.journal.halfReady.getD o false || s3.flag .sealStatTableLost then s3 else s3.erase64 (halfBase s3 o) (.eraseJournal o)
  if s4.get .yljCfgMode = 2 ∧ condAtFour s4 s4.yeljo.srcHeader ≠ 0 then
    ((s4.modBoot (fun b => { b with stage := .hold, stuck := true })).up .fjStateAwaitDriver).set .yljStatCond (condAtFour s4 s4.yeljo.srcHeader)
  else
    let blobs := (s4.arm.records.filter (fun r => r.typ == 2)).flatMap (fun r => chunks 48 r.body)
    (s4.modBoot (fun b => { b with blobs := blobs })).step5

/-! ### Checks 1 to 10 (16 R438, R440) -/

def State.askHeaders (s : State) : State :=
  let d := s.boot.directory
  ((s.modBoot (fun b => { b with reading := 1 })).nvmIssue ⟨.read, fieldAt d 8 4, 128, [], .header 0⟩).nvmIssue
    ⟨.read, fieldAt d 12 4, 128, [], .header 1⟩

/-- Both copies are read: an unreadable header asks for its own 128 bytes only. -/
def State.askImages (s : State) : State :=
  let d := s.boot.directory
  let len := fun k => if headOk (fieldAt d 0x10 4) (copyBytes s.boot.headers k) then imgLen (copyBytes s.boot.headers k) else 128
  ((s.modBoot (fun b => { b with reading := 2 })).nvmIssue ⟨.read, fieldAt d 8 4, len 0, [], .image 0⟩).nvmIssue
    ⟨.read, fieldAt d 12 4, len 1, [], .image 1⟩

/-- The firmware copies are read as far as the longest FW_LEN that fits. -/
def State.askFirmware (s : State) : State :=
  let d := s.boot.directory
  let n := s.boot.images.foldl (fun m x => if fieldAt x.2 0x1C 4 ≤ fieldAt d 0x1C 4 then max m (fieldAt x.2 0x1C 4) else m) 12
  ((s.modBoot (fun b => { b with reading := 3 })).nvmIssue ⟨.read, fieldAt d 0x14 4, n, [], .firmware 0⟩).nvmIssue
    ⟨.read, fieldAt d 0x18 4, n, [], .firmware 1⟩

/-- Checks 1 to 4 in order, and the reads that the later checks need. -/
def State.bootTry (s : State) : State :=
  if s.boot.stage ≠ .checks ∨ s.boot.sfdp.isEmpty then s
  else if !sfdpOk s.boot.sfdp then s.faultEntry 1
  else if s.boot.kpErr then s.faultEntry 2
  else if s.boot.kpWords.length < 20 then s
  else if !bitOf (s.get .fjPosPresent) (s.get .fjPosInst) then s.faultEntry 3
  else if s.boot.directory.isEmpty then s
  else if !directoryOk s.boot.sfdp s.boot.directory then s.faultEntry 4
  else if s.boot.reading = 0 then s.askHeaders
  else if s.boot.reading = 1 ∧ s.boot.headers.length = 2 then s.askImages
  else if s.boot.reading = 2 ∧ s.boot.images.length = 2 then s.askFirmware
  else if s.boot.reading = 3 ∧ s.boot.firmware.length = 2 then s.modBoot (fun b => { b with reading := 4 })
  else s

/-- The Armature of copy k is in force (16 R438, R440 step 3). -/
def State.useCopy (s : State) (k : Nat) (rs : List ArmRec) (t : State) : State :=
  let b := copyBytes s.boot.images k
  let d := sha384 b
  let fw := (s.boot.firmware.find? (fun f => fwCopy b f.2)).elim [] (·.2)
  let seqs := (s.boot.images.filter (fun x => copyCode s x.1 == none)).map (fun x => (x.1, imgSeq x.2))
  let arm := { s.arm with
    records := rs, seq := imgSeq b, pkg := fieldAt b 0x14 4, fwVersion := fieldAt fw 8 4, digest := d, fwGood := true,
    fwNvmGood := true, copySeq := seqs, dirOff := 0 }
  let s1 : State := { t with arm := arm }
  let s2 := ((((s1.set .fjBootInfoCopy k).set .fjBootInfoOtherOk (b2n ((copyCode s (1 - k)).isNone))).set .fjArmSeqSeq (imgSeq b)).set
    .fjPkgIdId (fieldAt b 0x14 4)).set .fjFwVersionVersion (fieldAt fw 8 4)
  let s3 := (List.range 12).foldl (fun a i => a.setI .fjArmDigestDigest i (fieldAt d (4 * i) 4)) s2
  let s4 := ({ s3 with guard := s3.guard.clearBoth }).guardRegs
  if s4.flag .fjBootCfgDriverHold then (s4.modBoot (fun x => { x with stage := .hold })).up .fjStateAwaitDriver else s4.step4

/-- Try the copies in order (16 R438): the first to pass is used, or FAULT with the code of the first tried. -/
def tryCopies (s : State) : List Nat → Option (Nat × Option Nat) → State
  | [], first =>
    match first with
    | some (code, some o) => (s.set .fjBootInfoField o).faultEntry code
    | some (code, none) => s.faultEntry code
    | none => s.faultEntry 0x10
  | k :: t, first =>
    match copyCode s k with
    | some c => tryCopies s t (first.orElse (fun _ => some (c, none)))
    | none =>
      let b := copyBytes s.boot.images k
      let rs := appliedRecords (s.get .fjPosInst) b
      let conf := s.configured rs
      match configBreach conf rs (fieldAt b 0x14 4) with
      | some o => tryCopies s t (first.orElse (fun _ => some (0x15, some o)))
      | none => s.useCopy k rs conf

/-! ### Beginning to count (16 R444, R446) -/

/-- Tick boundary 0 is placed on E; a recording session begins (18 R490), or replay follows the log (R494). -/
def State.startAt (s : State) : State :=
  let s1 : State := { s.modBoot (fun b => { b with stage := .started, since := 0 }) with
    tick := { s.tick with running := true, edge := .none, missedRow := 0, ofs := 0, lostTo := 0, idle := 0 } }
  let s2 := s1.set .tickNowNow 0
  (if s2.get .yljCfgMode = 2 then s2.up .yljStatReplaying else s2).yOpen

/-! ### The commands -/

/-- A word of the key port (15 R425, R426). -/
def execKeyPortAck (data : Nat) (err : Bool) (s : State) : Host.Outcome State Fault Refusal :=
  if s.boot.stage ≠ .checks ∨ s.boot.kpErr ∨ s.boot.kpWords.length ≥ 20 then notDue "KEY_PORT_ACK"
  else if err then finish s (s.modBoot (fun b => { b with kpErr := true })).bootTry
  else
    let ws := s.boot.kpWords ++ [data % 2 ^ 32]
    let s1 := s.modBoot (fun b => { b with kpWords := ws })
    let n := ws.length
    if n < 20 then finish s (s1.send (.keyRequest (if n < 8 then 0 else 1) (if n < 8 then n else n - 8)))
    else
      let arm := { s1.arm with duk := (ws.take 8).flatMap (natLe 4), keyHash := (ws.drop 8).flatMap (natLe 4) }
      finish s (({ s1 with arm := arm }).up .fjPortStatKpDone).bootTry

/-- No word of the key port within 1 ms (15 R426). -/
def execKeyPortTimeout (s : State) : Host.Outcome State Fault Refusal :=
  if s.boot.stage ≠ .checks ∨ s.boot.kpErr ∨ s.boot.kpWords.length ≥ 20 then notDue "KEY_PORT_TIMEOUT"
  else finish s (s.modBoot (fun b => { b with kpErr := true })).bootTry

/-- The SFDP has been read (15 R418, 17 R465, R473). -/
def State.sfdpIn (s : State) (b : Bytes) : State :=
  let s1 := s.modBoot (fun x => { x with sfdp := if b.isEmpty then [0] else b })
  if sfdpOk b then
    (((s1.set .pwrStatClass (b2n (sfdpMram b))).set .pwrTppNs (tPp b)).set .pwrSaveTimeNs (480000 + 32 * tPp b)).nvmIssue
      ⟨.read, 0, 4096, [], .directory⟩ |>.bootTry
  else s1.bootTry

/-- The read-back of a save ends (17 R466): once more on a mismatch, then the halt. -/
def State.saveRead (s : State) (data : Bytes) : State :=
  match s.holdup with
  | none => s
  | some h =>
    if data = h.record ∨ h.retried then s.halt
    else
      let g := { h with retried := true, done := 0 }
      ({ s with holdup := some g }).saveNext g

/-- The read-back of an Armature update ends (16 R454). -/
def State.updateRead (s : State) (data : Bytes) : State :=
  match s.armUpd with
  | none => s
  | some u =>
    let s1 := ({ s with armUpd := none }).up .fjIrqDoneArmUpd
    if data = u.image then
      let seqs := upsert (fun x => x.1 == u.copy) (u.copy, imgSeq u.image) s1.arm.copySeq
      ({ s1 with arm := { s1.arm with copySeq := seqs } }).set .fjArmUpdStatState 2
    else (s1.set .fjArmUpdStatState 3).set .fjArmUpdStatCode 0x18

/-- An NVM read has completed (15 R417): what it was for says what follows. -/
def State.nvmRead (s : State) (use : NvmUse) (len : Nat) (data : Bytes) : State :=
  let d := sliceZ data 0 len
  match use with
  | .sfdp => s.sfdpIn d
  | .directory => (s.modBoot (fun b => { b with directory := d })).bootTry
  | .header k => (s.modBoot (fun b => { b with headers := b.headers ++ [(k, d)] })).bootTry
  | .image k => (s.modBoot (fun b => { b with images := b.images ++ [(k, d)] })).bootTry
  | .firmware k => (s.modBoot (fun b => { b with firmware := b.firmware ++ [(k, d)] })).bootTry
  | .plinth k => (s.modBoot (fun b => { b with plinthRecs := b.plinthRecs ++ [(k, d)] })).step4Done
  | .journal k => (s.modBoot (fun b => { b with journals := b.journals ++ [(k, d)] })).step4Done
  | .save => s.saveRead d
  | .update => s.updateRead d
  | _ => s

/-- The journal entry that the program in progress carries, read back (17 R470). -/
def lastEntry (s : State) : Bytes :=
  match s.journal.copies, s.journal.queue with
  | (k, h) :: _, _ => journalEntry k (h / 2 ^ 24) (s.get .sealPrefixPrefix)
  | [], (k, h) :: _ => journalEntry k (h / 2 ^ 24) (s.get .sealPrefixPrefix)
  | [], [] => []

/-- After the journal's head has ended: keys of the Armature go on, and the next entry is written. -/
def State.journalGo (s : State) : State := s.journalStart.step5

/-- NVM_READ_DONE. A reservation's read-back decides whether it is durable. -/
def execNvmReadDone (data : Bytes) (s : State) : Host.Outcome State Fault Refusal :=
  match s.nvm with
  | o :: _ =>
    if o.kind ≠ .read then notDue "NVM_READ_DONE"
    else if o.use = .reserve then
      let s1 := s.nvmNext
      finish s (if data = lastEntry s then s1.journalDurable else s1.journalBad).journalGo
    else finish s (s.nvmNext.nvmRead o.use o.len data)
  | [] => notDue "NVM_READ_DONE"

/-- The next page of an Armature update, or its read-back (16 R454). -/
def State.updateNext (s : State) (u : ArmUpd) : State :=
  let a := fieldAt s.boot.directory (8 + 4 * u.copy) 4
  if u.done < u.image.length then
    s.nvmIssue ⟨.program, a + u.done, min 256 (u.image.length - u.done), slice u.image u.done 256, .update⟩
  else s.nvmIssue ⟨.read, a, u.image.length, [], .update⟩

/-- A page program has ended. -/
def State.nvmProgrammed (s : State) (o : NvmOp) (ok : Bool) : State :=
  match o.use with
  | .reserve =>
    if s.holdingUp then s
    else if ok then s.nvmIssue ⟨.read, o.addr, 16, [], .reserve⟩ else s.journalBad.journalGo
  | .update =>
    match s.armUpd with
    | none => s
    | some u =>
      if ok then
        let v := { u with done := u.done + o.len }
        ({ s with armUpd := some v }).updateNext v
      else ((({ s with armUpd := none }).up .fjIrqDoneArmUpd).set .fjArmUpdStatState 3).set .fjArmUpdStatCode 0x18
  | .save =>
    match s.holdup with
    | none => s
    | some h =>
      let g := { h with done := h.done + o.len }
      ({ s with holdup := some g }).saveNext g
  | .eraseRecord _ => if s.nvm.any (fun x => x.use == o.use) then s else s.up .pwrStatPlinthReady
  | .eraseJournal k =>
    if s.nvm.any (fun x => x.use == o.use) then s
    else ({ s with journal := { s.journal with halfReady := s.journal.halfReady.set k true } }).up .pwrStatJournalReady |>.journalStart
  | _ => s

/-- NVM_PROGRAM_DONE: `ok` says whether the device reports success. -/
def execNvmProgramDone (ok : Bool) (s : State) : Host.Outcome State Fault Refusal :=
  match s.nvm with
  | o :: _ => if o.kind = .program then finish s (s.nvmNext.nvmProgrammed o ok) else notDue "NVM_PROGRAM_DONE"
  | [] => notDue "NVM_PROGRAM_DONE"

/-- NVM_ERASE_DONE (17 R468, R470; 16 R454). -/
def execNvmEraseDone (s : State) : Host.Outcome State Fault Refusal :=
  match s.nvm with
  | o :: _ =>
    if o.kind ≠ .erase then notDue "NVM_ERASE_DONE"
    else
      match o.use, s.armUpd with
      | .update, some u => finish s (s.nvmNext.updateNext u)
      | _, _ => finish s (s.nvmNext.nvmProgrammed o true)
  | [] => notDue "NVM_ERASE_DONE"

/-- The signature checks are done (16 R437, R438): checks 5 to 10 choose a copy. -/
def execSignatureVerifyDone (s : State) : Host.Outcome State Fault Refusal :=
  if s.boot.stage = .checks ∧ s.boot.reading = 4 then finish s (tryCopies s (copyOrder s) none) else notDue "SIGNATURE_VERIFY_DONE"

/-- The unwrap of a key load ends (06 R191). -/
def execKeyUnwrapDone (s : State) : Host.Outcome State Fault Refusal :=
  match s.keyLoad with
  | some l =>
    if l.reserving.isSome ∨ s.holdingUp ∨ (l.armature ∧ s.fwDown) then notDue "KEY_UNWRAP_DONE" else finish s (s.keyUnwrapped l).step5
  | none => notDue "KEY_UNWRAP_DONE"

/-- In the start barrier or before it. -/
def booting (s : State) : Bool :=
  match s.boot.stage with
  | .started => false
  | .running => false
  | .fault => false
  | _ => s.eng == 1

/-- ARRIVE (16 R442, R443): after phase 0 is released, a late arrival is discarded. -/
def execArrive (src phase : Nat) (s : State) : Host.Outcome State Fault Refusal :=
  let i := src % 16
  if ¬ booting s then finish s s
  else if phase % 2 = 0 then
    if s.boot.stage = .phase1 then finish s s
    else finish s (s.modBoot (fun b => { b with arrived := i :: b.arrived.filter (· != i) })).barrier0
  else if s.boot.stage = .phase1 ∧ isCoord s ∧ s.boot.arrived.contains i then
    finish s (s.modBoot (fun b => { b with answered := i :: b.answered.filter (· != i) })).barrier1
  else finish s s

/-- RELEASE (16 R443, R444): phase 0 is answered with ARRIVE PHASE 1; phase 1 fixes E, the edge sampled before it. -/
def execRelease (src phase : Nat) (s : State) : Host.Outcome State Fault Refusal :=
  if s.boot.stage ≠ .phase0 ∧ s.boot.stage ≠ .phase1 then finish s s
  else if phase % 2 = 0 then
    if s.boot.stage = .phase0 ∧ ¬ isCoord s then
      finish s ((s.modBoot (fun b => { b with stage := .phase1, edgeSeen := false })).send (.sideband (sbPacketTo s (src % 16) 0 1)))
    else finish s s
  else if s.boot.stage = .phase1 ∧ ¬ isCoord s ∧ s.boot.edgeSeen then
    finish s (s.set .fjBarrierMembers (maskOf [s.get .fjPosInst, src % 16])).startAt
  else finish s s

/-- ABSENT (16 R442, R456): members turn to the next coordinator. -/
def execAbsent (src _cause : Nat) (s : State) : Host.Outcome State Fault Refusal :=
  let i := src % 16
  if ¬ booting s then finish s s else
  let old := coordinator s
  let s1 := s.modBoot (fun b =>
    { b with absent := i :: b.absent.filter (· != i), arrived := b.arrived.filter (· != i), answered := b.answered.filter (· != i) })
  if s.boot.stage = .phase0 ∨ s.boot.stage = .phase1 then
    if i = old then finish s s1.arrive0 else finish s s1.barrier0.barrier1
  else finish s s1

/-- BOOT_WAIT has passed since the coordinator's lock (16 R443). -/
def execBootWaitTimeout (s : State) : Host.Outcome State Fault Refusal :=
  if s.boot.stage = .phase0 ∧ isCoord s ∧ ¬ s.boot.alone then finish s s.release0 else notDue "BOOT_WAIT_TIMEOUT"

/-- 1 ms has passed since RELEASE PHASE 0 (16 R443): members that did not answer are missing. -/
def execPhase1Timeout (s : State) : Host.Outcome State Fault Refusal :=
  if s.boot.stage = .phase1 ∧ isCoord s ∧ ¬ s.boot.ready1 then
    let m := maskOf (s.boot.arrived.filter (fun i => s.boot.answered.contains i))
    finish s (((s.set .fjBarrierMembers m).set .fjBarrierMissing (s.get .fjPosPresent - m)).modBoot (fun b => { b with ready1 := true }))
  else notDue "PHASE1_TIMEOUT"

/-- The instance starts alone (16 R446): it waits for the next edge. A coordinator alone is the one member (R443). -/
def execStartAlone (s : State) : Host.Outcome State Fault Refusal :=
  let coordAlone := isCoord s && s.boot.arrived.all (· == s.get .fjPosInst)
  if s.boot.stage = .phase1 ∨ (s.boot.stage = .phase0 ∧ (coordAlone ∨ s.boot.alone ∨ ¬ isCoord s)) then
    let s1 := (s.modBoot (fun b => { b with stage := .phase1, alone := true })).up .fjStateAlone
    let me := 2 ^ s.get .fjPosInst
    finish s (if coordAlone then (s1.set .fjBarrierMembers me).set .fjBarrierMissing (s.get .fjPosPresent - me) else s1)
  else notDue "START_ALONE"

/-- A TICK_IN edge, `delta` CLK_REF cycles from the predicted boundary (02 R51). In replay TICK_IN is ignored (18 R495); in RETAIN each edge
counts one tick (15 R420). In the barrier's phase 1 an edge releases it at the coordinator, and E is taken from the edges seen. -/
def execTickInEdge (delta : Int) (s : State) : Host.Outcome State Fault Refusal :=
  if s.replaying then finish s s
  else if s.eng = 4 then finish s (s.set .tickNowNow (s.now + 1)).windowTurn
  else if s.boot.stage = .phase1 then
    if s.flag .fjStateAlone then finish s s.startAt
    else if isCoord s ∧ s.boot.ready1 then finish s (s.send (.sideband (sbPacket s 1 1 0))).startAt
    else finish s (s.modBoot (fun b => { b with edgeSeen := true }))
  else if s.tick.running ∧ ¬ s.holdingUp then
    if -8 ≤ delta ∧ delta ≤ 8 then finish s { s with tick := { s.tick with edge := .inWindow delta } }
    else
      let t := s.missEdge
      finish s (if s.tick.edge = .none then { t with tick := { t.tick with edge := .outside } } else t)
  else finish s s

/-- The watchdog expires (16 R447): before the lock, FAULT with code 0x16 (R456). -/
def execWatchdogExpiry (ofs : Nat) (s : State) : Host.Outcome State Fault Refusal :=
  if s.eng = 6 ∨ s.holdingUp ∨ s.fwDown then notDue "WATCHDOG_EXPIRY"
  else if ¬ s.flag .fjStateLocked then finish s (s.faultEntry 0x16)
  else finish s ((({ s with fwDown := true }).at_ ofs).up .fjWdogFwDown)

/-- Firmware is back (16 R447), when its SRAM copy or the NVM copy matches FW_DIGEST: `sram` and `nvm` say whether they do. -/
def execFirmwareBack (sram nvm : Bool) (s : State) : Host.Outcome State Fault Refusal :=
  if ¬ s.fwDown then notDue "FIRMWARE_BACK"
  else if ¬ sram ∧ ¬ nvm then finish s { s with arm := { s.arm with fwGood := false, fwNvmGood := false } }
  else
    let s1 : State := { s with fwDown := false, arm := { s.arm with fwGood := true, fwNvmGood := nvm } }
    let s2 := ((s1.down .fjWdogFwDown).bump .fjWdogRestarts 1).logFirmware 4
    let missing := s2.arm.records.any (fun r => r.typ == 3 && (s2.table 0 (fieldAt r.body 0 1)).isNone)
    let s3 := if missing then s2.loadArmTables else s2
    finish s ((List.range 16).foldl (fun a t => if tgtUsed a t ∧ a.getI .xptTgtStateState t = 1 ∧ ¬ connecting a t then a.connect t else a) s3).drainOps

/-- An invalid sideband packet (15 R421). -/
def execSbDrop (_packet : Nat) (s : State) : Host.Outcome State Fault Refusal :=
  finish s ((s.up .fjPortStatSbDrop).bump .fjSbDropsCount 1)

/-- A strap changes after sampling (15 R419): ignored, and flagged. -/
def execStrapChange (inst present : Nat) (s : State) : Host.Outcome State Fault Refusal :=
  finish s (({ s with pins := { s.pins with posInst := inst % 16, posPresent := present % 65536 } }).up .fjPortStatStrapChg)

end Sys2Proof.Machine
end

