-- ==== Sys2Proof/Machine/JobOps.lean ====
section
/-! DEFINITION. Finding and changing running jobs, and how a job fails (00 R38). -/
namespace Sys2Proof.Machine

def State.findJob (s : State) (uid : Nat) : Option Job := s.jobs.find? (fun j => j.uid == uid)

def State.modJob (s : State) (uid : Nat) (f : Job → Job) : State :=
  { s with jobs := replaceFirst (fun j => j.uid == uid) f s.jobs }

/-- What a job does, or nothing when it has gone. -/
def State.onJob (s : State) (uid : Nat) (f : Job → State → State) : State :=
  match s.findJob uid with
  | some j => f j s
  | none => s

def minOpt (a : Option Nat) (b : Nat) : Option Nat := match a with | some x => some (min x b) | none => some b

/-- A job fails: its first failure stands, and at most `keep` output blocks stand (01 R38). Its reads on the way are no longer its own. -/
def State.failJob (s : State) (uid st detail : Nat) (keep : Option Nat) : State :=
  let reads := fun (x : Xfer) => x.job == uid &&
    (match x.use with | .input _ _ => true | .verify _ _ _ => true | _ => false)
  let s1 := s.modJob uid (fun j =>
    { j with stop := (match j.stop with | some x => some x | none => some (st, detail)), limit := (match keep with | some k => minOpt j.limit k | none => j.limit) })
  { s1 with
    xfers := s1.xfers.map (fun (x : Xfer) => if reads x then { x with job := 0, use := .side } else x),
    pendOps := s1.pendOps.filter (fun p => !(p.job == uid && (match p.use with | .input _ _ => true | .verify _ _ _ => true | _ => false))),
    pendHost := s1.pendHost.filter (fun p => !(p.job == uid && (match p.use with | .input _ _ => true | .verify _ _ _ => true | _ => false))) }

/-- A read of input k has failed at offset `off`: the reads of what lies before it go on, and the input ends there (01 R38, 04 R142). -/
def State.cutInput (s : State) (uid st detail k off : Nat) : State :=
  let past : XUse → Bool := fun u => match u with | .input k' o => k' == k && decide (off ≤ o) | _ => false
  let cut := fun (i : Inp) => ({ i with data := i.data.take off, early := i.early.filter (fun e => e.1 < off) } : Inp)
  let s1 := s.modJob uid (fun j =>
    { j with
      stop := (match j.stop with | some x => some x | none => some (st, detail)),
      srcCut := (if k = 0 then minOpt j.srcCut off else some (j.srcCut.getD (j.inps.getD 0 ⟨.extents [], 0, [], [], 0⟩).total)),
      inps := j.inps.zipIdx.map (fun p => if p.2 = k then cut p.1 else p.1) })
  { s1 with
    xfers := s1.xfers.map (fun (x : Xfer) => if x.job = uid ∧ past x.use then { x with job := 0, use := .side } else x),
    pendOps := s1.pendOps.filter (fun p => !(p.job == uid && past p.use)),
    pendHost := s1.pendHost.filter (fun p => !(p.job == uid && past p.use)) }

/-- The snoop hands block b of the stream to the handle: it feeds at that point, and no job before a RESUME has fed the block (07 R212,
R215). -/
def Job.feedsBlk (j : Job) (rec : Bool) (b : Nat) : Bool := j.snoop.any (fun x => x.2 == rec) && decide (j.fedBlk ≤ b)

/-- A descriptor that feeds or finishes a digest handle starts when those before it on that handle have ended (07 R212; log entry 41). -/
def feedTurn (s : State) (e : Entry) : Bool :=
  match entryFeed s e with
  | none => true
  | some (h, _) =>
    !(s.entries.any (fun x => x.ctx == e.ctx && x.uid != e.uid && (x.stage == .ready || x.stage == .running) &&
      (match entryFeed s x with | some (k, _) => k == h | none => false) && orderLt (feedOrder s x) (feedOrder s e)))

end Sys2Proof.Machine
end

