-- ==== Sys2Proof/Machine/Digest.lean ====
section
/-! DEFINITION. Digest handles: opening, feeding, finishing, saving and restoring (07 R211 to R221). -/
namespace Sys2Proof.Machine

/-! ### Hashing -/

def algBlock (alg : Nat) : Nat := if alg = 1 then 64 else 128
def algLenField (alg : Nat) : Nat := if alg = 1 then 8 else 16

def hashBlock (alg : Nat) (chain : List Nat) (b : Bytes) : List Nat := if alg = 1 then sha256Block chain b else sha512Block chain b

def chainInit (alg : Nat) : List Nat := if alg = 1 then sha256Init else sha384Init

/-- Whole blocks of a string hashed, and what is left. -/
def hashFuel (alg : Nat) : Nat → List Nat → Bytes → List Nat × Bytes
  | 0, c, b => (c, b)
  | fuel + 1, c, b =>
    if b.length < algBlock alg then (c, b) else hashFuel alg fuel (hashBlock alg c (b.take (algBlock alg))) (b.drop (algBlock alg))

/-- Chaining state in FIPS 180-4 byte order, 64 bytes (07 R219). -/
def chainBytes (alg : Nat) (c : List Nat) : Bytes := sliceZ (c.flatMap (natBe (if alg = 1 then 4 else 8))) 0 64

def chainOf (alg : Nat) (b : Bytes) : List Nat := (chunks (if alg = 1 then 4 else 8) (b.take (if alg = 1 then 32 else 64))).map beNat

/-- The digest a chaining state gives. -/
def chainResult (alg : Nat) (c : List Nat) : Bytes := (chainBytes alg c).take (if alg = 1 then 32 else 48)

/-! ### The fingerprint array (02 R80, 07 R202) -/

/-- The lowest-numbered logical core that hashes no block. -/
def State.freeCore (s : State) : Option Nat := (List.range (s.logicalOf 1)).find? (fun c => !s.moving 1 c && !s.printing.any (fun p => p.core == some c))

/-- Blocks that wait take the cores that are free, in order. -/
def State.placePrints (s : State) : State :=
  (s.printing.filter (fun p => p.core.isNone)).foldl (fun a p =>
    match a.freeCore with
    | some c => { a with printing := replaceFirst (fun x => x == p) (fun (x : Print) => { x with core := some c }) a.printing }
    | none => a) s

/-- A block goes to the array. -/
def State.startPrint (s : State) (job blk : Nat) (data : Bytes) : State :=
  ({ s with printing := s.printing ++ [Print.mk none job blk data] } : State).placePrints

/-- A digest ends, and its core takes a block that waits. -/
def State.endPrint (s : State) (p : Print) : State := ({ s with printing := s.printing.erase p }).placePrints

/-- The block of a job that a core hashes. -/
def State.coreBlock (s : State) (job blk : Nat) : Option Print :=
  s.printing.find? (fun p => p.job == job && p.blk == blk && p.core.isSome)

/-! ### Handles -/

def State.handle (s : State) (ctx h : Nat) : Option Handle := s.handles.find? (fun x => x.ctx == ctx && x.id == h)

def State.putHandle (s : State) (x : Handle) : State := { s with handles := upsert (fun y => y.ctx == x.ctx && y.id == x.id) x s.handles }

def State.modHandle (s : State) (ctx h : Nat) (f : Handle → Handle) : State :=
  { s with handles := replaceFirst (fun x => x.ctx == ctx && x.id == h) f s.handles }

def State.closeHandle (s : State) (ctx h : Nat) : State := { s with handles := s.handles.filter (fun x => !(x.ctx == ctx && x.id == h)) }

/-- Open a handle (07 R211, R213): an earlier state is discarded. -/
def State.openHandle (s : State) (ctx h alg : Nat) (key : Bytes) : State :=
  let k := alg == 3
  let x : Handle :=
    {
      ctx := ctx, id := h, alg := alg, keyed := k,
      chain := (if k then sha512Block sha384Init (hmacPad 128 key 0x36) else chainInit alg),
      outer := (if k then sha512Block sha384Init (hmacPad 128 key 0x5c) else []), carry := [], fed := 0, invalid := false, slot := none,
      saved := false, restoring := false, used := s.uid }
  (s.closeHandle ctx h).putHandle x

/-- The handle a job feeds or finishes. -/
def Job.handle (j : Job) : Option Nat :=
  match j.snoop with
  | some (h, _) => some h
  | none => if j.opcode = opDigest ∨ j.opcode = opDigestFinal then j.desc.dig.map (fun g => g.handle) else none

/-- A feed or a final is running on the handle (07 R218). -/
def handleBusy (s : State) (x : Handle) : Bool := s.jobs.any (fun j => j.ctx == x.ctx && j.handle == some x.id)

/-- A running feed of it belongs to a promised group. -/
def handlePromised (s : State) (x : Handle) : Bool := s.jobs.any (fun j => j.ctx == x.ctx && j.handle == some x.id && j.promised)

/-! ### Saving and restoring (07 R218 to R220) -/

def saveAddr (s : State) (ctx h : Nat) : Nat := s.get .digSaveBaseBase + (ctx * 16 + h) * 512

def digKwk (s : State) : Bytes := (hmac384 s.arm.duk (ascii "FJ2 DIG KWK")).take 32

def Handle.body (x : Handle) : Bytes :=
  natLe 8 x.fed ++ natLe 1 x.carry.length ++ zeros 7 ++ chainBytes x.alg x.chain ++
    (if x.keyed then chainBytes x.alg x.outer else zeros 64) ++ sliceZ x.carry 0 128

/-- The saved record of a handle (07 R219). -/
def Handle.record (s : State) (x : Handle) : Bytes :=
  let b := if x.keyed then kwpWrap (digKwk s) x.body else x.body
  sliceZ ([1, BitVec.ofNat 8 x.alg, BitVec.ofNat 8 (b2n x.keyed), BitVec.ofNat 8 x.ctx, BitVec.ofNat 8 x.id, 0, 0, 0] ++
    natLe 2 b.length ++ zeros 6 ++ b) 0 512

/-- Save a handle: its slot becomes free. -/
def State.saveHandle (s : State) (x : Handle) : State :=
  let s1 := s.fabWrite 0 (.digest x.ctx x.id) (saveAddr s x.ctx x.id) (x.record s) true
  (s1.putHandle { x with slot := none, saved := true, chain := [], outer := [], carry := [], fed := 0 }).bump .digEvictionsCount 1

/-- The checks of 07 R220 on a saved record: the handle as it stood. -/
def Handle.parse (s : State) (x : Handle) (b : Bytes) : Option Handle :=
  let keyed := fieldAt b 2 1 == 1
  let n := fieldAt b 8 2
  let raw := slice b 16 n
  let body := if keyed then kwpUnwrap (digKwk s) raw else some raw
  if fieldAt b 0 1 ≠ 1 ∨ fieldAt b 2 1 > 1 ∨ fieldAt b 3 1 ≠ x.ctx ∨ fieldAt b 4 1 ≠ x.id ∨ fieldAt b 5 3 ≠ 0 ∨ fieldAt b 10 6 ≠ 0 then none
  else
    match body with
    | none => none
    | some y =>
      let alg := fieldAt b 1 1
      if fieldAt y 9 7 ≠ 0 then none
      else some { x with
        alg := alg, keyed := keyed, fed := fieldAt y 0 8, carry := slice y 0x90 (fieldAt y 8 1), chain := chainOf alg (slice y 0x10 64),
        outer := (if keyed then chainOf alg (slice y 0x50 64) else []), saved := false, restoring := false }

/-- A read of a saved record has returned. -/
def State.restoreHandle (s : State) (ctx h : Nat) (b : Bytes) (err : Bool) : State :=
  match s.handle ctx h with
  | none => s
  | some x =>
    if ¬ x.restoring then s else
    match (if err then none else x.parse s b) with
    | some y => s.putHandle y
    | none => (s.putHandle { x with saved := false, restoring := false, invalid := true }).up .digStatSaveFail

def State.slotFree (s : State) (k : Nat) : Bool := !s.handles.any (fun x => x.slot == some k)

/-- The handle idle longest, the lowest slot among equals. -/
def longestIdle (l : List Handle) : Option Handle :=
  l.foldl (fun (a : Option Handle) x =>
    match a with
    | none => some x
    | some y => if x.used < y.used || (x.used == y.used && x.slot.getD 0 < y.slot.getD 0) then some x else some y) none

/-- A slot for a handle (07 R218, choices 1 and 2); `tile` says that a tile boundary has come, where bubble work gives its slot up. R218 does
not say which of several such slots: the one idle longest, the lowest among equals, as in choice 2 (DESIGN CHOICE, log entry 138). -/
def State.takeSlot (s : State) (tile : Bool) : Option (Nat × State) :=
  match (List.range 16).find? (fun k => s.slotFree k) with
  | some k => some (k, s)
  | none =>
    let held := s.handles.filter (fun x => x.slot.isSome && !x.restoring)
    let idle := held.filter (fun x => !handleBusy s x)
    let pick := if idle.isEmpty && tile then longestIdle (held.filter (fun x => !handlePromised s x)) else longestIdle idle
    match pick with
    | none => none
    | some x => some (x.slot.getD 0, s.saveHandle x)

/-- A save of the handle is still being written. -/
def savePending (s : State) (x : Handle) : Bool :=
  s.xfers.any (fun y => y.use == .digest x.ctx x.id) || s.pendWr.any (fun y => y.use == .digest x.ctx x.id)

/-- Bring a handle into a slot, restoring it when it is saved. -/
def State.ensureSlot (s : State) (ctx h : Nat) (tile : Bool) : State :=
  match s.handle ctx h with
  | none => s
  | some x =>
    if x.slot.isSome ∨ x.invalid ∨ savePending s x then s else
    match s.takeSlot tile with
    | none => s
    | some (k, s1) =>
      if ¬ x.saved then s1.putHandle { x with slot := some k }
      else
        match s1.fabRead 0 (.digest ctx h) (saveAddr s ctx h) 8 [(0, 512)] true with
        | some s2 => s2.putHandle { x with slot := some k, restoring := true }
        | none => s

/-- The handle's state is in its slot. -/
def Handle.live (x : Handle) : Bool := x.slot.isSome && !x.restoring && !x.invalid

/-! ### Feeding and finishing -/

def Handle.feed (x : Handle) (b : Bytes) (now : Nat) : Handle :=
  let all := x.carry ++ b
  let r := hashFuel x.alg (all.length / algBlock x.alg + 1) x.chain all
  { x with chain := r.1, carry := r.2, fed := x.fed + b.length, used := now }

/-- 07 R216. -/
def finalOk (x : Handle) (msgLen : Nat) (fin : Bytes) : Bool :=
  let bl := algBlock x.alg
  let l := algLenField x.alg
  let m := msgLen + (if x.alg = 3 then 128 else 0)
  let p := roundUp (m + 1 + l) bl
  let at80 := msgLen - x.fed
  let z := fin.length - l
  x.fed ≤ msgLen && x.fed + fin.length + (m - msgLen) == p && fin.getD at80 0 == 0x80#8 &&
  (slice fin (at80 + 1) (z - (at80 + 1))).all (· == 0) && beNat (slice fin z l) == 8 * m

/-- The result of an accepted final (07 R217). -/
def Handle.result (x : Handle) (fin : Bytes) : Bytes :=
  let inner := (x.feed fin 0).chain
  if x.alg = 3 then
    let i := chainResult 3 inner
    let pad := i ++ [0x80#8] ++ zeros (128 - 48 - 1 - 16) ++ natBe 16 (8 * (128 + 48))
    chainResult 3 (sha512Block x.outer pad)
  else chainResult x.alg inner

/-- A feed ended short of its length (07 R215). -/
def State.feedShort (s : State) (j : Job) : State :=
  match j.handle with
  | some h => ((s.modHandle j.ctx h (fun x => { x with invalid := true })).bump .digLenFailsCount 1)
  | none => s

/-- Hand the bytes that wait to the job's handle. -/
def State.pumpFeed (s : State) (uid : Nat) (tile : Bool) : State :=
  s.onJob uid (fun j s =>
    match j.handle with
    | none => s
    | some h =>
      if j.feed.isEmpty ∧ j.opcode ≠ opDigestFinal ∧ (s.handle j.ctx h).all (fun x => x.slot.isSome || x.saved || x.invalid) then s else
      let s1 := s.ensureSlot j.ctx h tile
      match s1.handle j.ctx h with
      | none => s1.modJob uid (fun j => { j with feed := [] })
      | some x =>
        if x.invalid then (s1.failJob uid stDigestInvalid 0 (some 0)).modJob uid (fun j => { j with feed := [], snoop := none })
        else if x.live ∧ j.opcode ≠ opDigestFinal then
          ((s1.putHandle (x.feed j.feed s1.uid)).nextUid).modJob uid (fun j => { j with feed := [] })
        else s1)

end Sys2Proof.Machine
end

