-- ==== Sys2Proof/Machine/HostPort.lean ====
section
/-! DEFINITION. Requests to host memory (13 R373; 15 R411 to R413; 04 R142), and what a failed operation does to its job. -/
namespace Sys2Proof.Machine

/-! ### Failures -/

/-- Which destination of a snapshot an end is: 0 LOCAL, 1 MIRROR, 2 FILE, 3 HOST (10 R265). -/
def DstEnd.kind (d : DstEnd) : Nat :=
  match d with
  | .frames p _ => (match p with | .fabric => 0 | .remote _ => 1 | .store _ => 2 | .host => 3)
  | .object p _ => (match p with | .fabric => 0 | .remote _ => 1 | .store _ => 2 | .host => 3)
  | _ => 0

def DestStage.fail (d : DestStage) (status : Nat) : DestStage := match d with | .open_ => .failed status | x => x

/-- A job, or the group under whose number a commit's operations run, belongs to a snapshot. -/
def Snap.owns (x : Snap) (job : Nat) : Bool := x.jobs.contains job || x.gid == job

def State.allSnaps (s : State) : List Snap := s.ckpt.snap.toList ++ s.ckpt.tail

def State.modSnap (s : State) (job : Nat) (f : Snap → Snap) : State :=
  let g := fun (x : Snap) => if x.owns job then f x else x
  { s with ckpt := { s.ckpt with snap := s.ckpt.snap.map g, tail := s.ckpt.tail.map g } }

/-- A destination of a snapshot fails: it takes no further blocks, and the others go on (10 R282, R283, R285). -/
def State.snapDestFail (s : State) (job kind status : Nat) : State :=
  match s.allSnaps.find? (fun x => x.owns job) with
  | none => s
  | some x =>
    let s1 := s.modSnap job (fun x =>
      { x with
        mirror := (if kind = 1 then x.mirror.fail status else x.mirror), fileSt := (if kind = 2 then x.fileSt.fail status else x.fileSt),
        hostSt := (if kind = 3 then x.hostSt.fail status else x.hostSt) })
    { s1 with
      jobs := s1.jobs.map (fun (j : Job) =>
        if x.jobs.contains j.uid then { j with dead := j.dead ++ (List.range j.dsts.length).filter (fun d => (j.dsts.getD d .none).kind == kind && !j.dead.contains d) } else j) }

def isSnapJob (s : State) (job : Nat) : Bool := s.allSnaps.any (fun x => x.jobs.contains job)

/-- The destination that an operation of a commit serves. -/
def commitKind (n : Nat) : Nat := if n = 6 ∨ n = 7 then 3 else if n = 8 ∨ n = 9 then 2 else 1

/-- The snapshot's destination that an operation serves. -/
def snapKind (j : Job) (u : XUse) : Nat :=
  match u with
  | .block d _ => (j.dsts.getD d .none).kind
  | .segment d _ => (j.dsts.getD d .none).kind
  | .verify d _ _ => (j.dsts.getD d .none).kind
  | _ => 0

/-- An operation for a job has failed: the job stops, after the blocks before the one concerned (04 R142, 05 R169). -/
def State.useFailed (s : State) (job : Nat) (u : XUse) (st detail : Nat) : State :=
  match s.findJob job with
  | none =>
    (match u with
     | .commit n =>
       if ¬ s.allSnaps.any (fun x => x.gid == job) then s
       else if st = stMemError then s.abandonSnap st true
       else s.snapDestFail job (commitKind n) st
     | _ => s)
  | some j =>
    if isSnapJob s job then (if snapKind j u = 0 then s.abandonSnap st true else s.snapDestFail job (snapKind j u) st)
    else
      match u with
      | .block _ b => s.failJob job st detail (some b)
      | .verify _ b _ => s.failJob job st detail (some b)
      | .segment _ _ => s.failJob job st detail (some j.doneBlks)
      | .input k o => s.cutInput job st detail k o
      | _ => s.failJob job st detail none

/-! ### Requests -/

/-- DETAIL of what stands in the way of function n's requests (15 R412, R413, R431). -/
def hostBar (s : State) (n : Nat) : Option Nat :=
  if ¬ s.pins.hostLinkUp then some 3 else if ¬ bitOf s.pins.bme n then some 4 else none

def isHostOp (k : XKind) : Bool := match k with | .hostRead => true | .hostAck => true | .ats => true | .hostReady => true | _ => false

/-- Non-posted requests outstanding: at most 1,024 (15 R411). -/
def State.hostOut (s : State) : Nat := (s.xfers.filter (fun x => isHostOp x.kind)).length

def hostXfer (tag : Nat) (k : XKind) (p : PendOp) : Xfer :=
  {
    kind := k, tag := tag, job := p.job, use := p.use, addr := p.addr, len := p.len, parts := [], promised := p.promised, via := p.via,
    psn := 0, key := none, data := p.data }

/-- The writes of at most the maximum payload. -/
def hostWrites (fn : Nat) : Nat → Bytes → List Out
  | a, d => (chunks 512 d).zipIdx.map (fun p => .hostWrite fn (a + 512 * p.2) p.1)

/-- Issue the access itself: a read, or the writes with the read of their last 4 bytes behind them (13 R373). -/
def State.hostIssue (s : State) (p : PendOp) : State :=
  let t := s.uid
  if p.data.isEmpty then
    let s1 := s.nextUid
    { s1 with xfers := s1.xfers ++ [hostXfer t .hostRead p], out := s1.out ++ [.hostRead t p.via p.addr p.len] }
  else
    let s1 := s.nextUid
    { s1 with
      xfers := s1.xfers ++ [{ hostXfer t .hostAck p with data := [] }],
      out := s1.out ++ hostWrites p.via p.addr p.data ++ [.hostRead t p.via ((p.addr + p.data.length - 1) / 4 * 4) 4] }

/-- Begin an access: its translation first where the function uses ATS (04 R142). -/
def State.hostStart (s : State) (p : PendOp) : State :=
  if bitOf s.pins.atsEn p.via then
    let t := s.uid
    let s1 := s.nextUid
    { s1 with xfers := s1.xfers ++ [hostXfer t .ats p], out := s1.out ++ [.atsRequest t p.via p.addr] }
  else s.hostIssue p

def State.hostOffer (s : State) (p : PendOp) : State :=
  if s.pendHost.isEmpty ∧ s.hostOut < 1024 then s.hostStart p else { s with pendHost := s.pendHost ++ [p] }

def drainHostFuel : Nat → State → State
  | 0, s => s
  | fuel + 1, s =>
    match s.pendHost with
    | [] => s
    | p :: t => if s.hostOut < 1024 then drainHostFuel fuel (({ s with pendHost := t }).hostStart p) else s

def State.drainHost (s : State) : State := drainHostFuel s.pendHost.length s

/-- Pieces of a range that cross no 4 KiB boundary: offset, address, length. -/
def pagesFuel : Nat → Nat → Nat → Nat → List (Nat × Nat × Nat)
  | 0, _, _, _ => []
  | fuel + 1, off, a, n =>
    if n = 0 then [] else
    let k := min n (4096 - a % 4096)
    (off, a, k) :: pagesFuel fuel (off + k) (a + k) (n - k)

def pagesOf (off a n : Nat) : List (Nat × Nat × Nat) := pagesFuel (n / 4096 + 2) off a n

/-- Read host memory: `use` of each piece from its offset. -/
def State.hostReadAt (s : State) (job : Nat) (use : Nat → XUse) (fn off addr len : Nat) (promised : Bool) : State :=
  match hostBar s fn with
  | some d => s.useFailed job (use off) stHostError d
  | none => (pagesOf off addr len).foldl (fun a (o, ad, n) => a.hostOffer ⟨.hostRead, job, use o, fn, 0, ad, n, [], false, promised⟩) s

/-- Write host memory. -/
def State.hostWriteAt (s : State) (job : Nat) (use : XUse) (fn addr : Nat) (data : Bytes) (promised : Bool) : State :=
  match hostBar s fn with
  | some d => s.useFailed job use stHostError d
  | none =>
    (pagesOf 0 addr data.length).foldl
      (fun a (o, ad, n) => a.hostOffer ⟨.hostRead, job, use, fn, 0, ad, n, slice data o n, false, promised⟩) s

/-- Write bytes to the memory a stream lies in. -/
def State.memWrite (s : State) (j : Job) (use : XUse) (host : Bool) (addr : Nat) (data : Bytes) : State :=
  if host then s.hostWriteAt j.uid use j.ctx addr data j.promised else s.fabWrite j.uid use addr data j.promised

/-- Let translated writes go, each behind its job's writes before it: writes leave in traversal order (04 R124). -/
def hostReadyFuel : Nat → State → State
  | 0, s => s
  | fuel + 1, s =>
    let waits := fun (x : Xfer) => (s.xfers.takeWhile (fun y => y != x)).any (fun y =>
      (y.kind == .ats || y.kind == .hostReady) && !y.data.isEmpty && y.job == x.job && y.via == x.via)
    match s.xfers.find? (fun x => x.kind == .hostReady && !waits x) with
    | none => s
    | some x => hostReadyFuel fuel ({ s with xfers := s.xfers.erase x }.hostIssue ⟨.hostRead, x.job, x.use, x.via, 0, x.addr, x.len, x.data, false, x.promised⟩)

def State.hostReadies (s : State) : State := hostReadyFuel (s.xfers.filter (fun x => x.kind == .hostReady)).length s

/-- Bytes of runs, with the address of each. -/
def runBytes : List (Nat × Nat) → Bytes → List (Nat × Bytes)
  | [], _ => []
  | (a, n) :: t, d => (a, d.take n) :: runBytes t (d.drop n)

/-- Beats of a merged request: runs that meet in a beat make one write of it, its gap bytes with cleared enables (04 R127). -/
def joinBeats : List (Nat × Bytes × Nat) → List (Nat × Bytes × Nat)
  | [] => []
  | (a, d, be) :: t =>
    match joinBeats t with
    | (b, e, bf) :: u => if a = b then (a, List.zipWith (· ||| ·) d e, be + bf) :: u else (a, d, be) :: (b, e, bf) :: u
    | [] => [(a, d, be)]

/-- Write the bytes of runs of one fabric stream, merged as reads are (04 R127). -/
def State.fabWriteRuns (s : State) (job : Nat) (use : XUse) (runLen : Nat) (promised : Bool) (pieces : List (Nat × Nat)) (data : Bytes) : State :=
  ((mergeRuns s runLen pieces).foldl (fun (a : State × Bytes) g =>
    let n := (g.map (·.2)).sum
    let bs := joinBeats ((runBytes g a.2).flatMap (fun p => beatsOf p.1 p.2))
    (bs.foldl (fun (t : State) b => t.fabOffer ⟨job, use, b.1, b.2.1, b.2.2, promised⟩) a.1, a.2.drop n)) (s, data)).1

/-- Write bytes at offset `off` of a stream, run by run in traversal order (04 R124). -/
def State.streamWrite (s : State) (j : Job) (use : XUse) (t : Stream) (off : Nat) (data : Bytes) : State :=
  if ¬ t.host then s.fabWriteRuns j.uid use t.len j.promised (t.slice off data.length) data else
  ((t.slice off data.length).foldl (fun (a : State × Bytes) (ad, n) => (a.1.memWrite j use t.host ad (a.2.take n), a.2.drop n)) (s, data)).1

end Sys2Proof.Machine
end

