-- ==== Sys2Proof/Machine/Stream.lean ====
section
/-! DEFINITION. The sources of a job: what has landed, what is asked for, and what the transforms make of it (04 R121 to R135; 08 R238, R239;
09 R250). -/
namespace Sys2Proof.Machine

/-! ### Landing -/

/-- Take up what had landed beyond the gap. -/
def Inp.absorb : Nat → Inp → Inp
  | 0, i => i
  | fuel + 1, i =>
    match i.early.find? (fun e => e.1 == i.data.length) with
    | none => i
    | some e => Inp.absorb fuel { i with data := i.data ++ e.2, early := i.early.filter (fun x => x.1 != e.1) }

/-- Bytes of offset `off` land. -/
def Inp.land (i : Inp) (off : Nat) (d : Bytes) : Inp :=
  if off = i.data.length then Inp.absorb i.early.length { i with data := i.data ++ d } else { i with early := i.early ++ [(off, d)] }

def Job.inp (j : Job) (k : Nat) : Inp := j.inps.getD k ⟨.extents [], 0, [], [], 0⟩

def Job.main (j : Job) : Bytes := (j.inp 0).data

/-- Bytes of a main source that lie before its cut. -/
def Job.clip (j : Job) (inp off : Nat) (d : Bytes) : Bytes :=
  match j.srcCut with | some c => if inp = 0 then d.take (c - off) else d | none => d

def State.landInput (s : State) (job inp off : Nat) (d : Bytes) : State :=
  s.modJob job (fun j => { j with inps := j.inps.set inp ((j.inp inp).land off (j.clip inp off d)) })

/-! ### The transforms over what has landed -/

/-- Element sources of the lattice. -/
def latSources (l : LatCfg) : Nat := if l.op = 1 then 2 else if l.op = 2 then l.k else 1

/-- The stream that enters the lattice: inbound blocks laid out, or the source. -/
def Job.latMain (j : Job) : Bytes := if j.inbound then j.laid else j.main

def Job.latSrcs (j : Job) (l : LatCfg) : List Bytes := j.latMain :: (List.range (latSources l - 1)).map (fun k => (j.inp (k + 1)).data)

def Job.latScs (j : Job) (l : LatCfg) : List Bytes :=
  if isMx l.inFmt ∨ l.inFmt = 11 then (List.range (latSources l)).map (fun k => (j.inp (j.scaleInp + k)).data) else []

/-- Elements of the whole stream; a stream that has stopped ends where it is (08 R238). -/
def Job.latTotal (j : Job) (l : LatCfg) : Nat :=
  if j.stop.isSome then 0 else if j.inbound then j.dstLen * 8 / elemBits l.outFmt else j.srcLen * 8 / elemBits l.inFmt

def Job.latOut (j : Job) (l : LatCfg) : LatOut :=
  latRun l (j.latSrcs l) (j.latScs l) (match j.recInp with | some k => (j.inp k).data | none => []) (j.latTotal l)

/-- The raw destination stream as far as it has come. -/
def Job.outBytes (j : Job) : Bytes :=
  match j.lat with
  | some l => if j.inbound then (j.latOut l).out else pointRun j.pnt j.table false j.vl (j.latOut l).out
  | none => if j.inbound then j.laid else pointRun j.pnt j.table false j.vl j.main

/-- Destination blocks of the whole stream. -/
def Job.blocks (j : Job) : Nat := blocksOf j.dstLen

def Job.blkLen (j : Job) (b : Nat) : Nat := min 65536 (j.dstLen - 65536 * b)

/-- Whole destination blocks that have come, none past a failure. -/
def Job.ready (j : Job) : Nat :=
  let n := j.outBytes.length
  let k := if n ≥ j.dstLen then j.blocks else n / 65536
  match j.limit with | some m => min m k | none => k

def Job.blk (j : Job) (b : Nat) : Bytes := slice j.outBytes (65536 * b) (j.blkLen b)

/-- Bytes of the destination stream that n raw source bytes give. -/
def Job.outLen (j : Job) (n : Nat) : Nat := if j.inbound then latLen j.lat (pointLen j.pnt n) else pointLen j.pnt (latLen j.lat n)

/-! ### Accounting (02 R56, R83) -/

/-- Destinations that take blocks. -/
def Job.live (j : Job) : List Nat := (List.range j.dsts.length).filter (fun d => !j.dead.contains d)

/-- Beats of 64 B in a class, for a context. -/
def State.acct (s : State) (ctx cls beats : Nat) : State :=
  match cls with
  | 0 => s.bumpI .tickAcctRdBeats ctx beats
  | 1 => s.bumpI .tickAcctWrBeats ctx beats
  | _ => s.bumpI .tickAcctRmBeats ctx beats

/-- Class of each part of a job: a snapshot's by its destinations, any other's by its far ends (02 R56). -/
def Job.classes (j : Job) : List Nat :=
  if j.opcode = opSnap then j.live.map (fun d => match (j.dsts.getD d .none).kind with | 0 => 1 | 1 => 2 | _ => 0)
  else if j.desc.dst.isSome ∧ j.desc.classOf = resWriteClass then j.desc.dstStreams.map (fun t => if t.host then 0 else 1)
  else [j.desc.classOf]

/-- The group a job belongs to; a snapshot's is its own. -/
def State.jobGroup (s : State) (j : Job) : Option Group :=
  match s.findEntry j.uid with
  | some e => s.findGroup e.gid
  | none => (s.allSnaps.find? (fun x => x.jobs.contains j.uid)).bind (fun x => s.findGroup x.gid)

/-- A context's deficit, and what it pays for a bubble block (02 R79). -/
def State.deficit (s : State) (c : Nat) : Nat := lookupD s.tick.turns c 0

def State.owe (s : State) (c n : Nat) : State :=
  { s with tick := { s.tick with turns := s.tick.turns.map (fun p => if p.1 = c then (c, p.2 - n) else p) } }

/-- Bytes that a block takes of the budget: its raw size and 256 B (02 R57). -/
def passCost (len : Nat) : Nat := len + 256

/-- A block of the job passes the staging crossbar. -/
def State.acctBlock (s : State) (j : Job) (len : Nat) : State :=
  let gid := ((s.jobGroup j).map (·.gid)).getD 0
  let s1 := j.classes.foldl (fun a c => (a.acct j.ctx c (ceilDiv len 64)).spend gid c (passCost len)) s
  if j.promised then s1 else s1.owe j.ctx (passCost len)

/-! ### Order of service (02 R53, R78, R79, R85; 04 R146; log entry 128) -/

/-- What a job may use when its turn comes: its group's reservation, the surplus, bubbles, or nothing new. -/
inductive Tier where
  | reserved
  | surplus
  | bubble
  | hold
  deriving DecidableEq, Repr

/-- A promised job other than this one has a block ready for staging. -/
def promisedWaits (s : State) (uid : Nat) : Bool :=
  s.jobs.any (fun j => j.uid != uid && j.promised && !j.inbound && j.opcode != opDigest && j.ready > j.nextBlk)

/-- Budget reaches a group from the tick after its admission on (02 R53). -/
def budgeted (s : State) (j : Job) : Bool :=
  !s.tick.running || (match s.jobGroup j with | some g => g.since != s.now | none => true)

def jobReserve (s : State) (j : Job) (c : Nat) : Bool := match s.jobGroup j with | some g => reserveLeft s g c | none => false

/-- The lattice's part of the job's record is being read back (08 R243). -/
def latReading (s : State) (j : Job) : Bool :=
  s.xfers.any (fun x => x.job == j.uid && x.use == .lattice) || s.pendOps.any (fun p => p.job == j.uid && p.use == .lattice)

/-- A block of `len` bytes may pass the crossbar. -/
def mayPass (s : State) (j : Job) (t : Tier) (len : Nat) : Bool :=
  budgeted s j && !latReading s j &&
  match t with
  | .reserved => j.promised && j.classes.all (jobReserve s j)
  | .surplus => j.promised && j.classes.all (fun c => jobReserve s j c || budgetLeft s c)
  | .bubble =>
    !j.promised && s.getI .tickShareWeight j.ctx != 0 && passCost len ≤ s.deficit j.ctx && !promisedWaits s j.uid && j.classes.all (budgetLeft s)
  | .hold => false

/-- Blocks of the job may enter the fetch stage. A DIGEST has no crossbar to wait at: its reads wait for its class. -/
def mayAsk (s : State) (j : Job) (t : Tier) : Bool :=
  budgeted s j &&
  match t with
  | .hold => false
  | .bubble => !j.promised && s.getI .tickShareWeight j.ctx != 0 && !promisedWaits s j.uid && j.classes.all (budgetLeft s)
  | _ => j.promised && (j.opcode != opDigest || j.classes.all (fun c => jobReserve s j c || (t == .surplus && budgetLeft s c)))

/-- Swap-in groups come first in the surplus of SERVE (02 R61). -/
def swapFirst (s : State) (g : Group) : Nat :=
  if s.mode = 3 ∧ s.entries.any (fun e => e.gid == g.gid && e.desc.opcode == opSwapIn) then 0 else 1

/-- Place of a job among those of one step of R78: the surplus order, then the lower context, then the ring. -/
def serviceKey (s : State) (surplus : Bool) (j : Job) : List Nat :=
  let r := match s.findEntry j.uid with | some e => e.ring | none => 0
  (match surplus, s.jobGroup j with | true, some g => [swapFirst s g, g.dueTick] | _, _ => []) ++ [j.ctx, r, j.uid]

def keyLt : List Nat → List Nat → Bool
  | a :: t, b :: u => a < b || (a == b && keyLt t u)
  | _, _ => false

def State.served (s : State) (surplus : Bool) (l : List Job) : List Nat :=
  (sortBy (fun a b => keyLt (serviceKey s surplus a) (serviceKey s surplus b)) l).map (·.uid)

/-- Deficit of a context before its turn: WEIGHT × 4 KiB more, but for one that already affords a whole block. -/
def State.topUp (s : State) (c : Nat) : State :=
  let d := s.deficit c
  let n := if d ≥ passCost 65536 then d else d + 4096 * s.getI .tickShareWeight c
  { s with tick := { s.tick with turns := s.tick.turns.map (fun p => if p.1 = c then (c, n) else p) } }

/-- Contexts with bubble work, those of the round first, in its order; one without any leaves it. -/
def State.roundOf (s : State) (waiting : List Nat) : State :=
  let old := s.tick.turns.filter (fun p => waiting.contains p.1)
  let fresh := (sortBy (· < ·) waiting.dedup).filter (fun c => !old.any (fun p => p.1 == c))
  { s with tick := { s.tick with turns := old ++ fresh.map (fun c => (c, 0)) } }

/-- A context whose block has passed goes to the end of the round. -/
def State.rotate (s : State) (c before : Nat) : State :=
  if s.deficit c < before then
    { s with tick := { s.tick with turns := s.tick.turns.filter (fun p => p.1 != c) ++ s.tick.turns.filter (fun p => p.1 == c) } }
  else s

/-! ### Asking -/

/-- A request's use: input number and offset in it. -/
def inputUse (k : Nat) (off : Nat) : XUse := .input k off

/-- Read tags that a stream holds: at most 8,192 (04 R130). -/
def streamTags (s : State) (job k : Nat) : Nat :=
  ((s.xfers.filter (fun x => x.kind == .fabRead && x.job == job && (match x.use with | .input i _ => i == k | _ => false))).map (fun x => x.len / 64)).sum

/-- Fabric reads in order until tags run out: the state, and the offset up to which bytes are asked for. -/
def askReqs (job k : Nat) (promised : Bool) : List (Nat × Nat × List (Nat × Nat)) → Nat → State → State × Nat
  | [], off, s => (s, off)
  | (a, beats, parts) :: t, off, s =>
    if streamTags s job k + beats > 8192 then (s, off) else
    match s.fabRead job (.input k off) a beats parts promised with
    | some s1 => askReqs job k promised t (off + (parts.map (·.2)).sum) s1
    | none => (s, off)

/-- Ask for bytes [off, off + n) of a stream. -/
def State.askStream (s : State) (j : Job) (k : Nat) (t : Stream) (off n : Nat) : State × Nat :=
  if t.host then
    let r := (t.slice off n).foldl (fun (a : State × Nat) (ad, m) => (a.1.hostReadAt j.uid (inputUse k) j.ctx a.2 ad m j.promised, a.2 + m)) (s, off)
    (r.1, off + n)
  else askReqs j.uid k j.promised ((mergeRuns s t.len (t.slice off n)).flatMap (requestsOf s)) off s

/-- Ask for one extent. -/
def State.askExtent (s : State) (j : Job) (k off seg : Nat) (e : Extent) : State × Nat :=
  match e.place with
  | .fabric => askReqs j.uid k j.promised (requestsOf s [(e.addr, e.len)]) off s
  | .host => (s.hostReadAt j.uid (inputUse k) j.ctx off e.addr e.len j.promised, off + e.len)
  | .remote p =>
    let q := s.pathQp p seg
    (s.remoteRead q j.uid (.input k off) (s.getI .xptQpRkeyKey q) e.addr e.len j.promised, off + e.len)
  | .store t =>
    let a := e.addr / 4096 * 4096
    (s.offerOp ⟨.nvmeRead, j.uid, .input k off, t, 0, a, roundUp (e.addr + e.len - a) 4096, [], false, j.promised⟩, off + e.len)

/-- Ask for the extents that are wanted: those of index below `lim`, from the offset `next` on. -/
def askExtents (j : Job) (k lim : Nat) : List (Extent × Nat) → Nat → State × Nat → State × Nat
  | [], _, a => a
  | (e, i) :: t, off, a =>
    if i ≥ lim then a
    else if off < a.2 then askExtents j k lim t (off + e.len) a
    else
      let b := a.1.askExtent j k off ((j.expects.getD i ⟨none, 0, 0, 0, 0, 0, none, false, 0, 0, .fabric⟩).segment) e
      if b.2 < off + e.len then b else askExtents j k lim t (off + e.len) b

/-- Inbound source blocks that have been written to every destination and acknowledged (04 R135). -/
def Job.srcDone (j : Job) : Nat := if j.dstLen = 0 then 0 else (List.range (j.raw.length / 65536 + 1)).foldl
  (fun a b => if j.outLen (min j.raw.length (65536 * (b + 1))) ≤ j.doneBytes ∧ 65536 * b < j.raw.length then b + 1 else a) 0

/-- Blocks that an inbound stream may hold: one in each of its landing buffers (04 R135), and one's results in the lattice's open tile (08
R238; log entry 140). -/
def Job.depth (j : Job) : Nat := 8 + b2n j.lat.isSome

/-- Records and decoded blocks that hold a landing buffer. -/
def Job.held (j : Job) : Nat := if j.inbound then j.recs.length + (blocksOf j.raw.length - j.srcDone) else 0

/-- An inbound job begins to fetch once the one before it on its ring has fetched its last block, and no third overlaps with two; it holds
landing buffers (04 R136, R141). -/
def streamMayFetch (s : State) (j : Job) : Bool :=
  !s.yielded.contains j.uid &&
  match s.findEntry j.uid with
  | none => true
  | some e =>
    let before := (s.earlier e).filterMap (fun x => s.findJob x.uid) |>.filter (fun k => k.inbound)
    before.length ≤ 1 && before.all (fun k => k.stop.isSome || k.ended || (k.inp 0).data.length == (k.inp 0).total)

/-- How far input k may be asked for: 8 blocks ahead, and not while output waits for staging (04 R130, R135). -/
def Job.askTo (j : Job) (k : Nat) : Nat :=
  let i := j.inp k
  if j.stop.isSome ∨ (j.ended ∧ k = 0) then i.nextReq
  else if j.inbound ∧ k = 0 then
    (if j.desc.inRecs then j.recOff + (j.depth - min j.depth j.held) * 65620 else (j.srcDone + j.depth) * 65536)
  else if ¬ j.inbound ∧ j.ready > j.nextBlk ∧ j.opcode ≠ opDigest then i.nextReq
  else i.data.length + 524288

/-- Ask for what input k lacks. -/
def State.askInput (s : State) (j : Job) (k : Nat) : State :=
  let i := j.inp k
  if j.inbound ∧ ¬ streamMayFetch s j then s else
  match i.src with
  | .stream t =>
    let lim := min i.total (j.askTo k)
    if lim ≤ i.nextReq then s else
    let r := s.askStream j k t i.nextReq (lim - i.nextReq)
    r.1.modJob j.uid (fun x => { x with inps := x.inps.set k { x.inp k with nextReq := r.2 } })
  | .extents l =>
    if j.stop.isSome then s else
    let r := askExtents j k (j.srcDone + j.depth) l.zipIdx 0 (s, i.nextReq)
    r.1.modJob j.uid (fun x => { x with inps := x.inps.set k { x.inp k with nextReq := r.2 } })

def State.askAll (s : State) (uid : Nat) (t : Tier) : State :=
  match s.findJob uid with
  | none => s
  | some j => if j.opcode = opSnap ∨ ¬ mayAsk s j t then s else
    (List.range j.inps.length).foldl (fun a k => a.onJob uid (fun j a => if j.stop.isSome then a else a.askInput j k)) s

/-! ### Fingerprints and the long digest (07 R202, R212) -/

/-- Source blocks landed whole go to the fingerprint array; the tap never holds the stream (07 R202, R203). -/
def printFuel (uid : Nat) : Nat → State → State
  | 0, s => s
  | fuel + 1, s =>
    match s.findJob uid with
    | none => s
    | some j =>
      let lo := 65536 * j.printed
      let n := min 65536 (j.srcLen - lo)
      if j.inbound ∨ n = 0 ∨ j.main.length < lo + n then s
      else
        printFuel uid fuel ((s.startPrint uid j.printed (slice j.main lo n)).modJob uid (fun j => { j with printed := j.printed + 1 }))

/-- Bytes of the snooped stream: source bytes outbound, written bytes inbound (07 R212); records are handed over as they pass. -/
def State.feedRaw (s : State) (uid : Nat) : State :=
  s.onJob uid (fun j s =>
    let direct := j.opcode == opDigest
    let on := direct || (match j.snoop with | some (_, rec) => !rec && !j.inbound | none => false)
    if ¬ on ∨ j.main.length ≤ j.fedTo then s
    else
      let n := j.main.length - j.fedTo
      let s1 := if direct then (s.acct j.ctx 0 (ceilDiv n 64)).spend (((s.jobGroup j).map (·.gid)).getD 0) 0 n else s
      s1.modJob uid (fun j => { j with feed := j.feed ++ j.main.drop j.fedTo, fedTo := j.main.length }))

/-- Where the lattice part of record r of a context lies (08 R242). -/
def latSaveAt (s : State) (ctx r : Nat) : Nat := s.get .latSaveBaseBase + (ctx * 17 + r) * 0x11000

/-- The lattice part as it stands (08 R242). -/
def Job.latRecord (j : Job) (l : LatCfg) : Bytes := latSaveBytes l (latYs l (j.latSrcs l) (j.latScs l))

/-- The lattice reads its part of a record back (08 R243). The job keeps the same state, and goes on once the bytes have come (log entry
81). -/
def State.loadLattice (s : State) (j : Job) (r : Nat) : State :=
  match j.lat with
  | some l => s.fabReadAll j.uid (fun _ => .lattice) (latSaveAt s j.ctx r) (j.latRecord l).length j.promised
  | none => s

/-! ### What the lattice gives beside its output (08 R227, R231, R235 to R239) -/

/-- The stream that enters the Pointing unit outbound, as far as it has come. -/
def Job.pntInput (j : Job) : Bytes := match j.lat with | some l => (j.latOut l).out | none => j.main

/-- An INDEX fails at use (09 R258): nothing more of the stream passes the unit, and Patina is told of table storage. The spec does not say
which bank holds the table: a free value. -/
def State.pointFail (s : State) (uid keep : Nat) : State :=
  let (v, s1) := s.drawFree
  let s2 : State := { s1 with patina := { s1.patina with urgent := s1.patina.urgent ++ [(6, v % 2508)] } }
  ((s2.up .pntStatUseFail).bump .pntUseFailsCount 1).failJob uid stPermRange 0 (some keep)

/-- Vectors of an outbound stream pass the Pointing unit: their unpacked bytes count (09 R264, PNT_BYTES), and every INDEX is compared
again (R258). -/
def State.countPointed (s : State) (uid : Nat) : State :=
  s.onJob uid (fun j s =>
    let n := if j.inbound ∨ j.pnt.passThrough then 0 else j.vl * (j.pntInput.length / max 1 (vecIn j.pnt j.vl))
    if n = 0 then s
    else if indexBad j.pnt j.table j.vl then (if j.stop.isSome then s else s.pointFail uid j.nextBlk)
    else (s.bump .pntBytesBytes (n - j.pntCounted)).modJob uid (fun x => { x with pntCounted := max j.pntCounted n }))

def State.latticeSides (s : State) (uid : Nat) : State :=
  (s.countPointed uid).onJob uid (fun j s =>
    match j.lat, j.desc.lat with
    | some l, some f =>
      let o := j.latOut l
      let rec_ := o.recs.drop j.latRows
      let s1 := rec_.zipIdx.foldl (fun a (r, i) => a.memWrite j .side f.statsHost (f.statsDst + 32 * (j.latRows + i)) r) s
      let sc := o.scales.drop j.latScales
      let hostDst := j.desc.dst.any (fun t => t.host)
      let s2 := if sc.isEmpty then s1 else s1.memWrite j .side hostDst (f.scaleDst + j.latScales) sc
      let s3 := ((s2.bump .latNonfiniteCount (o.nonfinite - j.latNonfin)).bump .latOverflowsCount (o.ovf - j.latOvf)).bump .latSaturatedCount (o.sat - j.latSat)
      let s4 := s3.bump .latMacsCount (l.macs * (o.elems - j.latElems))
      s4.modJob uid (fun x =>
        { x with
          latRows := o.recs.length, latScales := o.scales.length, latNonfin := o.nonfinite, latOvf := o.ovf, latSat := o.sat,
          latElems := o.elems })
    | _, _ => s)

end Sys2Proof.Machine
end

