-- ==== Sys2Proof/Machine/Stage.lean ====
section
/-! DEFINITION. Staging, coding and sealing of outbound streams, and the writing of their records (04 R131 to R138; 05 R153 to R166; 06 R182 to
R188; 10 R267; 11 R299 to R309). -/
namespace Sys2Proof.Machine

/-! ### The two halves (04 R131 to R134) -/

def State.half (s : State) (a : Bool) : Half := if a then s.halfA else s.halfB

def State.setHalf (s : State) (a : Bool) (h : Half) : State := if a then { s with halfA := h } else { s with halfB := h }

/-- Format a job's segments carry (05 R153): what a narrowing export produces, which is every OUT_FMT but FP32 (08 R229; log entry 20). -/
def Job.segFormat (j : Job) : Nat := match j.lat with | some l => if l.outFmt ≠ 1 then l.outFmt else j.format | none => j.format

/-- Its segments are coded, when their census counts a value (05 R153). -/
def Job.codes (j : Job) : Bool := j.coded && (codedFmt j.segFormat).isSome

/-- Begin a job's next segment in the FREE half that fills (04 R133). -/
def State.openSegment (s : State) (j : Job) : State :=
  s.setHalf s.fillA { Half.empty with st := .fill, job := j.uid, ctx := j.ctx, coded := j.codes, format := j.segFormat, seg := j.segIdx }

/-- Census of a half's blocks, when their format is coded (05 R155). -/
def Half.census (h : Half) : Option (CodedFmt × List Nat) := (codedFmt h.format).map (fun f => (f, censusOf f (h.blocks.map (·.data))))

/-- The segment closes, and its census with it: one that has counted no value leaves the segment uncoded, with no Mould to build (05 R153,
R155). -/
def Half.close (h : Half) : Half :=
  let counted := h.coded && (match h.census with | some (_, c) => c.any (· != 0) | none => false)
  { h with closed := true, coded := counted, built := !counted }

/-- Close the segment that fills; `short` counts it among the short segments (04 R132, R151). -/
def State.closeFill (s : State) (short : Bool) : State :=
  let h := s.half s.fillA
  if h.st ≠ .fill ∨ h.closed then s
  else if h.blocks.isEmpty then s.setHalf s.fillA Half.empty
  else
  let s1 := (s.setHalf s.fillA h.close).modJob h.job (fun j => { j with segIdx := h.seg + 1 })
  if short ∧ h.blocks.length < 128 then s1.bump .stgShortSegsCount 1 else s1

/-- The next descriptor on the ring, of the same group, is a CHAIN that carries CONT (04 R138). -/
def contFollows (s : State) (uid : Nat) : Bool :=
  match s.findEntry uid with
  | none => false
  | some e =>
    match (s.entries.filter (fun x => x.ctx == e.ctx && x.ring == e.ring)).dropWhile (fun x => x.uid != uid) with
    | _ :: x :: _ =>
      e.desc.opcode == opChain && x.desc.opcode == opChain && x.desc.flags.cont && x.gid == e.gid && !e.desc.flags.swap && x.stage != .ended
    | _ => false

/-- A snapshot's windows go through staging one after the other, so that segment f is frame f (10 R267). -/
def snapTurn (s : State) (j : Job) : Bool :=
  match s.allSnaps.find? (fun x => x.jobs.contains j.uid) with
  | none => true
  | some x =>
    (x.jobs.takeWhile (fun u => u != j.uid)).all (fun u =>
      match s.findJob u with
      | none => true
      | some k =>
        k.blks.length == k.blocks && !(s.halfA.st != .free && s.halfA.job == u && !s.halfA.finished) &&
        !(s.halfB.st != .free && s.halfB.job == u && !s.halfB.finished))

/-- Put a job's ready blocks into the half that fills, as far as its turn lets them pass; close the segment at its 128th block or at the stream's last (04 R132). -/
def stageFuel (uid : Nat) (turn : Tier) : Nat → State → State
  | 0, s => s
  | fuel + 1, s =>
    match s.findJob uid with
    | none => s
    | some j =>
      let h := s.half s.fillA
      let mine := h.st == .fill && h.job == uid && !h.closed
      if j.inbound ∨ ¬ j.joined ∨ j.opcode = opDigest ∨ j.opcode = opDigestFinal ∨ (j.opcode = opSnap ∧ ¬ snapTurn s j) then s
      else if j.ready ≤ j.nextBlk then
        (if mine && j.stop.isSome then s.closeFill true else if mine && j.nextBlk == j.blocks && !contFollows s uid then s.closeFill false else s)
      else if ¬ mayPass s j turn (j.blkLen j.nextBlk) then s
      else if h.st = .free then stageFuel uid turn fuel (s.openSegment j)
      else if mine then
        let b := j.nextBlk
        let bs := h.blocks ++ [⟨uid, b, j.blk b⟩]
        let s1 := ((s.setHalf s.fillA { h with blocks := bs }).modJob uid (fun j => { j with nextBlk := b + 1 })).acctBlock j (j.blkLen b)
        if bs.length ≥ 128 ∨ (b + 1 = j.blocks ∧ ¬ contFollows s uid) then stageFuel uid turn fuel (s1.closeFill false) else stageFuel uid turn fuel s1
      else s

/-! ### Counters (06 R184 to R188, R198) -/

inductive Draw where
  | ok (ctr : Nat) (s : State)
  | wait (s : State)
  | fail (status : Nat) (s : State)

/-- The next counter of a slot. An exhausted slot seals nothing, whatever the table is (20 R527). -/
def State.drawNonce (s : State) (ctx slot : Nat) : Draw :=
  let x := s.key slot
  let log := fun (a : State) (c : Nat) => a.logRec 14 ctx 0 (slot % 256 + 256 * ctx) (natLe 8 c)
  if s.replaying then
    match s.yeljo.nonces.find? (fun p => p.1 == slot) with
    | some (_, c) =>
      let s1 : State := { s with yeljo := { s.yeljo with nonces := s.yeljo.nonces.erase (slot, c) } }
      .ok c (log (s1.putKey { s1.key slot with ctr := max x.ctr (c + 1) }) c)
    | none => .wait s
  else if x.exhausted ∨ x.ctr ≥ 2 ^ 64 - 1 then .fail stSealExhausted (s.putKey { x with exhausted := true })
  else if s.flag .sealStatTableLost then .fail stNonceReserveFail s
  else if x.ctr ≥ x.hwm then (if x.reserveFail then .fail stNonceReserveFail s else .wait (s.requestHwm slot (x.hwm + 2 ^ 24)))
  else
    let s1 := s.putKey { x with ctr := x.ctr + 1 }
    let s2 := if x.hwm ≤ x.ctr + 1 + 2 ^ 23 then s1.requestHwm slot (x.hwm + 2 ^ 24) else s1
    .ok x.ctr (log s2 x.ctr)

/-- The lowest-numbered free pipe other than `but` (02 R80, 06 R197). -/
def State.freePipe (s : State) (but : Option Nat) : Option Nat :=
  (List.range (s.logicalOf 0)).find? (fun p =>
    but != some p && !s.moving 0 p && !s.pipes.any (fun u => u.pipe == p) && !s.sealPipes.contains p)

/-- A pipe for a block (06 R179). With none free, the one that took its block to seal first has taken it in by then; none when every pipe is
opening (log entry 133). -/
def State.takePipe (s : State) (but : Option Nat) : Option (Nat × State) :=
  match s.freePipe but with
  | some p => some (p, s)
  | none => (s.sealPipes.find? (fun p => but != some p && !s.moving 0 p)).map (fun p => (p, { s with sealPipes := s.sealPipes.erase p }))

/-- The pipe that seals a job's next block; an unsealed one takes none. -/
def State.sealPipe (s : State) (j : Job) : Option (Nat × State) :=
  if j.sealOn then (s.takePipe none).map (fun (p, t) => (p, { t with sealPipes := t.sealPipes ++ [p] })) else some (0, s)

/-- The next block of a half is to be sealed and its slot has no reserved counter left (06 R188). -/
def reserveWaits (s : State) (h : Half) : Bool :=
  h.st == .drain && h.built && !h.finished &&
  match (h.blocks[h.records.length]?).bind (fun b => s.findJob b.job) with
  | some j =>
    let x := s.key j.keySlot
    j.sealOn && !x.exhausted && !x.reserveFail && x.ctr ≥ x.hwm
  | none => false

def reserveWaiting (s : State) : Bool :=
  !s.replaying && !s.flag .sealStatTableLost && (reserveWaits s s.halfA || reserveWaits s s.halfB)

/-! ### Where a segment's parts lie -/

/-- Write bytes of a job at a place. -/
def State.placeWrite (s : State) (j : Job) (use : XUse) (p : Place) (seg addr : Nat) (data : Bytes) (fua : Bool) : State :=
  match p with
  | .fabric => s.fabWrite j.uid use addr data j.promised
  | .host => s.hostWriteAt j.uid use j.ctx addr data j.promised
  | .remote first =>
    let q := s.pathQp first seg
    if s.pathUp first then s.remoteWrite q j.uid use (s.getI .xptQpRkeyKey q) addr data j.promised else s.useFailed j.uid use stXptQpDown 0
  | .store t =>
    if tgtReady s t then s.nvmeWrite t j.uid use addr (sliceZ data 0 (roundUp data.length 4096)) fua j.promised
    else s.useFailed j.uid use stNvmeConnect 0

/-- Segment number in its shard (11 R305). -/
def Job.segNo (j : Job) (seg : Nat) : Nat := seg - j.segBase

/-- Bytes of the records before position i of a half's segment. -/
def Half.recOff (h : Half) (i : Nat) : Nat := ((h.records.take i).map (fun r => r.1.length)).sum

def Half.tag (h : Half) : Nat := match h.mould with | some m => m.tag | none => 0

/-- Values of a block that its Mould does not list (05 R161). -/
def escapesOf (m : Mould) (raw : Bytes) : Nat :=
  match codedFmt m.format with
  | none => 0
  | some f => ((elementsOf f raw).filter (fun v => !m.entries.any (fun e => e.1 == expOf f v))).length

/-! ### One block (05 R161 to R164, 06 R180 to R184) -/

/-- Write a block, or its record, to destination number d. -/
def State.writeBlock (s : State) (uid d : Nat) (h : Half) (i b : Nat) (data : Bytes) : State :=
  s.onJob uid (fun j s =>
    match j.dsts.getD d .none with
    | .stream t => s.streamWrite j (.block d b) t (65536 * b) data
    | .records t =>
      let s1 := s.streamWrite j (.block d b) t j.recOff data
      let off := j.recOff + data.length
      let s2 := s1.modJob uid (fun j => { j with recOff := off })
      if b + 1 = j.blocks ∧ off + 64 ≤ t.total then s2.streamWrite j .side t off (zeros 64) else s2
    | .frames p a => s.placeWrite j (.block d b) p h.seg (a + frameOff h.seg + 0x2000 + h.recOff i) data false
    | _ => s)

/-- Byte place of a record at a destination, for its read-back. -/
def recordAt (j : Job) (d : Nat) (h : Half) (i : Nat) : Nat :=
  match j.dsts.getD d .none with
  | .records _ => j.recOff
  | .frames _ a => a + frameOff h.seg + 0x2000 + h.recOff i
  | _ => 0

/-- Encode and seal the next block of a draining half, and write it. None: it waits for a pipe or a counter. -/
def State.drainOne (s : State) (a : Bool) : Option State :=
  let h := s.half a
  let i := h.records.length
  match h.blocks[i]? with
  | none => none
  | some hb =>
    let skip : State := s.setHalf a { h with records := h.records ++ [([], false)] }
    match s.findJob hb.job with
    | none => some skip
    | some j =>
      if (match j.limit with | some m => decide (m ≤ hb.idx) | none => false) then some skip
      else if j.desc.memory then
        let s1 := s.setHalf a { h with records := h.records ++ [([], false)] }
        let o : OutBlk :=
          { idx := hb.idx, seg := h.seg, pos := i, rawOff := 65536 * hb.idx, rawLen := hb.data.length, pipe := 0, record := [], ctr := 0,
            verified := [], acked := [], at_ := [], back := [] }
        let s2 := s1.modJob j.uid (fun j => { j with blks := j.blks ++ [o] })
        some (j.live.foldl (fun st d => st.writeBlock j.uid d h i hb.idx hb.data) s2)
      else
        match s.sealPipe j with
        | none => none
        | some (pipe, s0) =>
        let (payload, rawFlag) := encodeBlock h.mould hb.data
        let draw := if j.sealOn then s0.drawNonce j.ctx j.keySlot else .ok 0 s0
        match draw with
        | .wait s1 =>
          let t : State := { s1 with sealPipes := s.sealPipes }
          if t = s then none else some t
        | .fail st s1 => some ((s1.failJob j.uid st 0 (some hb.idx)).setHalf a { h with records := h.records ++ [([], false)] })
        | .ok c s1 =>
          let hdr : BlockHdr :=
            {
              raw := rawFlag, sealed := j.sealOn, keySlot := if j.sealOn then j.keySlot else 0, mouldTag := h.tag, step := j.step,
              shardId := j.shardId, segment := j.segNo h.seg, block := i, rawLen := hb.data.length, codedLen := payload.length,
              nonce := if j.sealOn then nonceOf (s.get .sealPrefixPrefix) c else zeros 12 }
          let rec_ := buildRecord hdr payload (if j.sealOn then (s1.key j.keySlot).key else none)
          let s2 := s1.setHalf a { h with records := h.records ++ [(rec_, rawFlag)] }
          let s3 := match h.mould with
            | some m =>
              (((s2.bump .cdrEncInBytes hb.data.length).bump .cdrEncOutBytes payload.length).bump .cdrRawBlocksCount (b2n rawFlag)).bump
                .cdrEscapesCount (if rawFlag then 0 else escapesOf m hb.data)
            | none => s2
          let o : OutBlk :=
            {
              idx := hb.idx, seg := h.seg, pos := i, rawOff := 65536 * hb.idx, rawLen := hb.data.length, pipe := pipe,
              record := if j.verify then rec_ else [], ctr := c, verified := [], acked := [],
              at_ := j.live.map (fun d => (d, recordAt j d h i)), back := [] }
          let s4 := s3.modJob j.uid (fun j =>
            { j with
              blks := j.blks ++ [o], firstCtr := if j.sealOn then some (j.firstCtr.getD c) else j.firstCtr, lastCtr := if j.sealOn then c else j.lastCtr,
              feed := if j.feedsBlk true hb.idx then j.feed ++ rec_ else j.feed,
              fedBlk := if j.feedsBlk true hb.idx then hb.idx + 1 else j.fedBlk })
          some (j.live.foldl (fun st d => st.writeBlock j.uid d h i hb.idx rec_) s4)

/-! ### What follows a segment's blocks (10 R267, 11 R304 to R306) -/

/-- The segment's stream keeps its density, so that block b is source block b (11 R306; log entry 43). -/
def Job.keepsDensity (j : Job) : Bool :=
  packWidth j.pnt.unpack == packWidth j.pnt.pack && (match j.lat with | some l => elemBits l.inFmt == elemBits l.outFmt | none => true)

/-- Raw bytes of the job before the first block of a half's segment. -/
def Half.rawBefore (h : Half) (j : Job) : Nat := j.rawBase + 65536 * ((h.blocks.filter (fun b => b.job == j.uid)).head?.map (·.idx)).getD 0

def Half.rawLen (h : Half) : Nat := (h.blocks.map (fun b => b.data.length)).sum

/-- The segment record. -/
def segRecord (j : Job) (h : Half) (rawOff : Nat) (fp : Bool) : SegRec :=
  {
    coded := h.mould.isSome, sealed := j.sealOn, fp := fp, sparse := false, fpCanon := false, blocks := h.blocks.length, format := h.format,
    mouldTag := h.tag, step := j.step, mouldLen := (match h.mould with | some m => m.bytes.length | none => 0), shardId := j.shardId,
    segment := j.segNo h.seg, bodyLen := h.recOff h.records.length, rawOffset := rawOff, rawLen := h.rawLen }

/-- The index table (05 R165). -/
def Half.index (h : Half) : Bytes :=
  let es := (List.range h.records.length).flatMap (fun i =>
    match h.records[i]? with
    | some (r, raw) => indexEntry (h.recOff i) (fieldAt r 0x24 4) raw
    | none => zeros 8)
  sliceZ es 0 1024

/-- The print of a half's block, when it has come. -/
def printOf (s : State) (b : HBlk) : Option Bytes :=
  match s.findJob b.job with
  | some j => (j.prints.find? (fun p => p.1 == b.idx)).map (·.2)
  | none => some (zeros 32)

def Job.objW (j : Job) (d : Nat) : Option ObjW := j.objs.find? (fun o => o.dst == d)

def Job.modObj (j : Job) (d : Nat) (f : ObjW → ObjW) : Job := { j with objs := replaceFirst (fun o => o.dst == d) f j.objs }

/-- A segment of an object, from its record to its padding (11 R299, R304). -/
def segBytes (j : Job) (h : Half) (rawOff : Nat) (fp : Bool) (prints : List Bytes) : Bytes :=
  let front := (segRecord j h rawOff fp).bytes ++ (match h.mould with | some m => m.bytes | none => []) ++ h.records.flatMap (fun r => r.1)
  let body := sliceZ front 0 (roundUp front.length 64) ++ h.index ++ (if fp then sliceZ (prints.flatMap id) 0 4096 else [])
  sliceZ body 0 (roundUp body.length 4096)

def segDir : Nat := 2 ^ 20
def segHeader : Nat := 2 ^ 20 + 1
def segFlush : Nat := 2 ^ 20 + 2
def segZero : Nat := 2 ^ 20 + 3

/-- Operations of a job with a use are outstanding or waiting. -/
def usePending (s : State) (job : Nat) (p : XUse → Bool) : Bool :=
  s.xfers.any (fun x => x.job == job && p x.use) || s.pendWr.any (fun w => w.job == job && p w.use) ||
  s.pendOps.any (fun w => w.job == job && p w.use) || s.pendHost.any (fun w => w.job == job && p w.use)

/-- First LBA after an area of a target, as a byte address (12 R339, R340). -/
def slotEnd (s : State) (t slot : Nat) : Nat := 4096 * (s.getI .xptTgtBaseLba t + (slot + 1) * s.getI .xptTgtSlotLbas t)

/-- Whether an object's end would pass its target's slot (12 R340): objects of a target lie in the slot their first byte lies in. -/
def pastSlot (s : State) (p : Place) (o : ObjW) (stop : Nat) : Bool :=
  match p with
  | .store t =>
    let n := 4096 * s.getI .xptTgtSlotLbas t
    let b := 4096 * s.getI .xptTgtBaseLba t
    n != 0 && decide (b + ((o.base - b) / n + 1) * n < stop)
  | _ => false

/-- A snapshot keeps its segment's records until they are compared (10 R276). -/
def State.keepSeg (s : State) (h : Half) : State :=
  if ¬ isSnapJob s h.job then s else
  s.modSnap h.job (fun x =>
    { x with
      segs := x.segs.map (fun (g : SnapSeg) => if g.job = h.job ∧ g.seg = h.seg then { g with kept := some { h with blocks := [] } } else g) })

/-- Write what follows the blocks at each destination of the segment's job. The object's part waits for its fingerprints. -/
def State.finishSegment (s : State) (a : Bool) : State :=
  let h := s.half a
  match s.findJob h.job with
  | none => s.setHalf a { h with finished := true }
  | some j =>
    if j.after.isSome then s else
    if j.desc.memory ∨ (j.stop.isSome ∧ h.records.any (fun r => r.1.isEmpty)) then s.setHalf a { h with finished := true } else
    let prints := h.blocks.map (printOf s)
    let fp := j.keepsDensity
    let zeroing := usePending s j.uid (fun u => match u with | .segment _ n => n == segZero | _ => false)
    let isObj := j.live.any (fun d => match j.dsts.getD d .none with | .object _ _ => true | _ => false)
    if isObj ∧ ((fp ∧ prints.any Option.isNone) ∨ zeroing) then s
    else
      let one := fun (st : State) (d : Nat) =>
        match j.dsts.getD d .none with
        | .frames p addr =>
          let r := (segRecord j h (h.rawBefore j) false).bytes ++ (match h.mould with | some m => m.bytes | none => [])
          let st1 := st.placeWrite j (.segment d h.seg) p h.seg (addr + frameOff h.seg) r false
          st1.placeWrite j (.segment d h.seg) p h.seg (addr + frameOff h.seg + 0x1000) h.index false
        | .object p _ =>
          match j.objW d with
          | none => st
          | some o =>
            let b := segBytes j h o.raw o.fp (prints.map (·.getD []))
            if pastSlot s p o (o.base + o.off + b.length) then st.useFailed j.uid (.segment d h.seg) stTargetFull 0
            else
              let front := 64 + (match h.mould with | some m => m.bytes.length | none => 0)
              let st1 := st.placeWrite j (.segment d h.seg) p h.seg (o.base + o.off) b false
              let st2 := st1.modJob j.uid (fun j =>
                j.modObj d (fun o => { o with off := o.off + b.length, dir := o.dir ++ [o.off], raw := o.raw + h.rawLen }))
              let mine := fun (k : Job) (x : OutBlk) => h.blocks.any (fun b => b.job == k.uid && b.idx == x.idx)
              { st2 with jobs := st2.jobs.map (fun (k : Job) => { k with blks := k.blks.map (fun (x : OutBlk) =>
                  if mine k x then { x with at_ := x.at_.map (fun q => if q.1 = d then (d, o.base + o.off + front + h.recOff x.pos) else q) } else x) }) }
        | _ => st
      ((j.live.foldl one s).setHalf a { s.half a with finished := true }).keepSeg h

/-- Drain a half as far as counters allow. -/
def drainFuel (a : Bool) : Nat → State → State
  | 0, s => s
  | fuel + 1, s =>
    let h := s.half a
    if h.st ≠ .drain ∨ ¬ h.built ∨ h.finished then s
    else if h.records.length = h.blocks.length then s.finishSegment a
    else match s.drainOne a with | some s1 => drainFuel a fuel s1 | none => s

def State.drainHalf (s : State) (a : Bool) : State := drainFuel a (2 * (s.half a).blocks.length + 4) s

/-! ### Objects' ends (11 R308, R309; 12 R333) -/

def Job.tensorTable (j : Job) : Option Bytes :=
  match j.tensorInp with
  | some k => if (j.inp k).data.length = (j.inp k).total then some (j.inp k).data else none
  | none => j.tensors

/-- The shard header of a finished object. -/
def shardHdrOf (s : State) (j : Job) (o : ObjW) (tensors : Bytes) : ShardHdr :=
  {
    divergence := o.shardId % 65536 != 0 && j.opcode == opSnap, sealed := j.sealOn, fp := o.fp, shardId := o.shardId, step := j.step,
    group := o.group, baseShard := if j.opcode = opSnap then o.shardId / 65536 * 65536 else o.shardId, segments := o.dir.length,
    tensors := tensors, dirOffset := o.off, objLen := o.off + roundUp (8 * o.dir.length) 4096, rawBytes := o.raw,
    pkg := s.arm.pkg, inst := s.get .fjPosInst, keySlot := if j.sealOn then j.keySlot else 0, rank := s.get .fjReplicaRankRank,
    sealPrefix := if j.sealOn then s.get .sealPrefixPrefix else 0 }

/-- Directory, then header, then the Flush of a volatile target, each once what is before it is durable. -/
def State.objTail (s : State) (uid d : Nat) : State :=
  s.onJob uid (fun j s =>
    match j.dsts.getD d .none, j.objW d with
    | .object p _, some o =>
      let busy := usePending s uid (fun u => match u with | .segment x _ => x == d | _ => false)
      if busy ∨ o.tail = 4 then s
      else
        match o.tail, j.tensorTable with
        | 0, some _ =>
          let dir := sliceZ (o.dir.flatMap (natLe 8)) 0 (roundUp (8 * o.dir.length) 4096)
          if pastSlot s p o (o.base + o.off + dir.length) then s.useFailed uid (.segment d segDir) stTargetFull 0
          else (s.placeWrite j (.segment d segDir) p 0 (o.base + o.off) dir false).modJob uid (fun j => j.modObj d (fun o => { o with tail := 1 }))
        | 1, some t =>
          let hb := (shardHdrOf s j o t).bytes
          let loc := match p with | .store _ => 1 | .host => 2 | _ => 0
          let tgt := match p with | .store t => t | _ => 0
          let e : MaqEntry :=
            {
              shardId := o.shardId, segments := o.dir.length, fromWriter := false, divergence := o.shardId % 65536 != 0 && j.opcode == opSnap,
              loc := loc, location := if loc = 1 then o.base / 4096 else o.base, nsid := if loc = 1 then s.getI .xptTgtNsidNsid tgt else 0,
              target := tgt, hdrDigest := sha256 hb }
          (s.placeWrite j (.segment d segHeader) p 0 o.base hb false).modJob uid (fun j =>
            { j.modObj d (fun o => { o with tail := 2 }) with shards := j.shards ++ [e] })
        | 2, _ =>
          (match p with
           | .store t =>
             if s.getI .xptTgtStateVwc t = 1 then
               (s.nvmeFlush t uid (.segment d segFlush) j.promised).modJob uid (fun j => j.modObj d (fun o => { o with tail := 3 }))
             else s.modJob uid (fun j => j.modObj d (fun o => { o with tail := 4 }))
           | _ => s.modJob uid (fun j => j.modObj d (fun o => { o with tail := 4 })))
        | 3, _ => s.modJob uid (fun j => j.modObj d (fun o => { o with tail := 4 }))
        | _, _ => s
    | _, _ => s)

/-! ### Blocks done (04 R132; 06 R197) -/

/-- A block stands at destination d: acknowledged, and verified where its job verifies. -/
def blkAt (j : Job) (o : OutBlk) (d : Nat) : Bool := j.dead.contains d || (o.acked.contains d && (!j.verify || !j.sealOn || o.verified.contains d))

def blkDone (j : Job) (o : OutBlk) : Bool := (List.range j.dsts.length).all (fun d => blkAt j o d)

/-- A block has no piece left to be acknowledged at a destination. -/
def pieceLeft (s : State) (job d b : Nat) : Bool :=
  usePending s job (fun u => match u with | .block x y => x == d && y == b | _ => false)

/-- Whether a destination's block goes with its whole segment. -/
def inSegment (j : Job) (d : Nat) : Bool := match j.dsts.getD d .none with | .object _ _ => true | _ => false

/-- The half's blocks and what follows them are acknowledged: it is FREE (04 R132). -/
def halfClear (s : State) (h : Half) : Bool :=
  h.st == .drain && h.finished &&
  h.blocks.all (fun b =>
    match s.findJob b.job with
    | none => true
    | some j => (match j.blks.find? (fun o => o.idx == b.idx) with | some o => blkDone j o || j.stop.isSome | none => true)) &&
  !(match s.findJob h.job with
    | some j => usePending s j.uid (fun u => match u with | .segment _ n => n == h.seg | .block _ _ => j.stop.isSome | _ => false)
    | none => false)

def State.freeHalves (s : State) : State :=
  let s1 := if halfClear s s.halfA then { s with halfA := Half.empty } else s
  if halfClear s1 s1.halfB then { s1 with halfB := Half.empty } else s1

/-! ### The swap and the build (04 R132, 05 R159) -/

/-- The FILL half's segment is closed and the other half is FREE. -/
def swapDue (s : State) : Bool :=
  (s.half s.fillA).st == .fill && (s.half s.fillA).closed && (s.half (!s.fillA)).st == .free

/-- The halves swap. Encoding begins once the Mould is complete too (05 R159). -/
def State.swapHalves (s : State) : State :=
  let a := s.fillA
  let s1 := { s with fillA := !a }.setHalf a { s.half a with st := .drain }
  s1.drainHalf a

/-- Blocks of a job from index `keep` on that are not yet encoded leave a half; an emptied half is FREE (04 R142, 05 R177). -/
def Half.trim (h : Half) (uid keep : Nat) : Half :=
  let bs := h.blocks.zipIdx.filter (fun p => !(p.1.job == uid && decide (keep ≤ p.1.idx) && decide (h.records.length ≤ p.2)))
  if h.st ≠ .free ∧ h.job = uid ∧ bs.isEmpty then Half.empty else { h with blocks := bs.map (·.1) }

/-- Trim both halves; the first segment that is emptied leaves its number to the next. -/
def State.trimHalves (s : State) (uid keep : Nat) : State :=
  let gone := fun (h : Half) => h.st != .free && h.job == uid && (h.trim uid keep).st == .free
  let seg := fun (j : Job) (h : Half) => if gone h then min j.segIdx h.seg else j.segIdx
  let s1 := s.modJob uid (fun j => { j with segIdx := seg { j with segIdx := seg j s.halfA } s.halfB })
  { s1 with halfA := s.halfA.trim uid keep, halfB := s.halfB.trim uid keep }

/-- A half's segment is closed and its Mould not complete. -/
def Half.unbuilt (h : Half) : Bool := h.st != .free && h.closed && !h.built

/-- The half whose Mould is being built: the build runs from the segment's close on, while the other half may still drain (05 R159). The half
that drains is first. -/
def building (s : State) : Option Bool :=
  if (s.half (!s.fillA)).unbuilt then some (!s.fillA) else if (s.half s.fillA).unbuilt then some s.fillA else none

def State.buildDone (s : State) (a : Bool) : State :=
  let h := s.half a
  (s.setHalf a { h with mould := h.census.map (fun c => buildMould h.format c.2), built := true }).drainHalf a

end Sys2Proof.Machine
end

