-- ==== Sys2Proof/Machine/Inbound.lean ====
section
/-! DEFINITION. The inbound path: records, opening, decode slots, arrival digests, the model cache and the writes (04 R135 to R150, R540;
05 R168 to R175; 06 R195; 07 R209, R210; 10 R294; 11 R318, R319). -/
namespace Sys2Proof.Machine

/-! ### Block headers of either version -/

/-- Header of a Bruic 2 block (11 R319). -/
def parseBlockHdr2 (b : Bytes) : Option BlockHdr :=
  let fl := fieldAt b 1 1
  if fieldAt b 0 1 = 2 ∧ (fl = 0 ∨ fl = 2) ∧ fieldAt b 3 1 = 0 ∧ fieldAt b 0x0F 1 = 0 then
    some {
      raw := true, sealed := fl == 2, keySlot := fieldAt b 2 1, mouldTag := 0, step := fieldAt b 4 4, shardId := fieldAt b 8 4,
      segment := fieldAt b 0x0C 2, block := fieldAt b 0x0E 1, rawLen := fieldAt b 0x10 4, codedLen := fieldAt b 0x10 4, nonce := slice b 0x14 12 }
  else none

def Job.hdrLen (j : Job) : Nat := if j.bruic2 then 32 else 64

def Job.parseHdr (j : Job) (b : Bytes) : Option BlockHdr := if j.bruic2 then parseBlockHdr2 b else parseBlockHdr b

/-- Bytes of a record with this header. -/
def Job.recLen (j : Job) (h : BlockHdr) : Nat := h.codedLen + j.hdrLen + (if h.sealed then 20 else 4)

/-- The body of a record, opened with a key where it is sealed. -/
def Job.openRec (j : Job) (h : BlockHdr) (key : Option Bytes) (rec : Bytes) : Option Bytes :=
  if j.bruic2 then
    let body := slice rec 32 (h.codedLen + 4)
    match h.sealed, key with
    | false, _ => some body
    | true, some k => gcmOpen k h.nonce (rec.take 0x14) body (slice rec (36 + h.codedLen) 16)
    | true, none => none
  else openBody h key rec

/-! ### Records as jobs hold them -/

def Job.modRec (j : Job) (idx : Nat) (f : Rec → Rec) : Job := { j with recs := replaceFirst (fun r => r.idx == idx) f j.recs }

def recInsert (r : Rec) : List Rec → List Rec
  | [] => [r]
  | x :: t => if r.idx < x.idx then r :: x :: t else x :: recInsert r t

/-- Records that are discarded leave their pipes and their decode slots (05 R177, 06 R195). -/
def State.dropRecs (s : State) (uid : Nat) (keep : Rec → Bool) : State :=
  let gone := match s.findJob uid with
    | some j => j.recs.filter (fun r => !keep r)
    | none => []
  let refs := gone.filterMap (fun (r : Rec) => match r.stage with | .loading k => some k | _ => none)
  let s2 := s.modJob uid (fun j => { j with recs := j.recs.filter keep })
  { s2 with
    pipes := s2.pipes.filter (fun p => !(p.job == uid && !p.back && gone.any (fun r => r.idx == p.blk))),
    slots := s2.slots.zipIdx.map (fun p => { p.1 with refs := p.1.refs - (refs.filter (fun k => k == p.2)).length }) }

/-- An inbound failure: records from `idx` on are discarded, and what was whole before it still goes on (05 R169, R195). -/
def State.failInbound (s : State) (uid idx st : Nat) : State :=
  ((s.failJob uid st 0 none).modJob uid (fun j => { j with srcCut := none })).dropRecs uid (fun r => r.idx < idx)

/-- The data disagrees with its length (00 R38): the snooped handle becomes INVALID too. -/
def State.lengthFail (s : State) (uid idx : Nat) : State :=
  let s1 := s.onJob uid (fun j s => s.feedShort j)
  s1.failInbound uid idx stLengthMismatch

/-- A decode failure (05 R168, R178). -/
def State.decodeFail (s : State) (uid idx st check : Nat) : State :=
  s.onJob uid (fun j s =>
    ((((s.set .cdrFailInfoStatus st).set .cdrFailInfoCtx j.ctx).set .cdrFailInfoCheck check).bump .cdrCheckFailsCount 1).failInbound uid idx st)

/-! ### The model cache (04 R147 to R150) -/

def Job.loadNo (j : Job) : Nat := match j.table with | some t => t.loadNo | none => 0

/-- A key of the job's Pointing settings (09 R259; log entry 131). -/
def Job.baseKey (j : Job) : McKey :=
  {
    ctx := j.ctx, place := .host, shard := 0, step := 0, segment := 0, block := 0, runs := [], before := [], loadNo := j.loadNo,
    pnt := { j.pnt with table := 15 }, vl := if j.pnt.passThrough then 0 else j.vl }

/-- Key of bytes [off, off + len) of a host stream. Where a vector may be open at source block i, what came before is part of it. -/
def Job.runKey (j : Job) (i off len : Nat) : McKey :=
  match (j.inp 0).src with
  | .stream t =>
    let free := j.pnt.passThrough || 65536 * i % max 1 (vecIn j.pnt j.vl) == 0
    { j.baseKey with runs := t.slice off len, before := if free then [] else t.slice 0 off }
  | .extents _ => j.baseKey

/-- Key of record or block i of a job. -/
def Job.cacheKey (j : Job) (i : Nat) : McKey :=
  match j.expects[i]? with
  | some e =>
    match e.place with
    | .store t => { j.baseKey with place := .store t, shard := e.shardId, step := e.step, segment := e.segment, block := e.block }
    | _ => { j.baseKey with runs := [(e.off, e.len)] }
  | none => j.runKey i (65536 * i) (min 65536 ((j.inp 0).total - 65536 * i))

/-- Bytes of host memory that a key names. -/
def McKey.len (k : McKey) : Nat := (k.runs.map (·.2)).sum

def State.cacheFind (s : State) (k : McKey) : Option McEntry :=
  if s.flag .stgMcCtrlEnable then s.cache.find? (fun e => e.key == k && !e.marked) else none

/-- A stream's record by where it begins: its length is not known before it is read. -/
def State.cacheFindAt (s : State) (j : Job) : Option McEntry :=
  if s.flag .stgMcCtrlEnable then s.cache.find? (fun (e : McEntry) => e.key == j.runKey j.segIdx j.recOff e.key.len && e.key.len != 0 && !e.marked) else none

/-- Least recently used of the unpinned entries. -/
def cacheVictim (l : List McEntry) : Option McEntry :=
  (l.filter (fun e => !e.pinned)).foldl (fun (a : Option McEntry) e =>
    match a with | none => some e | some x => if e.used < x.used then some e else some x) none

/-- Put a block into the cache, pinned by its job (04 R149). `keep`: later fetches may hit it; a block of a fan-out that is held for its own
destinations alone is marked from the start, and goes when it unpins (R139, R151). -/
def State.cacheFill (s : State) (k : McKey) (uid : Nat) (data raw : Bytes) (keep : Bool) : State :=
  let same := fun (e : McEntry) => keep && e.key == k && !e.marked
  let l := s.cache.filter (fun e => !same e)
  let l1 := if l.length < 512 then l else (match cacheVictim l with | some v => l.erase v | none => l)
  let pins := (s.cache.filter same).flatMap (·.pins) ++ [uid]
  let t : State := { s with cache := l1 ++ [⟨k, data, raw, pins, !keep, s.uid⟩] }
  t.nextUid

/-- A hit pins the entry and makes it the latest used. -/
def State.cacheTouch (s : State) (k : McKey) (uid : Nat) : State :=
  ({ s with cache := s.cache.map (fun (e : McEntry) => if e.key = k ∧ ¬ e.marked then { e with pins := e.pins ++ [uid], used := s.uid } else e) }).nextUid

/-- A job unpins entries; those that nothing pins any more and that are marked go (04 R149, R150). -/
def State.cacheUnpin (s : State) (uid : Nat) (p : McKey → Bool) : State :=
  let l := s.cache.map (fun (e : McEntry) => if p e.key then { e with pins := e.pins.filter (· != uid) } else e)
  { s with cache := l.filter (fun e => e.pinned || !e.marked) }

/-! ### Fetching through the cache -/

/-- A hit for record i: it lands decoded, its place in the source filled. -/
def State.recHit (s : State) (uid i off len : Nat) (e : McEntry) : State :=
  let s1 := (s.cacheTouch e.key uid).bump .stgMcHitsCount 1
  s1.modJob uid (fun j =>
    let r : Rec :=
      {
        idx := i, off := off, bytes := [], hdr := none, expect := j.expects[i]?, stage := .decoded, body := e.data, raw := e.raw, hit := true,
        key := some e.key }
    { j with recs := recInsert r j.recs, inps := j.inps.set 0 ((j.inp 0).land off (zeros len)) })

/-- Take what the cache holds before asking: of a plan, every record within the window; of a stream of records, those at its head; of plain
data, whole blocks. Misses count where the job is cached. -/
def planHits (uid lim : Nat) : List (Extent × Nat) → Nat → State → State
  | [], _, s => s
  | (e, i) :: t, off, s =>
    match s.findJob uid with
    | none => s
    | some j =>
      let here := off ≥ (j.inp 0).data.length && !(j.inp 0).early.any (fun x => x.1 == off)
      if i ≥ lim then s
      else if here ∧ off ≥ (j.inp 0).nextReq then
        match s.cacheFind (j.cacheKey i) with
        | some x => planHits uid lim t (off + e.len) (s.recHit uid i off e.len x)
        | none => planHits uid lim t (off + e.len) s
      else planHits uid lim t (off + e.len) s

def streamHits (uid : Nat) : Nat → State → State
  | 0, s => s
  | fuel + 1, s =>
    match s.findJob uid with
    | none => s
    | some j =>
      let i := j.inp 0
      if i.nextReq > j.recOff ∨ j.held ≥ j.depth ∨ j.ended then s
      else
        match s.cacheFindAt j with
        | some x =>
          let s1 := s.recHit uid j.segIdx j.recOff x.key.len x
          streamHits uid fuel (s1.modJob uid (fun j =>
            { j with recOff := j.recOff + x.key.len, segIdx := j.segIdx + 1, inps := j.inps.set 0 { j.inp 0 with nextReq := j.recOff + x.key.len } }))
        | none => s

def plainHits (uid : Nat) : Nat → State → State
  | 0, s => s
  | fuel + 1, s =>
    match s.findJob uid with
    | none => s
    | some j =>
      let i := j.inp 0
      let b := i.nextReq / 65536
      if i.nextReq ≠ i.data.length ∨ i.nextReq % 65536 ≠ 0 ∨ i.nextReq ≥ i.total ∨ b ≥ j.srcDone + j.depth then s
      else
        match s.cacheFind (j.cacheKey b) with
        | some x =>
          let s1 := (s.cacheTouch x.key uid).bump .stgMcHitsCount 1
          plainHits uid fuel (s1.modJob uid (fun j =>
            { j with
              hits := j.hits ++ [(b, x.data)],
              inps := j.inps.set 0 { (j.inp 0).land (65536 * b) x.raw with nextReq := i.nextReq + x.raw.length } }))
        | none => s

def State.fetchHits (s : State) (uid : Nat) (turn : Tier) : State :=
  s.onJob uid (fun j s =>
    if ¬ j.inbound ∨ ¬ j.cached ∨ j.stop.isSome ∨ ¬ mayAsk s j turn then s else
    match (j.inp 0).src with
    | .extents l => planHits uid (j.srcDone + j.depth) l.zipIdx 0 s
    | .stream _ => if j.desc.inRecs then streamHits uid 8 s else plainHits uid 8 s)

/-! ### Records off the source (04 R540) -/

def Job.addRec (j : Job) (len : Nat) (bytes : Bytes) (h : Option BlockHdr) : Job :=
  let r : Rec :=
    { idx := j.segIdx, off := j.recOff, bytes := bytes, hdr := h, expect := j.expects[j.segIdx]?, stage := .landed, body := [], raw := [], hit := false }
  let tag := match h with | some x => if j.expects.isEmpty ∧ x.mouldTag ≠ 0 then [x.mouldTag] else [] | none => []
  { j with
    recs := recInsert r j.recs, segIdx := j.segIdx + 1, recOff := j.recOff + len, tags := j.tags ++ tag.filter (fun t => !j.tags.contains t),
    feed := if j.feedsBlk true j.segIdx then j.feed ++ bytes else j.feed, fedBlk := if j.feedsBlk true j.segIdx then j.segIdx + 1 else j.fedBlk }

/-- Take whole records off the landed prefix. -/
def parseFuel (uid : Nat) : Nat → State → State
  | 0, s => s
  | fuel + 1, s =>
    match s.findJob uid with
    | none => s
    | some j =>
      let data := j.main
      let total := (j.inp 0).total
      if (j.stop.isSome ∧ j.srcCut.isNone) ∨ j.ended ∨ ¬ j.desc.inRecs then s
      else if j.recs.any (fun r => r.idx == j.segIdx) then
        parseFuel uid fuel (s.modJob uid (fun j =>
          { j with segIdx := j.segIdx + 1, recOff := j.recOff + (match j.expects[j.segIdx]? with | some e => e.len | none => 0) }))
      else if j.expects ≠ [] then
        (match j.expects[j.segIdx]? with
         | none => s.modJob uid (fun j => { j with ended := true })
         | some e =>
           if e.len = 0 then s.decodeFail uid j.segIdx stMouldInvalid 0
           else if data.length < j.recOff + e.len then s
           else
             let b := slice data j.recOff e.len
             parseFuel uid fuel (s.modJob uid (fun j => j.addRec e.len b (j.parseHdr b))))
      else if j.held ≥ j.depth then s
      else if total < j.recOff + 64 then s.modJob uid (fun j => { j with ended := true })
      else if data.length < j.recOff + 64 then s
      else
        let hb := slice data j.recOff 64
        if hb.all (· == 0) then s.modJob uid (fun j => { j with ended := true })
        else
          match j.parseHdr hb with
          | none => s.failInbound uid j.segIdx stCheckFail
          | some h =>
            let n := j.recLen h
            if total < j.recOff + n ∨ h.codedLen > 65536 then s.lengthFail uid j.segIdx
            else if data.length < j.recOff + n then s
            else parseFuel uid fuel (s.modJob uid (fun j => j.addRec n (slice data j.recOff n) (some h)))

/-! ### Opening (06 R192, R195, R198; 10 R294) -/

/-- A header that is not the one its place implies (10 R294). -/
def headerMoved (e : Expect) (h : BlockHdr) : Bool := h.step != e.step || h.shardId != e.shardId || h.segment != e.segment || h.block != e.block

/-- Why a record cannot be opened. -/
def openBar (s : State) (j : Job) (r : Rec) : Option Nat :=
  match r.hdr with
  | none => some stCheckFail
  | some h =>
    match r.expect with
    | some e =>
      if headerMoved e h then some stMixedStep
      else if j.recLen h ≠ r.bytes.length ∨ (e.rawLen ≠ 0 ∧ h.rawLen ≠ e.rawLen) then some stLengthMismatch
      else if h.sealed then (if replayKeyBad s h.keySlot then some stReplayKey else keyCheck s j.ctx h.keySlot false) else none
    | none => if h.sealed then (if replayKeyBad s h.keySlot then some stReplayKey else keyCheck s j.ctx h.keySlot false) else none

/-- Open the record `idx`, or give it to a pipe. -/
def State.openRecord (s : State) (uid idx : Nat) : State :=
  s.onJob uid (fun j s =>
    match j.recs.find? (fun r => r.idx == idx) with
    | none => s
    | some r =>
      match openBar s j r with
      | some st => if st = stLengthMismatch then s.lengthFail uid idx else s.failInbound uid idx st
      | none =>
        match r.hdr with
        | none => s
        | some h =>
          if h.sealed then
            match s.takePipe none with
            | none => s
            | some (p, s1) =>
              { s1.modJob uid (fun j => j.modRec idx (fun r => { r with stage := .opening p })) with
                pipes := s1.pipes ++ [{ pipe := p, job := uid, back := false, dst := 0, blk := idx, data := [] }] }
          else s.modJob uid (fun j => j.modRec idx (fun r => { r with stage := .opened, body := (j.openRec h none r.bytes).getD [] })))

/-! ### Decode slots and decoding (05 R168 to R175) -/

inductive MouldPick where
  | uncoded
  | found (m : Mould)
  | bad

/-- The Mould that a record's blocks are coded with (05 R168, R175). -/
def mouldFor (s : State) (j : Job) (r : Rec) (h : BlockHdr) : MouldPick :=
  match r.expect with
  | some e => (match e.mould with | some m => .found m | none => .uncoded)
  | none =>
    if h.mouldTag = 0 then .uncoded
    else
      match (s.store.filter (fun x => x.ctx == j.ctx && x.mould.tag == h.mouldTag)).map (·.mould) with
      | [] => .bad
      | m :: t => if t.all (fun x => x.bytes == m.bytes) then .found m else .bad

inductive SlotPick where
  | share (k : Nat)
  | load (k : Nat)
  | wait

/-- 05 R171. -/
def pickSlot (s : State) (ctx : Nat) (m : Mould) : SlotPick :=
  match s.slots.findIdx? (fun x => x.mould == some m && x.ctx == ctx) with
  | some k => .share k
  | none =>
    if s.slots.length < 8 then .load s.slots.length
    else
      match ((List.range 8).filter (fun k => (s.slots.getD k ⟨none, 0, 0, 0⟩).refs == 0)).foldl (fun (a : Option Nat) k =>
        match a with
        | none => some k
        | some x => if (s.slots.getD k ⟨none, 0, 0, 0⟩).used < (s.slots.getD x ⟨none, 0, 0, 0⟩).used then some k else some x) none with
      | some k => .load k
      | none => .wait

/-- Slot k is still being loaded. -/
def slotLoading (s : State) (k : Nat) : Bool := s.jobs.any (fun (j : Job) => j.recs.any (fun r => r.stage == .loading k))

/-- Blocks the decoder holds. -/
def decHeld (s : State) : Nat := ((s.jobs.map (fun j => (j.recs.filter (fun r => match r.stage with | .loading _ => true | _ => false)).length))).sum

def State.modSlot (s : State) (k : Nat) (f : DecSlot → DecSlot) : State := { s with slots := s.slots.set k (f (s.slots.getD k ⟨none, 0, 0, 0⟩)) }

/-- The arrival digest of a canonical fingerprint begins at decoding (07 R209). -/
def canonPrint (r : Rec) : Bool := match r.expect with | some e => e.canon && e.fingerprint.isSome | none => false

/-- The decoder's fetch stage waits for a slot (05 R171, rule 3). -/
def slotWaiting (s : State) : Bool :=
  s.jobs.any (fun j => j.recs.any (fun r => r.stage == .opened && (match r.hdr with
    | some h => !h.raw && (match mouldFor s j r h with | .found m => (match pickSlot s j.ctx m with | .wait => true | _ => false) | _ => false)
    | none => false)))

/-- A record's body passes the checks and is decoded, or its job fails. -/
def State.decodeRec (s : State) (uid : Nat) (r : Rec) (h : BlockHdr) (mo : Option Mould) : State :=
  match decodeBody h mo r.body with
  | .error c => s.decodeFail uid r.idx stCheckFail c
  | .ok raw =>
    let s1 := (s.bump .cdrDecBlocksCount 1).modJob uid (fun j => j.modRec r.idx (fun r => { r with stage := .decoded, raw := raw, body := [] }))
    if canonPrint r then s1.startPrint uid r.idx raw else s1

/-- Give an opened record to the decoder. One whose Mould tag no entry of the store matches, or more than one, fails as check 2 of 05 R168, with no
CRC tried (DESIGN CHOICE, log entry 143). -/
def State.decodeOne (s : State) (uid idx : Nat) : State :=
  s.onJob uid (fun j s =>
    match j.recs.find? (fun r => r.idx == idx) with
    | none => s
    | some r =>
      match r.hdr with
      | none => s
      | some h =>
        match mouldFor s j r h with
        | .bad => s.decodeFail uid idx stCheckFail 2
        | .uncoded => s.decodeRec uid r h none
        | .found m =>
          if h.raw then s.decodeRec uid r h (some m)
          else
            match pickSlot s j.ctx m with
            | .wait => s
            | .share k =>
              if slotLoading s k then
                (if decHeld s ≥ 8 then s else
                  (s.modSlot k (fun x => { x with refs := x.refs + 1, used := s.uid })).nextUid.modJob uid (fun j => j.modRec idx (fun r => { r with stage := .loading k })))
              else ((s.modSlot k (fun x => { x with used := s.uid })).nextUid).decodeRec uid r h (some m)
            | .load k =>
              if decHeld s ≥ 8 then s else
              let s1 : State := if k = s.slots.length then { s with slots := s.slots ++ [⟨none, 0, 0, 0⟩] } else s
              let s2 := (s1.modSlot k (fun _ => { mould := some m, ctx := j.ctx, refs := 1, used := s.uid })).nextUid
              (s2.bumpI .cdrSlotLoadsCount k 1).modJob uid (fun j => j.modRec idx (fun r => { r with stage := .loading k })))

/-- Slot k is loaded: the blocks that wait for it are decoded. A failure among them discards those behind it, which are decoded no more (05
R177). -/
def State.slotLoaded (s : State) (k : Nat) : State :=
  let waits := s.jobs.flatMap (fun j => (j.recs.filter (fun r => r.stage == .loading k)).map (fun r => (j.uid, r.idx)))
  waits.foldl (fun a (u, i) =>
    match ((a.findJob u).bind (fun j => j.recs.find? (fun r => r.idx == i))).filter (fun r => r.stage == .loading k) with
    | none => a
    | some r =>
      let a1 := (a.modSlot k (fun x => { x with refs := x.refs - 1 })).modJob u (fun j => j.modRec i (fun r => { r with stage := .opened }))
      match r.hdr with
      | some h => a1.decodeRec u { r with stage := .opened } h (a1.slots.getD k ⟨none, 0, 0, 0⟩).mould
      | none => a1) s

/-! ### In order (00 R38, 04 R125) -/

/-- A block through the Pointing unit, behind what a vector left open: the vectors laid out, and what stays open (09 R250). -/
def Job.layBlock (j : Job) (raw : Bytes) : Bytes × Bytes :=
  if j.pnt.passThrough then (raw, [])
  else
    let t := j.carry ++ raw
    let n := wholeVecs j.pnt j.vl t.length
    (pointRun j.pnt j.table true j.vl (t.take n), t.drop n)

/-- Blocks of the job are held in the model cache: for later fetches, or for its own fan-out (04 R139, R147). -/
def Job.holds (j : Job) : Bool := j.cached || !j.fan.isEmpty

/-- The next source block of an inbound job is laid out, or comes laid out from the model cache (04 R139, R148, R149), and enters what is
behind the Pointing unit. -/
def State.layIn (s : State) (uid : Nat) (raw : Bytes) (hit : Option Bytes) (key : McKey) : State :=
  s.onJob uid (fun j s =>
    let p := j.layBlock raw
    let whole := j.carry.isEmpty || !key.before.isEmpty
    let fresh := hit.isNone || !whole
    if fresh ∧ ¬ j.pnt.passThrough ∧ indexBad j.pnt j.table j.vl then (s.pointFail uid j.nextBlk).dropRecs uid (fun _ => false)
    else
      let out := if fresh then p.1 else hit.getD []
      let s1 := s.modJob uid (fun j =>
        { j with
          raw := j.raw ++ raw, laid := j.laid ++ out, carry := p.2,
          pinsAt := if j.holds then j.pinsAt ++ [(key, j.raw.length + raw.length)] else j.pinsAt })
      let vecs := if j.pnt.passThrough then 0 else (j.carry.length + raw.length) / max 1 (vecIn j.pnt j.vl)
      let s2 := if fresh then s1.bump .pntBytesBytes (j.vl * vecs) else s1
      if j.holds ∧ hit.isNone then
        let s3 := s2.cacheFill key uid p.1 raw (j.cached && whole && s.flag .stgMcCtrlEnable)
        if j.cached then s3.bump .stgMcMissesCount 1 else s3
      else s2)

/-- The inbound stream as it stood at a raw offset: the vectors before it, and the bytes of one it leaves open. -/
def Job.cutRaw (j : Job) (n : Nat) : Job :=
  let w := if j.pnt.passThrough then n else wholeVecs j.pnt j.vl n
  { j with
    raw := j.raw.take n, laid := j.laid.take (pointLen j.pnt w), carry := (j.raw.take n).drop w, pinsAt := j.pinsAt.filter (fun p => p.2 ≤ n) }

/-- Move decoded blocks into the raw stream, in order, as far as the destination has room. -/
def gatherFuel (uid : Nat) : Nat → State → State
  | 0, s => s
  | fuel + 1, s =>
    match s.findJob uid with
    | none => s
    | some j =>
      match j.recs with
      | [] => s
      | r :: t =>
        if r.stage ≠ .decoded then s
        else if j.outLen (j.raw.length + r.raw.length) > j.dstLen then s.lengthFail uid r.idx
        else
          let key := r.key.getD (if j.expects = [] then j.runKey r.idx r.off r.bytes.length else j.cacheKey r.idx)
          let s0 := s.modJob uid (fun j => { j with recs := t, starts := j.starts ++ [(r.off, j.raw.length)] })
          let s1 := s0.layIn uid r.raw (if r.hit then some r.body else none) key
          gatherFuel uid fuel (if r.hit ∧ canonPrint r then s1.startPrint uid r.idx r.raw else s1)

/-- Plain data is its own raw stream, block by block. -/
def plainFuel (uid : Nat) : Nat → State → State
  | 0, s => s
  | fuel + 1, s =>
    match s.findJob uid with
    | none => s
    | some j =>
      let b := j.raw.length / 65536
      let d := slice j.main (65536 * b) (min 65536 ((j.inp 0).total - 65536 * b))
      if j.stop.isSome ∧ j.srcCut.isNone then s
      else if j.raw.length ≥ (j.inp 0).total then s.modJob uid (fun j => { j with ended := true })
      else if d.length < min 65536 ((j.inp 0).total - 65536 * b) then s
      else plainFuel uid fuel (s.layIn uid d ((j.hits.find? (fun h => h.1 == b)).map (·.2)) (j.cacheKey b))

def State.gather (s : State) (uid : Nat) : State :=
  s.onJob uid (fun j s => if j.desc.inRecs then gatherFuel uid 16 s else plainFuel uid 16 s)

/-- The records have ended and the destination is not full: what has come is whole and stands (04 R125, 00 R38). -/
def State.shortCheck (s : State) (uid : Nat) : State :=
  s.onJob uid (fun j s =>
    if j.inbound ∧ j.ended ∧ j.recs.isEmpty ∧ j.stop.isNone ∧ (j.outLen j.raw.length < j.dstLen ∨ ¬ j.carry.isEmpty) then
      (s.modJob uid (fun j => { j with dstLen := j.outLen j.raw.length })).lengthFail uid j.segIdx
    else s)

/-! ### Writing (04 R139, R141; 07 R209) -/

/-- Pieces of the guarded windows. -/
def rangePieces : List (Nat × Nat) → Nat → Nat → List (Nat × Nat)
  | [], _, _ => []
  | (a, n) :: t, off, len =>
    if len = 0 then []
    else if off ≥ n then rangePieces t (off - n) len
    else
      let k := min len (n - off)
      (a + off, k) :: rangePieces t 0 (len - k)

def State.inWrite (s : State) (j : Job) (d b : Nat) (data : Bytes) : State :=
  match j.dsts.getD d .none with
  | .stream t => s.streamWrite j (.block d b) t (65536 * b) data
  | .ranges l =>
    ((rangePieces l (65536 * b) data.length).foldl
      (fun (a : State × Bytes) (ad, n) => (a.1.fabWrite j.uid (.block d b) ad (a.2.take n) j.promised, a.2.drop n)) (s, data)).1
  | _ => s

/-- Ranges of a job's destinations. -/
def dstMeet (a b : Job) : Bool :=
  let streams := fun (j : Job) => j.dsts.filterMap (fun d => match d with | .stream t => some t | _ => none)
  let ranges := fun (j : Job) => j.dsts.flatMap (fun d => match d with | .ranges l => l | _ => [])
  (streams a).any (fun x => (streams b).any (fun y => streamsMeet x y)) ||
  (ranges a ++ (streams a).flatMap fabRange).any (fun x => (ranges b ++ (streams b).flatMap fabRange).any (fun y => meets x.1 x.2 y.1 y.2))

/-- An inbound job writes once the one before it on its ring has issued its last write, and where their destinations meet once that is
acknowledged (04 R141). -/
def mayWrite (s : State) (j : Job) : Bool :=
  match s.findEntry j.uid with
  | none => true
  | some e =>
    (s.earlier e).all (fun x =>
      match s.findJob x.uid with
      | some k => !k.inbound || ((k.nextBlk ≥ k.blocks || k.stop.isSome) && !dstMeet j k)
      | none => true)

/-- Arrival digests of blocks at stage 7, unless those of the source block that the block begins in are canonical (07 R209). -/
def arrivesRaw (j : Job) (b : Nat) : Bool :=
  let before := fun (i : Nat) => j.outLen ((j.expects.take i).map (·.rawLen)).sum
  match ((List.range j.expects.length).filter (fun i => before i ≤ 65536 * b)).getLast?.bind (fun i => j.expects[i]?) with
  | some e => !(e.canon && e.fingerprint.isSome)
  | none => true

def writeFuel (uid : Nat) (turn : Tier) : Nat → State → State
  | 0, s => s
  | fuel + 1, s =>
    match s.findJob uid with
    | none => s
    | some j =>
      if ¬ j.inbound ∨ j.ready ≤ j.nextBlk ∨ ¬ mayWrite s j ∨ ¬ mayPass s j turn (j.blkLen j.nextBlk) then s
      else
        let b := j.nextBlk
        let data := j.blk b
        let o : OutBlk :=
          {
            idx := b, seg := 0, pos := 0, rawOff := 65536 * b, rawLen := data.length, pipe := 0, record := [], ctr := 0, verified := [], acked := [],
            at_ := [], back := [] }
        let s1 := s.modJob uid (fun j =>
          { j with
            nextBlk := b + 1, blks := j.blks ++ [o], feed := if j.feedsBlk false b then j.feed ++ data else j.feed,
            fedBlk := if j.feedsBlk false b then b + 1 else j.fedBlk })
        let s2 : State := (if arrivesRaw j b then s1.startPrint uid b data else s1).acctBlock j data.length
        writeFuel uid turn fuel ((List.range j.dsts.length).foldl (fun a d => a.onJob uid (fun j a => a.inWrite j d b data)) s2)

/-! ### One pass over an inbound job -/

def State.openAll (s : State) (uid : Nat) : State :=
  s.onJob uid (fun j s => (j.recs.filter (fun r => r.stage == .landed)).foldl (fun a r => a.openRecord uid r.idx) s)

def State.decodeAll (s : State) (uid : Nat) : State :=
  s.onJob uid (fun j s => (j.recs.filter (fun r => r.stage == .opened)).foldl (fun a r => a.decodeOne uid r.idx) s)

def State.inboundPass (s : State) (uid : Nat) (turn : Tier) : State :=
  s.onJob uid (fun j s =>
    if ¬ j.inbound then s
    else
      let s1 := (parseFuel uid 16 (s.fetchHits uid turn)).openAll uid |>.decodeAll uid
      let s2 := (s1.gather uid).shortCheck uid
      writeFuel uid turn 32 (s2.latticeSides uid))

end Sys2Proof.Machine
end

