-- ==== Sys2Proof/Machine/Source.lean ====
section
/-! DEFINITION. Finding the source of an inbound job: the Maquette, the header phase and the plan of the blocks (10 R289 to R296; 11 R315 to
R320; 12 R341). -/
namespace Sys2Proof.Machine

/-- Keys that context n may use for a Maquette's HMAC (06 R192, 11 R314). -/
def maqKey (s : State) (n slot : Nat) : Option Bytes := if (s.key slot).ctx = n then (s.key slot).key else none

/-- A Maquette area of a target as R341 judges it: FILE_SEQ and STEP, when it passes row 2. -/
def areaOk (s : State) (n : Nat) (b : Bytes) : Option (Nat × Nat) :=
  match checkMaq (maqKey s n) b with
  | .ok m => some (m.fileSeq, m.step)
  | _ => none

def imgMaq (i : StepImage) : Bytes := match i.maquette with | some b => b | none => []

/-- Step a Maquette names, whatever else it holds. -/
def maqStep (b : Bytes) : Nat := if b.take 8 = ascii "BRUICMQ2" then fieldAt b 0x0C 4 else fieldAt b 0x10 6

/-- The slot of a target that holds step `step` (12 R341). -/
def pickArea (s : State) (n step : Nat) (imgs : List StepImage) : Option StepImage :=
  let good := imgs.filterMap (fun i => (areaOk s n (imgMaq i)).map (fun x => (i.slot, x)))
  let cands := imgs.filter (fun i => (imgMaq i).take 8 == ascii "BRUICMQ3" && maqStep (imgMaq i) == step)
  let fresh := cands.filter (fun i =>
    !(good.any (fun g => g.1 != i.slot && g.2.1 > fieldAt (imgMaq i) 0x3C 4 && g.2.2 ≤ step)))
  fresh.foldl (fun (a : Option StepImage) i =>
    match a with
    | none => some i
    | some x => if fieldAt (imgMaq i) 0x3C 4 > fieldAt (imgMaq x) 0x3C 4 then some i else some x) none

/-- The image of a step at the source that OBJ names. -/
def pickImage (s : State) (n step : Nat) (o : Obj) (imgs : List StepImage) : Option StepImage :=
  if o.bruic2 then imgs.find? (fun i => i.maquette.isSome && maqStep (imgMaq i) == step)
  else
    match o.where_ with
    | 2 => pickArea s n step imgs
    | 3 => imgs.find? (fun i => i.maquette.isSome && maqStep (imgMaq i) == step)
    | _ => imgs.find? (fun i => i.slotStep == step && i.slotState != slEmpty)

/-- The header phase over one step (10 R291). -/
def phaseAt (s : State) (n step : Nat) (d : Desc) (o : Obj) (imgs : List StepImage) : Phase :=
  match pickImage s n step o imgs with
  | none => .fail stNoManifest []
  | some i => headerPhase (maqKey s n) (decide (o.where_ ≤ 1)) o.bruic2 d.flags.suspectOk o.target step i

/-- Steps with a Maquette in [lo, hi], newest first (10 R293). -/
def stepsIn (lo hi : Nat) (imgs : List StepImage) : List Nat :=
  let l := (imgs.filter (fun i => i.maquette.isSome)).map (fun i => maqStep (imgMaq i))
  sortBy (fun a b => a > b) ((l.filter (fun x => lo ≤ x && x ≤ hi)).dedup)

/-- The first step of a list whose header phase passes; else the last report. -/
def commonFrom (s : State) (n : Nat) (d : Desc) (o : Obj) (imgs : List StepImage) : List Nat → List (Nat × Nat) → Except (List (Nat × Nat)) Nat
  | [], r => .error r
  | x :: t, _ =>
    match phaseAt s n x d o imgs with
    | .good _ _ => .ok x
    | .fail _ r => commonFrom s n d o imgs t r

/-! ### The plan -/

/-- First byte of the object, or of the reserve slot, that a Maquette's entry names. -/
def entryBase (s : State) (o : Obj) (img : StepImage) (e : MaqEntry) : Place × Nat :=
  match e.loc with
  | 1 => (.store e.target, 4096 * e.location)
  | 2 => (.host, e.location)
  | _ =>
    match o.where_ with
    | 0 => (.fabric, s.get .fjMirrorBaseBase + slotOff s.frames img.slot)
    | 1 => (.remote o.path, slotOff s.frames img.slot)
    | _ => (.host, o.location)

/-- Tensor group of a shard: its header's, or the group field of its identifier (11 R300, R310). -/
def shardGroup (bruic2 : Bool) (id : Nat) (img : ShardImage) : Nat :=
  if bruic2 ∨ img.header.isEmpty then id / 65536 % 65536 else fieldAt img.header 0x1E 2

/-- What a block of the plan must carry, and where it lies. -/
def expectOf (s : State) (o : Obj) (img : StepImage) (m : Maq) (g : SegPlan) (b : BlkPlan) : Expect :=
  let e := m.entries.getD b.entry ⟨0, 0, false, false, 0, 0, 0, 0, []⟩
  let base := entryBase s o img e
  {
    mould := b.mould, shardId := g.shardId, step := g.step, segment := g.segment, block := b.block,
    rawLen := if g.rawLen = 0 then 0 else min 65536 (g.rawLen - 65536 * b.block), fingerprint := b.print, canon := b.canon,
    off := base.2 + b.off, len := b.recLen, place := base.1 }

def expectsOf (s : State) (o : Obj) (img : StepImage) (m : Maq) (segs : List SegPlan) : List Expect :=
  segs.flatMap (fun g => g.blocks.map (expectOf s o img m g))

/-- Raw bytes of segments, where their records say. -/
def rawOfSegs (segs : List SegPlan) : Nat := (segs.map (·.rawLen)).sum

/-- The guarded windows of a tensor group, in order. -/
def windowsOf (s : State) (g : Nat) : List (Nat × Nat) :=
  ((List.range 64).filter (fun i => (s.window i).2 != 0 && s.getI .grdWinAttrGroup i == g)).map s.window

/-- A plan: blocks, raw bytes when they are known, and the windows each shard goes to. -/
structure SrcPlan where
  expects : List Expect
  raw : Option Nat
  ranges : List (Nat × Nat)
  deriving DecidableEq, Repr

/-- Main shards of a Maquette, with their images. -/
def mainShards (m : Maq) (img : StepImage) : List (MaqEntry × ShardImage) := (m.entries.zip img.shards).filter (fun p => !p.1.divergence)

/-- The plan of a passed header phase: every shard into its windows, or the shard that OBJ names (13 R355 WINDOWS). -/
def planOf (s : State) (d : Desc) (o : Obj) (img : StepImage) (m : Maq) (segs : List SegPlan) : Except Nat SrcPlan :=
  let raw := fun (l : List SegPlan) => if o.bruic2 then none else some (rawOfSegs l)
  if d.flags.windows then
    let shards := mainShards m img
    let parts := shards.map (fun p => (segs.filter (fun g => g.shardId == p.1.shardId), windowsOf s (shardGroup o.bruic2 p.1.shardId p.2)))
    let l := d.latCfg (s.get .latStatLanes)
    let bad := !o.bruic2 && parts.any (fun p => latLen l (pointLen d.pnt (rawOfSegs p.1)) != (p.2.map (·.2)).sum)
    if bad then .error stLengthMismatch
    else .ok { expects := parts.flatMap (fun p => expectsOf s o img m p.1), raw := raw segs, ranges := parts.flatMap (·.2) }
  else
    let mine := segs.filter (fun g => g.shardId == o.shardId)
    if mine.isEmpty then .error stCheckFail
    else .ok { expects := expectsOf s o img m mine, raw := raw mine, ranges := [] }

/-! ### Shards without a Maquette, and broken Moulds (04 R139, 05 R170) -/

/-- A SWAP_IN or a CHAIN may name one shard in host memory by its own address. -/
def bareShard (o : Obj) (img : StepImage) : Option (MaqEntry × ShardImage) :=
  match img.maquette, img.shards, o.where_ with
  | none, [x], 3 =>
    some (⟨o.shardId, x.segs.length, false, false, 2, o.location, 0, 0, sha256 x.header⟩, x)
  | _, _, _ => none

def Maq.bare (e : MaqEntry) (step : Nat) : Maq :=
  {
    suspect := false, file := false, step := step, pkg := 0, inst := 0, keySlot := 0, hmac := false, group := 0, rank := 0, size := 1,
    armTick := 0, mode := 0, lanes := 0, fwVersion := 0, fileSeq := 0, nonfinite := 0, divBlocks := 0, armDigest := [], entries := [e] }

/-- Segments of a shard up to the first whose Mould is invalid (05 R170). -/
def segsUntil (frame : Bool) (entry shard : Nat) : List (SegImage × Nat) → List SegPlan
  | [] => []
  | (g, i) :: t =>
    match checkSeg frame entry shard i g with
    | .ok p => p :: segsUntil frame entry shard t
    | .error _ => []

/-- Stands for the segment whose Mould is invalid: the stream stops there. -/
def badMould : Expect := ⟨none, 0, 0, 0, 0, 0, none, false, 0, 0, .fabric⟩

/-- The plan of a shard whose Mould is invalid somewhere: the segments before that one, and the place where the stream stops. -/
def brokenPlan (s : State) (o : Obj) (img : StepImage) (m : Maq) (frame : Bool) (k base : Nat) (x : ShardImage) : SrcPlan :=
  let segs := segsUntil frame k base x.segs.zipIdx
  { expects := expectsOf s o img m segs ++ (if segs.length < x.segs.length then [badMould] else []), raw := none, ranges := [] }

/-- The source of a SWAP_IN or a CHAIN that names a shard. A broken Mould stops the stream where its segment begins. -/
def swapPlan (s : State) (n : Nat) (d : Desc) (o : Obj) (imgs : List StepImage) : Except (Nat × List (Nat × Nat)) SrcPlan :=
  match imgs.findSome? (bareShard o) with
  | some (e, x) =>
    (match checkShard o.bruic2 d.step 0 e x with
     | .error row =>
       (match decide (rowStatus row = stMouldInvalid), imgs with
        | true, img :: _ => .ok (brokenPlan s o img (Maq.bare e d.step) false 0 (fieldAt x.header 0x20 8) x)
        | _, _ => .error (rowStatus row, []))
     | .ok (segs, none) =>
       (match imgs with
        | img :: _ => (match planOf s d o img (Maq.bare e d.step) segs with | .ok p => .ok p | .error st => .error (st, []))
        | [] => .error (stNoManifest, []))
     | .ok (_, some st) => .error (stMixedStep, [(e.shardId, st)]))
  | none =>
    match pickImage s n d.step o imgs with
    | none => .error (stNoManifest, [])
    | some img =>
      match phaseAt s n d.step d o imgs with
      | .good m segs => (match planOf s d o img m segs with | .ok p => .ok p | .error st => .error (st, []))
      | .fail st r =>
        if st ≠ stMouldInvalid then .error (st, r)
        else
          match checkMaq (maqKey s n) (imgMaq img) with
          | .ok m =>
            (match (m.entries.zip img.shards).zipIdx.find? (fun p => p.1.1.shardId == o.shardId) with
             | some ((e, x), k) =>
               let base := if e.loc = 0 then e.shardId else fieldAt x.header 0x20 8
               .ok (brokenPlan s o img m (e.loc == 0) k base x)
             | none => .error (stCheckFail, []))
          | _ => .error (stManifestInvalid, [])

end Sys2Proof.Machine
end

