-- ==== Sys2Proof/Machine/Jobs.lean ====
section
/-! DEFINITION. Jobs: how one begins, what it does whenever something it waits for has come, and how it ends (04 R125 to R145; 10 R287, R292;
13 R366, R367; 14 R390). -/
namespace Sys2Proof.Machine

/-! ### Where a shard destination lies -/

/-- The slot that a file-store write uses: the one after the Maquette with the highest FILE_SEQ (12 R340). -/
def fileSlot (s : State) (t : Nat) : Nat :=
  match (s.tgt t).slots.foldl (fun (a : Option TgtSlot) x =>
    match a with | none => some x | some y => if x.seq > y.seq then some x else some y) none with
  | none => 0
  | some x => (x.slot + 1) % max 1 (s.getI .xptTgtCfgSlots t)

/-- First byte of step slot k of a target, as a byte address of its namespace (12 R339). -/
def slotByte (s : State) (t k : Nat) : Nat := 4096 * (s.getI .xptTgtBaseLba t + k * s.getI .xptTgtSlotLbas t)

/-- The end that OBJ names as a destination (log entries 44, 45). -/
def objEnd (s : State) (o : Obj) : DstEnd :=
  match o.where_ with
  | 0 => .frames .fabric (s.get .fjMirrorBaseBase + slotOff s.frames (targetSlot s))
  | 1 => .frames (.remote o.path) (slotOff s.frames (targetSlot s))
  | 2 => .object (.store o.target) (slotByte s o.target (fileSlot s o.target) + 16 * 4096)
  | _ => .object .host o.location

/-- Why a far end cannot be used now (12 R346). -/
def farBar (s : State) (o : Obj) : Option Nat :=
  match o.where_ with
  | 1 => if s.pathUp o.path then none else some stXptQpDown
  | 2 =>
    if s.getI .xptTgtCfgTcp o.target = 1 ∧ ¬ s.flag .xptCfgTcpEn then some stTcpUnavailable
    else if ¬ tgtReady s o.target then some stNvmeConnect else none
  | _ => none

/-! ### A new job -/

def streamInp (t : Stream) : Inp := ⟨.stream t, t.total, [], [], 0⟩

/-- A run of bytes as a stream. -/
def runOf (start len : Nat) (host : Bool) : Stream := ⟨start, len, [], host⟩

/-- The scale and record streams of the lattice, for `ne` elements (08 R225, R237): in the memory of the source outbound, in fabric memory
inbound. -/
def scaleInps (d : Desc) (l : LatCfg) (ne : Nat) : List Inp :=
  let host := !d.inbound && d.src.any (fun t => t.host)
  let n := scaleInBytes l ne
  match d.lat with
  | some f => if n = 0 then [] else (List.range (latSources l)).map (fun k => streamInp (runOf (f.scaleAddr + k * n) n host))
  | none => []

def recordInps (d : Desc) (l : LatCfg) (ne : Nat) : List Inp :=
  let host := !d.inbound && d.src.any (fun t => t.host)
  match d.lat with
  | some f =>
    if l.scaleSrc = 1 ∧ (l.outFmt = 4 ∨ l.outFmt = 5) then [streamInp (runOf f.scaleAddr (32 * (ne / l.rowLen)) host)] else []
  | none => []

def Extent.ofExpect (e : Expect) : Extent := ⟨e.place, e.off, e.len⟩

def mainInp (d : Desc) (plan : Option SrcPlan) : Inp :=
  match d.src, plan with
  | some t, _ => streamInp t
  | none, some p => ⟨.extents (p.expects.map Extent.ofExpect), (p.expects.map (·.len)).sum, [], [], 0⟩
  | none, none => ⟨.extents [], 0, [], [], 0⟩

def Desc.dstEnds (s : State) (d : Desc) (plan : Option SrcPlan) : List DstEnd :=
  if d.opcode = opDigest ∨ d.opcode = opDigestFinal then []
  else
    match d.dst, d.obj with
    | some t, _ => if d.outRecs then [.records t] else (d.dstStreams.map (fun x => DstEnd.stream x))
    | none, some o => if d.opcode = opRestore then [.ranges ((plan.map (·.ranges)).getD [])] else [objEnd s o]
    | none, none => []

/-- The job of an entry, as admission left it (02 R64). -/
def newJob (s : State) (e : Entry) (d : Desc) (plan : Option SrcPlan) : Job :=
  let g := (s.findGroup e.gid).getD (Group.fresh 0 0 0 0)
  let l := d.latCfg (s.get .latStatLanes)
  let ne := fun (c : LatCfg) => match plan with
    | some p => if d.toWindows then (p.ranges.map (·.2)).sum * 8 / elemBits c.outFmt else d.elems s c
    | none => d.elems s c
  let aux := (d.auxStreams l (match l with | some c => ne c | none => 0)).map streamInp
  let sc := match l with | some c => scaleInps d c (ne c) | none => []
  let rc := match l with | some c => recordInps d c (ne c) | none => []
  let tn := match d.obj, d.outRecs with
    | some o, true => [streamInp (runOf o.tensorAddr (128 * o.tensorCount) false)]
    | _, _ => []
  let ends := d.dstEnds s plan
  let dstLen := if d.opcode = opDigest ∨ loads d.opcode then 0 else if d.inbound then (match d.dst, plan with
    | some t, _ => t.total
    | none, some p => (p.ranges.map (·.2)).sum
    | none, none => 0) else d.rawOut s
  let o := d.obj.getD ⟨0, false, false, 0, 0, 0, 0, 0, 0, 0, 0, 0⟩
  let objs := ends.zipIdx.filterMap (fun p => match p.1 with
    | .object _ a => some (ObjW.mk p.2 a o.shardId (o.shardId / 65536 % 65536) (dataOffset o.tensorCount) [] 0 true 0)
    | _ => none)
  {
    uid := e.uid, ctx := e.ctx, desc := d, opcode := d.opcode, inbound := d.inbound, promised := g.promised,
    coded := !d.flags.codeOff, sealOn := d.seals g.mode, verify := d.verifies g.mode, keySlot := d.keySlot, format := d.format, step := d.step,
    shardId := o.shardId, inps := mainInp d plan :: aux ++ sc ++ rc ++ tn, scaleInp := 1 + aux.length,
    recInp := if rc.isEmpty then none else some (1 + aux.length + sc.length), lat := l, pnt := d.pnt,
    table := (if d.pnt.passThrough ∨ d.pnt.table = 15 then none else (s.table e.ctx d.pnt.table).map (·.table)), vl := s.vl e.ctx,
    srcLen := if loads d.opcode then 0 else d.raw s, dstLen := dstLen, dsts := ends, raw := [], recs := [], expects := (match plan with | some p => p.expects | none => []),
    ended := false, srcCut := none, starts := [], nextBlk := 0, segIdx := 0, segBase := 0, rawBase := 0, dead := [], recOff := 0, blks := [], doneBytes := 0, doneBlks := 0,
    firstCtr := none, lastCtr := 0, latRows := 0, latScales := 0, latNonfin := 0, latOvf := 0, latSat := 0, latElems := 0, stop := none,
    faultAddr := 0, saveId := 0, priSent := false,
    snoop := (match d.xform with | some x => if d.streams ∧ x.snoopEn then some (x.snoopHandle, x.snoopRecord) else none | none => none),
    feed := [], fedTo := 0, printed := 0, prints := [], limit := none, progress := if d.opcode = opSwapIn ∧ d.flags.progress then some d.arg else none,
    cached := d.opcode == opSwapIn && (match d.src, d.obj with
      | some t, _ => t.host && d.flags.cache
      | none, some x => x.where_ == 2 || (x.where_ == 3 && d.flags.cache)
      | none, none => false),
    fan := d.fan, objs := objs, shards := [], tensors := none, tensorInp := if tn.isEmpty then none else some (1 + aux.length + sc.length + rc.length),
    bruic2 := o.bruic2, cont := d.flags.cont, joined := !d.flags.cont || d.inbound, after := none, rolled := false, issued := false }

/-- An object's first bytes wait for the zeros that retire its slot (12 R340). -/
def State.zeroSlots (s : State) (j : Job) : State :=
  (List.range j.dsts.length).foldl (fun a d =>
    match j.dsts.getD d .none with
    | .object (.store t) b => a.nvmeWrite t j.uid (.segment d segZero) (b - 16 * 4096) (zeros 4096) true j.promised
    | _ => a) s

/-! ### CONT (04 R138, 05 R177) -/

/-- The CHAIN whose open segment a CONT descriptor continues. -/
def contBefore (s : State) (e : Entry) : Option Job :=
  match (s.earlier e).getLast? with
  | some x =>
    if x.gid = e.gid ∧ x.desc.opcode = opChain ∧ e.desc.opcode = opChain then (s.findJob x.uid).filter (fun j => j.stop.isNone && !j.inbound)
    else none
  | none => none

/-- Once the CHAIN before it has staged its last block, a CONT descriptor takes over the open segment when the format is the same, and a
new segment begins when it is not (05 R177). With nothing to continue it starts as any other does. -/
def State.joinCont (s : State) (uid : Nat) : State :=
  s.onJob uid (fun j s =>
    if j.joined then s else
    match (s.findEntry uid).bind (contBefore s) with
    | none => (s.zeroSlots j).modJob uid (fun j => { j with joined := true })
    | some p =>
      if p.nextBlk ≠ p.blocks ∨ ¬ p.joined then s else
      let h := s.half s.fillA
      let open_ := h.st == .fill && !h.closed && h.job == p.uid
      let same := open_ && h.format == j.segFormat && h.coded == j.codes
      let s1 := if open_ && !same then s.closeFill false else s
      let p1 := (s1.findJob p.uid).getD p
      let s2 := s1.modJob uid (fun j =>
        { j with
          joined := true, after := (if p1.objs.isEmpty ∧ p1.after.isNone then none else some p.uid), segIdx := p1.segIdx, segBase := p1.segBase,
          rawBase := p1.rawBase + p1.dstLen })
      let s3 := if p1.objs.isEmpty ∧ p1.after.isNone then s2.zeroSlots j
        else s2.modJob uid (fun j => { j with tensors := p1.tensorTable, tensorInp := none })
      if same then s3.setHalf s3.fillA { s3.half s3.fillA with job := uid } else s3)

/-- A half holds a segment of a job. -/
def State.halfOfJob (s : State) (uid : Nat) : Bool :=
  (s.halfA.st != .free && s.halfA.job == uid && !s.halfA.finished) || (s.halfB.st != .free && s.halfB.job == uid && !s.halfB.finished)

/-- The shard object passes on once the job before has written its own segments; a job that has gone leaves none. -/
def State.takeObjs (s : State) (uid : Nat) : State :=
  s.onJob uid (fun j s =>
    match j.after with
    | none => s
    | some q =>
      match s.findJob q with
      | none => (s.zeroSlots j).modJob uid (fun j => { j with after := none, segBase := j.segIdx, rawBase := 0 })
      | some p =>
        if p.after.isSome ∨ s.halfOfJob q then s
        else
          (s.modJob uid (fun j => { j with after := none, objs := p.objs, shards := p.shards })).modJob q (fun j => { j with objs := [], shards := [] }))

/-! ### Acknowledgements -/

/-- Bytes and blocks acknowledged in stream order; the progress count goes out after each block (04 R140). -/
def countFuel : Nat → Job → Nat → Nat
  | 0, _, b => b
  | fuel + 1, j, b =>
    match j.blks.find? (fun o => o.idx == b) with
    | some o => if blkDone j o then countFuel fuel j (b + 1) else b
    | none => b

def State.countDone (s : State) (uid : Nat) : State :=
  s.onJob uid (fun j s =>
    let n := countFuel (j.blks.length + 1) j j.doneBlks
    if n ≤ j.doneBlks then s
    else
      let s1 := s.modJob uid (fun j => { j with doneBlks := n, doneBytes := min j.dstLen (65536 * n) })
      let s2 : State := match j.progress with
        | some a => (List.range (n - j.doneBlks)).foldl (fun t k => t.fabWrite uid .side a (natLe 8 (j.doneBlks + k + 1)) j.promised) s1
        | none => s1
      s2.onJob uid (fun j s =>
        let done := (j.pinsAt.filter (fun (p : McKey × Nat) => j.outLen p.2 ≤ j.doneBytes)).map (·.1)
        (s.cacheUnpin uid (fun k => done.contains k)).modJob uid (fun j => { j with pinsAt := j.pinsAt.filter (fun p => !done.contains p.1) })))

/-- Ask for the read-back of a sealed block at a destination (06 R197). -/
def State.readBack (s : State) (uid d b : Nat) : State :=
  s.onJob uid (fun j s =>
    match j.blks.find? (fun o => o.idx == b) with
    | none => s
    | some o =>
      if ¬ j.verify ∨ ¬ j.sealOn ∨ o.record.isEmpty then s
      else
        let n := o.record.length
        let a := lookupD o.at_ d 0
        let fab := fun (st : State) (off addr len : Nat) => st.fabReadAll uid (fun o => .verify d b (off + o)) addr len j.promised
        match j.dsts.getD d .none with
        | .records t =>
          ((t.slice a n).foldl (fun (x : State × Nat) (ad, m) =>
            ((if t.host then x.1.hostReadAt uid (fun o => .verify d b o) j.ctx x.2 ad m j.promised else fab x.1 x.2 ad m), x.2 + m)) (s, 0)).1
        | .frames .fabric _ => fab s 0 a n
        | .frames (.remote p) _ =>
          let q := s.pathQp p o.seg
          s.remoteRead q uid (.verify d b 0) (s.getI .xptQpRkeyKey q) a n j.promised
        | .frames .host _ => s.hostReadAt uid (fun o => .verify d b o) j.ctx 0 a n j.promised
        | .object .host _ => s.hostReadAt uid (fun o => .verify d b o) j.ctx 0 a n j.promised
        | .object (.store t) _ =>
          let a0 := a / 4096 * 4096
          s.offerOp ⟨.nvmeRead, uid, .verify d b 0, t, 0, a0, roundUp (a + n - a0) 4096, [], false, j.promised⟩
        | _ => s)

/-- A piece of a block, or a whole segment of an object, has been acknowledged. -/
def State.ackUse (s : State) (job : Nat) (u : XUse) : State :=
  match u with
  | .block d b =>
    if pieceLeft s job d b then s
    else
      let s1 := s.modJob job (fun j =>
        { j with blks := replaceFirst (fun o => o.idx == b) (fun (o : OutBlk) => { o with acked := if o.acked.contains d then o.acked else o.acked ++ [d] }) j.blks })
      (s1.readBack job d b).countDone job
  | .segment d n =>
    if usePending s job (fun x => x == .segment d n) then s
    else
      match s.findJob job with
      | none => s
      | some j =>
        if ¬ inSegment j d ∨ n ≥ segDir then s
        else
          let h := if s.halfA.st = .drain ∧ s.halfA.job = job ∧ s.halfA.seg = n then s.halfA else s.halfB
          let hit := fun (k : Job) (o : OutBlk) => h.blocks.any (fun b => b.job == k.uid && b.idx == o.idx)
          let s1 : State := { s with jobs := s.jobs.map (fun (k : Job) => { k with blks := k.blks.map (fun (o : OutBlk) =>
            if hit k o ∧ ¬ o.acked.contains d then { o with acked := o.acked ++ [d] } else o) }) }
          h.blocks.foldl (fun a b => (a.readBack b.job d b.idx).countDone b.job) s1
  | _ => s

/-! ### The end of a job -/

/-- Output bytes up to the last row whose record was written (08 R243); up to the last whose output was, where the lattice has left service
(R223). -/
def rowBytes (j : Job) : Nat :=
  match j.lat with
  | some l =>
    let rows := if j.latGone then 8 * j.doneBytes / max 1 (l.rowLen * elemBits l.outFmt) else j.latRows
    bytesOfElems l.outFmt (rows * l.rowLen)
  | none => j.doneBytes

/-- An RDMA or page-fault stop is reported with what it carries; others with DETAIL (13 R366, R367). -/
def jobResult (j : Job) : Result :=
  let n := match j.limit with | some m => min j.doneBytes (min j.dstLen (65536 * m)) | none => j.doneBytes
  let bytes := if j.opcode = opDigest ∨ (loads j.opcode ∧ j.stop.isNone) then j.main.length else n
  let base : Result := { Result.ok with bytesDone := bytes, step := j.step, ctrs := (j.firstCtr.map (fun c => (c, j.lastCtr))) }
  match j.stop with
  | none => base
  | some (st, detail) => { base with status := st, detail := detail, bytesDone := if st = stLatticeReshaped then rowBytes j else bytes }

/-! ### Loads (05 R175, 09 R254 to R259) -/

/-- A running job of the context has taken a block of the Mould that an entry of the store holds (log entry 132). -/
def storeInUse (s : State) (ctx k : Nat) : Bool :=
  match s.store.find? (fun x => x.ctx == ctx && x.entry == k) with
  | some x => s.jobs.any (fun j => j.ctx == ctx && j.tags.contains x.mould.tag)
  | none => false

/-- A load waits while a running job of the context uses its place (05 R175, 09 R256). -/
def loadWaits (s : State) (j : Job) : Bool :=
  if j.opcode = opMouldLoad then storeInUse s j.ctx (j.desc.arg % 8) else tableInUse s j.ctx (j.desc.arg % 8)

/-- Everything a job must wait for has come. -/
def jobQuiet (s : State) (j : Job) : Bool :=
  !usePending s j.uid (fun u => match u with | .input _ _ => j.stop.isSome | _ => true) && !s.pipes.any (fun p => p.job == j.uid && p.back) &&
  j.feed.isEmpty && !(j.inbound && s.printing.any (fun p => p.job == j.uid))

/-- Blocks that stand below a failure have been written. -/
def blocksSettled (s : State) (j : Job) : Bool :=
  decide (j.ready ≤ j.nextBlk ∨ (j.inbound ∧ ¬ mayWrite s j)) && j.blks.all (fun o => blkDone j o || (match j.limit with | some m => decide (m ≤ o.idx) | none => false)) &&
  (j.inbound || decide (j.blks.length ≥ (match j.limit with | some m => min m j.nextBlk | none => j.nextBlk)))

def jobDone (s : State) (j : Job) : Bool :=
  if ¬ jobQuiet s j then false
  else
    match j.stop with
    | some _ => blocksSettled s j && !(j.recs.any (fun r => r.stage != .decoded))
    | none =>
      if j.opcode = opDigest then decide (j.main.length = (j.inp 0).total)
      else if loads j.opcode then decide (j.main.length = (j.inp 0).total) && !loadWaits s j
      else if j.opcode = opDigestFinal then j.issued
      else
        decide (j.nextBlk = j.blocks) && decide (j.doneBlks = j.blocks) && (!j.inbound || j.ended) &&
        (if contFollows s j.uid then j.objs.isEmpty else j.objs.all (fun o => o.tail == 4))

/-- The rollback point (10 R287): what is written before the completion posts. -/
def State.rollback (s : State) (j : Job) : State :=
  let st := j.step
  let old := (List.range 2).filter (fun k => (s.slotOf k).state != slEmpty && (s.slotOf k).step > st)
  let s1 := old.foldl (fun a k => a.writeDesc k slAbandoned (a.slotOf k).step) s
  let own := (List.range 2).find? (fun k => (s1.slotOf k).step == st && ((s1.slotOf k).state == slGood || (s1.slotOf k).state == slLocal || (s1.slotOf k).state == slSuspect))
  let s2 := match own with
    | some k => (s1.set .fjCkptStatGoodSlot k).set .fjCkptGoodStepStep st
    | none => s1.set .fjCkptGoodStepStep noStep
  let s3 := (List.range 16).foldl (fun a t =>
    if tgtReady a t then
      let bad := (a.tgt t).slots.filter (fun x => x.step > st)
      let a1 := bad.foldl (fun b x => b.nvmeWrite t j.uid .side (slotByte a t x.slot) (zeros 4096) true true) a
      a1.putTgt { a1.tgt t with slots := (a1.tgt t).slots.filter (fun x => x.step ≤ st) }
    else a) s2
  let left := (List.range 16).flatMap (fun t => if tgtReady s3 t then ((s3.tgt t).slots.filter (fun x => x.good)).map (·.step) else [])
  let s4 := s3.set .fjCkptFileStepStep (match left with | [] => noStep | a :: r => r.foldl max a)
  { s4 with ckpt := { s4.ckpt with lastArm := some (st, s4.now) } }.modJob j.uid (fun j => { j with rolled := true })

/-- The parts of the state that a job held are released. -/
def State.releaseJob (s : State) (j : Job) : State :=
  let s1 : State := { s with jobs := s.jobs.filter (fun k => k.uid != j.uid), yielded := s.yielded.filter (· != j.uid) }
  let s2 := if j.opcode = opDigestFinal ∧ j.stop.isNone then s1.closeHandle j.ctx ((j.desc.dig.map (·.handle)).getD 0) else s1
  let s3 := s2.cacheUnpin j.uid (fun _ => true)
  let s4 : State := { s3 with printing := s3.printing.filter (fun p => p.job != j.uid || !j.inbound) }
  (s4.settleTables).settleErases

/-- An object whose segments from the first block that does not stand on are written again. -/
def ObjW.rewind (o : ObjW) (j : Job) (n : Nat) : ObjW :=
  match (j.blks.find? (fun b => b.idx == n)).map (fun b => lookupD b.at_ o.dst 0) with
  | some a =>
    let dir := o.dir.filter (fun x => x < a - o.base)
    if a = 0 ∨ dir.isEmpty then { o with tail := 0 }
    else { o with off := dir.getLast?.getD o.off, dir := dir.dropLast, raw := j.rawBase + 65536 * n, tail := 0 }
  | none => { o with tail := 0 }

/-- A page fault's saved record (04 R142, R143): the job as it will go on. `hint` caps the rows and scales that stand. -/
def Job.toSave (hint j : Job) : Job :=
  let n := match j.limit with | some m => min j.doneBlks m | none => j.doneBlks
  let recOff := if j.inbound then (match j.recs with | r :: _ => r.off | [] => j.recOff)
    else (match j.blks.find? (fun o => o.idx == n) with | some o => lookupD o.at_ 0 j.recOff | none => j.recOff)
  let nextRec := match j.recs with | r :: _ => r.idx | [] => j.segIdx
  let cut := fun (k : Nat) (i : Inp) =>
    let d := if k = 0 ∧ j.inbound ∧ j.desc.inRecs then i.data.take recOff else i.data
    ({ i with data := d, early := [], nextReq := d.length } : Inp)
  let printed := ((List.range j.printed).takeWhile (fun b => j.prints.any (fun p => p.1 == b))).length
  { j with
    stop := none, limit := none, srcCut := none, nextBlk := n, doneBlks := n, doneBytes := min j.dstLen (65536 * n),
    blks := j.blks.filter (fun o => o.idx < n), recs := [], recOff := recOff, segIdx := if j.inbound then nextRec else j.segIdx,
    inps := j.inps.zipIdx.map (fun p => cut p.2 p.1), feed := [], ended := false, issued := false, priSent := false, hits := [],
    pinsAt := [],
    objs := j.objs.map (fun o => o.rewind j n), shards := [], after := none, latRows := min j.latRows hint.latRows, latScales := min j.latScales hint.latScales,
    printed := printed, prints := j.prints.filter (fun p => p.1 < printed) }

/-- BYTES_DONE of a page fault: of a plain stream of records, where the first record begins that does not stand (04 R142). -/
def savedRestart (x : Saved) (j : Job) : Nat :=
  if x.job.srcCut.isSome ∧ j.desc.inRecs ∧ j.expects.isEmpty then (x.job.toSave j).recOff else x.restart

def State.endJob (s : State) (j : Job) : State :=
  match s.findEntry j.uid with
  | none => s.releaseJob j
  | some e =>
    let faulted := match j.stop with | some (st, _) => st == stPageFaultResumable | none => false
    let r := jobResult j
    let sv := (s.savedRec j.ctx j.saveId).map (fun x => ({ x with job := x.job.toSave j, restart := savedRestart x j } : Saved))
    let r1 : Result := if faulted then
        { r with fault := some (j.faultAddr, j.saveId, j.priSent), bytesDone := (match sv with | some x => x.restart | none => r.bytesDone) } else r
    let r2 : Result := match j.stop with | some (st, _) => if st = stPageFault ∨ st = stSaveFull then { r1 with fault := some (j.faultAddr, 0, j.priSent) } else r1 | none => r1
    let s1 : State := if faulted then
        { s with saved := s.saved.map (fun (x : Saved) => if x.ctx = j.ctx ∧ x.id = j.saveId then sv.getD x else x) }
      else if e.desc.opcode = opResume then s.freeSaved j.ctx (e.desc.arg % 16) else s
    (s1.releaseJob j).endEntry j.uid r2

/-- What a load has read passes R167 and enters the context's store, or passes R255 and enters its slot, or the load fails. -/
def State.endLoad (s : State) (j : Job) : State :=
  let fail := fun (a : State) (st : Nat) => a.endJob { j with stop := some (st, 0) }
  if j.opcode = opMouldLoad then
    match parseMould j.main with
    | some m =>
      let k := j.desc.arg % 8
      ({ s with store := upsert (fun x => x.ctx == j.ctx && x.entry == k) ⟨j.ctx, k, m⟩ s.store }).endJob j
    | none => fail ((((s.set .cdrFailInfoStatus stMouldInvalid).set .cdrFailInfoCtx j.ctx).set .cdrFailInfoCheck 0).bump .cdrCheckFailsCount 1) stMouldInvalid
  else
    match parsePerm (s.vl j.ctx) j.main with
    | .table t => (s.installTable j.ctx (j.desc.arg % 8) t).endJob j
    | .range => fail (s.bump .pntRangeRefusalsCount 1) stPermRange
    | .malformed => fail s stMalformed

/-- End a job when nothing is left to wait for. -/
def State.settleJob (s : State) (uid : Nat) : State :=
  s.onJob uid (fun j s =>
    if isSnapJob s uid ∨ ¬ jobDone s j then s
    else if j.opcode = opRestore ∧ j.desc.flags.rollback ∧ j.stop.isNone ∧ ¬ j.rolled then s.rollback j
    else if loads j.opcode ∧ j.stop.isNone then s.endLoad j
    else s.endJob j)

/-! ### One pass over a job -/

/-- A tensor table that fails its check (11 R303). -/
def State.tensorCheck (s : State) (uid : Nat) : State :=
  s.onJob uid (fun j s =>
    match j.tensorInp, j.tensorTable with
    | some _, some t =>
      if j.stop.isNone ∧ ¬ tensorTableOk t (if contFollows s uid then 2 ^ 43 else j.dstLen) then s.failJob uid stMalformed (j.desc.secOff 2 + 0x20) (some 0) else s
    | _, _ => s)

/-- The table is checked before a block of the job is staged. -/
def tensorsReady (j : Job) : Bool := j.tensorInp.isNone || j.tensorTable.isSome

/-- Everything of an entry that moves data is on its way (14 R390). -/
def State.noteIssued (s : State) (uid : Nat) : State :=
  s.onJob uid (fun j s =>
    let waiting := s.pendWr.any (fun w => w.job == uid) || s.pendOps.any (fun w => w.job == uid) || s.pendHost.any (fun w => w.job == uid)
    if j.opcode ≠ opDigest ∧ j.opcode ≠ opDigestFinal ∧ j.nextBlk = j.blocks ∧ (j.inbound ∨ j.blks.length = j.blocks) ∧ ¬ waiting ∧ j.feed.isEmpty ∧
        (¬ j.inbound ∨ j.ended) then
      s.modJob uid (fun j => { j with issued := true })
    else s)

/-- The final of a handle, when its state is in a slot (07 R216, R217). -/
def State.pumpFinal (s : State) (uid : Nat) : State :=
  s.onJob uid (fun j s =>
    match j.desc.dig with
    | some g =>
      if j.opcode ≠ opDigestFinal ∨ j.issued ∨ j.stop.isSome then s else
      (match s.handle j.ctx g.handle with
       | some x =>
         if x.invalid then s.failJob uid stDigestInvalid 0 none
         else if ¬ x.live then s
         else if finalOk x g.msgLen j.desc.inline then
           (s.memWrite j .side g.resultHost g.resultAddr (x.result j.desc.inline)).modJob uid (fun j => { j with issued := true })
         else
           ((s.putHandle { x with invalid := true }).bump .digLenFailsCount 1).failJob uid stLengthMismatch 0 none
       | none => s.failJob uid stDigestInvalid 0 none)
    | none => s)

/-- A job goes as far as it can in its turn; `tile` says that a tile boundary has come. -/
def State.pumpJob (s : State) (tile : Bool) (uid : Nat) (turn : Tier) : State :=
  match s.findJob uid with
  | none => s
  | some j =>
    let s1 := if j.inbound then s.inboundPass uid turn else s
    let s2 := ((s1.fetchHits uid turn).askAll uid turn).tensorCheck uid
    let s3 := (printFuel uid 300 s2).feedRaw uid
    let s4 := if j.inbound then s3.inboundPass uid turn
      else (s3.joinCont uid).onJob uid (fun j s => if tensorsReady j then stageFuel uid turn 300 (s.latticeSides uid) else s)
    let s5 := (((s4.takeObjs uid).drainHalf true).drainHalf false).pumpFeed uid tile
    let s6 := (s5.pumpFinal uid).onJob uid (fun j s =>
      if j.nextBlk = j.blocks ∧ j.doneBlks = j.blocks ∧ j.stop.isNone ∧ ¬ contFollows s uid then (List.range j.dsts.length).foldl (fun a d => (a.objTail uid d).objTail uid d) s
      else s)
    ((s6.countDone uid).noteIssued uid).settleJob uid

/-- A context's turn at bubble capacity (02 R79). -/
def State.bubbleTurn (s : State) (tile : Bool) (bubble : List Job) (c : Nat) : State :=
  let s1 := s.topUp c
  let mine := s1.served false (bubble.filter (fun j => j.ctx == c))
  (mine.foldl (fun a u => a.pumpJob tile u .bubble) s1).rotate c (s1.deficit c)

/-- Let every job go as far as it can, in the order of R78; a finished half or job lets others on. Bubble work enters at tile boundaries
alone (04 R146). -/
def pumpRound (s : State) (tile : Bool) : State :=
  let runs := s.jobs.filter (fun j => !s.parked.any (fun p => p.1 == j.ctx))
  let firm := runs.filter (fun j => j.promised)
  let bubble := runs.filter (fun j => !j.promised)
  let s1 := (s.served false firm).foldl (fun a u => a.pumpJob tile u .reserved) s
  let s2 := (s1.served true firm).foldl (fun a u => a.pumpJob tile u .surplus) s1
  let s3 :=
    if tile then
      let t := s2.roundOf (bubble.map (·.ctx))
      (t.tick.turns.map (·.1)).foldl (fun a c => a.bubbleTurn tile bubble c) t
    else (s2.served false bubble).foldl (fun a u => a.pumpJob tile u .hold) s2
  s3.freeHalves

def pumpFuel : Nat → Bool → State → State
  | 0, _, s => s
  | fuel + 1, tile, s => let t := pumpRound s tile; if t = s then s else pumpFuel fuel tile t

def State.pumpAt (s : State) (tile : Bool) : State := pumpFuel 3 tile (((s.drainPend).drainOps).drainHost).placePrints

def State.pump (s : State) : State := s.pumpAt false

/-- A job has just been added. A ninth inbound stream waits for landing buffers, a parked context for its
completion (02 R86, 04 R136). -/
def State.launch (s : State) (uid : Nat) : State :=
  let active := s.jobs.filter (fun j => j.inbound && !s.yielded.contains j.uid)
  let full := active.length > 8 && active.any (fun j => j.uid == uid)
  let t : State := if full then { s with yielded := s.yielded ++ [uid] } else s
  if t.parked.any (fun p => t.jobs.any (fun j => j.uid == uid && j.ctx == p.1)) then t else t.pump

/-! ### Starting (13 R356) -/

/-- What keeps an entry's job from moving any data: its far end, its key in replay, a closed handle. R215 names DIGEST and DIGEST_FINAL alone
for an INVALID handle: a snoop attachment to one, without SNOOP_INIT, ends likewise (DESIGN CHOICE, log entry 139). A RESUME goes on
feeding its handle and opens none. -/
def startBar (s : State) (e : Entry) (d : Desc) : Option Nat :=
  let far := match d.obj with | some o => farBar s o | none => none
  let replay := (d.seals (((s.findGroup e.gid).map (·.mode)).getD s.mode) || d.opcode == opOpen) && replayKeyBad s d.keySlot
  let closed := match entryFeed s e with
    | some (h, _) =>
      let init := match d.dig with | some _ => d.opcode == opDigest && d.flags.init | none => (match d.xform with | some x => x.snoopInit | none => false)
      !(init && e.desc.opcode != opResume) && (match s.handle e.ctx h with | some x => x.invalid | none => true)
    | none => false
  if replay then some stReplayKey else if closed then some stDigestInvalid else far

/-- INIT and SNOOP_INIT open the handle (07 R211 to R213). -/
def State.initHandle (s : State) (e : Entry) (d : Desc) : State :=
  match d.dig with
  | some g => if d.opcode = opDigest ∧ d.flags.init then s.openHandle e.ctx g.handle g.alg ((s.key g.keySlot).key.getD []) else s
  | none =>
    match d.xform with
    | some x => if d.streams ∧ x.snoopEn ∧ x.snoopInit then s.openHandle e.ctx x.snoopHandle x.snoopAlg ((s.key x.keySlot).key.getD []) else s
    | none => s

/-- End an entry whose job moves nothing. -/
def State.endWith (s : State) (e : Entry) (st : Nat) : State := s.endEntry e.uid { Result.of st with step := e.desc.step }

/-- A SWAP descriptor closes the segment that its ring's CHAIN holds open (04 R132). -/
def State.swapFlag (s : State) (e : Entry) : State :=
  let h := s.half s.fillA
  if e.desc.flags.swap ∧ h.st = .fill ∧ (s.earlier e).any (fun x => x.uid == h.job) then s.closeFill false else s

/-- Start the job of an entry with a plan, when it has one. -/
def State.startJob (s : State) (e : Entry) (d : Desc) (plan : Option SrcPlan) : State :=
  match startBar s e d with
  | some st => s.endWith e st
  | none =>
    let s1 := (s.initHandle e d).swapFlag e
    let j := newJob s1 e d plan
    let j1 := { j with objs := j.objs.map (fun o => { o with fp := j.keepsDensity }) }
    let s2 : State := { s1 with jobs := s1.jobs ++ [j1] }
    (if j1.joined then s2.zeroSlots j1 else s2).launch e.uid

/-- A failure with a report of offending shards (10 R292). -/
def State.reportAndEnd (s : State) (e : Entry) (d : Desc) (o : Obj) (st : Nat) (rep : List (Nat × Nat)) : State :=
  let l := rep.take o.reportMax
  if l.isEmpty then s.endWith e st
  else
    let j := { newJob s e d none with stop := some (st, l.length), limit := some 0, dstLen := 0, ended := true, inps := [], dsts := [], objs := [], tensorInp := none, inbound := false, cached := false, snoop := none, sealOn := false }
    let s1 : State := { s with jobs := s.jobs ++ [j] }
    let b := l.flatMap (fun r => natLe 8 r.1 ++ natLe 6 r.2 ++ zeros 2)
    (s1.fabWrite e.uid .side o.reportAddr b j.promised).pump

/-- What the header phase of a RESTORE still checks, now that the segment records give the stream's length (08 R230, R231; 09 R249). -/
def headerBar (s : State) (ctx : Nat) (d : Desc) (p : SrcPlan) : Option Nat :=
  let short := match p.raw with
    | some n => !d.pnt.passThrough && unpackedLen d.pnt.unpack n % s.vl ctx != 0
    | none => false
  let wins := p.ranges.map (fun r => Stream.mk r.1 r.2 [] false)
  if short then some stMalformed
  else if d.toWindows then (latFits s d (p.ranges.map (·.2)).sum wins).map (·.1)
  else none

/-- RESTORE (10 R291 to R293). -/
def State.startRestore (s : State) (e : Entry) (d : Desc) (o : Obj) (imgs : List StepImage) : State :=
  match startBar s e d with
  | some st => s.endWith e st
  | none =>
    if d.flags.common then
      let t := s.initHandle e d
      match commonFrom t e.ctx d o imgs (stepsIn o.step d.step imgs) [] with
      | .ok x => t.endEntry e.uid { Result.ok with step := x }
      | .error r => t.reportAndEnd e d o stMixedStep r
    else
      match phaseAt s e.ctx d.step d o imgs, pickImage s e.ctx d.step o imgs with
      | .fail st r, _ => (if st = stMouldInvalid then (s.bump .cdrCheckFailsCount 1).set .cdrFailInfoStatus st |>.set .cdrFailInfoCtx e.ctx |>.set .cdrFailInfoCheck 0 else s).reportAndEnd e d o st r
      | .good m segs, some img =>
        (match planOf s d o img m segs with
         | .ok p =>
           let bad := match p.raw, d.dst with
             | some n, some t => latLen (d.latCfg (s.get .latStatLanes)) (pointLen d.pnt n) != t.total
             | _, _ => false
           match headerBar s e.ctx d p with
           | some st => s.endWith e st
           | none => if bad then s.endWith e stLengthMismatch else s.startJob e d (some p)
         | .error st => s.endWith e st)
      | .good _ _, none => s.endWith e stNoManifest

/-- SWAP_IN and CHAIN from a shard. -/
def State.startSwap (s : State) (e : Entry) (d : Desc) (imgs : List StepImage) : State :=
  match d.obj with
  | none => s.startJob e d none
  | some o =>
    match farBar s o with
    | some st => s.endWith e st
    | none =>
      match swapPlan s e.ctx d o imgs with
      | .ok p => s.startJob e d (some p)
      | .error (st, _) => s.endWith e st

end Sys2Proof.Machine
end

