-- ==== Sys2Proof/Machine/JobCmd.lean ====
section
/-! DEFINITION. The commands that start an entry's work by its opcode (13 R356; 04 R121 to R144; 05 R175; 07 R211 to R217; 08; 09 R254 to
R259; 10 R274, R291 to R296). -/
namespace Sys2Proof.Machine

/-- Start an entry whose job may feed a digest handle: it takes its turn on the handle (07 R212). -/
def startFeeder (name : String) (ctx ring op : Nat) (v1 : Bool) (s : State) (body : Entry → State → State) :
    Host.Outcome State Fault Refusal :=
  match s.frontReady ctx ring with
  | some e => if feedTurn s e then startEntry name ctx ring op v1 s body else notDue name
  | none => notDue name

/-- The entry's own streams make its job. -/
def State.startPlain (s : State) (e : Entry) : State := s.startJob e e.desc none

/-- The far end is a shard, or a stream. -/
def State.startFrom (s : State) (e : Entry) (imgs : List StepImage) : State := s.startSwap e e.desc imgs

def State.startRestoreOf (s : State) (e : Entry) (imgs : List StepImage) : State :=
  match e.desc.obj with
  | some o => s.startRestore e e.desc o imgs
  | none => s.endWith e stMalformed

/-- A SNAP waits for the snapshot that satisfies it (10 R274). -/
def State.startSnap (s : State) (e : Entry) : State :=
  { s with ckpt := { s.ckpt with snaps := s.ckpt.snaps ++ [(e.uid, e.desc.flags.file, e.desc.flags.host)] } }

/-! ### RESUME (04 R144; 08 R243; 09 R250) -/

/-- The lattice has a row open whose statistics depend on the lane count (08 R243). -/
def rowOpen (j : Job) (lanes : Nat) : Bool :=
  match j.lat with
  | some l => l.stats && l.lanes != lanes && (j.latOut l).elems % l.rowLen != 0
  | none => false

/-- A job goes on under another lane count: no row is open, or no statistics depend on it. -/
def Job.withLanes (j : Job) (lanes : Nat) : Job := { j with lat := j.lat.map (fun l => { l with lanes := lanes }) }

def State.startResume (s : State) (e : Entry) : State :=
  match s.savedRec e.ctx (e.desc.arg % 16) with
  | none => s.endWith e stMalformed
  | some r =>
    let free : State := s.freeSaved e.ctx r.id
    let base : Result := { Result.ok with bytesDone := r.restart, step := r.job.step }
    if ¬ tableKept s e.ctx r.job then free.endEntry e.uid { base with status := stPermRange }
    else if rowOpen r.job (s.get .latStatLanes) then
      ((free.up .latStatReshaped).bump .latReshapedJobsCount 1).endEntry e.uid { base with status := stLatticeReshaped, bytesDone := rowBytes r.job }
    else
      match startBar s e r.desc with
      | some st => free.endEntry e.uid { base with status := st }
      | none =>
        let g := (s.findGroup e.gid).getD (Group.fresh 0 0 0 0)
        let j := { r.job.withLanes (s.get .latStatLanes) with uid := e.uid, promised := g.promised }
        let s1 : State := { s with jobs := s.jobs ++ [j] }
        (s1.loadLattice j (1 + r.id)).launch e.uid

/-! ### The commands -/

def execCopy (ctx ring : Nat) (s : State) : Host.Outcome State Fault Refusal :=
  startFeeder "COPY" ctx ring opCopy false s (fun e t => t.startPlain e)

def execSnap (ctx ring : Nat) (s : State) : Host.Outcome State Fault Refusal :=
  startEntry "SNAP" ctx ring opSnap false s (fun e t => t.startSnap e)

def execRestore (ctx ring : Nat) (img : List StepImage) (s : State) : Host.Outcome State Fault Refusal :=
  startFeeder "RESTORE" ctx ring opRestore false s (fun e t => t.startRestoreOf e img)

def execSwapIn (ctx ring : Nat) (img : List StepImage) (s : State) : Host.Outcome State Fault Refusal :=
  startFeeder "SWAP_IN" ctx ring opSwapIn false s (fun e t => t.startFrom e img)

/-- A CHAIN from a shard runs the inbound path, any other the outbound (04 R137). -/
def execChain (ctx ring : Nat) (img : List StepImage) (s : State) : Host.Outcome State Fault Refusal :=
  startFeeder "CHAIN" ctx ring opChain false s (fun e t => if e.desc.inbound then t.startFrom e img else t.startPlain e)

def execSealJob (ctx ring : Nat) (s : State) : Host.Outcome State Fault Refusal :=
  startFeeder "SEAL" ctx ring opSeal false s (fun e t => t.startPlain e)

def execOpenJob (ctx ring : Nat) (s : State) : Host.Outcome State Fault Refusal :=
  startFeeder "OPEN" ctx ring opOpen false s (fun e t => t.startPlain e)

def execDigest (ctx ring : Nat) (s : State) : Host.Outcome State Fault Refusal :=
  startFeeder "DIGEST" ctx ring opDigest false s (fun e t => t.startPlain e)

def execDigestFinal (ctx ring : Nat) (s : State) : Host.Outcome State Fault Refusal :=
  startFeeder "DIGEST_FINAL" ctx ring opDigestFinal false s (fun e t => t.startPlain e)

/-- A load reads its Mould at the port of its memory; what has come is stored when the read ends (05 R175). The
operand `data` says nothing to it: the bytes are those of the read's responses (log entry 49). -/
def execMouldLoad (ctx ring : Nat) (_data : Bytes) (s : State) : Host.Outcome State Fault Refusal :=
  startEntry "MOULD_LOAD" ctx ring opMouldLoad false s (fun e t => t.startPlain e)

/-- A table is read and stored likewise (09 R254), and takes nothing from its operand `data` (log entry 49). -/
def execPermLoad (ctx ring : Nat) (_data : Bytes) (s : State) : Host.Outcome State Fault Refusal :=
  startEntry "PERM_LOAD" ctx ring opPermLoad false s (fun e t => t.startPlain e)

def execLattice (ctx ring : Nat) (s : State) : Host.Outcome State Fault Refusal :=
  startFeeder "LATTICE" ctx ring opLattice false s (fun e t => t.startPlain e)

def execResume (ctx ring : Nat) (s : State) : Host.Outcome State Fault Refusal :=
  startFeeder "RESUME" ctx ring opResume false s (fun e t => t.startResume e)

def execV1Copy (ctx ring : Nat) (s : State) : Host.Outcome State Fault Refusal :=
  startEntry "V1_COPY" ctx ring opCopy true s (fun e t => t.startPlain e)

def execV1Snap (ctx ring : Nat) (s : State) : Host.Outcome State Fault Refusal :=
  startEntry "V1_SNAP" ctx ring opSnap true s (fun e t => t.startSnap e)

def execV1Restore (ctx ring : Nat) (img : List StepImage) (s : State) : Host.Outcome State Fault Refusal :=
  startEntry "V1_RESTORE" ctx ring opRestore true s (fun e t => t.startRestoreOf e img)

def execV1Seal (ctx ring : Nat) (s : State) : Host.Outcome State Fault Refusal :=
  startEntry "V1_SEAL" ctx ring opSeal true s (fun e t => t.startPlain e)

def execV1Open (ctx ring : Nat) (s : State) : Host.Outcome State Fault Refusal :=
  startEntry "V1_OPEN" ctx ring opOpen true s (fun e t => t.startPlain e)

end Sys2Proof.Machine
end

