-- ==== Sys2Proof/Machine/Snap.lean ====
section
/-! DEFINITION. Snapshots (03 R97 to R118; 07 R204 to R208; 08 R244; 10 R265 to R286, R295; 11 R307, R310; 12 R339 to R341): arming, the
copy's granules, comparison among replicas, and the commit. -/
namespace Sys2Proof.Machine

def rank (s : State) : Nat := s.get .fjReplicaRankRank
def isWriter (s : State) : Bool := rank s == 0

/-! ### Fingerprint sets (07 R205 to R208) -/

/-- The lowest n free records from `at_` on, as runs, beside the used runs in rising order; none when fewer than n are free. -/
def freeRecords (cap : Nat) : List (Nat × Nat) → Nat → Nat → Option (List (Nat × Nat))
  | [], at_, n => if n = 0 then some [] else if at_ + n ≤ cap then some [(at_, n)] else none
  | (a, k) :: t, at_, n =>
    let g := min n (a - at_)
    (freeRecords cap t (max at_ (a + k)) (n - g)).map (fun l => if g = 0 then l else (at_, g) :: l)

/-- Table index of record i of a set. -/
def recordIn : List (Nat × Nat) → Nat → Nat
  | [], _ => 0
  | (a, k) :: t, i => if i < k then a + i else recordIn t (i - k)

def FptSet.recordAt (p : FptSet) (i : Nat) : Nat := recordIn p.runs i

/-- Allocate a set of n records for a source's step, after its other sets but the latest good one (07 R207, R208). -/
def State.allocSet (s : State) (source step n good : Nat) : State :=
  let s1 := s.dropSets (fun p => p.source == source && p.step != good)
  match freeRecords (s1.get .digFptEntriesEntries) (sortBy (fun a b => a.1 < b.1) (s1.prints.flatMap (fun p => p.runs))) 0 n with
  | some l =>
    let s2 : State := { s1 with prints := s1.prints ++ [{ source := source, runs := l, step := step, records := n, full := false, prints := [], good := false }] }
    let used := s2.prints.foldl (fun (a : Nat) (p : FptSet) => a + p.records) 0
    (s2.set .digFptUsedUsed used).peak .digFptPeakPeak used
  | none =>
    let s2 : State := { s1 with prints := s1.prints ++ [{ source := source, runs := [], step := step, records := 0, full := true, prints := [], good := false }] }
    (s2.up .digStatFptFull).bump .digFptFailsCount 1

/-- A record of the table (07 R205); `flags` is VALID and PEER, `inst` SOURCE. -/
def fptRecord (digest : Bytes) (step shardId seg blk flags inst rawLen : Nat) : Bytes :=
  sliceZ digest 0 32 ++ natLe 6 step ++ zeros 2 ++ natLe 8 shardId ++ natLe 4 (seg % 2 ^ 20) ++ natLe 1 blk ++ natLe 1 flags ++
    natLe 1 inst ++ zeros 1 ++ natLe 4 rawLen ++ zeros 4

/-! ### The snapshot's jobs (03 R114, 10 R265, R310) -/

/-- Shard of a tensor group in a snapshot. -/
def snapShard (s : State) (g : Nat) : Nat := s.get .fjReplicaGroupGroup * 2 ^ 32 + g * 2 ^ 16

def snapDesc (step : Nat) : Desc :=
  {
    opcode := opSnap, slots := 1, flags := Flags.zero, step := step, deadline := 0, tag := 0, arg := 0, src := none, dst := none, obj := none,
    fan := [], xform := none, dig := none, lat := none, avg := none, inline := [], v1 := false }

/-- Destinations of a window's job: LOCAL, MIRROR, FILE, HOST. -/
def snapDsts (s : State) (slot target : Nat) (file host : Bool) : List DstEnd :=
  let off := slotOff s.frames slot
  [.frames .fabric (s.get .fjMirrorBaseBase + off), .frames (.remote (buddyQp s)) off] ++
  (if file then [.object (.store target) 0] else []) ++ (if host then [.frames .host (s.get .fjCkptHostBaseBase + 0x10000)] else [])

/-- The job of one window. A member of rank above 0 sends nothing to MIRROR or FILE as its blocks come (10 R276). -/
def snapJob (s : State) (uid step slot target : Nat) (file host : Bool) (i size frame shardFrame shardRaw : Nat) : Job :=
  let g := s.getI .grdWinAttrGroup i
  let t := tensorOf s g
  let pnt := match t with | some x => x.1 | none => ⟨0, 0, 0, 15, false, 0⟩
  let seals := modeSeals s.mode
  {
    uid := uid, ctx := 0, desc := snapDesc step, opcode := opSnap, inbound := false, promised := false, coded := true, sealOn := seals, verify := seals,
    keySlot := s.get .fjCkptCfgKeySlot, format := s.getI .grdWinAttrFormat i, step := step, shardId := snapShard s g,
    inps := [⟨.extents [], size, [], [], 0⟩], scaleInp := 1, recInp := none, lat := none, pnt := pnt,
    table := (if pnt.passThrough ∨ pnt.table = 15 then none else (s.table 0 pnt.table).map (·.table)), vl := s.vl 0, srcLen := size,
    dstLen := pointLen pnt size, dsts := snapDsts s slot target file host, raw := [], recs := [], expects := [], ended := false, srcCut := none, starts := [], nextBlk := 0,
    segIdx := frame, segBase := shardFrame, rawBase := shardRaw, dead := if isWriter s then [] else (if file then [1, 2] else [1]), recOff := 0, blks := [],
    doneBytes := 0, doneBlks := 0, firstCtr := none, lastCtr := 0, latRows := 0, latScales := 0, latNonfin := 0, latOvf := 0, latSat := 0,
    latElems := 0, stop := none, faultAddr := 0, saveId := 0, priSent := false, snoop := none, feed := [], fedTo := 0, printed := 0, prints := [],
    limit := none, progress := none, cached := false, fan := [], objs := [], shards := [],
    tensors := some (match t with | some x => x.2 | none => []), tensorInp := none, bruic2 := false, cont := false, rolled := false, issued := false }

/-- Jobs of the windows in order, each beginning a new segment; windows of one tensor group are one shard (10 R267, 12 R339). -/
def snapJobsFuel (s : State) (step slot target : Nat) (file host : Bool) : List (Nat × Nat × Nat) → Nat → Nat → Option (Nat × Nat × Nat) → List Job
  | [], _, _, _ => []
  | (i, _, n) :: t, uid, frame, prev =>
    let g := s.getI .grdWinAttrGroup i
    let (sf, sr) := match prev with | some (h, f, r) => if h = g then (f, r) else (frame, 0) | none => (frame, 0)
    let j := snapJob s uid step slot target file host i n frame sf sr
    j :: snapJobsFuel s step slot target file host t (uid + 1) (frame + ceilDiv n 0x800000) (some (g, sf, sr + j.dstLen))

/-- Segments of a job. -/
def segsOfJob (j : Job) : List SnapSeg :=
  (List.range (ceilDiv j.blocks 128)).map (fun k =>
    {
      seg := j.segIdx + k, shardId := j.shardId, blocks := min 128 (j.blocks - 128 * k), job := j.uid, first := 128 * k, copied := none, batch := none,
      settled := false, sent := [], div := [], kept := none })

/-- The file store's target: the lowest-numbered one in use (log entry 46). -/
def fileTarget (s : State) : Nat := ((List.range 16).find? (fun t => tgtUsed s t)).getD 0

/-- The arm point (03 R99, R114; 07 R207; 08 R246; 10 R269 to R271). -/
def State.armSnap (s : State) (step : Nat) : State :=
  let file := wantsFile s step
  let host := wantsHost s
  let slot := targetSlot s
  let t := fileTarget s
  let g := s.guard
  let old := g.gen
  let g1 : Guard :=
    { (g.stale old) with
      armed := true, gen := 1 - old, rescueQ := [], rescues := g.rescues.filter (fun r => r.dead), pool := [], spill := [], copyNext := 0, copyReads := [],
      copyOn := false, taken := [], detour := none }
  let s1 := ((((({ s with guard := g1 }).guardRegs).down .grdStatSnapPending).set .latSnapStepStep step).set .latSnapNonfiniteCount 0).down .latSnapFirstValid
    |>.set .latSnapFirstGranule 0
  let s2 := s1.allocSet 0 step (snapBlocks s) (s.get .fjCkptGoodStepStep)
  let full := s2.prints.any (fun p => p.source == 0 && p.step == step && p.full)
  let jobs := snapJobsFuel s2 step slot t file host (winList s2) (s2.uid + 1) 0 none
  let jobs1 := match jobs with
    | j :: r =>
      if file ∧ isWriter s then
        { j with objs := [ObjW.mk 2 (slotByte s t (fileSlot s t) + 16 * 4096) j.shardId (s.getI .grdWinAttrGroup (match winList s with | w :: _ => w.1 | [] => 0))
            (dataOffset (tensorCountOf (j.tensors.getD []))) [] 0 true 0] } :: r
      else jobs
    | [] => []
  let jobs2 := jobs1.map (fun (j : Job) => { j with objs := j.objs.map (fun (o : ObjW) => { o with fp := j.keepsDensity }) })
  let gid := s2.uid
  let grp : Group :=
    { Group.fresh gid 0 0 step with
      stage := .closed, count := 1, lastFetch := s.now, closeTick := s.now, deadline := s.get .grdSnapDeadlineTicks, snapshot := true }
  let buddy := buddyUp s
  let x : Snap :=
    {
      step := step, tick := s.now, mode := s.mode, lanes := s.get .latStatLanes, gid := gid, jobs := jobs.map (·.uid), file := file, host := host,
      snaps := s.ckpt.snaps.map (·.1), slot := slot, phase := .copying, segs := jobs.flatMap segsOfJob, reads := [], nonfinite := 0, divBlocks := 0,
      fptFull := full, noticeSuspect := false, notice := isWriter s, noticeFile := isWriter s, twoTick := none,
      mirror := if buddy then .open_ else .failed stXptQpDown,
      fileSt := if ¬ file then .off else if tgtReady s t then .open_ else .failed stNvmeConnect, hostSt := if host then .open_ else .off,
      fileAt := 0, hostAt := 0, target := t, fileSlot := fileSlot s t, sparse := false, shards := [] }
  let s3 : State :=
    { s2 with
      uid := s2.uid + 1 + jobs.length, jobs := s2.jobs ++ jobs2, groups := s2.groups ++ [grp],
      ckpt := { s2.ckpt with snap := some x, snaps := [], lastArm := some (step, s.now) } }
  let s4 := s3.writeHead.writeDesc slot slWriting step
  let s5 := if file then s4.down .fjCkptStatWarnPending else s4
  let s6 := if buddy then s5 else s5.snapDestFail gid 1 stXptQpDown
  if ¬ file then s6
  else if ¬ tgtReady s t then s6.snapDestFail gid 2 stNvmeConnect
  else s6.nvmeWrite t (jobs.head?.map (·.uid) |>.getD gid) (.segment 2 segZero) (slotByte s t (fileSlot s t)) (zeros 4096) true false

/-! ### STEP_END (03 R97, R98, R538, R539) -/

/-- A group that may write inside a guarded window is admitted and not complete (03 R105). -/
def windowWriter (s : State) : Bool := s.groups.any (fun g => g.stage == .admitted && g.writesWindow)

/-- Answer a STEP_END. -/
def State.answerArm (s : State) (code lat : Nat) : State :=
  let t := ((s.set .grdArmInfoResult code).set .grdArmInfoLat lat).send (.snapArmed code)
  { t with tick := { t.tick with owedTo := s.now * s.get .tickPeriodPeriod + s.tick.ofs + lat * s.divisor } }

/-- BUSY or UNAVAILABLE: the trigger stays pending, and is counted (03 R98). -/
def State.armLater (s : State) (code lat : Nat) (due : Bool) : State :=
  let s1 := if due then (s.bump .grdSkippedCount 1).up .grdStatSnapPending else s
  (if code = 3 then s1.up .grdStatUnavailable else s1).answerArm code lat

/-- Hold-up has begun and its save has not ended. -/
def State.saving (s : State) : Bool := match s.holdup with | some h => !h.halted | none => false

/-- The decision of R538, and the arming where it answers ARMED; `cut` says that a reset or the start of hold-up falls between cy 7 and the
arm point (R539). -/
def State.stepEnded (s : State) (step : Nat) (cut : Bool) : State :=
  let s0 := (s.set .grdArmStepStep step).set .tickStepStep step
  let due := snapDue s0 step
  let s1 := if due then s0.logFirmware 1 else s0
  if step = noStep ∨ s.holdingUp ∨ s.flag .patStatOutOfService then s1.armLater 3 8 due
  else if ¬ due then s1.answerArm 0 8
  else if heldBack s1 then
    ((s1.bump .fjCkptHeldCount 1).set .fjCkptStatFloorWait (b2n (floorHolds s1))).answerArm 0 8
  else if s.guard.armed ∨ windowWriter s then s1.armLater 2 8 true
  else if ¬ (s.guard.clean0 ∧ s.guard.clean1) then s1.armLater 3 8 true
  else if cut then (let t := s1.armLater 3 57 true; { t with ckpt := { t.ckpt with cut := true } })
  else (((s1.down .fjCkptStatFloorWait).wake).armSnap step).answerArm 1 57

/-- A STEP_END is answered: in BOOT once the windows are loaded, in ACTIVE and in IDLE (15 R410), and while the save of a hold-up runs
(03 R97, R117, R538: UNAVAILABLE). At the halt and in every other state no answer can be given (15 R410; log entry 125). -/
def owesStep (s : State) : Bool := s.saving || ((s.eng == 2 || s.eng == 3 || (s.eng == 1 && s.boot.stage != .checks)) && s.holdup.isNone)

/-! ### Granules (03 R107, R109, R112, R113, R116; 08 R244) -/

/-- Non-finite elements of a granule of a window (08 R244). -/
def granNonfinite (fmt : Nat) (d : Bytes) : Nat := if fmt = 0 then 0 else ((elemsOf fmt d).filter (patternNonfinite fmt)).length

/-- The window of a granule, and its byte offset there. -/
def granPlace : List (Nat × Nat × Nat) → Nat → Option (Nat × Nat)
  | [], _ => none
  | (i, _, n) :: t, g => if g < n / 4096 then some (i, g * 4096) else granPlace t (g - n / 4096)

/-- A granule joins its window's job, is classified, and its segment's copy may end. -/
def State.takeGranule (s : State) (gran : Nat) (d : Bytes) : State :=
  match s.ckpt.snap, granPlace (winList s) gran with
  | some x, some (i, off) =>
    let k := ((winList s).takeWhile (fun w => w.1 != i)).length
    let uid := x.jobs.getD k 0
    let n := granNonfinite (s.getI .grdWinAttrFormat i) d
    let s1 := s.landInput uid 0 off d
    let s2 := if n = 0 then s1 else
      let a := s1.bump .latSnapNonfiniteCount n
      if a.flag .latSnapFirstValid then a else (a.set .latSnapFirstGranule gran).up .latSnapFirstValid
    let seg := s.segOfGran gran
    let p := s.snapSegs.getD seg (0, 0)
    let done := (List.range p.2).all (fun q => s.guard.taken.contains (p.1 + q) || p.1 + q == gran)
    s2.modSnap x.gid (fun x =>
      { x with
        nonfinite := x.nonfinite + n,
        segs := if done then x.segs.map (fun (g : SnapSeg) => if g.seg = seg then { g with copied := some s.now } else g) else x.segs })
  | _, _ => s

/-- The copy takes a granule: its bit is set, its slot freed; with the last one the guard disarms (03 R116). -/
def State.copyTake (s : State) (gran : Nat) (d : Bytes) (now : GuardClock) : State :=
  let g := s.guard
  let g1 : Guard :=
    { g.mark gran with
      copyReads := g.copyReads.filter (· != gran), copyTags := g.copyTags.filter (fun c => c.1 != gran || c.2.2),
      pool := g.pool.filter (fun p => p.gran != gran), spill := g.spill.filter (fun p => p.gran != gran),
      taken := gran :: g.taken, rescueQ := g.rescueQ.filter (· != gran) }
  let s1 := s.takeGranule gran d
  let all := g1.taken.length ≥ s.granTotal
  if all then
    let s2 := ({ s1 with guard := g1 }).guardRegs
    let g2 : Guard := { g1 with armed := false, copyOn := false, taken := [], copyNext := 0, detour := none }
    (((({ s2 with guard := g2 }).up .fjCkptStatCommitPending).releaseHeld now).guardRegs)
  else
    let nxt := if g1.detour.isNone ∧ gran = g1.copyNext then gran + 1 else g1.copyNext
    ((({ s1 with guard := { g1 with copyNext := nxt } }).releaseHeld now).spillTurn).copyIssue

/-! ### Batches and notices (10 R276, R280) -/

/-- The queue pair to NEXT, when it is used. -/
def nextQp (s : State) : Option Nat := if s.flag .fjTopoQpNextV then some (s.get .fjTopoQpNext) else none

def batchBytes (step shardId seg : Nat) (entries : List BatchEntry) (flags : Nat) : Bytes :=
  natLe 6 step ++ zeros 2 ++ natLe 8 shardId ++ natLe 4 seg ++ natLe 1 entries.length ++ natLe 1 flags ++ zeros 10 ++
    entries.flatMap (fun e => sliceZ e.digest 0 32 ++ natLe 4 e.rawLen ++ zeros 4)

def parseBatch (b : Bytes) : Batch :=
  let n := fieldAt b 0x14 1
  let fl := fieldAt b 0x15 1
  {
    step := fieldAt b 0 6, shardId := fieldAt b 8 8, segment := fieldAt b 0x10 4,
    entries := (List.range n).map (fun i => ⟨slice b (0x20 + 40 * i) 32, fieldAt b (0x40 + 40 * i) 4⟩),
    last := bitOf fl 0, commit := bitOf fl 1, suspect := bitOf fl 2, file := bitOf fl 3 }

/-- A SEND to NEXT. It outlives the snapshot it speaks of, and its failure fails no destination (10 R280, R283). -/
def State.sendNext (s : State) (b : Bytes) : State :=
  match nextQp s with
  | some q => if s.rts q then s.remoteSend q 0 (.commit 1) b else s
  | none => s

/-- Own fingerprint of position p of a segment. -/
def segPrint (s : State) (g : SnapSeg) (p : Nat) : Option Bytes :=
  match s.findJob g.job with
  | some j => (j.prints.find? (fun q => q.1 == g.first + p)).map (·.2)
  | none => none

def segRaw (s : State) (g : SnapSeg) (p : Nat) : Nat := match s.findJob g.job with | some j => min 65536 (j.srcLen - 65536 * (g.first + p)) | none => 0

def segPrinted (s : State) (g : SnapSeg) : Bool := (List.range g.blocks).all (fun p => (segPrint s g p).isSome)

/-- Segment number in its shard. -/
def segNumber (s : State) (g : SnapSeg) : Nat := match s.findJob g.job with | some j => g.seg - j.segBase | none => g.seg

def State.modSeg (s : State) (x : Snap) (seg : Nat) (f : SnapSeg → SnapSeg) : State :=
  s.modSnap x.gid (fun x => { x with segs := x.segs.map (fun (g : SnapSeg) => if g.seg = seg then f g else g) })

/-- The writer's batch of a segment whose fingerprints are complete; a set that was refused records sends none (07 R208). -/
def State.sendBatch (s : State) (x : Snap) (g : SnapSeg) : State :=
  let es := (List.range g.blocks).map (fun p => BatchEntry.mk ((segPrint s g p).getD []) (segRaw s g p))
  let last := x.segs.all (fun h => h.settled || h.seg == g.seg)
  let s1 := if x.fptFull then s else s.sendNext (batchBytes x.step g.shardId (segNumber s g) es (b2n last))
  s1.modSeg x g.seg (fun g => { g with settled := true })

/-- A divergence record (10 R279). It overwrites one that the driver has not acknowledged when all 1,024 in the ring are such. -/
def State.divRecord (s : State) (x : Snap) (g : SnapSeg) (p : Nat) (own wr : Bytes) : State :=
  let h := s.get .fjDivHeadHead
  let b := natLe 6 x.step ++ natLe 1 p ++ zeros 1 ++ natLe 8 g.shardId ++ natLe 4 (segNumber s g) ++ natLe 2 (rank s) ++ zeros 2 ++
    sliceZ own 0 4 ++ sliceZ wr 0 4
  let s1 := s.fabWrite 0 .side (s.get .fjDivBaseBase + 32 * h) b false
  let n := (h + 1) % 1024
  let s2 := (s1.set .fjDivHeadHead n).up .fjCkptStatDiverged
  let s3 : State := { s2 with ckpt := { s2.ckpt with divFull := s.ckpt.divFull || n == s.get .fjDivHeadAck } }
  if s.ckpt.divFull then s3.up .fjCkptStatDivOvf else s3

/-- Records of a segment that a member sends, packed: offset of position p (log entry 47). -/
def sentOff (h : Half) (sent : List Nat) (p : Nat) : Nat :=
  ((sent.filter (fun q => q < p)).map (fun q => (h.records.getD q ([], false)).1.length)).sum

/-- Ask for the records of the positions that a member sends, from LOCAL (10 R276). -/
def State.askSent (s : State) (g : SnapSeg) : State :=
  match g.kept, s.findJob g.job with
  | some h, some j =>
    g.sent.foldl (fun a p =>
      match j.dsts.getD 0 .none with
      | .frames _ addr =>
        a.fabReadAll j.uid (fun o => .verify 64 (g.first + p) o) (addr + frameOff g.seg + 0x2000 + h.recOff p) (h.records.getD p ([], false)).1.length j.promised
      | _ => a) s
  | _, _ => s

/-- A member compares a segment with the writer's batch (07 R204, 10 R276). While NO_MIRROR is set its buddy holds no copy, so it sends
every block, also those that match (R290, log entry 148). -/
def State.compareSeg (s : State) (x : Snap) (g : SnapSeg) (batch : List BatchEntry) : State :=
  let div := (List.range g.blocks).filter (fun p =>
    match batch[p]? with
    | some e => !(some e.digest == segPrint s g p && e.rawLen == segRaw s g p)
    | none => true)
  let s1 := div.foldl (fun a p => a.divRecord x g p ((segPrint s g p).getD []) ((batch[p]?.map (·.digest)).getD [])) s
  let s2 := (s1.bump .fjDedupBlocksCount (if s.flag .fjCkptStatNoMirror then 0 else g.blocks - div.length)).bump .fjDivBlocksCount div.length
  let sent := if s.flag .fjCkptStatNoMirror then List.range g.blocks else div
  let s3 := (s2.modSeg x g.seg (fun g => { g with settled := true, sent := sent, div := div })).modSnap x.gid (fun x => { x with divBlocks := x.divBlocks + div.length })
  s3.askSent { g with sent := sent }

/-- A segment is sent in full (10 R277). -/
def State.sendFull (s : State) (x : Snap) (g : SnapSeg) (count : Bool) : State :=
  let all := List.range g.blocks
  let s1 := if count then s.bump .fjCkptUnmatchedCount g.blocks else s
  (s1.modSeg x g.seg (fun g => { g with settled := true, sent := all })).askSent { g with sent := all }

/-- A record read back from LOCAL goes to MIRROR (10 R276). -/
def State.sendRecord (s : State) (job b : Nat) (rec : Bytes) : State :=
  match s.allSnaps.find? (fun x => x.jobs.contains job), s.findJob job with
  | some x, some j =>
    match x.segs.find? (fun g => g.job == job && g.first ≤ b && b < g.first + g.blocks), j.dsts.getD 1 .none with
    | some g, .frames p addr =>
      match g.kept with
      | some h =>
        let pos := b - g.first
        let a := addr + frameOff g.seg + 0x2000 + sentOff h g.sent pos
        let s1 := (s.modSnap job (fun x => { x with reads := x.reads ++ [(g.seg, pos, rec)] })).modJob job (fun j =>
          { j with blks := j.blks.map (fun (o : OutBlk) => if o.idx = b then { o with at_ := o.at_ ++ [(1, a)], record := rec } else o) })
        if x.mirror = .open_ then s1.placeWrite j (.block 1 b) p g.seg a rec false else s1
      | none => s
    | _, _ => s
  | _, _ => s

/-- One pass over the segments: batches sent, comparisons made. -/
def State.exchange (s : State) (x : Snap) : State :=
  x.segs.foldl (fun a g =>
    if g.settled ∨ ¬ segPrinted a g then a
    else if isWriter a then a.sendBatch x g
    else if g.kept.isNone then a
    else if x.fptFull then a.sendFull x g false
    else match g.batch with | some b => a.compareSeg x g b | none => a) s

/-! ### SPARSE records and divergence shards (11 R307) -/

/-- Segment record of the positions a member sends. -/
def sparseRec (s : State) (j : Job) (g : SnapSeg) (h : Half) (sent : List Nat) (fp : Bool) : SegRec :=
  {
    coded := h.mould.isSome, sealed := j.sealOn, fp := fp, sparse := sent.length != g.blocks, fpCanon := false, blocks := g.blocks, format := h.format,
    mouldTag := h.tag, step := j.step, mouldLen := (match h.mould with | some m => m.bytes.length | none => 0), shardId := g.shardId,
    segment := segNumber s g, bodyLen := (sent.map (fun q => (h.records.getD q ([], false)).1.length)).sum, rawOffset := j.rawBase + 65536 * g.first,
    rawLen := min (65536 * g.blocks) (j.dstLen - 65536 * g.first) }

def sparseIndex (h : Half) (g : SnapSeg) (sent : List Nat) : Bytes :=
  sliceZ ((List.range g.blocks).flatMap (fun p =>
    if sent.contains p then
      let r := h.records.getD p ([], false)
      indexEntry (sentOff h sent p) (fieldAt r.1 0x24 4) r.2
    else zeros 8)) 0 1024

def mouldBytes (h : Half) : Bytes := match h.mould with | some m => m.bytes | none => []

/-- Shards of a snapshot in order. -/
def snapShards (x : Snap) : List Nat := (x.segs.map (·.shardId)).dedup

def shardSegs (x : Snap) (id : Nat) : List SnapSeg := x.segs.filter (fun g => g.shardId == id)

/-- SPARSE records and index tables into every frame of a shard of which the member sends a block. -/
def State.writeSparse (s : State) (x : Snap) : State :=
  let segs := (snapShards x).flatMap (fun id => if (shardSegs x id).any (fun g => !g.sent.isEmpty) then shardSegs x id else [])
  let s1 := segs.foldl (fun a g =>
    match g.kept, a.findJob g.job with
    | some h, some j =>
      (match j.dsts.getD 1 .none with
       | .frames p addr =>
         let st1 := a.placeWrite j (.segment 1 g.seg) p g.seg (addr + frameOff g.seg) ((sparseRec s j g h g.sent false).bytes ++ mouldBytes h) false
         st1.placeWrite j (.segment 1 g.seg) p g.seg (addr + frameOff g.seg + 0x1000) (sparseIndex h g g.sent) false
       | _ => a)
    | _, _ => a) s
  s1.modSnap x.gid (fun x => { x with sparse := true })

/-- A divergence shard's object, and its Maquette entry: bytes from its first byte on. -/
def divObject (s : State) (x : Snap) (id base : Nat) : Bytes × MaqEntry :=
  let segs := (shardSegs x id).filter (fun g => !g.div.isEmpty)
  let j0 := match segs with | g :: _ => s.findJob g.job | [] => none
  let tens := match j0 with | some j => j.tensors.getD [] | none => []
  let body := segs.foldl (fun (a : Bytes × List Nat) g =>
    match g.kept, s.findJob g.job with
    | some h, some j =>
      let recs := g.div.flatMap (fun p => (match x.reads.find? (fun r => r.1 == g.seg && r.2.1 == p) with | some r => r.2.2 | none => []))
      let front := (sparseRec s j g h g.div j.keepsDensity).bytes ++ mouldBytes h ++ recs
      let prints := (List.range g.blocks).flatMap (fun p => if g.div.contains p then sliceZ ((segPrint s g p).getD []) 0 32 else zeros 32)
      let b := sliceZ front 0 (roundUp front.length 64) ++ sparseIndex h g g.div ++ (if j.keepsDensity then sliceZ prints 0 4096 else [])
      (a.1 ++ sliceZ b 0 (roundUp b.length 4096), a.2 ++ [dataOffset (tensorCountOf tens) + a.1.length])
    | _, _ => a) ([], [])
  let dirOff := dataOffset (tensorCountOf tens) + body.1.length
  let dir := sliceZ (body.2.flatMap (natLe 8)) 0 (roundUp (8 * body.2.length) 4096)
  let h : ShardHdr :=
    {
      divergence := true, sealed := (j0.map (·.sealOn)).getD false, fp := (j0.map (·.keepsDensity)).getD true, shardId := id + rank s, step := x.step,
      group := id / 65536 % 65536, baseShard := id, segments := body.2.length, tensors := tens, dirOffset := dirOff, objLen := dirOff + dir.length,
      rawBytes := (segs.map (fun g => (g.div.map (fun p => segRaw s g p)).sum)).sum, pkg := s.arm.pkg, inst := s.get .fjPosInst,
      keySlot := if (j0.map (·.sealOn)).getD false then s.get .fjCkptCfgKeySlot else 0, rank := rank s,
      sealPrefix := if (j0.map (·.sealOn)).getD false then s.get .sealPrefixPrefix else 0 }
  let hb := sliceZ h.bytes 0 (dataOffset (tensorCountOf tens))
  (hb ++ body.1 ++ dir,
   {
     shardId := id + rank s, segments := body.2.length, fromWriter := false, divergence := true, loc := 1, location := base / 4096,
     nsid := s.getI .xptTgtNsidNsid x.target, target := x.target, hdrDigest := sha256 hb })

/-- Write a member's divergence shards, each at the next free LBA (12 R339), in the order of R309. -/
def divFuel (x : Snap) : List Nat → Nat → State → State
  | [], _, s => s
  | id :: t, base, s =>
    let (b, e) := divObject s x id base
    if base + b.length > slotEnd s x.target x.fileSlot then s.snapDestFail x.gid 2 stTargetFull
    else
      let hn := dataOffset (tensorCountOf (match (shardSegs x id).head? with | some g => (match s.findJob g.job with | some j => j.tensors.getD [] | none => []) | none => []))
      let s1 := s.nvmeWrite x.target x.gid (.commit 8) (base + hn) (b.drop hn) false false
      let s2 := s1.nvmeWrite x.target x.gid (.commit 8) base (b.take hn) false false
      divFuel x t (base + b.length) (s2.modSnap x.gid (fun x => { x with shards := x.shards ++ [e] }))

/-! ### The Maquette (11 R312 to R314) -/

def suspectNow (x : Snap) : Bool := x.nonfinite != 0 || x.divBlocks != 0 || x.noticeSuspect

/-- Shard entries of a reserve slot: frames; a member's name the writer's for what it deduplicated (10 R280, 11 R313; log entry 47). -/
def frameEntries (s : State) (x : Snap) : List MaqEntry :=
  (snapShards x).flatMap (fun id =>
    let segs := shardSegs x id
    let first := (segs.head?.map (·.seg)).getD 0
    let whole := isWriter s || segs.all (fun g => g.sent.length == g.blocks)
    let main : MaqEntry :=
      { shardId := id, segments := segs.length, fromWriter := !whole, divergence := false, loc := 0, location := first, nsid := 0, target := 0, hdrDigest := zeros 32 }
    if whole ∨ segs.all (fun g => g.sent.isEmpty) then [main]
    else [main, { main with shardId := id + rank s, fromWriter := false, divergence := true }])

def snapMaq (s : State) (x : Snap) (file : Bool) (seq : Nat) (entries : List MaqEntry) : Bytes :=
  let seals := modeSeals x.mode
  let m : Maq :=
    {
      suspect := suspectNow x, file := file, step := x.step, pkg := s.arm.pkg, inst := s.get .fjPosInst, keySlot := s.get .fjCkptCfgKeySlot, hmac := seals,
      group := s.get .fjReplicaGroupGroup, rank := rank s, size := s.get .fjReplicaRankSize, armTick := x.tick, mode := x.mode, lanes := x.lanes,
      fwVersion := s.get .fjFwVersionVersion, fileSeq := seq, nonfinite := x.nonfinite, divBlocks := x.divBlocks, armDigest := s.armDigest,
      entries := entries }
  m.bytes (if seals then some ((s.key (s.get .fjCkptCfgKeySlot)).key.getD []) else none)

/-! ### The commit (10 R280 to R284, R295) -/

/-- Nothing of the snapshot's operations with a use is on its way. -/
def snapUse (s : State) (x : Snap) (p : XUse → Bool) : Bool := (x.gid :: x.jobs).any (fun u => usePending s u p)

def commitUse (s : State) (x : Snap) (n : Nat) : Bool := snapUse s x (fun u => u == .commit n)

def useOfDst (d : Nat) (u : XUse) : Bool :=
  match u with | .block a _ => a == d | .segment a _ => a == d | .verify a _ _ => a == d | _ => false

/-- Every block of the snapshot stands at destination d, and nothing for it is on its way. -/
def dstWhole (s : State) (x : Snap) (d : Nat) : Bool :=
  x.jobs.all (fun u =>
    match s.findJob u with
    | none => true
    | some j => j.blks.length == j.blocks && j.blks.all (fun o => o.acked.contains d && (!j.verify || o.verified.contains d))) &&
  !snapUse s x (useOfDst d) && !(x.segs.any (fun g => g.kept.isNone)) && !(s.pipes.any (fun p => x.jobs.contains p.job && p.dst == d))

/-- A member's part of step 2: comparisons done, what it sends durable (10 R280). -/
def memberTwo (s : State) (x : Snap) : Bool :=
  x.segs.all (fun g => g.settled && g.sent.all (fun p =>
    match s.findJob g.job with
    | some j => j.blks.any (fun o => o.idx == g.first + p && o.acked.contains 1 && (!j.verify || o.verified.contains 1))
    | none => true)) &&
  x.sparse && !snapUse s x (fun u => useOfDst 1 u || useOfDst 64 u)

/-- Write the slot's Maquette at both ends (step 3). -/
def State.commitMaq (s : State) (x : Snap) : State :=
  let b := snapMaq s x false 0 (frameEntries s x)
  let off := slotOff s.frames x.slot
  let s1 := (s.putSlot x.slot { s.slotOf x.slot with maqLen := b.length }).fabWrite x.gid (.commit 3) (s.get .fjMirrorBaseBase + off) b false
  let s2 := s1.remoteWrite (buddyQp s) x.gid (.commit 3) (s.getI .xptQpRkeyKey (buddyQp s)) off b false
  s2.modSnap x.gid (fun x => { x with phase := .maquette })

/-- STATE and STEP into the own descriptor. -/
def State.commitDesc (s : State) (x : Snap) (state : Nat) : State :=
  (s.fabWrite x.gid (.commit 4) (s.get .fjMirrorBaseBase + 0x20 + 32 * x.slot) (descBytes s x.slot state x.step) false).putSlot x.slot
    ⟨state, x.step, (s.slotOf x.slot).maqLen⟩

/-- MIRROR has failed before the Maquette was written: a LOCAL slot gets one too, since a rollback to it reads one (10 R282, R285, R291). -/
def State.localMaq (s : State) (x : Snap) (st : Nat) : State :=
  let b := snapMaq s x false 0 (frameEntries s x)
  let s1 := (s.putSlot x.slot { s.slotOf x.slot with maqLen := b.length }).fabWrite x.gid (.commit 3)
    (s.get .fjMirrorBaseBase + slotOff s.frames x.slot) b false
  s1.modSnap x.gid (fun x => { x with phase := .maquette, mirror := .failed st })

/-- MIRROR has failed: LOCAL alone is committed (10 R282). -/
def State.commitLocal (s : State) (x : Snap) (st : Nat) : State :=
  let s1 := (s.snapDestFail x.gid 1 st).snapDestFail x.gid 2 st
  ((s1.up .fjCkptStatNoMirror).commitDesc x slLocal).modSnap x.gid (fun x => { x with phase := .descOwn, mirror := .failed st })

/-- The step has committed at MIRROR: NO_MIRROR falls (R290, log entry 148). -/
def State.committed (s : State) (x : Snap) : State :=
  let bad := suspectNow x
  let s1 := if bad then s.up .fjCkptStatSuspect
    else
      let a := (s.set .fjCkptStatGoodSlot x.slot).set .fjCkptGoodStepStep x.step
      let b : State := { a with prints := a.prints.map (fun (p : FptSet) => if p.source = 0 ∧ p.step = x.step then { p with good := true } else p) }
      b.dropSets (fun p => p.source == 0 && p.step != x.step)
  let s2 := if isWriter s then s1.sendNext (batchBytes x.step 0 0 [] (2 + 4 * b2n bad)) else s1
  (s2.down .fjCkptStatNoMirror).modSnap x.gid (fun x => { x with phase := .finished, mirror := .done })

/-- One pass over the MIRROR commit. -/
def State.mirrorPass (s : State) (x : Snap) : State :=
  match x.phase with
  | .copying =>
    if s.guard.armed ∨ ¬ dstWhole s x 0 then s
    else s.modSnap x.gid (fun x => { x with phase := .mirror })
  | .mirror =>
    (match x.mirror with
     | .failed st => s.localMaq x st
     | _ =>
       let s1 := if ¬ isWriter s ∧ ¬ x.sparse ∧ x.segs.all (fun g => g.settled) ∧ ¬ snapUse s x (useOfDst 64) then s.writeSparse x else s
       let two := if isWriter s then dstWhole s x 1 && x.segs.all (fun g => g.settled) else memberTwo s1 x
       if ¬ two then s1
       else if ¬ x.notice then (if x.twoTick.isSome then s1 else s1.modSnap x.gid (fun x => { x with twoTick := some s.now }))
       else if ¬ buddyUp s1 then s1.localMaq x stXptQpDown
       else s1.commitMaq x)
  | .maquette =>
    (match x.mirror with
     | .failed st => if commitUse s x 3 then s else s.commitLocal x st
     | _ =>
       if commitUse s x 3 then s
       else (s.commitDesc x (if suspectNow x then slSuspect else slGood)).modSnap x.gid (fun x => { x with phase := .descOwn }))
  | .descOwn =>
    if commitUse s x 4 then s
    else
      (match x.mirror with
       | .failed _ => s.modSnap x.gid (fun x => { x with phase := .finished })
       | _ =>
         if ¬ buddyUp s then s.commitLocal x stXptQpDown
         else
           (s.remoteWrite (buddyQp s) x.gid (.commit 5) (s.getI .xptQpRkeyKey (buddyQp s)) (0x20 + 32 * x.slot)
             (descBytes s x.slot (if suspectNow x then slSuspect else slGood) x.step) false).modSnap x.gid (fun x => { x with phase := .descBuddy }))
  | .descBuddy =>
    (match x.mirror with
     | .failed st => s.commitLocal x st
     | _ => if commitUse s x 5 then s else s.committed x)
  | .finished => s

def DestStage.isOpen (d : DestStage) : Bool := d == .open_

/-- Every shard object of the writer is durable. -/
def filesDurable (s : State) (x : Snap) : Bool :=
  x.jobs.all (fun u => match s.findJob u with | none => true | some j => j.objs.all (fun o => o.tail == 4)) && !snapUse s x (useOfDst 2) &&
  (x.jobs.flatMap (fun u => match s.findJob u with | some j => j.shards | none => [])).length == (snapShards x).length

/-- One pass over the FILE commit, which follows the MIRROR commit (10 R283, 12 R333, R340, R341). -/
def State.filePass (s : State) (x : Snap) : State :=
  if ¬ x.fileSt.isOpen ∨ x.phase ≠ .finished ∨ x.mirror ≠ .done then s
  else
    let maq := fun (t : State) (es : List MaqEntry) =>
      let seq := t.getI .xptTgtFseqSeq x.target
      let b := snapMaq t x true seq es
      let t1 := (t.nvmeWrite x.target x.gid (.commit 8) (slotByte t x.target x.fileSlot) (sliceZ b 0 (roundUp b.length 4096)) true false).setI .xptTgtFseqSeq
        x.target (seq + 1)
      t1.modSnap x.gid (fun x => { x with fileAt := 3 })
    match x.fileAt with
    | 0 =>
      if isWriter s then
        (if filesDurable s x then maq s (x.jobs.flatMap (fun u => match s.findJob u with | some j => j.shards | none => [])) else s)
      else
        (divFuel x ((snapShards x).filter (fun id => (shardSegs x id).any (fun g => !g.div.isEmpty))) (slotByte s x.target x.fileSlot + 16 * 4096) s).modSnap
          x.gid (fun x => { x with fileAt := 1 })
    | 1 =>
      if ¬ x.noticeFile ∨ commitUse s x 8 then s
      else
        let s1 := if s.getI .xptTgtStateVwc x.target = 1 ∧ ¬ x.shards.isEmpty then s.nvmeFlush x.target x.gid (.commit 8) false else s
        (s1.offerOp ⟨.nvmeRead, x.gid, .commit 9, x.target, 0, 4096 * Config.freeValue s1.freeCtr, 65536, [], false, false⟩).drawFree.2.modSnap x.gid (fun x => { x with fileAt := 2 })
    | 2 => if commitUse s x 8 ∨ commitUse s x 9 then s else maq s x.shards
    | 3 =>
      if commitUse s x 8 then s
      else
        let bad := suspectNow x
        let t := s.tgt x.target
        let s1 := s.putTgt { t with slots := t.slots.filter (fun y => y.slot != x.fileSlot) ++ [⟨x.fileSlot, s.getI .xptTgtFseqSeq x.target - 1, x.step, !bad⟩] }
        let s2 := if bad then s1 else s1.set .fjCkptFileStepStep x.step
        let s3 := if isWriter s then s2.sendNext (batchBytes x.step 0 0 [] (2 + 4 * b2n bad + 8)) else s2
        s3.modSnap x.gid (fun x => { x with fileAt := 4, fileSt := .done })
    | _ => s

/-- One pass over the HOST copy (10 R295). -/
def State.hostPass (s : State) (x : Snap) : State :=
  if ¬ x.hostSt.isOpen then s
  else
    let d := if x.file then 3 else 2
    match x.hostAt with
    | 0 =>
      if s.guard.armed ∧ s.ckpt.snap.any (fun y => y.gid == x.gid) ∨ ¬ dstWhole s x d then s
      else
        let b := snapMaq s x false 0 (frameEntries s x)
        (s.hostWriteAt x.gid (.commit 6) 0 (s.get .fjCkptHostBaseBase + 0x10000) b false).modSnap x.gid (fun x => { x with hostAt := 1 })
    | 1 =>
      if commitUse s x 6 then s
      else
        let b := snapMaq s x false 0 (frameEntries s x)
        let head := sliceZ (reserveHead (s.get .fjPosInst) s.arm.pkg s.frames) 0 32 ++
          slotDescriptor (if suspectNow x then slSuspect else slGood) x.step s.now b.length
        (s.hostWriteAt x.gid (.commit 7) 0 (s.get .fjCkptHostBaseBase) head false).modSnap x.gid (fun x => { x with hostAt := 2 })
    | 2 => if commitUse s x 7 then s else s.modSnap x.gid (fun x => { x with hostAt := 3, hostSt := .done })
    | _ => s

/-- The status of R284. -/
def snapStatus (x : Snap) : Nat :=
  let bad := fun (d : DestStage) => match d with | .failed st => some st | _ => none
  match bad x.mirror, bad x.fileSt, bad x.hostSt with
  | some st, _, _ => st
  | none, some st, _ => st
  | none, none, some st => st
  | none, none, none =>
    if x.divBlocks ≠ 0 then stDivergent else if x.nonfinite ≠ 0 ∨ x.noticeSuspect then stSuspect else if x.fptFull then stFptFull else stOk

/-- End the snapshot whose last destination has committed or failed; one whose HOST copy alone is open no longer holds the next back. -/
def State.snapEnds (s : State) : State :=
  let s1 : State := match s.ckpt.snap with
    | none => s
    | some x =>
      if x.phase ≠ .finished ∨ x.fileSt.isOpen then s
      else
        let a : State := { s with ckpt := { s.ckpt with snap := none, tail := s.ckpt.tail ++ [x] } }
        a.down .fjCkptStatCommitPending
  s1.ckpt.tail.foldl (fun (a : State) (x : Snap) =>
    if x.hostSt.isOpen then a
    else (({ a with ckpt := { a.ckpt with tail := a.ckpt.tail.filter (fun (y : Snap) => y.gid != x.gid) } }).closeSnap x (snapStatus x)).bump .fjCkptCommitsCount 1) s1

/-- The next window of a shard, or the next shard, takes over where the one before it stands (12 R339). -/
def State.snapHand (s : State) (x : Snap) : State :=
  (x.jobs.zip (x.jobs.drop 1)).foldl (fun a (u, v) =>
    match a.findJob u, a.findJob v with
    | some j, some k =>
      (match j.objs, k.objs with
       | o :: _, [] =>
         if ¬ k.blks.isEmpty ∨ ¬ snapTurn a k then a
         else if j.shardId = k.shardId then
           (a.modJob v (fun k => { k with objs := [{ o with fp := o.fp }], shards := j.shards })).modJob u (fun j => { j with objs := [], shards := [] })
         else
           let g := (k.shardId / 65536) % 65536
           a.modJob v (fun k =>
             { k with objs := [ObjW.mk 2 (o.base + o.off + roundUp (8 * o.dir.length) 4096) k.shardId g (dataOffset (tensorCountOf (k.tensors.getD []))) [] 0 k.keepsDensity 0] })
       | _, _ => a)
    | _, _ => a) s

/-- One pass over every snapshot. -/
def State.snapPass (s : State) : State :=
  let one := fun (a : State) (gid : Nat) (f : State → Snap → State) =>
    match a.allSnaps.find? (fun x => x.gid == gid) with | some x => f a x | none => a
  let t := (s.allSnaps.map (·.gid)).foldl (fun a gid =>
    let a1 := one a gid (fun a x => a.snapHand x)
    let a2 := one a1 gid (fun a x => a.exchange x)
    let a3 := one a2 gid (fun a x => a.mirrorPass x)
    let a4 := one a3 gid (fun a x => a.filePass x)
    one a4 gid (fun a x => a.hostPass x)) s
  t.snapEnds

def workFuel (tile : Bool) : Nat → State → State
  | 0, s => s
  | fuel + 1, s => let t := (s.pumpAt tile).snapPass; if t = s then s else workFuel tile fuel t

/-- Everything goes as far as it can; bubble work too, at a tile boundary. Hold-up stops it (17 R464). -/
def State.workAt (s : State) (tile : Bool) : State := if s.yeljo.frozen ∨ s.holdingUp then s else workFuel tile 4 s

def State.work (s : State) : State := s.workAt false

/-! ### The commands -/

/-- A STEP_END (03 R97); one that is owed nothing is dropped, one that comes too early is flagged (15 R410). In replay the log's STEP_END
records drive the guard (18 R495). -/
def execStepEnd (step : Nat) (cut : Bool) (ofs : Nat) (s : State) : Host.Outcome State Fault Refusal :=
  let s1 := s.at_ ofs
  if ¬ owesStep s ∨ s.replaying then finish s s1
  else if s.now * s.get .tickPeriodPeriod + ofs < s.tick.owedTo then finish s (s1.up .fjPortStatStepEndEarly)
  else finish s (((s1.logRec 2 0 0 (step % 2 ^ 48) []).stepEnded (step % 2 ^ 48) cut).work)

/-- The last beat of a rescue lands (03 R107, R112); after an error the snapshot is abandoned (15 R431). -/
def execRescueLanding (gran : Nat) (data : Bytes) (err : Bool) (now : GuardClock) (s : State) : Host.Outcome State Fault Refusal :=
  match s.guard.rescues.find? (fun r => r.gran == gran) with
  | none => notDue "RESCUE_LANDING"
  | some r =>
    let g := s.guard
    let rest := g.rescues.filter (fun x => !(x.gran == r.gran && x.tags == r.tags))
    if r.dead then finish s ({ s with guard := { g with rescues := rest } }).guardRegs
    else
      let g1 := { g.mark gran with rescues := rest, pool := g.pool ++ [PoolSlot.mk r.slot gran (sliceZ data 0 4096) g.seq], seq := g.seq + 1 }
      let s1 : State := ({ s with guard := g1 }).acct 0 0 64
      let s2 := if now.ns - r.at_ > s.get .grdRlatMaxNs then s1.up .grdStatRlatExceeded else s1
      let s3 := (s2.releaseHeld now).spillTurn
      finish s (if err then (s3.fabError).abandonSnap stMemError true else s3)

/-- A granule comes to the copy: from its window, its pool slot or its spill slot (03 R109). A read that outlives its snapshot is discarded
(R118). -/
def execCopyReadLanding (gran : Nat) (data : Bytes) (err : Bool) (now : GuardClock) (s : State) : Host.Outcome State Fault Refusal :=
  let g := s.guard
  match g.copyTags.find? (fun c => c.1 == gran && c.2.2) with
  | some c => finish s { s with guard := { g with copyTags := g.copyTags.erase c } }
  | none =>
  if ¬ g.armed ∨ ¬ g.copyReads.contains gran ∨ g.rescues.any (fun r => r.gran == gran && !r.dead) then notDue "COPY_READ_LANDING"
  else
    match g.pool.find? (fun p => p.gran == gran) with
    | some p => finish s ((s.copyTake gran p.data now).work)
    | none =>
      if err then finish s ((s.guardAt now).fabError.abandonSnap stMemError true)
      else finish s ((s.copyTake gran (sliceZ data 0 4096) now).work)

/-- A batch has not come within FJ_CKPT_XCHG_WAIT of the end of the own copy (10 R277). -/
def execXchgWaitTimeout (seg : Nat) (s : State) : Host.Outcome State Fault Refusal :=
  match s.ckpt.snap with
  | none => notDue "XCHG_WAIT_TIMEOUT"
  | some x =>
    match x.segs.find? (fun g => g.seg == seg) with
    | none => notDue "XCHG_WAIT_TIMEOUT"
    | some g =>
      let due : Bool := match g.copied with | some t => decide (t + s.get .fjCkptXchgWaitTicks ≤ s.now) | none => false
      if due ∧ ¬ g.settled ∧ g.batch.isNone ∧ g.kept.isSome ∧ ¬ isWriter s ∧ s.awake then finish s ((s.sendFull x g true).work)
      else notDue "XCHG_WAIT_TIMEOUT"

/-- The writer's notice has not come within FJ_CKPT_XCHG_WAIT of the end of step 2 (10 R282). -/
def execCommitNoticeTimeout (s : State) : Host.Outcome State Fault Refusal :=
  match s.ckpt.snap with
  | none => notDue "COMMIT_NOTICE_TIMEOUT"
  | some x =>
    let due : Bool := match x.twoTick with | some t => decide (t + s.get .fjCkptXchgWaitTicks ≤ s.now) | none => false
    if due ∧ ¬ x.notice ∧ x.phase = .mirror ∧ s.awake then finish s ((s.localMaq x stXptTimeout).work) else notDue "COMMIT_NOTICE_TIMEOUT"

end Sys2Proof.Machine
end

