-- ==== Sys2Proof/Machine/Events.lean ====
section
/-! DEFINITION. What the ports return and what the stages finish (04 R132, R142 to R145; 05 R159, R174; 06 R195, R197; 07 R202, R209, R210; 15
R405 to R413, R431). -/
namespace Sys2Proof.Machine

/-! ### Reading back (06 R197, 10 R276) -/

/-- Pieces of a record at a destination, joined from offset 0. -/
def joinFuel : Nat → List (Nat × Bytes) → Bytes → Bytes
  | 0, _, acc => acc
  | fuel + 1, l, acc =>
    match l.find? (fun p => p.1 == acc.length && !p.2.isEmpty) with
    | some p => joinFuel fuel l (acc ++ p.2)
    | none => acc

def joined (o : OutBlk) (d : Nat) : Bytes :=
  let l := (o.back.filter (fun p => p.1 == d)).map (·.2)
  joinFuel l.length l []

/-- Length of the record that a member of a replica group sends. -/
def sentLen (s : State) (job b : Nat) : Nat :=
  match s.allSnaps.find? (fun x => x.jobs.contains job) with
  | some x =>
    (match x.segs.find? (fun g => g.job == job && g.first ≤ b && b < g.first + g.blocks) with
     | some g => (match g.kept with | some h => (h.records.getD (b - g.first) ([], false)).1.length | none => 0)
     | none => 0)
  | none => 0

def State.modBlk (s : State) (job b : Nat) (f : OutBlk → OutBlk) : State :=
  s.modJob job (fun j => { j with blks := replaceFirst (fun o => o.idx == b) f j.blks })

/-- Give a record that has come back whole to the lowest-numbered free pipe other than the one that sealed it; it waits when none is free. -/
def State.openBack (s : State) (j : Job) (o : OutBlk) (d : Nat) : State :=
  let rec_ := joined o d
  if rec_.length < o.record.length ∨ o.record.isEmpty ∨ s.pipes.any (fun p => p.back && p.job == j.uid && p.blk == o.idx && p.dst == d) then s
  else
    match s.takePipe (some o.pipe) with
    | some (p, s1) =>
      let t := s1.modBlk j.uid o.idx (fun o => { o with back := o.back.filter (fun q => q.1 != d) })
      { t with pipes := t.pipes ++ [{ pipe := p, job := j.uid, back := true, dst := d, blk := o.idx, data := rec_ }] }
    | none => s

/-- Every record that has come back. -/
def State.openBacks (s : State) : State :=
  s.jobs.foldl (fun a j => j.blks.foldl (fun a o => (o.back.map (·.1)).dedup.foldl (fun a d => if d = 64 then a else a.openBack j o d) a) a) s

/-- A piece of a record has come back: from LOCAL for a member to send, or to be verified. -/
def State.backLanded (s : State) (job d b off : Nat) (bytes : Bytes) : State :=
  let s1 := s.modBlk job b (fun o => { o with back := o.back ++ [(d, off, bytes)] })
  if d ≠ 64 then s1
  else
    match (s1.findJob job).bind (fun j => j.blks.find? (fun o => o.idx == b)) with
    | some o =>
      let rec_ := joined o 64
      if rec_.length < sentLen s1 job b then s1
      else (s1.modBlk job b (fun o => { o with back := o.back.filter (fun q => q.1 != 64) })).sendRecord job b rec_
    | none => s1

/-! ### What a peer does to a reserve (12 R333) -/

/-- Acknowledge a peer's writes in order, each once all its bytes are in memory. -/
def peerAckFuel (q : Nat) : Nat → State → State
  | 0, s => s
  | fuel + 1, s =>
    match (s.qp q).acks with
    | [] => s
    | p :: t =>
      if s.xfers.any (fun x => x.use == .peer q p) || s.pendWr.any (fun w => w.use == .peer q p) then s
      else peerAckFuel q fuel ((s.putQp { s.qp q with acks := t }).transmit (.rdmaAck q p))

def State.peerAck (s : State) (q : Nat) : State := peerAckFuel q ((s.qp q).acks.length) s

/-- Answer a peer's reads in order, each once all its bytes have come. -/
def peerReplyFuel (q : Nat) : Nat → State → State
  | 0, s => s
  | fuel + 1, s =>
    match (s.qp q).reads with
    | [] => s
    | r :: t =>
      let b := joinFuel r.got.length r.got []
      if b.length < r.len then s else peerReplyFuel q fuel ((s.putQp { s.qp q with reads := t }).transmit (.rdmaReply q r.psn (b.take r.len)))

def State.peerPiece (s : State) (q psn off : Nat) (b : Bytes) : State :=
  let x := s.qp q
  let t := s.putQp { x with reads := x.reads.map (fun (r : PeerRead) => if r.psn = psn then { r with got := r.got ++ [(off, b)] } else r) }
  peerReplyFuel q x.reads.length t

/-! ### Reads that belong to no job -/

/-- The own reserve's header at start-up: the step of its GOOD slot (10 R268, R298; 16 R440 step 6). -/
def State.reserveHeader (s : State) (b : Option Bytes) : State :=
  let s1 := match b with
    | none => s
    | some d =>
      if fieldAt d 0 1 ≠ 1 ∨ fieldAt d 1 1 ≠ s.get .fjPosInst ∨ fieldAt d 4 4 ≠ s.arm.pkg then s
      else
        let sl := fun (k : Nat) => ResSlot.mk (fieldAt d (0x20 + 32 * k) 1 % 8) (fieldAt d (0x28 + 32 * k) 6) (fieldAt d (0x38 + 32 * k) 4)
        let t : State := { s with ckpt := { s.ckpt with slots := [sl 0, sl 1] } }
        let good := [0, 1].filter (fun k => (sl k).state == slGood)
        let best := good.foldl (fun (a : Option Nat) k =>
          match a with | none => some k | some m => if (sl k).step > (sl m).step then some k else some m) none
        match best with
        | some k => (t.set .fjCkptStatGoodSlot k).set .fjCkptGoodStepStep (sl k).step
        | none => t
  (s1.modBoot (fun b => { b with headerIn := true })).step6Done

/-- The writer's Maquette in the file store has come to a member: its shards join the member's own (10 R283). -/
def State.writerMaq (s : State) (gid : Nat) (b : Bytes) : State :=
  match s.allSnaps.find? (fun x => x.owns gid), checkMaq (maqKey s 0) b with
  | some x, .ok m =>
    if m.step ≠ x.step then s.snapDestFail gid 2 stManifestInvalid
    else
      let es := (m.entries.filter (fun e => e.loc == 1 && !e.divergence)).map (fun (e : MaqEntry) => { e with fromWriter := true })
      s.modSnap gid (fun x => { x with shards := x.shards ++ es })
  | some _, _ => s.snapDestFail gid 2 stManifestInvalid
  | none, _ => s

/-- The bytes of a read have come; in hold-up they are discarded (17 R464). -/
def State.landed (s : State) (x : Xfer) (b : Bytes) : State :=
  if s.holdingUp then s else
  match x.use with
  | .input k off => s.landInput x.job k off b
  | .verify d blk off => s.backLanded x.job d blk off b
  | .digest c h => s.restoreHandle c h b false
  | .peerRead q psn off => s.peerPiece q psn off b
  | .commit 9 => s.writerMaq x.job b
  | .side => if x.job = 0 ∧ x.kind = .fabRead ∧ s.boot.stage = .targets ∧ ¬ s.boot.headerIn then s.reserveHeader (some b) else s
  | _ => s

/-- A read of fabric memory has failed (15 R431). -/
def State.readFailed (s : State) (x : Xfer) : State :=
  match x.use with
  | .digest c h => s.restoreHandle c h [] true
  | .peerRead q psn _ =>
    let y := s.qp q
    (s.putQp { y with reads := y.reads.filter (fun r => r.psn != psn) }).transmit (.rdmaNak q psn 2)
  | .side => if x.job = 0 ∧ s.boot.stage = .targets ∧ ¬ s.boot.headerIn then s.reserveHeader none else s
  | u => s.useFailed x.job u stMemError 0

def State.dropXfer (s : State) (x : Xfer) : State := { s with xfers := s.xfers.erase x }

/-- The stream's own bytes of what a request returned (04 R127). -/
def partsOf (x : Xfer) (data : Bytes) : Bytes := x.parts.flatMap (fun p => sliceZ data p.1 p.2)

/-- Every record that came back finds its pipe, then everything goes on. -/
def State.goOnAt (s : State) (tile : Bool) : State := if s.holdingUp then s else (s.openBacks).workAt tile

def State.goOn (s : State) : State := s.goOnAt false

/-- All beats of a read request have returned (15 R405). -/
def execFabricReadResponse (tag : Nat) (data : Bytes) (err : Bool) (s : State) : Host.Outcome State Fault Refusal :=
  match s.xfers.find? (fun x => x.kind == .fabRead && x.tag == tag) with
  | none => notDue "FABRIC_READ_RESPONSE"
  | some x =>
    let s1 := s.dropXfer x
    finish s ((if err then (s1.fabError).readFailed x else s1.landed x (partsOf x data)).goOn)

/-- A write of a peer or of a saved digest state has not reached memory (15 R431; 12 R346; 07 R220). -/
def State.writeFailed (s : State) (x : Xfer) : State :=
  match x.use with
  | .digest c h => (s.modHandle c h (fun y => { y with saved := false, invalid := true })).up .digStatSaveFail
  | .peer q psn =>
    let y := s.qp q
    (s.putQp { y with acks := y.acks.filter (· != psn) }).transmit (.rdmaNak q psn 2)
  | u => s.useFailed x.job u stMemError 0

/-- A write has reached memory (15 R407). -/
def execFabricWriteAck (id : Nat) (err : Bool) (s : State) : Host.Outcome State Fault Refusal :=
  match s.xfers.find? (fun x => x.kind == .fabWrite && x.tag == id) with
  | none => notDue "FABRIC_WRITE_ACK"
  | some x =>
    let s1 := s.dropXfer x
    let s2 := if err then (s1.fabError).writeFailed x else
      match x.use with
      | .peer q _ => s1.peerAck q
      | u => s1.ackUse x.job u
    finish s s2.goOn

/-! ### Staging and the coder -/

/-- The halves swap (04 R132). -/
def execHalfSwap (s : State) : Host.Outcome State Fault Refusal :=
  if swapDue s ∧ s.awake then finish s ((s.swapHalves).goOn) else notDue "HALF_SWAP"

/-- The Mould of the draining segment is complete (05 R159). -/
def execMouldBuildDone (s : State) : Host.Outcome State Fault Refusal :=
  match building s with
  | some a => finish s ((s.buildDone a).goOn)
  | none => notDue "MOULD_BUILD_DONE"

/-- A decode slot is loaded (05 R174). -/
def execDecodeSlotLoadDone (slot : Nat) (s : State) : Host.Outcome State Fault Refusal :=
  if slotLoading s slot then finish s ((s.slotLoaded slot).goOn) else notDue "DECODE_SLOT_LOAD_DONE"

/-! ### Verdicts (06 R195, R197; 01 R36) -/

/-- The verdict on a record on its way in. -/
def State.openVerdict (s : State) (u : PipeUse) : State :=
  s.onJob u.job (fun j s =>
    match j.recs.find? (fun r => r.idx == u.blk) with
    | none => s
    | some r =>
      match r.hdr with
      | none => s
      | some h =>
        match j.openRec h (s.key h.keySlot).key r.bytes with
        | some body => s.modJob j.uid (fun j => j.modRec u.blk (fun r => { r with stage := .opened, body := body }))
        | none => (s.bump .sealTagFailsCount 1).failInbound j.uid u.blk stTagFail)

/-- Whether a read-back passes: none, or the status of the failure. -/
def backVerdict (s : State) (rec_ : Bytes) : Option Nat :=
  match parseBlockHdr rec_ with
  | none => some stTagFail
  | some h =>
    match openBody h (s.key h.keySlot).key rec_ with
    | none => some stTagFail
    | some body =>
      if body.length = h.codedLen + 4 ∧ fieldAt body h.codedLen 4 = crc32c (body.take h.codedLen) then none else some stCheckFail

/-- The verdict on a read-back: the block stands at its destination, or the job fails, the sealing pipe is counted and Patina is told
(17 R477). -/
def State.backOpened (s : State) (u : PipeUse) : State :=
  s.onJob u.job (fun j s =>
    match j.blks.find? (fun o => o.idx == u.blk) with
    | none => s
    | some o =>
      match backVerdict s u.data with
      | none => (s.modBlk u.job u.blk (fun o => { o with verified := o.verified ++ [u.dst] })).countDone u.job
      | some st =>
        let s1 := ((s.bump .sealVerifyFailsCount 1).bumpI .sealPipeVfailCount o.pipe 1).bump .sealTagFailsCount (b2n (st == stTagFail))
        let phys := (servedBy s1 0 o.pipe).getD o.pipe
        let s2 : State := { s1 with patina := { s1.patina with urgent := s1.patina.urgent ++ [(0, phys)] } }
        s2.useFailed u.job (.verify u.dst u.blk 0) st 0)

/-- A pipe gives its verdict (06 R195). -/
def execSealOpenVerdict (pipe : Nat) (s : State) : Host.Outcome State Fault Refusal :=
  match s.pipes.find? (fun p => p.pipe == pipe) with
  | none => notDue "SEAL_OPEN_VERDICT"
  | some u =>
    let s1 : State := { s with pipes := s.pipes.filter (fun p => p.pipe != pipe) }
    finish s ((if u.back then s1.backOpened u else s1.openVerdict u).goOn)

/-! ### Fingerprints and arrival digests (07 R202 to R210) -/

/-- Put a block of the own snapshot into its fingerprint set, and its record into the table (07 R205, R207). -/
def State.putPrint (s : State) (job blk : Nat) (digest : Bytes) (rawLen : Nat) : State :=
  match s.allSnaps.find? (fun x => x.jobs.contains job) with
  | none => s
  | some x =>
    match x.segs.find? (fun g => g.job == job && g.first ≤ blk && blk < g.first + g.blocks),
        s.prints.find? (fun p => p.source == 0 && p.step == x.step && !p.full) with
    | some g, some p =>
      let i := ((x.segs.takeWhile (fun h => h.seg != g.seg)).map (·.blocks)).sum + (blk - g.first)
      let s1 : State := { s with
        prints := s.prints.map (fun (q : FptSet) => if q.source = 0 ∧ q.step = x.step then { q with prints := q.prints ++ [(i, digest)] } else q) }
      s1.fabWrite 0 .side (s.get .digFptBaseBase + 64 * p.recordAt i)
        (fptRecord digest x.step g.shardId (segNumber s g) (blk - g.first) 1 (s.get .fjPosInst) rawLen) false
    | _, _ => s

/-- A source block's fingerprint completes (07 R202). -/
def execFingerprintDone (job blk : Nat) (s : State) : Host.Outcome State Fault Refusal :=
  let inbound : Bool := match s.findJob job with | some j => j.inbound | none => false
  match s.coreBlock job blk with
  | none => notDue "FINGERPRINT_DONE"
  | some p =>
    if inbound then notDue "FINGERPRINT_DONE"
    else
      let d := sha256 p.data
      let s1 := s.endPrint p
      let s2 := (s1.bump .digFpBlocksCount 1).modJob job (fun j => { j with prints := j.prints ++ [(blk, d)] })
      finish s ((s2.putPrint job blk d p.data.length).goOn)

/-- The fingerprint a block must have, where R209 compares one, and the output block that it begins in: a canonical one by its record, any
other by its place in the raw stream. -/
def expectedPrint (j : Job) (blk len : Nat) : Option (Bytes × Nat) :=
  let at_ := fun (i : Nat) => ((j.expects.take i).map (·.rawLen)).sum
  match j.expects[blk]? with
  | none => none
  | some e =>
    if e.canon then e.fingerprint.map (fun f => (f, j.outLen (at_ blk) / 65536))
    else if j.lat.isNone ∧ packWidth j.pnt.unpack = packWidth j.pnt.pack then
      match (List.range j.expects.length).find? (fun i => at_ i == 65536 * blk) with
      | some i => (match j.expects[i]? with | some e => if e.rawLen = len then e.fingerprint.map (fun f => (f, blk)) else none | none => none)
      | none => none
    else none

/-- The source block's digest is taken before relayout (07 R209). -/
def canonAt (j : Job) (blk : Nat) : Bool := j.expects[blk]?.any (fun e => e.canon)

/-- An inbound block's digest completes: it is logged, and compared where a fingerprint is expected (07 R209, R210). On a mismatch the blocks
after it are discarded. -/
def execArrivalDigestDone (job blk : Nat) (s : State) : Host.Outcome State Fault Refusal :=
  match s.coreBlock job blk, s.findJob job with
  | some p, some j =>
    if ¬ j.inbound then notDue "ARRIVAL_DIGEST_DONE"
    else
      let d := sha256 p.data
      let e := s.findEntry job
      let ring := (e.map (·.ring)).getD 0
      let tag := (e.map (·.desc.tag)).getD 0
      let s1 := s.endPrint p
      let s2 := (s1.bump .digFpBlocksCount 1).logRec 13 j.ctx ring (j.ctx + 64 * ring + 256 * tag) (natLe 4 blk ++ d.take 12)
      let s3 := match expectedPrint j blk p.data.length with
        | none => s2
        | some (f, keep) =>
          if f = d then s2
          else (((s2.up .digStatArrivalFail).bump .digArrivalFailsCount 1).failJob job stCheckFail 0 (some keep)).dropRecs job (fun r => canonAt j blk && decide (r.idx < blk))
      finish s s3.goOn
  | _, _ => notDue "ARRIVAL_DIGEST_DONE"

/-! ### Host memory (04 R142 to R145; 15 R411 to R413, R431) -/

/-- Where a byte of memory lies in a stream. -/
def posIn (t : Stream) (addr : Nat) : Option Nat :=
  ((t.slice 0 t.total).foldl (fun (a : Option Nat × Nat) (ad, n) =>
    (match a.1 with | some x => some x | none => if ad ≤ addr ∧ addr < ad + n then some (a.2 + (addr - ad)) else none, a.2 + n)) (none, 0)).1

/-- The first record that does not lie wholly before a source offset and all after it are discarded, those taken into the raw stream too. -/
def State.rewindRecs (s : State) (uid cut : Nat) : State :=
  s.onJob uid (fun j s =>
    let known := j.starts.map (·.1) ++ (j.recs.filter (fun r => r.idx < j.segIdx)).map (·.off) ++ [j.recOff]
    let n := ((known.drop 1).takeWhile (fun e => e ≤ cut)).length
    if n + 1 ≥ known.length then s.dropRecs uid (fun r => r.idx < j.segIdx || r.off < cut)
    else
      (s.dropRecs uid (fun r => r.idx < n)).modJob uid (fun j =>
        { (match j.starts[n]? with | some p => j.cutRaw p.2 | none => j) with
          recOff := known.getD n 0, segIdx := n, starts := j.starts.take n, ended := false,
          limit := (match j.starts[n]? with | some p => minOpt j.limit (j.outLen p.2 / 65536) | none => j.limit) }))

/-- What a page fault leaves standing of a stream: the state with the job stopped at the restart point, the restart point, and the job as a
hint of the rows and scales that stand. -/
def State.stopAtFault (s : State) (j : Job) (x : Xfer) (st : Nat) : State × Nat × Job :=
  let free := { j with latRows := 2 ^ 64, latScales := 2 ^ 64, srcCut := none }
  let keep := fun (b : Nat) => (s.failJob j.uid st 0 (some b)).trimHalves j.uid b
  match x.use with
  | .input k off =>
    let cut := off / 65536 * 65536
    if k = 0 ∧ j.inbound ∧ j.desc.inRecs then
      match (j.inp 0).src with
      | .stream _ => ((s.cutInput j.uid st 0 0 cut).rewindRecs j.uid cut, cut, { free with srcCut := some cut })
      | .extents l =>
        let at_ := l.foldl (fun (a : Nat × Nat × Nat) e => if a.2.2 ≤ off then (a.2.2, a.1 + 1, a.2.2 + e.len) else a) (0, 0, 0)
        ((s.cutInput j.uid st 0 0 at_.1).rewindRecs j.uid at_.1, 65536 * (at_.2.1 - 1), { free with srcCut := some at_.1 })
    else
      let n := match j.lat with | some l => latSources l | none => 1
      if k < n then
        let s1 := (k :: (List.range n).filter (· != k)).foldl (fun a i => a.cutInput j.uid st 0 i cut) s
        let b := max (j.outLen cut / 65536) (if j.inbound then 0 else j.blks.length)
        ((s1.trimHalves j.uid b).modJob j.uid (fun j => { j with limit := minOpt j.limit b }), cut, free)
      else (s.cutInput j.uid st 0 k cut, cut, free)
  | .segment _ n => (keep (if n < segDir then j.doneBlks else j.blocks), if n < segDir then 65536 * j.doneBlks else j.dstLen, free)
  | .side =>
    (match j.lat, j.desc.lat with
     | some l, some f =>
       let rows := 32 * j.latRows
       if l.stats ∧ f.statsHost ∧ f.statsDst ≤ x.addr ∧ x.addr < f.statsDst + rows then
         let r := (x.addr - f.statsDst) / 65536 * 65536
         (keep j.nextBlk, r, { free with latRows := r / 32 })
       else if f.scaleDst ≤ x.addr ∧ x.addr < f.scaleDst + j.latScales ∧ j.latScales ≠ 0 then
         let r := (x.addr - f.scaleDst) / 65536 * 65536
         (keep j.nextBlk, r, { free with latScales := r })
       else (keep j.blocks, 0, free)
     | _, _ => (keep j.blocks, (if j.opcode = opDigestFinal then 0 else j.recOff), free))
  | u =>
    let (d, b) := match u with | .block d b => (d, b) | .verify d b _ => (d, b) | _ => (0, 0)
    match j.dsts.getD d .none with
    | .records t =>
      let at_ := fun (o : OutBlk) => lookupD o.at_ d 0
      let mine := (j.blks.find? (fun o => o.idx == b)).map at_ |>.getD 0
      let k := (posIn t x.addr).getD mine / 65536 * 65536
      let next := fun (o : OutBlk) => match j.blks.find? (fun q => q.idx == o.idx + 1) with | some q => at_ q | none => j.recOff
      (match j.blks.find? (fun o => k < next o) with
       | some o => (keep o.idx, at_ o, free)
       | none => (keep b, mine, free))
    | _ => (keep b, 65536 * b, free)

/-- Saved records of a context that are free. -/
def freeSave (s : State) (ctx : Nat) : Option Nat := (List.range 16).find? (fun i => (s.savedRec ctx i).isNone)

/-- The lattice part of a saved or parked record r of a context (08 R242). -/
def State.saveLattice (s : State) (j : Job) (r : Nat) : State :=
  match j.lat with
  | some l => s.fabWrite 0 .side (latSaveAt s j.ctx r) (j.latRecord l) false
  | none => s

/-- A host page fault (04 R142 to R145). A second fault of a job that has stopped at one moves the restart point back, if it lies before. -/
def State.pageFault (s : State) (x : Xfer) : State :=
  let pri := bitOf s.pins.priEn x.via
  let s1 := s.bump .stgFaultsCount 1
  let s2 := if pri then s1.send (.pageRequest x.via (x.addr / 4096 * 4096)) else s1
  let log := fun (a : State) (ctx ring tag : Nat) => a.logRec 10 ctx ring (ctx + 64 * ring + 256 * tag) (natLe 8 x.addr)
  match s2.findJob x.job with
  | none => (log s2 0 0 0).useFailed x.job x.use stPageFault 0
  | some j =>
    if isSnapJob s2 j.uid then (log s2 0 0 0).useFailed j.uid x.use stPageFault 0
    else
      match s2.findEntry j.uid with
      | none => s2
      | some e =>
        let s3 := log s2 e.ctx e.ring e.desc.tag
        let again : Bool := match j.stop with | some (st, _) => st == stPageFaultResumable | none => false
        let id := if again then some j.saveId else if e.desc.opcode = opResume then some (e.desc.arg % 16) else freeSave s3 j.ctx
        let st := if ¬ pri then stPageFault else match id with | none => stSaveFull | some _ => stPageFaultResumable
        let (s4, restart, hint) := s3.stopAtFault j x st
        let s5 := s4.modJob j.uid (fun k =>
          if j.stop.isSome ∧ ¬ again then k else { k with faultAddr := x.addr, saveId := id.getD 0, priSent := pri })
        match id with
        | some i =>
          if st ≠ stPageFaultResumable ∨ (j.stop.isSome ∧ ¬ again) ∨ (again ∧ (s3.savedRec j.ctx i).any (fun r => r.restart ≤ restart)) then s5
          else
            let r : Saved := { ctx := j.ctx, id := i, desc := j.desc, job := hint, restart := restart }
            let s6 : State := { s5 with saved := upsert (fun y => y.ctx == j.ctx && y.id == i) r s5.saved }
            (match s6.findJob j.uid with | some k => s6.saveLattice k (1 + i) | none => s6)
        | none => s5

def atsOp (x : Xfer) : PendOp := ⟨.hostRead, x.job, x.use, x.via, 0, x.addr, x.len, x.data, false, x.promised⟩

/-- Requests that an invalidation of function n must wait for; it is answered once they have completed (15 R411). -/
def State.atsSettle (s : State) (tag : Nat) : State :=
  let l := s.atsInv.map (fun p => (p.1, p.2.filter (· != tag)))
  let done := l.filter (fun p => p.2.isEmpty)
  { s with atsInv := l.filter (fun p => !p.2.isEmpty), out := s.out ++ done.map (fun p => Out.atsDone p.1) }

/-- A host address translation returns (04 R142): the access goes out, or the page is not present. In replay a failure comes from the log's
HOSTFAULT records alone (18 R495). -/
def execAtsTranslationResponse (tag : Nat) (ok : Bool) (s : State) : Host.Outcome State Fault Refusal :=
  match s.xfers.find? (fun x => x.kind == .ats && x.tag == tag) with
  | none => notDue "ATS_TRANSLATION_RESPONSE"
  | some x =>
    let s1 := s.dropXfer x
    if x.job = 0 ∧ x.use = .side then finish s s1.goOn
    else if ok ∨ s.replaying then
      (if x.data.isEmpty then finish s ((s1.hostIssue (atsOp x)).goOn)
       else
         let t : State := { s with xfers := s.xfers.map (fun (y : Xfer) => if y = x then { y with kind := .hostReady } else y) }
         finish s ((t.hostReadies).goOn))
    else finish s (((s1.pageFault x).hostReadies).goOn)

/-- An ATS invalidation arrives (15 R411). -/
def execAtsInvalidation (fn : Nat) (s : State) : Host.Outcome State Fault Refusal :=
  let tags := (s.xfers.filter (fun x => (x.kind == .hostRead || x.kind == .hostAck) && x.via == fn)).map (·.tag)
  finish s (if tags.isEmpty then s.send (.atsDone fn) else { s with atsInv := s.atsInv ++ [(fn, tags)] })

/-- A host read completes: with data, as the acknowledgement of writes, or with a failure of R413. -/
def execHostReadCompletion (tag : Nat) (data : Bytes) (status : Nat) (s : State) : Host.Outcome State Fault Refusal :=
  match s.xfers.find? (fun x => (x.kind == .hostRead || x.kind == .hostAck) && x.tag == tag) with
  | none => notDue "HOST_READ_COMPLETION"
  | some x =>
    let s1 := (s.dropXfer x).atsSettle tag
    let s2 :=
      if status ≠ 0 then s1.useFailed x.job x.use stHostError (min status 3)
      else if x.kind = .hostAck then s1.ackUse x.job x.use
      else s1.landed x (sliceZ data 0 x.len)
    finish s s2.goOn

/-- The host link goes down: its requests fail, and invalidations are no longer owed an answer (15 R431). -/
def execHostLinkDown (s : State) : Host.Outcome State Fault Refusal :=
  let lost := s.xfers.filter (fun x => isHostOp x.kind)
  let waits := s.pendHost
  let s1 : State := { s with
    pins := { s.pins with hostLinkUp := false }, xfers := s.xfers.filter (fun x => !isHostOp x.kind), pendHost := [], atsInv := [] }
  let s2 := lost.foldl (fun a x => a.useFailed x.job x.use stHostError 3) s1
  finish s ((waits.foldl (fun a p => a.useFailed p.job p.use stHostError 3) s2).goOn)

/-! ### Tile boundaries (02 R84 to R86; 04 R134, R136; 07 R218; 08 R223, R243; 17 R478, R482; 18 R497) -/

/-- Elements of the job's stream have still to pass the lattice (08 R223). -/
def needsLattice (j : Job) (l : LatCfg) : Bool := decide ((j.latOut l).elems < j.latTotal l)

/-- A running job meets the lattice's new lane count. -/
def State.reshape (s : State) (j : Job) : State :=
  match j.lat with
  | none => s
  | some l =>
    let lanes := s.get .latStatLanes
    let stop := fun (a : State) => a.failJob j.uid stLatticeReshaped 0 (some j.nextBlk)
    if j.stop.isSome then s
    else if s.logicalOf 2 = 0 then (if needsLattice j l then (stop s).modJob j.uid (fun x => { x with latGone := true }) else s)
    else if l.lanes = lanes then s
    else if rowOpen j lanes then stop ((s.up .latStatReshaped).bump .latReshapedJobsCount 1)
    else s.modJob j.uid (fun j => j.withLanes lanes)

/-- A promised job's block is ready and bubble work fills: its segment closes short (04 R134). A snapshot's segment is whole by its frame
(10 R266). -/
def State.preempt (s : State) : State :=
  let h := s.half s.fillA
  match s.findJob h.job with
  | some j => if h.st = .fill ∧ ¬ h.closed ∧ ¬ j.promised ∧ j.opcode ≠ opSnap ∧ promisedWaits s j.uid then s.closeFill true else s
  | none => s

/-- Every operation a job waits for is a remote one. -/
def waitsRemote (s : State) (j : Job) : Bool :=
  let mine := s.xfers.filter (fun x => x.job == j.uid)
  mine.any (fun x => isOp x.kind) && mine.all (fun x => isOp x.kind) && !s.pipes.any (fun p => p.job == j.uid) &&
  !s.printing.any (fun p => p.job == j.uid) && !s.pendWr.any (fun w => w.job == j.uid) && !s.pendHost.any (fun w => w.job == j.uid) &&
  j.recs.all (fun r => r.stage == .decoded) && (j.inbound || j.ready ≤ j.nextBlk)

/-- Contexts whose every ready block waits on a remote completion are parked, with the lattice's part of their record (02 R86). -/
def State.park (s : State) : State :=
  ((s.jobs.map (·.ctx)).dedup.filter (fun c => !s.parked.any (fun p => p.1 == c) && (s.jobs.filter (fun j => j.ctx == c)).all (waitsRemote s))).foldl
    (fun a c =>
      let b : State := { a with parked := a.parked ++ [(c, false)] }
      match (b.jobs.filter (fun j => j.ctx == c)).find? (fun j => j.lat.isSome) with | some j => b.saveLattice j 0 | none => b) s

/-- Landing buffers go to promised inbound streams first, then to bubble streams in order (04 R136). -/
def State.landingTurn (s : State) : State :=
  let l := s.jobs.filter (fun j => j.inbound)
  let order := l.filter (fun j => j.promised) ++ l.filter (fun j => !j.promised)
  { s with yielded := (order.drop 8).map (·.uid) }

def execTileBoundary (ofs : Nat) (s : State) : Host.Outcome State Fault Refusal :=
  if s.holdingUp then finish s s else
  let s0 := s.at_ ofs
  let s1 : State := if s0.yeljo.stopped ∧ s0.flag .yljStatDiverged then { s0 with yeljo := { s0.yeljo with frozen := true } } else s0
  let s2 := (List.range 8).foldl (fun a c => a.dropClass c) s1
  let s3 : State := { s2 with sealPipes := [], patina := { s2.patina with substs := s2.patina.substs.map (fun x => { x with tile := true }) } }
  let s4 := s3.jobs.foldl (fun a j => a.reshape j) s3
  let s5 := ((s4.preempt).landingTurn).park
  let s6 := (s5.jobs.map (·.uid)).foldl (fun a u => a.pumpFeed u true) s5
  finish s (if s6.yeljo.frozen then s5 else s6.goOnAt true)

end Sys2Proof.Machine
end

