-- ==== Sys2Proof/Machine/XptCmd.lean ====
section
/-! DEFINITION. The transport's commands (12 R326 to R348; 10 R276 to R283; 02 R86, R87; 15 R416; 18 R495): frames, requests of peers, the
ends of the engine's own operations, congestion, and the file-store targets. -/
namespace Sys2Proof.Machine

/-! ### Lanes and frames (12 R326, R344; 15 R416) -/

/-- Lane l has its link. -/
def laneUp (s : State) (l : Nat) : Bool := bitOf s.pins.linkUp l

/-- The transport receives: from start-up on, and not in hold-up, RETAIN or FAULT (12 R348). -/
def hears (s : State) (l : Nat) : Bool := (s.eng == 1 || s.eng == 2 || s.eng == 3) && s.holdup.isNone && laneUp s l

/-- A frame for an entry in RTS wakes an engine in IDLE (12 R348, 16 R451). -/
def State.frameFor (s : State) (q : Nat) : State := if hears s (s.getI .xptQpAttrLane q) && s.rts q then s.wake else s

def State.dropped (s : State) : State := s.bump .xptDroppedCount 1

/-- The entry in RTS that a local QPN of a lane names. -/
def entryOf (s : State) (lane qpn : Nat) : Option Nat :=
  (List.range 256).find? (fun q => s.rts q && laneOf s q == lane && s.getI .xptQpLqpnQpn q == qpn)

/-- A packet marked CE: one notification to the sender, at most one in 50 µs for a queue pair (12 R344). -/
def State.congestionSeen (s : State) (q : Nat) : State :=
  let y := s.qp q
  let recent : Bool := match y.cnpAt with | some t => decide ((s.now - t) * s.get .tickPeriodPeriod < 50000) | none => false
  if recent then s else ((s.putQp { y with cnpAt := some s.now }).transmit (.cnp q)).bump .xptCnpTxCount 1

/-- A frame ends (12 R326, 15 R416). -/
def State.frameIn (s : State) (lane : Nat) (err : Bool) (f : Frame) : State :=
  if ¬ hears s lane then s
  else if err then s.dropped
  else
    match f with
    | .roce qpn icrc ce len =>
      (match entryOf s lane qpn with
       | some q => if ¬ icrc ∨ len > 9216 then s.dropped else if ce then (s.wake).congestionSeen q else s.wake
       | none => s.dropped)
    | .control b => if b.length > 9216 then s.dropped else s.send (.toCore b)
    | .tcp held b => if b.length > 9216 ∨ ¬ held then s.dropped else s.send (.toCore b)
    | .other _ => s.dropped

def execReceiveFrame (lane : Nat) (err : Bool) (frame : Frame) (s : State) : Host.Outcome State Fault Refusal :=
  finish s (s.frameIn lane err frame)

/-! ### Requests of peers -/

/-- How a request's packet sequence number meets the expected one (12 R334). -/
inductive Arrival where
  /-- the lane's link is down, or the transport is off -/
  | unheard
  /-- the entry is not in RTS (12 R326) -/
  | refused
  /-- seen before -/
  | behind
  /-- one before it is missing -/
  | ahead
  | expected
  deriving DecidableEq, Repr

def arrival (s : State) (q psn : Nat) : Arrival :=
  if ¬ hears s (laneOf s q) then .unheard
  else if ¬ s.rts q then .refused
  else
    let d := (psn + 2 ^ 24 - (s.qp q).recvPsn % 2 ^ 24) % 2 ^ 24
    if d = 0 then .expected else if d < 2 ^ 23 then .ahead else .behind

/-- The expected packet sequence number moves past n packets. -/
def State.received (s : State) (q n : Nat) : State :=
  let y := s.qp q
  s.putQp { y with recvPsn := (y.recvPsn + n) % 2 ^ 24 }

def State.rxBytes (s : State) (n : Nat) : State := s.set .xptRxBytesBytes (s.get .xptRxBytesBytes + n)

/-- REMOTE: a remote completion as applied (18 R492). -/
def opKey (x : Xfer) : Nat × Nat × Bool := if isNvme x.kind then (x.psn, x.tag, true) else (x.via, x.psn, false)

/-- An operation ends: it is logged, its turn in a replay is over, and a parked context sees it (02 R86). -/
def State.opEnds (s : State) (x : Xfer) (status : Nat) : State :=
  let k := opKey x
  let c := (s.findJob x.job).map (·.ctx)
  let s1 : State := { s.dropXfer x with
    parked := s.parked.map (fun p => if some p.1 = c then (p.1, true) else p),
    yeljo := { s.yeljo with turns := s.yeljo.turns.erase k } }
  if s.tick.running then s1.logRec 9 ((c.getD 0)) 0 (k.1 % 256 + k.2.1 % 2 ^ 24 * 2 ^ 8 + status % 256 * 2 ^ 32 + b2n k.2.2 * 2 ^ 40) [] else s1

/-- In replay a completion waits for its record (18 R495). -/
def waitsTurn (s : State) (x : Xfer) : Bool := s.replaying && s.tick.running && !s.yeljo.turns.contains (opKey x)

def State.hold (s : State) (c : Instr) : State :=
  if s.yeljo.held.contains c then s else { s with yeljo := { s.yeljo with held := s.yeljo.held ++ [c] } }

/-! ### An entry in ERROR (12 R346, R347) -/

/-- An operation that is on the wire on entry q, or a command of a target there. -/
def onEntry (s : State) (q : Nat) (x : Xfer) : Bool :=
  isOp x.kind && (if isNvme x.kind then s.getI .xptTgtCfgTcp x.via == 0 && x.psn == q else x.via == q)

/-- Targets reached by RDMA through entry q. -/
def rdmaTgts (s : State) (q : Nat) : List Nat := (tgtsOf s q).filter (fun t => s.getI .xptTgtCfgTcp t == 0)

/-- The status a job gets whose far end passes through entry q, though no operation of its own was on it. -/
def throughEntry (s : State) (q : Nat) (p : Place) : Option Nat :=
  match p with
  | .remote f => if (s.path f).contains q then some stXptQpDown else none
  | .store t => if (rdmaTgts s q).contains t then some stNvmeConnect else none
  | _ => none

def endPlace (d : DstEnd) : Option Place :=
  match d with
  | .frames p _ => some p
  | .object p _ => some p
  | _ => Option.none

/-- A running job meets an entry that has gone: which of its uses fails, and with what. -/
def jobThrough (s : State) (q : Nat) (j : Job) : List (XUse × Nat) :=
  let dsts := j.dsts.zipIdx.filterMap (fun p =>
    if j.dead.contains p.2 then none
    else ((endPlace p.1).bind (throughEntry s q)).map (fun st => (XUse.block p.2 j.doneBlks, st)))
  let src := match (j.inp 0).src with
    | .extents l => if (j.inp 0).data.length < (j.inp 0).total then (l.findSome? (fun (e : Extent) => throughEntry s q e.place)).map (fun st => (XUse.input 0 (j.inp 0).nextReq, st)) else none
    | .stream _ => none
  dsts ++ src.toList

/-- An entry goes to ERROR: what is outstanding on it fails with the status of the event; targets on it lose their connection. -/
def State.qpError (s : State) (q st : Nat) : State :=
  if ¬ s.rts q then s else
  let ts := rdmaTgts s q
  let mine := s.xfers.filter (fun x => onEntry s q x)
  let theirs := s.xfers.filter (fun x => !onEntry s q x && isNvme x.kind && ts.contains x.via)
  let waits := s.pendOps.filter (fun p => p.kind != .fabRead && (if isNvme p.kind then ts.contains p.via else p.via == q))
  let s1 := ((s.setI .xptQpStateState q qpErr).setI .xptQpStateLastErr q st).up .xptStatQpError
  let s2 : State := { s1 with pendOps := s1.pendOps.filter (fun p => !waits.contains p) }
  let s3 := s2.putQp { s2.qp q with acks := [], reads := [], retries := 0 }
  let s4 := ts.foldl (fun a t => (a.setI .xptTgtStateState t 1).putTgt (Tgt.fresh t)) s3
  let s5 := mine.foldl (fun a x => (a.opEnds x st).useFailed x.job x.use st 0) s4
  let s6 := theirs.foldl (fun a x => (a.opEnds x stNvmeConnect).useFailed x.job x.use stNvmeConnect 0) s5
  let s7 := waits.foldl (fun a p => a.useFailed p.job p.use (if isNvme p.kind then stNvmeConnect else stXptQpDown) 0) s6
  let s8 := s7.jobs.foldl (fun a j => (jobThrough s q j).foldl (fun a u => a.useFailed j.uid u.1 u.2 0) a) s7
  let s9 := s8.allSnaps.foldl (fun (a : State) (x : Snap) =>
    let a1 := if (s.path (buddyQp s)).contains q then a.snapDestFail x.gid 1 stXptQpDown else a
    if ts.contains x.target then a1.snapDestFail x.gid 2 stNvmeConnect else a1) s8
  s9.step6Done

/-- A request that may not be carried out: a remote access NAK, and the receiving entry in ERROR (12 R330). -/
def State.refuse (s : State) (q psn : Nat) : State := ((s.dropped).transmit (.rdmaNak q psn 2)).qpError q stXptNakAccess

/-- The NVMe command on entry q that a key exposes (12 R338). -/
def keyOp (s : State) (q key : Nat) : Option Xfer := s.xfers.find? (fun x => x.key == some key && x.psn == q && isNvme x.kind)

/-- The reserve that an entry may reach: which one, its key, its first byte, its frames (12 R330). -/
def reserveOf (s : State) (q : Nat) : Option (Nat × Nat × Nat × Nat) :=
  let r := s.getI .xptQpAttrRes q
  if r = 5 then some (0, s.get .xptRkeyOwnKey, s.get .fjMirrorBaseBase, s.frames)
  else if 1 ≤ r ∧ r ≤ 4 then
    some (r, s.getI .xptRkeyPeerKey (r - 1), s.getI .fjPeerResBaseBase (r - 1), s.getI .fjPeerResFramesFrames (r - 1))
  else none

/-- The checks of R330: the address of the first byte, and the reserve, of a request that passes. -/
def reach (s : State) (q key addr len : Nat) (ok : Bool) : Option (Nat × Nat × Nat) :=
  match reserveOf s q with
  | none => none
  | some (r, k, base, frames) => if ok ∧ k = key ∧ frames ≠ 0 ∧ addr + len ≤ reserveSize frames then some (base + addr, r, frames) else none

/-- The descriptor of slot k of peer reserve j as the latest write left it. -/
def State.peerSlot (s : State) (j k : Nat) : PeerSlot :=
  match s.ckpt.peers.find? (fun p => p.peer == j && p.slot == k) with
  | some p => p
  | none => ⟨j, k, 0, 0⟩

/-- A peer's latest good step as its reserve shows it. -/
def peerGood (s : State) (j : Nat) : Nat :=
  let good := [0, 1].filterMap (fun k => let p := s.peerSlot j k; if p.state = slGood then some p.step else none)
  match good with | [] => noStep | a :: t => t.foldl max a

/-- Instance number of the owner of peer reserve j, as the Armature's PEER entry has it (16 R436). -/
def reserveOwner (s : State) (j : Nat) : Nat :=
  match (peerEntries s.arm.records).find? (fun p => p.1 == 4 + j) with
  | some p => p.2.1
  | none => 0

/-- A block record of the step that a peer mirrors enters the step's set: what its header says, under the peer's number, with PEER (07 R205,
R207). A frame carries no fingerprints, and the spec does not say what digest such a record holds: VALID stays clear, and the digest is a
free value (log entry 137). -/
def State.peerRecord (s : State) (j step frame : Nat) (data : Bytes) : State :=
  match s.prints.find? (fun p => p.source == 1 + j && p.step == step && !p.full && !p.good), parseBlockHdr (data.take 64) with
  | some p, some h =>
    if h.step ≠ step then s
    else
      let (v, s1) := s.drawFree
      s1.fabWrite 0 .side (s.get .digFptBaseBase + 64 * p.recordAt (128 * frame + h.block))
        (fptRecord (natLe 32 v) step h.shardId h.segment h.block 2 (reserveOwner s j) h.rawLen) false
  | _, _ => s

/-- What a peer's write says of its reserve: a descriptor's STATE and STEP; the first block of a step (07 R207). -/
def State.peerWrote (s : State) (j frames addr : Nat) (data : Bytes) : State :=
  let slot := fun (a : State) (k : Nat) =>
    let at_ := 0x20 + 32 * k
    if addr ≤ at_ ∧ at_ + 14 ≤ addr + data.length then
      let st := fieldAt data (at_ - addr) 1 % 8
      let p : PeerSlot := ⟨j, k, st, fieldAt data (at_ + 8 - addr) 6⟩
      let b : State := { a with ckpt := { a.ckpt with peers := upsert (fun (x : PeerSlot) => x.peer == j && x.slot == k) p a.ckpt.peers } }
      if st = slGood then
        let c : State := { b with prints := b.prints.map (fun (x : FptSet) => if x.source = 1 + j ∧ x.step = p.step then { x with good := true } else x) }
        if c.prints.any (fun x => x.source == 1 + j && x.step == p.step) then c.dropSets (fun x => x.source == 1 + j && x.step != p.step) else c
      else b
    else a
  let s1 := [0, 1].foldl slot s
  let size := slotOff frames 1 - slotOff frames 0
  let k := (addr - slotOff frames 0) / size
  let off := (addr - slotOff frames 0) % size
  let p := s1.peerSlot j k
  if slotOff frames 0 + 0x10000 ≤ addr ∧ off ≥ 0x10000 ∧ (off - 0x10000) % frameSize ≥ 0x2000 ∧ p.state = slWriting then
    let s2 := if s1.prints.any (fun x => x.source == 1 + j && x.step == p.step) then s1 else s1.allocSet (1 + j) p.step (128 * frames) (peerGood s1 j)
    s2.peerRecord j p.step ((off - 0x10000) / frameSize) data
  else s1

/-- An RDMA WRITE of a peer or of a target (12 R330, R333, R338). -/
def State.writeIn (s : State) (q psn key addr : Nat) (data : Bytes) : State :=
  let n := packets s q data.length
  let last := (psn + n - 1) % 2 ^ 24
  match arrival s q psn with
  | .unheard => s
  | .refused => s.dropped
  | .ahead => s.transmit (.rdmaNak q (s.qp q).recvPsn 0)
  | .behind => if (s.qp q).acks.contains last then s else s.transmit (.rdmaAck q last)
  | .expected =>
    let s1 := (s.rxBytes data.length).received q n
    match keyOp s q key with
    | some x =>
      if x.kind ≠ .nvmeRead ∨ addr + data.length > x.len then s.refuse q psn
      else
        let d := sliceZ x.data 0 addr ++ data ++ x.data.drop (addr + data.length)
        ({ s1 with xfers := s1.xfers.map (fun (y : Xfer) => if y = x then { y with data := d } else y) }).transmit (.rdmaAck q last)
    | none =>
      match reach s q key addr data.length (s.getI .xptQpAttrWrOk q == 1) with
      | none => s.refuse q psn
      | some (a, r, frames) =>
        let y := s1.qp q
        let s2 := ((s1.putQp { y with acks := y.acks ++ [last] }).wake).fabWrite 0 (.peer q last) a data true
        let s3 := if r = 0 then s2 else s2.peerWrote (r - 1) frames addr data
        s3.peerAck q

def execRdmaWriteRequest (qp psn rkey addr : Nat) (data : Bytes) (s : State) : Host.Outcome State Fault Refusal :=
  finish s (((s.frameFor (qp % 256)).writeIn (qp % 256) psn rkey addr data).goOn)

/-- An RDMA READ request of a peer or of a target (12 R330, R338). -/
def State.readIn (s : State) (q psn key addr len : Nat) : State :=
  let answer := fun (a : State) =>
    match keyOp s q key with
    | some x =>
      if x.kind ≠ .nvmeWrite ∨ addr + len > x.len then s.refuse q psn else a.transmit (.rdmaReply q psn (slice x.data addr len))
    | none =>
      match reach s q key addr len (s.getI .xptQpAttrRdOk q == 1) with
      | none => s.refuse q psn
      | some (ad, _, _) =>
        let y := a.qp q
        let b := a.putQp { y with reads := y.reads ++ [⟨psn, len, []⟩] }
        if len = 0 then b.peerPiece q psn 0 [] else b.fabReadAll 0 (fun o => .peerRead q psn o) ad len true
  match arrival s q psn with
  | .unheard => s
  | .refused => s.dropped
  | .ahead => s.transmit (.rdmaNak q (s.qp q).recvPsn 0)
  | .behind => if (s.qp q).reads.any (fun r => r.psn == psn) then s else answer s
  | .expected => answer (s.received q (packets s q len))

def execRdmaReadRequest (qp psn rkey addr len : Nat) (s : State) : Host.Outcome State Fault Refusal :=
  finish s (((s.frameFor (qp % 256)).readIn (qp % 256) psn rkey addr len).goOn)

/-! ### Batches, notices, invalidation (10 R276, R280; 12 R330, R338) -/

/-- A batch or a notice reaches a member of rank above 0. -/
def State.batchIn (s : State) (b : Batch) : State :=
  match s.allSnaps.find? (fun x => x.step == b.step) with
  | none => s
  | some x =>
    if b.commit then
      s.modSnap x.gid (fun x =>
        if b.file then { x with noticeFile := true } else { x with notice := true, noticeSuspect := x.noticeSuspect || b.suspect })
    else
      match x.segs.find? (fun g => g.shardId == b.shardId && segNumber s g == b.segment) with
      | some g => if g.batch.isSome then s else s.modSeg x g.seg (fun g => { g with batch := some b.entries })
      | none => s

/-- A SEND arrives: it takes a receive buffer, is sent on to NEXT unchanged, and is then read. -/
def State.sendIn (s : State) (q psn : Nat) (bytes : Bytes) : State :=
  let n := packets s q bytes.length
  let last := (psn + n - 1) % 2 ^ 24
  match arrival s q psn with
  | .unheard => s
  | .refused => s.dropped
  | .ahead => s.transmit (.rdmaNak q (s.qp q).recvPsn 0)
  | .behind => s.transmit (.rdmaAck q last)
  | .expected =>
    if s.getI .xptQpAttrSendOk q = 0 then s.refuse q psn
    else if bytes.length > 8192 then ((s.dropped).transmit (.rdmaNak q psn 1)).qpError q stXptNakOp
    else if (s.xfers.filter (fun x => x.use == .relay q)).length + (s.pendOps.filter (fun p => p.use == .relay q)).length ≥ 16 then
      s.transmit (.rdmaNak q psn 3)
    else
      let s1 := (((s.rxBytes bytes.length).received q n).transmit (.rdmaAck q last)).wake
      if isWriter s then s1
      else
        let s2 := match nextQp s with | some p => if s.rts p then s1.remoteSend p 0 (.relay q) bytes else s1 | none => s1
        s2.batchIn (parseBatch bytes)

def execFingerprintBatch (qp psn : Nat) (bytes : Bytes) (s : State) : Host.Outcome State Fault Refusal :=
  finish s (((s.frameFor (qp % 256)).sendIn (qp % 256) psn bytes).goOn)

def execCommitNotice (qp psn : Nat) (bytes : Bytes) (s : State) : Host.Outcome State Fault Refusal :=
  finish s (((s.frameFor (qp % 256)).sendIn (qp % 256) psn bytes).goOn)

/-- A SEND with Invalidate: the key of an NVMe command dies before its completion is read. -/
def State.invalidateIn (s : State) (q psn key : Nat) : State :=
  match arrival s q psn with
  | .unheard => s
  | .refused => s.dropped
  | .ahead => s.transmit (.rdmaNak q (s.qp q).recvPsn 0)
  | .behind => s.transmit (.rdmaAck q psn)
  | .expected =>
    match keyOp s q key with
    | some x =>
      ({ s.received q 1 with xfers := s.xfers.map (fun (y : Xfer) => if y = x then { y with key := none } else y) }).transmit (.rdmaAck q psn)
    | none => s.refuse q psn

def execSendWithInvalidate (qp psn key : Nat) (s : State) : Host.Outcome State Fault Refusal :=
  finish s ((s.frameFor (qp % 256)).invalidateIn (qp % 256) psn key)

/-! ### The engine's own operations end (12 R333, R346; 18 R495) -/

/-- Messages of entry q on the wire, in order. -/
def messages (s : State) (q : Nat) : List Xfer := s.xfers.filter (fun x => isOp x.kind && !isNvme x.kind && x.via == q)

/-- An operation lies at or before a packet sequence number. -/
def upTo (psn : Nat) (x : Xfer) : Bool := (psn + 2 ^ 24 - x.psn % 2 ^ 24) % 2 ^ 24 < 2 ^ 23

/-- Everything up to a packet sequence number is acknowledged, as far as the first READ that is not answered. -/
def State.acked (s : State) (q psn : Nat) : State :=
  let l := (messages s q).takeWhile (fun x => upTo psn x && x.kind != .rdmaRead)
  let s1 := if l.isEmpty then s else s.putQp { s.qp q with retries := 0 }
  l.foldl (fun a x => if waitsTurn a x then a else (a.opEnds x 0).ackUse x.job x.use) s1

/-- An acknowledgement; in replay what waits for its record is held. -/
def State.ackIn (s : State) (q psn : Nat) : State :=
  if ¬ hears s (laneOf s q) then s
  else if ¬ s.rts q then s.dropped
  else
    let t := s.acked q psn
    if ((messages t q).takeWhile (fun x => upTo psn x && x.kind != .rdmaRead)).isEmpty then t else t.hold (.rcAck q psn)

def execRcAck (qp psn : Nat) (s : State) : Host.Outcome State Fault Refusal := finish s (((s.frameFor (qp % 256)).ackIn (qp % 256) psn).goOn)

/-- First packet of an operation. -/
def firstPsn (s : State) (x : Xfer) : Nat := (x.psn + 1 + 2 ^ 24 - packets s x.via x.len) % 2 ^ 24

/-- The data of a READ: it acknowledges what was sent before it. -/
def State.readAnswer (s : State) (q psn : Nat) (data : Bytes) : State :=
  if ¬ hears s (laneOf s q) then s
  else if ¬ s.rts q then s.dropped
  else
    match (messages s q).find? (fun x => x.kind == .rdmaRead && (psn + 2 ^ 24 - firstPsn s x) % 2 ^ 24 < packets s q x.len) with
    | none => s
    | some x =>
      let s1 := s.acked q ((firstPsn s x + 2 ^ 24 - 1) % 2 ^ 24)
      if waitsTurn s1 x then s1.hold (.rdmaReadResponse q psn data)
      else
        let s2 := (s1.putQp { s1.qp q with retries := 0 }).rxBytes x.len
        (s2.opEnds x 0).landed x (sliceZ data 0 x.len)

def execRdmaReadResponse (qp psn : Nat) (data : Bytes) (s : State) : Host.Outcome State Fault Refusal :=
  finish s (((s.frameFor (qp % 256)).readAnswer (qp % 256) psn data).goOn)

/-- Go-back-N from a packet sequence number (12 R328): operations that reach it go out again, and so do the target's commands when all do. -/
def State.resend (s : State) (q psn : Nat) : State :=
  let l := (messages s q).filter (fun x => !(upTo ((psn + 2 ^ 24 - 1) % 2 ^ 24) x))
  let n := (l.map (fun x => packets s q x.len)).sum
  (l.foldl (fun a x => a.transmit (x.wire s)) s).bump .xptRetransCount n

/-- A retry is due: everything goes again, or the retries are exhausted. -/
def State.retry (s : State) (q psn st : Nat) : State :=
  let y := s.qp q
  if y.retries ≥ s.getI .xptQpAttrRetry q then s.qpError q st
  else (s.putQp { y with retries := y.retries + 1 }).resend q psn

/-- A NAK: 0 sequence error, 1 invalid request, 2 remote access, 3 RNR, any other remote operation. -/
def State.nakIn (s : State) (q psn kind : Nat) : State :=
  if ¬ hears s (laneOf s q) then s
  else if ¬ s.rts q then s.dropped
  else
    let s1 := s.bump .xptNakRxCount 1
    let s2 := s1.acked q ((psn + 2 ^ 24 - 1) % 2 ^ 24)
    if (messages s2 q).isEmpty ∧ !(s2.xfers.any (fun x => onEntry s2 q x)) then s2
    else if kind = 0 ∨ kind = 3 then s2.retry q psn stXptRetryExceeded
    else if kind = 2 then s2.qpError q stXptNakAccess
    else s2.qpError q stXptNakOp

def execNak (qp psn kind : Nat) (s : State) : Host.Outcome State Fault Refusal := finish s (((s.frameFor (qp % 256)).nakIn (qp % 256) psn kind).goOn)

/-- The ACK timeout of an entry runs out (12 R328): go-back-N from the oldest message, or the end of the retries. -/
def execAckTimeout (qp : Nat) (s : State) : Host.Outcome State Fault Refusal :=
  let q := qp % 256
  if ¬ s.rts q ∨ ¬ (s.xfers.any (fun x => onEntry s q x)) ∨ s.holdingUp then notDue "ACK_TIMEOUT"
  else
    let s1 := s.bump .xptTimeoutsCount 1
    let from_ := match messages s q with | x :: _ => firstPsn s x | [] => (s.qp q).sendPsn
    let caps := if (messages s q).isEmpty then s.xfers.filter (fun x => onEntry s q x) else []
    let s2 := s1.retry q from_ stXptTimeout
    let s3 := if s2.rts q then (caps.foldl (fun a x => a.transmit (x.wire s2)) s2).bump .xptRetransCount caps.length else s2
    finish s s3.goOn

/-- An operation of a promised group has run out of its timeout: TICK_RTT_ALLOW ticks from its issue, and no later than the group's DUE_TICK
while its deadline stands (log entry 129). -/
def opTimedOut (s : State) (x : Xfer) : Bool :=
  x.at_ + s.get .tickRttAllowRtt ≤ s.now ||
  (match (s.findJob x.job).bind s.jobGroup with | some g => g.promised && !g.void && g.dueTick ≤ s.now | none => false)

/-- An operation of a promised group runs out of what is left of TICK_RTT_ALLOW (02 R87): its job ends, and the operation finishes on the
wire for nobody. `tag` is the number of an RDMA operation, or the key of an NVMe command. -/
def execRemoteOpTimeout (tag : Nat) (s : State) : Host.Outcome State Fault Refusal :=
  match s.xfers.find? (fun x => isOp x.kind && x.promised && x.job != 0 && opTimedOut s x && (if isNvme x.kind then x.key == some tag else x.tag == tag)) with
  | none => notDue "REMOTE_OP_TIMEOUT"
  | some x =>
    let s1 : State := { s with xfers := s.xfers.map (fun (y : Xfer) => if y = x then { y with job := 0, use := .side } else y) }
    finish s ((s1.useFailed x.job x.use stXptTimeout 0).goOn)

/-! ### Links and congestion (12 R344 to R346; 15 R416) -/

def execLinkUpFall (lane : Nat) (s : State) : Host.Outcome State Fault Refusal :=
  let l := lane % 4
  let s1 : State := { s with pins := { s.pins with linkUp := if bitOf s.pins.linkUp l then s.pins.linkUp - 2 ^ l else s.pins.linkUp } }
  finish s ((s1.showLanes).up .xptStatLinkDown)

def execLinkUpRise (lane : Nat) (s : State) : Host.Outcome State Fault Refusal :=
  let l := lane % 4
  let s1 : State := { s with pins := { s.pins with linkUp := if bitOf s.pins.linkUp l then s.pins.linkUp else s.pins.linkUp + 2 ^ l } }
  finish s s1.showLanes

/-- A lane's link has been down for longer than the ACK timeout: ERROR for each entry on it. -/
def execLinkDownTimeout (lane : Nat) (s : State) : Host.Outcome State Fault Refusal :=
  let l := lane % 4
  let qs := (List.range 256).filter (fun q => s.rts q && laneOf s q == l)
  if laneUp s l ∨ qs.isEmpty ∨ s.holdingUp then notDue "LINK_DOWN_TIMEOUT"
  else finish s ((qs.foldl (fun a q => a.qpError q stXptLinkDown) s).goOn)

/-- Remote operations of a job, on the wire or waiting; a TCP target's while firmware is down are not congestion (12 R343). -/
def remoteWork (s : State) (j : Job) : Bool :=
  let tcp := fun (k : XKind) (t : Nat) => isNvme k && s.getI .xptTgtCfgTcp t == 1 && s.fwDown
  s.xfers.any (fun x => x.job == j.uid && isOp x.kind && !tcp x.kind x.via) ||
  s.pendOps.any (fun p => p.job == j.uid && p.kind != .fabRead && !tcp p.kind p.via)

/-- A job ends as it stands: its remote operations finish for nobody. -/
def State.congest (s : State) (j : Job) : State :=
  let s1 : State := { s with
    xfers := s.xfers.map (fun (x : Xfer) => if x.job = j.uid ∧ isOp x.kind then { x with job := 0, use := .side } else x),
    pendOps := s.pendOps.filter (fun p => !(p.job == j.uid && p.kind != .fabRead)) }
  s1.failJob j.uid stXptCongested 0 (some j.doneBlks)

/-- A promised group's remote transfer has not ended at DUE_TICK (12 R345). -/
def execDueTickCongested (gid : Nat) (s : State) : Host.Outcome State Fault Refusal :=
  match s.findGroup gid with
  | none => notDue "DUE_TICK_CONGESTED"
  | some g =>
    let late := s.jobs.filter (fun j => s.entries.any (fun e => e.uid == j.uid && e.gid == gid) && j.stop.isNone && remoteWork s j)
    if g.stage = .admitted ∧ g.promised ∧ ¬ g.void ∧ g.dueTick ≤ s.now ∧ ¬ late.isEmpty ∧ s.awake then
      finish s (((late.foldl (fun a j => a.congest j) s).up .xptStatCongested).goOn)
    else notDue "DUE_TICK_CONGESTED"

/-- A congestion notification halves the rate (12 R344). -/
def execCnp (qp : Nat) (s : State) : Host.Outcome State Fault Refusal :=
  let q := qp % 256
  if ¬ hears s (laneOf s q) then finish s s
  else if ¬ s.rts q then finish s s.dropped
  else
    let y := s.qp q
    finish s (((s.frameFor q).putQp { y with rate := max (s.get .xptCcMinRate) (y.rate / 2) }).bump .xptCnpRxCount 1)

/-- RECOVER microseconds without a notification: 5 % of the lane rate back (12 R344). -/
def execCnpRecover (qp : Nat) (s : State) : Host.Outcome State Fault Refusal :=
  let q := qp % 256
  let y := s.qp q
  if ¬ s.rts q ∨ y.rate ≥ 1000 ∨ s.holdingUp then notDue "CNP_RECOVER" else finish s (s.putQp { y with rate := min 1000 (y.rate + 50) })

/-! ### Targets (12 R336 to R341) -/

/-- A connection ends. -/
def State.connResult (s : State) (t state : Nat) : State :=
  let s1 := (s.setI .xptTgtStateState t state).putTgt { s.tgt t with conn := if state = 2 then 8 else 0 }
  (if s1.tick.running then s1.logFirmware 3 else s1).step6Done

/-- Identify Controller: a maximum data transfer size of 256 KiB or more; and whether a volatile write cache is present. -/
def ctrlOk (d : Bytes) : Bool := fieldAt d 77 1 == 0 || 2 ^ fieldAt d 77 1 * 4096 ≥ 0x40000

/-- Identify Namespace: the LBA size in use is 4,096 B. -/
def nsOk (d : Bytes) : Bool :=
  let f := fieldAt d 26 1
  fieldAt d (128 + 4 * (f % 16 + bitsOf f 5 2 * 16) + 2) 1 == 12

/-- Queues of a target's I/O path. -/
def ioQueues (s : State) (t : Nat) : List Nat :=
  if s.getI .xptTgtCfgTcp t = 1 then [s.getI .xptTgtCfgIoQp t] else s.path (s.getI .xptTgtCfgIoQp t)

/-- Fabrics Connect on each I/O queue. -/
def State.connIo (s : State) (t : Nat) : State :=
  (ioQueues s t).foldl (fun a q =>
    let y := a.qp q
    let x : Xfer :=
      {
        kind := .nvmeAdmin, tag := a.cidFor t, job := 0, use := .side, addr := 6, len := 0, parts := [], promised := true, via := t, psn := q,
        key := none, data := [], capPsn := y.sendPsn }
    let b := if a.getI .xptTgtCfgTcp t = 1 then a else a.putQp { y with sendPsn := (y.sendPsn + 1) % 2 ^ 24 }
    ({ b with xfers := b.xfers ++ [x] } : State).transmit (x.wire a)) (s.putTgt { s.tgt t with conn := 6 })

/-- The first 4 KiB of every slot's Maquette area are read (12 R341). -/
def State.readAreas (s : State) (t : Nat) : State :=
  (List.range (s.getI .xptTgtCfgSlots t)).foldl
    (fun a k => a.offerOp ⟨.nvmeRead, 0, .area k, t, 0, slotByte s t k, 4096, [], false, true⟩) (s.putTgt { s.tgt t with conn := 7, slots := [] })

/-- A Maquette area has been read. -/
def State.areaIn (s : State) (t k : Nat) (b : Bytes) : State :=
  match checkMaq (maqKey s 0) b with
  | .ok m => let y := s.tgt t; s.putTgt { y with slots := y.slots ++ [⟨k, m.fileSeq, m.step, !m.suspect⟩] }
  | _ => s

/-- FJ_CKPT_FILE_STEP at start-up: the GOOD Maquette with the highest FILE_SEQ that is not stale (12 R341). -/
def fileStepOf (l : List TgtSlot) : Nat :=
  let fresh := l.filter (fun x => x.good && !(l.any (fun y => y.slot != x.slot && y.seq > x.seq && y.step ≤ x.step)))
  match fresh.foldl (fun (a : Option TgtSlot) x => match a with | none => some x | some y => if x.seq > y.seq then some x else some y) none with
  | some x => x.step
  | none => noStep

/-- Every area has been read: FSEQ is set, and the target is ready. -/
def State.areasIn (s : State) (t : Nat) : State :=
  let l := (s.tgt t).slots
  let seq := match l.map (·.seq) with | [] => 1 | a :: r => r.foldl max a + 1
  let s1 := (s.setI .xptTgtFseqSeq t seq).setI .xptTgtStateNextSlot t (fileSlot s t)
  let s2 := if s.boot.stage = .targets ∧ t = fileTarget s then s1.set .fjCkptFileStepStep (fileStepOf l) else s1
  s2.connResult t 2

/-- A command of a connection has succeeded: the next one, or the failure that its data shows (12 R336). -/
def State.connNext (s : State) (t step : Nat) (data : Bytes) : State :=
  match step with
  | 3 =>
    if ctrlOk data then (s.setI .xptTgtStateVwc t (fieldAt data 525 1 % 2)).connStep t 4 else s.connResult t 3
  | 4 => if nsOk data then s.connStep t 5 else s.connResult t 3
  | 5 => s.connIo t
  | 6 => if s.xfers.any (fun x => x.kind == .nvmeAdmin && x.via == t && x.addr == 6) then s else s.readAreas t
  | n => if n ≥ 8 then s else s.connStep t (n + 1)

/-- A command's error: shown, and its log page is read by firmware that runs (12 R337). -/
def State.tgtError (s : State) (t status : Nat) : State :=
  let s1 := s.setI .xptTgtStateLastSc t (status % 256)
  if s1.fwDown ∨ (s1.tgt t).conn ≠ 8 then s1
  else (s1.connStep t 9).putTgt (s1.tgt t)

/-- Bytes of an NVMe Read's buffer: written through its key, or handed over with the completion. -/
def readData (x : Xfer) (data : Bytes) : Bytes := sliceZ (if data.isEmpty then x.data else data) 0 x.len

/-- The extent that begins at an offset of an input. -/
def extentAt : List Extent → Nat → Option Extent
  | [], _ => none
  | e :: t, off => if off = 0 ∧ e.len ≠ 0 then some e else if off < e.len then none else extentAt t (off - e.len)

/-- Bytes that a job's Read skips at the front, and takes: commands cover whole LBAs (12 R338). -/
def wantedOf (s : State) (x : Xfer) : Nat × Nat :=
  match x.use, s.findJob x.job with
  | .input k off, some j =>
    (match (j.inp k).src with
     | .extents l => (match extentAt l off with | some e => (e.addr - x.addr, e.len) | none => (0, x.len))
     | .stream _ => (0, x.len))
  | .verify d b _, some j =>
    (match j.blks.find? (fun o => o.idx == b) with
     | some o => (lookupD o.at_ d x.addr - x.addr, o.record.length)
     | none => (0, x.len))
  | _, _ => (0, x.len)

/-- An NVMe command has completed. -/
def State.nvmeDone (s : State) (x : Xfer) (status : Nat) (data : Bytes) : State :=
  let t := x.via
  let rdma := s.getI .xptTgtCfgTcp t == 0 && (x.key.isSome || x.kind == .nvmeAdmin)
  let s1 := (if rdma then s.received x.psn 1 else s).opEnds x status
  if x.kind = .nvmeAdmin then
    if x.addr = 9 then s1
    else if status ≠ 0 then
      let s2 : State := { s1 with xfers := s1.xfers.filter (fun y => !(y.kind == .nvmeAdmin && y.via == t)) }
      (s2.setI .xptTgtStateLastSc t (status % 256)).connResult t 3
    else s1.connNext t x.addr data
  else
    match x.use with
    | .area k =>
      if status ≠ 0 then
        let s2 : State := { s1 with xfers := s1.xfers.filter (fun y => !(isNvme y.kind && y.via == t)) }
        (s2.setI .xptTgtStateLastSc t (status % 256)).connResult t 3
      else
        let s2 := s1.areaIn t k (readData x data)
        if s2.xfers.any (fun y => y.via == t && isNvme y.kind) ∨ s2.pendOps.any (fun p => isNvme p.kind && p.via == t) then s2 else s2.areasIn t
    | u =>
      if status ≠ 0 then (s1.tgtError t status).useFailed x.job u stNvmeStatus (status % 2 ^ 16)
      else if x.kind = .nvmeRead then
        let w := wantedOf s x
        (s1.rxBytes x.len).landed x (sliceZ (readData x data) w.1 w.2)
      else s1.ackUse x.job u

/-- The completion of a target's command; in replay it waits for its record. Over TCP none is taken while firmware is down (01 R28): the
target sends it again (log entry 126). -/
def State.nvmeIn (s : State) (x : Xfer) (status : Nat) (data : Bytes) : State :=
  if s.fwDown ∧ s.getI .xptTgtCfgTcp x.via = 1 then s
  else if waitsTurn s x then s.hold (.nvmeCompletion x.via x.tag status data) else s.nvmeDone x status data

def nvmeOp (s : State) (tgt cid : Nat) : Option Xfer := s.xfers.find? (fun x => isNvme x.kind && x.via == tgt && x.tag == cid)

def execNvmeCompletion (tgt cid status : Nat) (data : Bytes) (s : State) : Host.Outcome State Fault Refusal :=
  match nvmeOp s tgt cid with
  | none => notDue "NVME_COMPLETION"
  | some x => if s.holdingUp then notDue "NVME_COMPLETION" else finish s ((s.nvmeIn x status data).goOn)

/-- Firmware sends Keep Alive to a connected target (12 R337). -/
def execKeepAlive (tgt : Nat) (s : State) : Host.Outcome State Fault Refusal :=
  if ¬ tgtUsed s tgt ∨ ¬ tgtReady s tgt ∨ s.fwDown ∨ s.holdingUp then notDue "KEEP_ALIVE" else finish s (s.send (.keepAlive tgt))

/-- In replay a completion's turn has come: what is held is looked at again (18 R495). -/
def State.remoteTurn (s : State) (key : Nat × Nat × Bool) : State :=
  let l := s.yeljo.held
  let s1 : State := { s with yeljo := { s.yeljo with held := [], turns := s.yeljo.turns ++ [key] } }
  l.foldl (fun a c =>
    match c with
    | .rcAck q p => a.ackIn q p
    | .rdmaReadResponse q p d => a.readAnswer q p d
    | .nvmeCompletion t c st d => (match nvmeOp a t c with | some x => a.nvmeIn x st d | none => a)
    | _ => a) s1

end Sys2Proof.Machine
end

