-- ==== Sys2Proof/Machine/Boundary.lean ====
section
/-! DEFINITION. Tick boundaries (02 R51 to R55, R71, R77, R83, R86; 03 R115; 09 R251; 13 R363, R371; 16 R444, R446, R451 to R453; 18 R491,
R493, R497). -/
namespace Sys2Proof.Machine

/-- A signed number of cycles in 5 bits (18 R492). -/
def shift5 (d : Int) : Nat := ((d % 32 + 32) % 32).toNat

/-- A TICK record: a boundary that an edge moved, or whose edge was missing (18 R492). -/
def State.logTick (s : State) (shift : Int) (missed : Bool) : State :=
  s.logRec 1 0 0 (s.now / 2 ^ 32 % 2 ^ 32 + shift5 shift * 2 ^ 32 + b2n missed * 2 ^ 37) []

/-- A boundary whose edge is missing (02 R51). -/
def State.edgeMissed (s : State) : State := (s.missEdge).logTick 0 true

/-- What TICK_IN did in the tick that has ended. In replay only the log's TICK records move a boundary (18 R495). -/
def State.edgeTaken (s : State) (e : EdgeSt) : State :=
  match e with
  | .inWindow d =>
    let s1 := ({ s with tick := { s.tick with missedRow := 0 } }).down .tickStatFreeRun
    if d = 0 then s1 else s1.logTick d false
  | .outside => s.logTick 0 true
  | .none => if s.replaying then s else s.edgeMissed

/-- Cycles from the last boundary to this one. -/
def tickLength (s : State) : Nat :=
  match s.tick.edge with
  | .inWindow d => ((s.get .tickPeriodPeriod : Int) + d).toNat
  | _ => s.get .tickPeriodPeriod

/-- Contexts that held a reservation in the tick that has ended (02 R83): one is held from the tick after admission on. -/
def State.heldTick (s : State) : State :=
  ((s.holding.filter (fun g => g.since != s.now && (g.need.take 15).any (· != 0))).map (·.ctx)).dedup.foldl (fun a c => a.bumpI .tickAcctHeldTicks c 1) s

/-- Reservations of the groups whose last completion has been posted are released (02 R71). -/
def State.releaseDone (s : State) : State := { s with groups := s.groups.filter (fun (g : Group) => g.stage != .done) }

/-- A pending VL takes effect in a context with no admitted group that uses the Pointing unit (09 R251). -/
def State.vlTurn (s : State) : State :=
  s.vlPending.foldl (fun a p =>
    let busy := a.groups.any (fun g => g.ctx == p.1 && g.stage == .admitted && g.points) ||
      a.jobs.any (fun j => j.ctx == p.1 && !j.pnt.passThrough)
    if busy then a else a.applyVl p.1 p.2) s

/-- The copy starts at the first boundary after admission has decided on the snapshot's group (03 R115). -/
def State.copyStart (s : State) : State :=
  match s.ckpt.snap with
  | some x =>
    if s.guard.armed ∧ (s.guard.copyOn ∨ (s.findGroup x.gid).any (fun g => g.stage == .admitted)) then
      ({ s with guard := { s.guard with copyOn := true } }).copyIssue
    else s
  | none => s

/-- Parked contexts for which a completion has landed run again, and those that wait for none any more: what waited has ended, or a further
job has blocks ready (02 R86); the lattice reads its part of the record back (08 R243). -/
def State.unpark (s : State) : State :=
  let waits := fun c => (s.jobs.filter (fun j => j.ctx == c)).all (waitsRemote s) && s.jobs.any (fun j => j.ctx == c)
  let back := (s.parked.filter (fun p => p.2 || !waits p.1)).map (·.1)
  back.foldl (fun a c => match (a.jobs.filter (fun j => j.ctx == c)).find? (fun j => j.lat.isSome) with | some j => a.loadLattice j 0 | none => a)
    { s with parked := s.parked.filter (fun p => !back.contains p.1) }

/-- Rings: ticks that a completion has waited (13 R371), and an entry that has shown OWN 0 for a tick (R363). -/
def State.ringTicks (s : State) : State :=
  s.rings.foldl (fun a r =>
    let i := rix r.ctx r.ring
    let a1 := if r.waiting.isEmpty then a else a.bumpI .cringWaitsCount i 1
    match r.ownSince with
    | some t => if t < a1.now then a1.setI .ringStatOwnWait i 1 else a1
    | none => a1) s

/-- Ticks without work in a row; work that firmware started wakes an engine in IDLE (16 R451, R452). -/
def State.idleTick (s : State) : State :=
  if workless s then { s with tick := { s.tick with idle := s.tick.idle + 1 } }
  else
    let t : State := { s with tick := { s.tick with idle := 0 } }
    if s.eng = 3 ∧ ¬ s.waking then t.wake else t

/-- RETAIN is entered from IDLE with every queue-pair entry in RESET or ERROR (16 R453); a recording session ends (18 R490). -/
def State.retainTurn (s : State) : State :=
  if s.eng = 3 ∧ ¬ s.waking ∧ s.flag .fjStateRetainPend ∧ ¬ s.anyRts then ((s.yClose).down .fjStateRetainPend).setEng 4 else s

/-- ACTIVE at boundary 2 (16 R444). -/
def State.activeTurn (s : State) : State :=
  if s.boot.stage = .started then
    let n := s.boot.since + 1
    if n ≥ 2 then (s.modBoot (fun b => { b with since := n, stage := .running })).setEng 2 else s.modBoot (fun b => { b with since := n })
  else s

/-- In replay a logged check record whose tick has passed and that was not produced is a divergence (18 R497). The spec names no differing
byte for it: the offset shown is a free value. -/
def State.replayLate (s : State) : State :=
  match s.yeljo.due with
  | (i, d) :: _ =>
    let late := (s.now % 2 ^ 32 + 2 ^ 32 - fieldAt d 0 4) % 2 ^ 32
    if s.replaying ∧ ¬ s.yeljo.stopped ∧ late ≠ 0 ∧ late < 2 ^ 31 then
      let (v, s1) := s.drawFree
      s1.diverge i (fieldAt d 6 1 % 32) (v % 32)
    else s
  | [] => s

/-- Every logged record has been applied without a divergence (18 R497). -/
def State.replayDone (s : State) : State :=
  if s.replaying ∧ ¬ s.yeljo.stopped ∧ s.yeljo.due.isEmpty ∧ s.yeljo.pos = fieldAt s.yeljo.srcHeader 0x60 8 then s.up .yljStatDone else s

/-- CLK_CORE cycles of the tick that ends, counted for what waits then: blocks for a reservation, the decoder's fetch stage for a slot
(05 R178, 06 R188; log entry 136). -/
def State.countWaits (s : State) : State :=
  let s1 := if reserveWaiting s then s.bump .sealReserveWaitsCount (tickCycles s) else s
  if slotWaiting s then s1.bump .cdrSlotWaitsCount (tickCycles s) else s1

/-- A boundary, in the order of R53: the mode, the window, the reservations, the budget; then what waits for a boundary. -/
def State.boundary (s : State) : State :=
  let e := s.tick.edge
  let s1 := ((s.countWaits.accrue (tickLength s)).heldTick)
  let s2 : State := { s1 with tick := { s1.tick with ofs := 0, lostTo := 0, edge := .none } }
  let s3 := ((s2.set .tickNowNow (s2.now + 1)).edgeTaken e).applyMode
  let s5 := (((s3.windowTurn).idleTick.releaseDone).issueBudget.vlTurn).settleTables
  let s6 := ((s5.settleErases).copyStart).unpark
  let s7 := ((s6.ringTicks).activeTurn).retainTurn
  let s8 := ((s7.yDrain).replayLate).replayDone
  if s8.awake then s8.goOn else s8

/-- A boundary comes on the engine's own count: from boundary 0 on, but for hold-up and RETAIN (02 R52, 15 R420). -/
def boundaryDue (s : State) : Bool := s.tick.running && !s.holdingUp && s.eng != 4 && s.eng != 6 && s.eng != 8 && s.eng != 0

/-- TICK_BOUNDARY. An instance that starts alone and has seen no edge for 16 periods takes its own predicted boundary as E (16 R446). -/
def execTickBoundary (s : State) : Host.Outcome State Fault Refusal :=
  if boundaryDue s then finish s s.boundary
  else if s.boot.stage = .phase1 ∧ s.boot.alone ∧ s.flag .fjStateAlone ∧ ¬ s.tick.running then finish s s.startAt
  else notDue "TICK_BOUNDARY"

/-- A boundary at which a throttle window ends (02 R72, R77). -/
def execThrottleWindowEnd (s : State) : Host.Outcome State Fault Refusal :=
  if boundaryDue s ∧ (s.now + 1) % max 1 (s.get .tickThrWinWin) = 0 then finish s s.boundary else notDue "THROTTLE_WINDOW_END"

/-- Every 1,024 ticks the session's header is written again (18 R491). -/
def execYeljoHeaderRewrite (s : State) : Host.Outcome State Fault Refusal :=
  if s.recording ∧ s.now % 1024 = 0 ∧ ¬ s.holdingUp then finish s (s.yljHeaderWrite false) else notDue "YELJO_HEADER_REWRITE"

end Sys2Proof.Machine
end

