-- ==== Sys2Proof/Machine/RegRead.lean ====
section
/-! DEFINITION. What register reads return (00 R17, R18, R21; 19 R501 to R507, R512 to R514): the fields that follow from the state, the
views, the latch of high halves. -/
namespace Sys2Proof.Machine

/-! ### Fields that follow from the state -/

def HalfState.code (h : HalfState) : Nat := match h with | .free => 0 | .fill => 1 | .drain => 2

/-- The key slot that SEAL_SLOT_SEL shows. -/
def shownKey (s : State) : KeySlot := s.key (s.get .sealSlotSelSlot)

/-- The table slot that PNT_TBL_SEL shows. -/
def shownTable (s : State) : Option TableSlot := s.table (s.get .pntTblSelCtx) (s.get .pntTblSelTable)

/-- The physical unit that PAT_CLASS_SEL and PAT_UNIT_SEL show; none beyond the class's last. -/
def shownUnit (s : State) : Option PUnit :=
  let c := s.get .patClassSelClass
  let u := s.get .patUnitSelUnit
  if u < physCount s c then some (s.unit c u) else none

/-- The handle that digest slot k holds. -/
def slotHandle (s : State) (k : Nat) : Option Handle := s.handles.find? (fun h => h.slot == some k)

/-- Inbound jobs that hold landing buffers (04 R136). -/
def landingStreams (s : State) : List Job := s.jobs.filter (fun (j : Job) => j.inbound && !s.yielded.contains j.uid)

/-- A half's segment is coded and not all of it is encoded. -/
def encoding (h : Half) : Bool := h.st == .drain && h.coded && h.built && h.records.length < h.blocks.length

/-- Operations of entry q in flight (12 R349). -/
def qpOps (s : State) (q : Nat) : Nat := (s.xfers.filter (fun x => onEntry s q x)).length

def slotBits (s : State) (p : DecSlot → Bool) : Nat :=
  ((List.range 8).filter (fun k => match s.slots[k]? with | some x => p x | none => false)).foldl (fun a k => a + 2 ^ k) 0

def parkedBits (s : State) : Nat := ((List.range 64).filter (fun n => s.parked.any (fun p => p.1 == n))).foldl (fun a n => a + 2 ^ n) 0

def decSlot (s : State) (k : Nat) : DecSlot := s.slots.getD k ⟨none, 0, 0, 0⟩

/-- The value of a field: what follows from the state where the field shows it, and what is stored elsewhere. STG_MC_OCC counts an entry
invalidated while pinned until it unpins, and STG_LANDING.BUSY counts the buffers that hold a block (04 R151; DESIGN CHOICE, log entry
135). -/
def State.liveFld (s : State) (f : Fld) (i : Nat) : Nat :=
  match f with
  | .tickModeCurrent => s.mode
  | .tickRsvRsv => reservedOn s i
  | .tickCapCap => capIn s s.mode i
  | .tickParkedParked => parkedBits s
  | .stgTagsInflight => s.tagCount
  | .stgStatAState => s.halfA.st.code
  | .stgStatBState => s.halfB.st.code
  | .stgStatACtx => if s.halfA.st = .free then 0 else s.halfA.ctx
  | .stgStatBCtx => if s.halfB.st = .free then 0 else s.halfB.ctx
  | .stgLandingBusy => min 64 ((landingStreams s).map (fun (j : Job) => min 8 j.held)).sum
  | .stgLandingStreams => min 8 (landingStreams s).length
  | .stgMcOccBlocks => s.cache.length
  | .stgMcOccPinned => (s.cache.filter (fun e => e.pinned)).length
  | .stgSaveOccOcc => (s.saved.filter (fun r => r.ctx == i)).length
  | .cdrStatSlotRef => slotBits s (fun x => x.refs != 0)
  | .cdrStatSlotValid => slotBits s (fun x => x.mould.isSome)
  | .cdrStatDecHeld => min 8 (decHeld s)
  | .cdrStatEncBusy => b2n (encoding s.halfA || encoding s.halfB)
  | .cdrStatBuildBusy => b2n (building s).isSome
  | .cdrSlotTagTag => match (decSlot s i).mould with | some m => m.tag | none => 0
  | .cdrSlotInfoRef => (decSlot s i).refs
  | .cdrSlotInfoCtx => if (decSlot s i).mould.isSome then (decSlot s i).ctx else 0
  | .cdrSlotInfoFormat => match (decSlot s i).mould with | some m => m.format | none => 0
  | .cdrSlotInfoNSym => match (decSlot s i).mould with | some m => m.entries.length | none => 0
  | .sealStatReserveWait => b2n (reserveWaiting s)
  | .sealSlotInfoValid => b2n (shownKey s).key.isSome
  | .sealSlotInfoReplayOnly => b2n (shownKey s).replayOnly
  | .sealSlotInfoOpenOnly => b2n (shownKey s).openOnly
  | .sealSlotInfoArmature => b2n (shownKey s).armature
  | .sealSlotInfoExhausted => b2n (shownKey s).exhausted
  | .sealSlotInfoReserveFail => b2n (shownKey s).reserveFail
  | .sealSlotInfoCtx => (shownKey s).ctx
  | .sealSlotCtrCtr => (shownKey s).ctr
  | .sealSlotHwmHwm => (shownKey s).hwm
  | .digSlotValid => b2n (slotHandle s i).isSome
  | .digSlotKeyed => match slotHandle s i with | some h => b2n h.keyed | none => 0
  | .digSlotInvalid => match slotHandle s i with | some h => b2n h.invalid | none => 0
  | .digSlotBusy => match slotHandle s i with | some h => b2n (h.restoring || handleBusy s h) | none => 0
  | .digSlotAlg => match slotHandle s i with | some h => h.alg | none => 0
  | .digSlotCtx => match slotHandle s i with | some h => h.ctx | none => 0
  | .digSlotHandle => match slotHandle s i with | some h => h.id | none => 0
  | .pntVlVl => lookupD s.vlPending i (s.getI .pntVlVl i)
  | .pntVlPending => b2n (s.vlPending.any (fun p => p.1 == i))
  | .patStatPatrolHeld => b2n s.fwDown
  | .pntTblInfoLoaded => b2n (shownTable s).isSome
  | .pntTblInfoValid => match shownTable s with | some t => b2n t.table.valid | none => 0
  | .pntTblInfoBijective => match shownTable s with | some t => b2n t.table.bijective | none => 0
  | .pntTblInfoGran => match shownTable s with | some t => t.table.gran | none => 0
  | .pntTblInfoNEnt => match shownTable s with | some t => t.table.entries.length | none => 0
  | .pntTblLoadnoLoadno => match shownTable s with | some t => t.table.loadNo | none => 0
  | .xptStatTcpReady => b2n (s.flag .fjStateLocked && s.flag .xptCfgTcpEn && !s.flag .fjWdogFwDown)
  | .xptQpOpsOut => qpOps s i
  | .xptOpsOut => s.opsOut
  | .fjPortStatDbgEn => b2n s.pins.dbgEn
  | .fjPortStatHostFlit => b2n s.pins.hostFlit
  | .fjStateState => s.eng
  | .pwrPlDataData => fieldAt s.plinth (4 * s.get .pwrPlSelWord) 4
  | .patClassInfoPhys => physCount s (s.get .patClassSelClass)
  | .patClassInfoLogical => s.logicalOf (s.get .patClassSelClass)
  | .patClassSpareLeft => sparesLeft s (s.get .patClassSelClass)
  | .patClassSpareFailed => min 255 (s.failedUnits (s.get .patClassSelClass))
  | .patUnitInfoLogical => match shownUnit s with | some u => if u.failed then 0xFFF else u.logical.getD 0xFFF | none => 0
  | .patUnitInfoFailed => match shownUnit s with | some u => b2n u.failed | none => 0
  | .patUnitInfoSpare => match shownUnit s with | some u => b2n (!u.failed && u.logical.isNone) | none => 0
  | .patUnitWearCount => match shownUnit s with | some u => u.wear | none => 0
  | .fjIrqStatTick => b2n (s.irqBit 0)
  | .fjIrqStatPowerFault => b2n (s.irqBit 1)
  | .fjIrqStatGuard => b2n (s.irqBit 2)
  | .fjIrqStatSeal => b2n (s.irqBit 3)
  | .fjIrqStatDigest => b2n (s.irqBit 4)
  | .fjIrqStatLattice => b2n (s.irqBit 5)
  | .fjIrqStatPointing => b2n (s.irqBit 6)
  | .fjIrqStatCkpt => b2n (s.irqBit 7)
  | .fjIrqStatTransport => b2n (s.irqBit 8)
  | .fjIrqStatPower => b2n (s.irqBit 9)
  | .fjIrqStatPatina => b2n (s.irqBit 10)
  | .fjIrqStatPort => b2n (s.irqBit 11)
  | .fjIrqStatSync => b2n (s.irqBit 12)
  | .fjIrqStatYeljo => b2n (s.irqBit 13)
  | .fjIrqStatFirmware => b2n (s.irqBit 14)
  | .fjIrqStatDone => b2n (s.irqBit 15)
  | .fjDbgClearWord => match s.guard.clearing with | some (_, w) => w | none => 0
  | .fjDbgClearBusy => b2n s.guard.clearing.isSome
  | .fjDbgClearWhich => match s.guard.clearing with | some (k, _) => k | none => 0
  | _ => s.getI f i

/-- The context an index of a field belongs to, for fields that have one (19 R502). -/
def ctxOf (f : Fld) (i : Nat) : Nat :=
  match (fldInfo f).owner with
  | .none => 0
  | .ctx => i
  | .ring => i / 4
  | .msix => i / 64
  | .map => i / 1024

/-- What a read of a field returns: zero for WO (00 R13) and for a context above NUM_VF (19 R502). -/
def State.readFld (s : State) (f : Fld) (i : Nat) : Nat :=
  if (fldInfo f).acc = .wo ∨ ctxOf f i > s.build.numVf then 0 else s.liveFld f i % 2 ^ fldWidth f

/-- A register of 32 bits. -/
def State.readRow (s : State) (bits : List BitsOf) (i : Nat) : Nat :=
  bits.foldl (fun a b => a + bitsOf (s.readFld b.fld i) b.sh b.w * 2 ^ b.lo) 0

/-! ### The views -/

/-- A row of a ring block or of an MSI-X table at an offset, with the index within it. -/
def findIn (rows : List MapRow) (off : Nat) : Option (MapRow × Nat) :=
  rows.findSome? (fun r =>
    if off < r.off then none else
    let d := off - r.off
    let k := if r.stride = 0 then 0 else d / r.stride
    if k < r.n ∧ (if r.stride = 0 then d else d % r.stride) = 0 then some (r, k) else none)

/-- Ring block of context n: four rings, 0x80 apart (13 R378). -/
def ringRow (n off : Nat) : Option (MapRow × Nat) := (findIn ringMap (off % 0x80)).map (fun p => (p.1, 4 * n + off / 0x80 % 4))

/-- MSI-X table of function n (19 R510). -/
def msixRow (n off : Nat) : Option (MapRow × Nat) := (findIn msixMap off).map (fun p => (p.1, 64 * n + p.2))

def rowWord (s : State) (r : Option (MapRow × Nat)) : Nat := match r with | some (r, i) => s.readRow r.bits i | none => 0

def pbaWord (s : State) (n off : Nat) : Nat := if n > s.build.numVf then 0 else bitsOf (s.getI .fjMsixPbaPending n) (8 * off) 32

/-- Four bytes of the debug aperture (19 R514). -/
def apertureWord (s : State) (off : Nat) : Nat :=
  let b := s.get .fjDbgSelPage * 65536 + off
  let bits := fun (l : List Nat) => ((List.range 32).filter (fun k => l.contains (8 * b + k))).foldl (fun a k => a + 2 ^ k) 0
  match s.get .fjDbgSelTarget with
  | 0 => bits s.guard.bits0
  | 1 => bits s.guard.bits1
  | 2 => if b < 4096 then (match s.guard.pool.find? (fun p => p.slot == b / 4) with | some p => p.gran % 2 ^ 26 + 2 ^ 31 | none => 0) else 0
  | _ => 0

def fjId : Nat := 0x464A0201

/-- The 32-bit register at an offset of the privileged view (19 R505); zero where none is (00 R21). -/
def State.privWord (s : State) (off : Nat) : Nat :=
  if off = 0 then fjId
  else if 0x10000 ≤ off ∧ off < 0x10200 then rowWord s (ringRow 0 (off - 0x10000))
  else if 0x14000 ≤ off ∧ off < 0x16000 then pageRead s 0 ((off - 0x14000) % 0x1000 / 4)
  else if 0x18000 ≤ off ∧ off < 0x18400 then rowWord s (msixRow 0 (off - 0x18000))
  else if off = 0x19000 ∨ off = 0x19004 then pbaWord s 0 (off - 0x19000)
  else if 0x20000 ≤ off ∧ off < 0x28000 then rowWord s (ringRow ((off - 0x20000) / 0x200) ((off - 0x20000) % 0x200))
  else if 0x40000 ≤ off ∧ off < 0xC0000 then bitsOf (syncDebug s ((off - 0x40000) / 8)) (8 * (off % 8)) 32
  else if 0xD0000 ≤ off ∧ off < 0xE0000 then apertureWord s (off - 0xD0000)
  else rowWord s (findRow s off privMap)

/-- The status page of context n (19 R507). -/
def State.statusWord (s : State) (n off : Nat) : Nat :=
  match off with
  | 0x00 => fjId
  | 0x04 => n + s.readFld .tickShareCeil n * 2 ^ 8 + s.readFld .tickShareWeight n * 2 ^ 16
  | 0x08 => s.now % 2 ^ 32
  | 0x0C => s.now / 2 ^ 32
  | 0x10 =>
    s.mode + s.get .tickStatClkStep * 2 ^ 2 + s.get .tickStatSuspended * 2 ^ 4 + b2n (bitOf (parkedBits s) n) * 2 ^ 5 +
      s.get .patStatOutOfService * 2 ^ 6 + s.readFld .stgSaveOccOcc n * 2 ^ 8 + s.readFld .pntVlVl n * 2 ^ 16 +
      s.readFld .pntVlPending n * 2 ^ 18 + s.get .latStatLanes * 2 ^ 24
  | 0x14 => s.get .tickPeriodPeriod
  | 0x20 => bitsOf (s.readFld .tickAcctRdBeats n) 0 32
  | 0x24 => bitsOf (s.readFld .tickAcctRdBeats n) 32 32
  | 0x28 => bitsOf (s.readFld .tickAcctWrBeats n) 0 32
  | 0x2C => bitsOf (s.readFld .tickAcctWrBeats n) 32 32
  | 0x30 => bitsOf (s.readFld .tickAcctRmBeats n) 0 32
  | 0x34 => bitsOf (s.readFld .tickAcctRmBeats n) 32 32
  | 0x38 => bitsOf (s.readFld .tickAcctHeldTicks n) 0 32
  | 0x3C => bitsOf (s.readFld .tickAcctHeldTicks n) 32 32
  | _ => 0

/-- The 32-bit register at an offset of the tenant view of context n (19 R506). -/
def State.tenantWord (s : State) (n off : Nat) : Nat :=
  if off < 0x40 then s.statusWord n off
  else if 0x1000 ≤ off ∧ off < 0x1200 then rowWord s (ringRow n (off - 0x1000))
  else if 0x4000 ≤ off ∧ off < 0x6000 then pageRead s n ((off - 0x4000) % 0x1000 / 4)
  else if 0x8000 ≤ off ∧ off < 0x8400 then rowWord s (msixRow n (off - 0x8000))
  else if off = 0x9000 ∨ off = 0x9004 then pbaWord s n (off - 0x9000)
  else 0

/-- A machine of this build in which every field has its reset value (19 R504, BOOT before the lock). -/
def State.unset (s : State) : State := { State.reset with build := s.build, regs := [] }

/-- The register that function fn reads, as the state of the engine serves it (19 R504); function 0 reads the privileged view. -/
def State.viewWord (s : State) (fn off : Nat) : Nat :=
  if s.eng = 0 ∨ s.eng = 8 then (if off = 0 then fjId else 0)
  else if fn = 0 ∨ fn = 64 then s.privWord off
  else if fn > s.build.numVf then 0
  else if s.eng = 6 then (if off = 0 then fjId else 0)
  else if s.eng = 1 ∧ ¬ s.flag .fjStateLocked then s.unset.tenantWord fn off
  else s.tenantWord fn off

/-! ### Halves of 64-bit quantities (00 R18) -/

/-- Which half of a 64-bit quantity a row's register is, 0 low and 1 high. -/
def rowHalf (r : Option (MapRow × Nat)) : Option Nat :=
  match r with
  | some (r, _) => r.bits.findSome? (fun b => if fldWidth b.fld ≤ 32 then none else some (if b.sh < 32 then 0 else 1))
  | none => none

def pairHalf (off : Nat) : Option Nat := if off % 8 = 0 then some 0 else some 1

/-- Which half of a 64-bit quantity a register of a view is. -/
def halfOf (s : State) (fn off : Nat) : Option Nat :=
  if fn = 0 ∨ fn = 64 then
    if off < 0x10000 then rowHalf (findRow s off privMap)
    else if off < 0x10200 then rowHalf (ringRow 0 (off % 0x200))
    else if off / 8 = 0x3200 then pairHalf off
    else if off / 0x8000 = 4 then rowHalf (ringRow 0 (off % 0x200))
    else none
  else if off < 0x10 ∨ (off / 0x20 = 1) then (if off < 8 then none else pairHalf off)
  else if off / 0x200 = 8 then rowHalf (ringRow fn (off % 0x200))
  else if off / 8 = 0x1200 then pairHalf off
  else none

/-- A read by function fn (64 for IJTAG) of `size` bytes at an offset (00 R17, R18; 19 R503): the value and the latch it leaves. A function
has one latch, so the read of another low half discards a latched high half that has not been read: R18 says nothing of two quantities read
in turn (DESIGN CHOICE, log entry 122). -/
def State.regRead (s : State) (fn off size : Nat) : Nat × State :=
  let byte := fun (k : Nat) => bitsOf (s.viewWord fn ((off + k) / 4 * 4)) (8 * ((off + k) % 4)) 8
  let plain := (List.range size).foldl (fun a k => a + byte k * 2 ^ (8 * k)) 0
  if size ≠ 4 ∨ off % 4 ≠ 0 then (plain, s)
  else
    match halfOf s fn off with
    | some 0 => (plain, { s with latch := (fn, off, s.viewWord fn (off + 4)) :: s.latch.filter (fun (l : Nat × Nat × Nat) => l.1 != fn) })
    | some _ =>
      match s.latch.find? (fun (l : Nat × Nat × Nat) => l.1 == fn && l.2.1 + 4 == off) with
      | some l => (l.2.2, { s with latch := s.latch.filter (fun (l : Nat × Nat × Nat) => l.1 != fn) })
      | none => (plain, s)
    | none => (plain, s)

end Sys2Proof.Machine
end

