-- ==== Sys2Proof/Machine/Reset.lean ====
section
/-! DEFINITION. Resets, power states and what each setting keeps (16 R448 to R456; 13 R376; 14 R398; 06 R193; 07 R221; 09 R263; 15 R412). -/
namespace Sys2Proof.Machine

/-! ### What registers keep (16 R455) -/

/-- The context a cell belongs to. -/
def cellCtx (c : Cell) : Option Nat :=
  match (fldInfo c.fld).owner with
  | .none => none
  | .ctx => some c.idx
  | .ring => some (c.idx / 4)
  | .msix => some (c.idx / 64)
  | .map => some (c.idx / 1024)

/-- A field's Survives entry names FUNCTION. -/
def keepsFunction (c : Cell) : Bool :=
  match (fldInfo c.fld).keep with
  | .always => true | .notCold => true | .lock => true | .stat => true | .live => true
  | _ => false

/-- A field's Survives entry names ENGINE. -/
def keepsEngine (c : Cell) : Bool :=
  match (fldInfo c.fld).keep with
  | .always => true | .notCold => true | .lock => true | .ring => true | .ringCtx => true | .live => true
  | _ => false

/-- Under TENANT the reset context's own fields are lost. -/
def keepsTenant (n : Nat) (c : Cell) : Bool :=
  match (fldInfo c.fld).keep with
  | .ring => cellCtx c != some n
  | .ringCtx => cellCtx c != some n
  | .ctxOwned => cellCtx c != some n
  | _ => true

def keepsCold (c : Cell) : Bool := (fldInfo c.fld).keep == .always

/-! ### COLD, PACKAGE and OFF -/

/-- What SRAM and registers hold after power or a COLD or PACKAGE reset: the engine's own numbering and what its ports have sent stand
apart. Writes that memory still has to answer are answered. -/
def State.blank (s : State) : State :=
  let a := if s.guard.armed then s.guardAbandon else s
  { State.reset with
    regs := a.regs.filter keepsCold, build := s.build, pins := s.pins,
    guard := { Guard.empty with awaiting := a.guard.awaiting, rescues := a.guard.rescues, copyTags := a.guard.copyTags },
    xfers := s.xfers.filterMap (fun (x : Xfer) =>
      if x.kind = .fabWrite ∨ x.kind = .fabRead then some { x with job := 0, use := .side } else none),
    nvm := [], tag := s.tag, uid := s.uid, freeCtr := s.freeCtr, out := a.out }

/-- COLD or PACKAGE (16 R448): the straps are sampled, key-port reads and the NVM bring-up begin (R440). No row raises the host link after
it has fallen: it is up again from here (DESIGN CHOICE, log entry 87). -/
def State.coldStart (s : State) (cause inst present : Nat) : State :=
  let b := s.blank
  let s1 : State := { b with pins := { b.pins with posInst := inst % 16, posPresent := present % 65536, hostLinkUp := true } }
  let s2 := ((s1.set .fjPosInst inst).set .fjPosPresent present).set .fjStateCause cause
  ((s2.send (.engState 1)).send (.keyRequest 0 0)).nvmIssue ⟨.read, 0, 512, [], .sfdp⟩

/-! ### Pieces of the other resets -/

/-- A reset in IDLE or RETAIN wakes first (16 R456). -/
def State.wakeNow (s : State) : State :=
  if s.eng = 4 then ({ s with waking := false }).resetAllQps.setEng 2 else s.wake

/-- Emptied by FUNCTION and ENGINE alike (16 R455). Both clear TICK_STAT.FREE_RUN with the registers; the count of consecutive missed edges
goes on, so that FREE_RUN is set again at the next missed edge (02 R51, R89; DESIGN CHOICE, log entry 127). -/
def State.emptyWork (s : State) : State :=
  { s with
    store := [], slots := [], cache := [], saved := [], parked := [], yielded := [], handles := [], tables := [], vlPending := [], keyLoad := none,
    keys := s.keys.map (fun (x : KeySlot) => if x.armature then x else x.erase),
    tick := { s.tick with mode := none, pending := none, lostTo := s.tick.ofs, turns := [] } }

/-- A RESET record (18 R492). -/
def State.logReset (s : State) (kind ctx : Nat) : State := s.logRec 6 ctx 0 (kind + 16 * ctx) []

/-- The work of every context ends and posts nothing: rings stop (13 R376). -/
def State.stopAll (s : State) : State :=
  { s with
    entries := [], groups := [], rings := [], jobs := [], halfA := Half.empty, halfB := Half.empty, pendWr := [], pendOps := [], pipes := [], sealPipes := [],
    printing := [], waiters := [], words := [], xfers := s.xfers.map (fun (x : Xfer) => { x with job := 0, use := .side }) }

/-- In these states a function-level reset completes at once (16 R450; 18 R495). -/
def flrAtOnce (s : State) : Bool := s.eng == 1 || s.eng == 6 || s.replaying

/-- What the guard still shows after the reset that has just emptied its registers: an abandoned snapshot (03 R118), and the answer of an
arming that the reset has cut off, whose trigger stays pending (R539). -/
def State.guardShows (s : State) (was : State) : State :=
  let s1 := if was.guard.armed then s.up .grdStatAbandoned else s
  let s2 := if was.ckpt.cut then
      let t := (s1.up .grdStatUnavailable).up .grdStatSnapPending
      { t with ckpt := { t.ckpt with cut := false } }
    else s1
  if was.ckpt.cut ∧ s2.get .grdSkippedCount = 0 then s2.bump .grdSkippedCount 1 else s2

/-- FUNCTION (16 R448). -/
def State.functionReset (s : State) : State :=
  let s1 := s.wakeNow.logReset 2 0
  let s2 := (s1.stopAll.resetGuard).killAllQps
  let s3 := s2.emptyWork
  let s4 : State := { s3 with regs := s3.regs.filter keepsFunction, latch := [] }
  (s4.guardRegs.guardShows s).loadArmTables

/-- Work of context n ends and posts nothing (02 R88, 13 R376). -/
def State.stopCtx (s : State) (n : Nat) : State :=
  let s1 := (s.jobs.filter (fun j => j.ctx == n)).foldl (fun a j => a.dropJob j.uid) s
  let s2 := (s1.waiters.filter (fun w => w.ctx == n)).foldl (fun a w => a.withdraw w) s1
  { s2 with
    entries := s2.entries.filter (fun e => e.ctx != n), groups := s2.groups.filter (fun g => g.ctx != n),
    rings := s2.rings.filter (fun r => r.ctx != n), saved := s2.saved.filter (fun x => x.ctx != n), parked := s2.parked.filter (fun p => p.1 != n) }

/-- TENANT of context n (16 R448, R455; 06 R193; 07 R221; 09 R263; 14 R398). -/
def State.tenantReset (s : State) (n : Nat) : State :=
  let s1 := (s.wakeNow.logReset 1 n).stopCtx n
  let s2 : State := { s1 with
    keys := s1.keys.map (fun (x : KeySlot) => if x.ctx = n ∧ x.key.isSome then x.erase else x), store := s1.store.filter (fun x => x.ctx != n),
    slots := s1.slots.map (fun (x : DecSlot) => if x.ctx = n then { x with mould := none, ctx := 0, refs := 0 } else x),
    cache := s1.cache.filter (fun x => x.key.ctx != n), handles := s1.handles.filter (fun x => x.ctx != n),
    tables := s1.tables.filter (fun x => x.ctx != n), vlPending := s1.vlPending.filter (fun x => x.1 != n) }
  { s2 with regs := s2.regs.filter (keepsTenant n) }

/-- ENGINE (16 R448): fetched entries complete with ST_RESET_ABORT, and the rings go on. -/
def State.engineReset (s : State) : State :=
  let s1 := s.wakeNow.logReset 3 0
  let s2 := s1.waiters.foldl (fun a w => a.withdraw w) s1
  let s3 := ((s2.resetGuard).abortEntries stResetAbort).killAllQps
  let s4 := s3.emptyWork
  let s5 : State := { s4 with regs := s4.regs.filter keepsEngine, latch := [], fwDown := true, ckpt := { s4.ckpt with divFull := false } }
  (((s5.guardRegs.guardShows s).up .fjWdogFwDown).up .fjIrqDoneEngineRst)

/-! ### Power states (16 R451 to R453) -/

/-- A wake event in RETAIN: ENG_STATE 4 to 3, queue pairs in RESET, targets connecting (16 R453). -/
def State.wakeRetain (s : State) : State :=
  if s.eng = 4 ∧ ¬ s.waking then (({ s with waking := true }).resetAllQps).setEng 3 else s

/-! ### The commands -/

def execColdReset (inst present : Nat) (s : State) : Host.Outcome State Fault Refusal := finish s (s.coldStart 0 inst present)

def execPackageReset (inst present : Nat) (s : State) : Host.Outcome State Fault Refusal :=
  if s.eng = 8 then finish s s else finish s (s.coldStart 1 inst present)

/-- HFLR_REQ[0] (15 R412). In hold-up and OFF it has no effect. -/
def execFunctionReset (ofs : Nat) (s : State) : Host.Outcome State Fault Refusal :=
  let t := ({ s with pins := { s.pins with hflrReq := s.pins.hflrReq ||| 1 } }).at_ ofs
  if s.holdingUp ∨ s.eng = 8 ∨ s.eng = 0 then finish s t
  else finish s ((if s.replaying then t.bump .yljIgnoredCount 1 else if flrAtOnce s then t else t.functionReset).send (.hflrDone 0 true))

/-- HFLR_REQ[n], n from 1 to 63 (15 R412). -/
def execTenantReset (ctx ofs : Nat) (s : State) : Host.Outcome State Fault Refusal :=
  let n := ctx % 64
  let t := ({ s with pins := { s.pins with hflrReq := s.pins.hflrReq ||| 2 ^ n } }).at_ ofs
  if s.holdingUp ∨ s.eng = 8 ∨ s.eng = 0 then finish s t
  else finish s ((if s.replaying then t.bump .yljIgnoredCount 1 else if flrAtOnce s ∨ n = 0 then t else t.tenantReset n).send (.hflrDone n true))

/-- HFLR_REQ[n] falls, and HFLR_DONE[n] with it (15 R412). -/
def execHflrReqFall (fn : Nat) (s : State) : Host.Outcome State Fault Refusal :=
  let n := fn % 64
  finish s (({ s with pins := { s.pins with hflrReq := if bitOf s.pins.hflrReq n then s.pins.hflrReq - 2 ^ n else s.pins.hflrReq } }).send
    (.hflrDone n false))

/-- Pending messages of function n whose masks are clear are sent (19 R511), but for HOLDUP and FAULT, where none goes out (20 R523). -/
def State.sendPending (s : State) (n : Nat) : State :=
  if s.eng = 5 ∨ s.eng = 6 then s else (List.range 64).foldl (fun a v =>
    let p := a.getI .fjMsixPbaPending n
    if bitOf p v ∧ a.getI .fjMsixCtrlMask (64 * n + v) = 0 ∧ ¬ bitOf a.pins.msixMask n then
      (a.setI .fjMsixPbaPending n (p - 2 ^ v)).message n v
    else a) s

/-- HCFG_MSIX_MASK[n] clears (19 R511). -/
def execHcfgMsixMaskClear (fn : Nat) (s : State) : Host.Outcome State Fault Refusal :=
  let n := fn % 64
  let t : State := { s with pins := { s.pins with msixMask := if bitOf s.pins.msixMask n then s.pins.msixMask - 2 ^ n else s.pins.msixMask } }
  finish s (t.sendPending n)

/-- FJ_PM.IDLE_TICKS ticks without work have passed (16 R451, R452). -/
def execIdleEntry (s : State) : Host.Outcome State Fault Refusal :=
  if s.eng = 2 ∧ s.holdup.isNone ∧ workless s ∧ s.get .fjPmIdleTicks ≠ 0 ∧ s.get .fjPmIdleTicks ≤ s.tick.idle then finish s (s.setEng 3)
  else notDue "IDLE_ENTRY"

/-- TICK_NOW has reached FJ_PM_WAKE in RETAIN (16 R451). -/
def execPmWakeTick (s : State) : Host.Outcome State Fault Refusal :=
  if s.eng = 4 ∧ s.get .fjPmWakeTick ≠ 0 ∧ s.get .fjPmWakeTick ≤ s.now then finish s s.wakeRetain else notDue "PM_WAKE_TICK"

/-- A host request in RETAIN (16 R453): served after the wake. -/
def execHostRequestWake (fn off size : Nat) (wr : Option Nat) (s : State) : Host.Outcome State Fault Refusal :=
  if s.eng = 4 ∨ s.waking then finish s ({ s.wakeRetain with hcqWait := s.hcqWait ++ [(fn, off, size, wr)] })
  else notDue "HOST_REQUEST_WAKE"

/-- The supply is removed, or VDD_CORE falls below 0.60 V in RETAIN (16 R451, 21 R531): OFF. The port's level is undefined. -/
def execRailRemoved (s : State) : Host.Outcome State Fault Refusal :=
  let d := s.blank.drawFree
  let off : State := { d.2 with eng := 8 }
  finish s (off.send (.engState (d.1 % 8)))

/-- DBG_EN falls (15 R428, 21 R535): the network disconnects, and a known-answer test in progress is discarded. -/
def execDbgEnFall (s : State) : Host.Outcome State Fault Refusal :=
  let t : State := { s with pins := { s.pins with dbgEn := false }, ijtag := false }
  if s.ijtag then finish s (({ t with patina := { t.patina with urgent := t.patina.urgent.dropLast } }).send (.tdo (zeros 8)))
  else finish s t

end Sys2Proof.Machine
end

