-- ==== Sys2Proof/Machine/RegWrite.lean ====
section
/-! DEFINITION. Register writes (00 R13 to R19; 19 R501 to R504, R509): where a write may act, the access types, and the fields that act
when they are written; the commands that are writes, the wake from RETAIN (16 R453), and IJTAG (15 R427, R428). -/
namespace Sys2Proof.Machine

/-! ### What the fields do that act when written -/

/-- TICK_MODE.GO submits REQUEST for the next boundary (02 R64). -/
def State.modeGo (s : State) : State := { s with tick := { s.tick with pending := some (s.get .tickModeRequest) } }

/-- STG_CTRL.SWAP closes context 0's open segment (04 R132); a snapshot's segment is whole by its frame (10 R266). -/
def State.swapNow (s : State) : State :=
  let h := s.half s.fillA
  match s.findJob h.job with
  | some j => if h.st = .fill ∧ ¬ h.closed ∧ h.ctx = 0 ∧ j.opcode ≠ opSnap ∧ ¬ h.blocks.isEmpty then s.closeFill false else s
  | none => s

def State.mcInvalidate (s : State) (v : Nat) : State :=
  let s1 := if bitOf v 1 then s.cacheDrop (fun _ => true) else s
  if bitOf v 2 then s1.cacheDrop (fun e => e.key.ctx == s1.get .stgMcCtrlCtx) else s1

/-- CDR_CTRL.SLOT_FLUSH invalidates every slot whose reference count is zero (05 R178). -/
def State.slotFlush (s : State) : State :=
  { s with slots := s.slots.map (fun (x : DecSlot) => if x.refs = 0 then { x with mould := none } else x) }

/-- GRD_CTRL.PEAK_CLR clears every PEAK field and GRD_STALL_MAX (03 R120). -/
def State.guardPeaks (s : State) : State :=
  (((s.set .grdHoldPeak 0).set .grdPoolPeak 0).set .grdSpillPeakPeak 0).set .grdStallMaxNs 0

/-- The blob as SEAL_KEY_BLOB holds it (06 R191). -/
def keyBlob (s : State) : Bytes := (List.range 12).flatMap (fun w => natLe 4 (s.getI .sealKeyBlobData w))

/-- SEAL_KEY_CMD. LOAD and ERASE set in one write: the load begins, then the erase (DESIGN CHOICE, log entry 134). -/
def State.keyCommand (s : State) (v : Nat) : State :=
  let s1 := if bitOf v 0 then s.keyBegin (keyBlob s) false else s
  if bitOf v 1 then s1.keyErase (s1.get .sealKeyCmdEraseSlot) else s1

/-- A write to PNT_VL[n] waits for a boundary (09 R251). -/
def State.vlWrite (s : State) (n code : Nat) : State :=
  { s with vlPending := upsert (fun p => p.1 == n) (n, code) s.vlPending }

/-- FJ_CKPT_CTRL.ABANDON (10 R286). -/
def State.abandonNow (s : State) : State := (s.abandonSnap stResetAbort (!s.guard.armed)).work

/-- What a role's topology names: the entries of its buddy path, and of PREV's and NEXT's where it has them. -/
def roleEntries (s : State) : List Nat :=
  (s.path (s.get .fjTopoQpBuddy) ++ (if s.flag .fjTopoQpPrevV then s.path (s.get .fjTopoQpPrev) else []) ++
    (if s.flag .fjTopoQpNextV then s.path (s.get .fjTopoQpNext) else [])).dedup

/-- The PEER entries are those that the configuration asks for (16 R436). -/
def rolePeersOk (s : State) : Bool :=
  (peerChecks s s.arm.records s.arm.pkg).all (fun c => c.1) &&
  (List.range 4).all (fun j =>
    let f := s.getI .fjPeerResFramesFrames j
    let ds := (peerEntries s.arm.records).filter (fun p => p.1 == 4 + j)
    f == 0 || (ds.length == 1 && ds.all (fun d => d.2.2.2 == f)))

/-- FJ_CKPT_CTRL.ADOPT (10 R288, R290; 16 R436; 21 R525): the role's pairs, the guard cleared for its windows, reserves EMPTY, and the
entries that its topology names brought to RTS. -/
def State.adopt (s : State) : State :=
  if ¬ s.flag .fjCkptCfgSpare ∨ s.flag .fjCkptStatAdopted then s
  else
    match s.arm.records.find? (fun r => r.typ == 5 && fieldAt r.body 0 1 == s.get .fjCkptCtrlRole) with
    | none => s
    | some r =>
      let s1 := s.applyPairs (r.body.drop 8)
      if ¬ rolePeersOk s1 then s
      else
        let s2 : State := { s1 with
          guard := s1.guard.clearBoth, ckpt := { s1.ckpt with slots := [⟨0, 0, 0⟩, ⟨0, 0, 0⟩], peers := [] } }
        let s3 := (roleEntries s2).foldl (fun (a : State) (q : Nat) => if a.rts q then a else a.qpToRts q) s2.guardRegs
        (s3.up .fjCkptStatAdopted).up .fjIrqDoneAdopt

/-- XPT_QP_CMD (12 R329): 1 RESET, 2 RTS. Jobs whose operations a RESET drops end as at an entry that is not in RTS. -/
def State.qpCommand (s : State) (cmd : Nat) : State :=
  let q := s.get .xptQpSelQp
  if cmd = 1 then
    let t := s.qpError q stXptQpDown
    let u := (t.set .xptStatQpError (s.get .xptStatQpError)).setI .xptQpStateLastErr q (s.getI .xptQpStateLastErr q)
    u.qpToReset q
  else if cmd = 2 ∧ ¬ s.rts q then s.qpToRts q
  else s

/-- FJ_CTRL.GO (16 R441, 18 R494): check 10, and in replay the conditions that the session's header `h` fixes. -/
def State.goWrite (s : State) (h : Bytes) : State :=
  if s.eng ≠ 1 ∨ ¬ s.flag .fjStateAwaitDriver then s
  else if s.boot.stuck then s.up .fjIrqDoneGo
  else
    match configBreach s s.arm.records s.arm.pkg with
    | some o => ((s.set .fjBootInfoField o).set .fjBootInfoCode 0x15).up .fjIrqDoneGo
    | none =>
      let c := if s.get .yljCfgMode = 2 then condAtGo s h else 0
      if c ≠ 0 then (s.set .yljStatCond c).up .fjIrqDoneGo
      else
        let y := if s.get .yljCfgMode = 2 then { s.yeljo with srcHeader := h, pos := fieldAt h 0x58 8 } else s.yeljo
        let t : State := { s with yeljo := y }
        ((t.down .fjStateAwaitDriver).up .fjIrqDoneGo).step4

def State.armUpdFail (s : State) (code : Nat) : State := ((s.set .fjArmUpdStatState 3).set .fjArmUpdStatCode code).up .fjIrqDoneArmUpd

/-- The copy area an update writes: an invalid copy, or the lower SEQ (16 R454). -/
def updateCopy (s : State) : Nat :=
  let seq := fun k => (s.arm.copySeq.find? (fun x => x.1 == k)).map (·.2)
  match seq 0, seq 1 with
  | none, _ => 0
  | _, none => 1
  | some a, some b => if b < a then 1 else 0

/-- FJ_CTRL.ARM_UPD (16 R454): checks 5 to 7 and the SEQ on the image `b` read from host memory, then the first page, on NOR after an erase. -/
def State.armUpdWrite (s : State) (b : Bytes) : State :=
  if s.get .fjArmUpdStatState = 1 then s
  else
    let img := b.take (s.get .fjArmUpdLenLen)
    if ¬ check5 (fieldAt s.boot.directory 0x10 4) img then s.armUpdFail 0x10
    else if ¬ check6 s.arm.keyHash img then s.armUpdFail 0x11
    else if ¬ check7 img then s.armUpdFail 0x12
    else if s.arm.copySeq.any (fun x => imgSeq img ≤ x.2) then s.armUpdFail 0x17
    else
      let k := updateCopy s
      let u : ArmUpd := ⟨img, k, 0⟩
      let s1 := (({ s with armUpd := some u }).set .fjArmUpdStatState 1).set .fjArmUpdStatCode 0
      if sfdpMram s1.boot.sfdp then s1.updateNext u
      else s1.nvmIssue ⟨.erase, fieldAt s1.boot.directory (8 + 4 * k) 4, roundUp img.length 4096, [], .update⟩

/-- FJ_IRQ_EN: a 1 written to a bit whose summary bit is 1 counts as a change to 1 (19 R509). `s0` is the state before the write. -/
def State.irqEnAgain (s0 s : State) (v : Nat) : State :=
  (List.range 16).foldl (fun a k => if bitOf v k ∧ s0.irqOn k ∧ s.irqOn k then a.message 0 (48 + k) else a) s

/-- What a write of v to the register at an offset does beside its access types. `data` is what GO or ARM_UPD reads through a port. -/
def State.actOn (s : State) (off v : Nat) (data : Bytes) : State :=
  match off with
  | 0x0044 =>
    let s1 := if bitOf v 0 then s.goWrite data else s
    let s2 := if bitOf v 3 ∧ s.eng ≠ 1 then s1.armUpdWrite data else s1
    let s3 := if bitOf v 2 ∧ (s.eng = 2 ∨ s.eng = 3) then s2.up .fjStateRetainPend else s2
    if bitOf v 1 ∧ (s.eng = 2 ∨ s.eng = 3) then s3.engineReset else s3
  | 0x0110 =>
    let s1 := if bitOf v 0 then s.raiseWarn 0x10 else s
    let s2 := if bitOf v 1 then s1.abandonNow else s1
    if bitOf v 2 then s2.adopt else s2
  | 0x01A8 => { s with ckpt := { s.ckpt with divFull := false } }
  | 0x1010 => if bitOf v 6 then s.modeGo else s
  | 0x2004 => if bitOf v 0 then s.guardPeaks else s
  | 0x3004 => if bitOf v 0 then s.swapNow.goOn else s
  | 0x3080 => s.mcInvalidate v
  | 0x4004 => if bitOf v 0 then s.slotFlush else s
  | 0x5004 => if bitOf v 0 then s.ackLost else s
  | 0x5040 => s.keyCommand v
  | 0x6004 => if bitOf v 0 then s.set .digFptPeakPeak 0 else s
  | 0x8004 => if bitOf v 0 then s.pntInvCtx (s.get .pntCtrlCtx) else s
  | 0x9034 => s.qpCommand (v % 4)
  | 0xA004 => if bitOf v 1 then s.retire (s.get .patClassSelClass) (s.get .patUnitSelUnit) else s
  | 0xA010 => s.bump .patEccWinCount (v % 2 ^ 32)
  | 0xB010 => if bitOf v 0 then s.set .pwrBusvNowMin 0xFFF else s
  | 0xC008 => if bitOf v 0 then s.yClose else s
  | _ => s

/-! ### Access types -/

/-- Each 1 clears its bit of a W1C field (00 R13). -/
def State.clearBits (s : State) (bits : List BitsOf) (i v : Nat) : State :=
  bits.foldl (fun a b =>
    if (fldInfo b.fld).acc = .w1c then a.setI b.fld i (a.getI b.fld i - (a.getI b.fld i &&& bitsOf v b.lo b.w * 2 ^ b.sh)) else a) s

/-- Once more a message for each summary bit that a written W1C field feeds and that is still 1 (19 R509). -/
def State.signalAgain (s0 s : State) (bits : List BitsOf) : State :=
  (List.range 16).foldl (fun a k =>
    if s0.irqOn k ∧ s.irqOn k ∧ bits.any (fun b => (fldInfo b.fld).acc == .w1c && (irqSources.getD k []).contains b.fld) then
      a.message 0 (48 + k) else a) s

/-- The write changes or triggers some field of the register: its access types let it (00 R13, R14). -/
def accepts (s : State) (bits : List BitsOf) : Bool :=
  bits.any (fun b => match (fldInfo b.fld).acc with | .ro => false | .rwl => !s.flag .fjStateLocked | _ => true)

def rwAccs (s : State) : List Access := if s.flag .fjStateLocked then [.rw] else [.rw, .rwl]

/-- Attributes of the selected entry are not written while it is in RTS (12 R329); a row of a context above NUM_VF ignores writes (19 R502). -/
def rowShut (s : State) (r : MapRow) (off i : Nat) : Bool :=
  (0x903C ≤ off && off < 0x906C && s.rts (s.get .xptQpSelQp)) || r.bits.any (fun b => ctxOf b.fld i > s.build.numVf)

/-- A write that acts as the register's table states (19 R504, ACTIVE and IDLE). -/
def State.regWrite (s : State) (off v : Nat) (data : Bytes) : State :=
  match findRow s off privMap with
  | none => s
  | some (r, i) =>
    if rowShut s r off i ∨ ¬ accepts s r.bits then s
    else
      let s0 := s.logWrite false 0 off 4 v
      if off = 0xD008 then s0.remap (s.get .syncMapSelCtx) (s.get .syncMapSelId) v
      else if 0x8100 ≤ off ∧ off < 0x8200 then s0.vlWrite i (v % 4)
      else
        let s1 := s0.putBits (if 0x5010 ≤ off ∧ off < 0x5040 then [.wo] else rwAccs s0) r.bits i v
        let s2 := (if s.flag .fjStateLocked then s1 else s1.derived).clearBits r.bits i v
        let s3 := s2.actOn off v data
        if off = 0x0204 then State.irqEnAgain s s3 v else State.signalAgain s s3 r.bits

/-! ### Rings, sync pages, MSI-X -/

/-- A doorbell (13 R362). -/
def State.doorbellAt (s : State) (ctx ring tail : Nat) : State :=
  let i := rix ctx ring
  let s1 := s.logRec 3 ctx 0 (ctx + 64 * ring + 256 * tail) []
  if s1.getI .ringCfgEnable i = 0 ∨ tail ≥ ringSize s1 i then s1.setI .ringStatTailErr i 1 else s1.setI .ringTailTail i tail

/-- A write to RING_CFG of a ring that is not enabled (13 R352). -/
def State.ringConfigure (s : State) (ctx ring v : Nat) (row : MapRow) : State :=
  let i := rix ctx ring
  let s1 := s.putBits [.rw] row.bits i v
  if s1.getI .ringCfgEnable i = 1 then
    ((((s1.setI .ringHeadHead i 0).setI .ringTailTail i 0).setI .cringTailTail i 0).setI .cringTailPhase i 1).putRing (Ring.empty ctx ring)
  else s1

/-- CRING_HEAD (13 R370, R371): room for completions that wait. An index outside the ring is ignored (13 R377). -/
def State.cringHeadAt (s : State) (ctx ring v : Nat) : State :=
  if v % 65536 ≥ cringSize s (rix ctx ring) then s else (s.setI .cringHeadHead (rix ctx ring) (v % 65536)).drainCmpl ctx ring

/-- A write to the ring block of context n, at offset `off` of the block (13 R378). -/
def State.ringWrite (s : State) (tenant : Bool) (n off v : Nat) : State :=
  match ringRow n off with
  | none => s
  | some (row, i) =>
    let ring := off / 0x80 % 4
    let at_ := (if tenant then 0x1000 else 0x10000) + off
    let log := fun (a : State) => a.logWrite tenant n at_ 4 v
    let fixed := s.getI .ringCfgEnable i = 1
    match off % 0x80 with
    | 0x08 => if fixed then s else (log s).ringConfigure n ring v row
    | 0x0C => s.doorbellAt n ring (v % 65536)
    | 0x4C => (log s).cringHeadAt n ring v
    | 0x14 => (log s).clearBits row.bits i v
    | 0x54 => (log s).clearBits row.bits i v
    | 0x00 => if fixed then s else (log s).putBits [.rw] row.bits i v
    | 0x04 => if fixed then s else (log s).putBits [.rw] row.bits i v
    | 0x40 => if fixed then s else (log s).putBits [.rw] row.bits i v
    | 0x44 => if fixed then s else (log s).putBits [.rw] row.bits i v
    | 0x48 => if fixed then s else (log s).putBits [.rw] row.bits i v
    | _ => s

/-- A write to the sync page of context n, at offset `off` of the page (14 R386). -/
def State.syncWrite (s : State) (n off v : Nat) : State := s.pageWrite n (off % 0x1000 / 4) v (0x1000 ≤ off)

/-- A write to the MSI-X table of function n (19 R510, R511): pending messages go out when their masks clear. -/
def State.msixWrite (s : State) (tenant : Bool) (n off v : Nat) : State :=
  match msixRow n off with
  | none => s
  | some (row, i) =>
    ((s.logWrite tenant n ((if tenant then 0x8000 else 0x18000) + off) 4 v).putBits [.rw] row.bits i v).sendPending n

/-! ### The views -/

/-- 32 bits written at an offset of a view, in ACTIVE and IDLE. -/
def State.wordWrite (s : State) (tenant : Bool) (n off v : Nat) (data : Bytes) : State :=
  if tenant then
    if 0x1000 ≤ off ∧ off < 0x1200 then s.ringWrite true n (off - 0x1000) v
    else if 0x4000 ≤ off ∧ off < 0x6000 then s.syncWrite n (off - 0x4000) v
    else if 0x8000 ≤ off ∧ off < 0x8400 then s.msixWrite true n (off - 0x8000) v
    else s
  else if 0x10000 ≤ off ∧ off < 0x10200 then s.ringWrite false 0 (off - 0x10000) v
  else if 0x14000 ≤ off ∧ off < 0x16000 then s.syncWrite 0 (off - 0x14000) v
  else if 0x18000 ≤ off ∧ off < 0x18400 then s.msixWrite false 0 (off - 0x18000) v
  else s.regWrite off v data

/-- In BOOT before the lock: RW and RWL fields, the MSI-X tables, and GO (19 R504, 16 R441). -/
def State.wordInBoot (s : State) (tenant : Bool) (n off v : Nat) (data : Bytes) : State :=
  if tenant then (if 0x8000 ≤ off ∧ off < 0x8400 then s.msixWrite true n (off - 0x8000) v else s)
  else if 0x18000 ≤ off ∧ off < 0x18400 then s.msixWrite false 0 (off - 0x18000) v
  else
    match findRow s off privMap with
    | none => s
    | some (r, i) =>
      if off = 0x0044 then (if bitOf v 0 then s.goWrite data else s)
      else if rowShut s r off i then s
      else if off = 0xD008 then s.remap (s.get .syncMapSelCtx) (s.get .syncMapSelId) v
      else if 0x8100 ≤ off ∧ off < 0x8200 then s.vlWrite i (v % 4)
      else
        let t := (s.putBits [.rw, .rwl] r.bits i v).derived
        if off = 0x0204 then State.irqEnAgain s t v else t

/-- Selector registers (19 R504). -/
def selectors : List Nat := [0x5080, 0x8010, 0x9030, 0x9100, 0xA030, 0xA040, 0xB040, 0xD004, 0xC0000]

/-- In FAULT: the Armature update, the selectors, the MSI-X tables (19 R504). -/
def State.wordInFault (s : State) (tenant : Bool) (n off v : Nat) (data : Bytes) : State :=
  if tenant then (if 0x8000 ≤ off ∧ off < 0x8400 then s.msixWrite true n (off - 0x8000) v else s)
  else if 0x18000 ≤ off ∧ off < 0x18400 then s.msixWrite false 0 (off - 0x18000) v
  else if off = 0x0044 then (if bitOf v 3 then s.armUpdWrite data else s)
  else if off = 0x00A8 ∨ off = 0x00AC ∨ off = 0x00B0 ∨ selectors.contains off then
    match findRow s off privMap with
    | some (r, i) => s.putBits [.rw] r.bits i v
    | none => s
  else s

/-- 32 bits written at an offset of a view, as the state of the engine takes it. -/
def State.wordAny (s : State) (tenant : Bool) (n off v : Nat) (data : Bytes) : State :=
  if s.eng = 6 then s.wordInFault tenant n off v data
  else if s.eng = 1 ∧ ¬ s.flag .fjStateLocked then s.wordInBoot tenant n off v data
  else s.wordWrite tenant n off v data

/-- A write's size and alignment are those of 00 R17. -/
def sizeOk (off size : Nat) : Bool := (size == 4 && off % 4 == 0) || (size == 8 && off % 8 == 0)

/-- A write reaches a view that exists (15 R430, 19 R500). -/
def viewOk (s : State) (tenant : Bool) (n : Nat) : Bool := !tenant || (1 ≤ n && n ≤ s.build.numVf)

/-- The words of a write, low half first, in one cycle. -/
def State.writeWords (s : State) (tenant : Bool) (n off size v : Nat) (data : Bytes) : State :=
  let s1 := s.wordAny tenant n off (v % 2 ^ 32) data
  if size = 8 then s1.wordAny tenant n (off + 4) (v / 2 ^ 32 % 2 ^ 32) data else s1

/-- In replay a host write other than to YLJ_CTRL is discarded (18 R495). -/
def replayDrops (s : State) (tenant : Bool) (off : Nat) : Bool := s.replaying && (tenant || off / 8 * 8 != 0xC008)

/-- A host write (19 R504): `tenant` and `n` name the view. In RETAIN it wakes the engine and waits (16 R453). -/
def State.hostWrite (s : State) (tenant : Bool) (n off size v ofs : Nat) (data : Bytes) : State :=
  if s.eng = 0 ∨ s.eng = 8 ∨ s.holdingUp ∨ ¬ viewOk s tenant n then s
  else if s.eng = 4 ∨ s.waking then
    { s.wakeRetain with hcqWait := s.hcqWait ++ [(if tenant then n else 0, off, size, some v)] }
  else if replayDrops s tenant off then s.bump .yljIgnoredCount 1
  else if ¬ sizeOk off size then s
  else ((s.at_ ofs).wake).writeWords tenant n off size v data

/-- Offset of ring `ring`'s register at `o`, in the view of context ctx. -/
def ringOff (ctx ring o : Nat) : Nat := (if ctx = 0 then 0x10000 else 0x1000) + 0x80 * (ring % 4) + o

def State.ringReg (s : State) (ctx ring o v ofs : Nat) : State := s.hostWrite (ctx != 0) ctx (ringOff ctx ring o) 4 v ofs []

def State.privReg (s : State) (off v ofs : Nat) : State := s.hostWrite false 0 off 4 v ofs []

/-! ### The commands: triggers of the privileged view -/

/-- TICK_MODE with GO set. -/
def execTickModeGo (request ofs : Nat) (s : State) : Host.Outcome State Fault Refusal :=
  finish s (s.privReg 0x1010 (request % 4 * 2 ^ 4 + 2 ^ 6) ofs)

def execStgCtrlSwap (ofs : Nat) (s : State) : Host.Outcome State Fault Refusal := finish s (s.privReg 0x3004 1 ofs)

/-- STG_MC_CTRL with INV_ALL set: ENABLE and CTX are written as they stand. -/
def execInvAll (ofs : Nat) (s : State) : Host.Outcome State Fault Refusal :=
  finish s (s.privReg 0x3080 (s.get .stgMcCtrlEnable + 2 + s.get .stgMcCtrlCtx * 2 ^ 8) ofs)

def execInvCtx (ctx ofs : Nat) (s : State) : Host.Outcome State Fault Refusal :=
  finish s (s.privReg 0x3080 (s.get .stgMcCtrlEnable + 4 + ctx % 64 * 2 ^ 8) ofs)

def execSlotFlush (ofs : Nat) (s : State) : Host.Outcome State Fault Refusal := finish s (s.privReg 0x4004 1 ofs)

def execGrdPeakClr (ofs : Nat) (s : State) : Host.Outcome State Fault Refusal := finish s (s.privReg 0x2004 1 ofs)

def execDigPeakClr (ofs : Nat) (s : State) : Host.Outcome State Fault Refusal := finish s (s.privReg 0x6004 1 ofs)

def execMinClr (ofs : Nat) (s : State) : Host.Outcome State Fault Refusal := finish s (s.privReg 0xB010 1 ofs)

/-- SEAL_KEY_CMD with LOAD set; the rest of the register as `value` has it. -/
def execKeyLoad (value ofs : Nat) (s : State) : Host.Outcome State Fault Refusal :=
  finish s (s.privReg 0x5040 (value % 2 ^ 32 / 2 * 2 + 1) ofs)

/-- SEAL_KEY_CMD with ERASE set; the rest of the register as `value` has it. -/
def execKeyErase (value ofs : Nat) (s : State) : Host.Outcome State Fault Refusal :=
  finish s (s.privReg 0x5040 (value % 2 ^ 32 ||| 2) ofs)

def execAckLost (ofs : Nat) (s : State) : Host.Outcome State Fault Refusal := finish s (s.privReg 0x5004 1 ofs)

def execPntInvCtx (ctx ofs : Nat) (s : State) : Host.Outcome State Fault Refusal :=
  finish s (s.privReg 0x8004 (1 + ctx % 64 * 2 ^ 8) ofs)

def execPntVlWrite (ctx vl ofs : Nat) (s : State) : Host.Outcome State Fault Refusal :=
  finish s (s.privReg (0x8100 + 4 * (ctx % 64)) (vl % 4) ofs)

/-- FJ_CKPT_CTRL with WARN set: ROLE is written as it stands. -/
def execWarn (ofs : Nat) (s : State) : Host.Outcome State Fault Refusal :=
  finish s (s.privReg 0x0110 (1 + s.get .fjCkptCtrlRole * 2 ^ 8) ofs)

def execAbandon (ofs : Nat) (s : State) : Host.Outcome State Fault Refusal :=
  finish s (s.privReg 0x0110 (2 + s.get .fjCkptCtrlRole * 2 ^ 8) ofs)

def execAdopt (role ofs : Nat) (s : State) : Host.Outcome State Fault Refusal :=
  finish s (s.privReg 0x0110 (4 + role % 16 * 2 ^ 8) ofs)

/-- FJ_CTRL.GO: `header` is the session's header as read, in replay. -/
def execGo (ofs : Nat) (header : Bytes) (s : State) : Host.Outcome State Fault Refusal :=
  finish s (s.hostWrite false 0 0x0044 4 1 ofs header)

/-- FJ_CTRL.ENGINE_RST (16 R448): ignored in BOOT and FAULT (R450). -/
def execEngineRst (ofs : Nat) (s : State) : Host.Outcome State Fault Refusal := finish s (s.privReg 0x0044 2 ofs)

def execRetainReq (ofs : Nat) (s : State) : Host.Outcome State Fault Refusal := finish s (s.privReg 0x0044 4 ofs)

/-- FJ_CTRL.ARM_UPD: `image` is what host memory holds from FJ_ARM_UPD_ADDR on. -/
def execArmUpd (ofs : Nat) (image : Bytes) (s : State) : Host.Outcome State Fault Refusal :=
  finish s (s.hostWrite false 0 0x0044 4 8 ofs image)

def execQpReset (ofs : Nat) (s : State) : Host.Outcome State Fault Refusal := finish s (s.privReg 0x9034 1 ofs)

def execQpRts (ofs : Nat) (s : State) : Host.Outcome State Fault Refusal := finish s (s.privReg 0x9034 2 ofs)

/-- PAT_CTRL with RETIRE set: PATROL_EN is written as it stands. -/
def execRetire (ofs : Nat) (s : State) : Host.Outcome State Fault Refusal :=
  finish s (s.privReg 0xA004 (s.get .patCtrlPatrolEn + 2) ofs)

def execPatEccAdd (count ofs : Nat) (s : State) : Host.Outcome State Fault Refusal := finish s (s.privReg 0xA010 count ofs)

def execClose (ofs : Nat) (s : State) : Host.Outcome State Fault Refusal := finish s (s.privReg 0xC008 1 ofs)

/-- A write to FJ_IRQ_EN; no other function has that register (19 R501), so one through the view of a tenant reaches nothing. -/
def execIrqEnWrite (ctx value ofs : Nat) (s : State) : Host.Outcome State Fault Refusal :=
  finish s (s.hostWrite (ctx != 0) ctx 0x0204 4 value ofs [])

def execSyncMapWrite (value ofs : Nat) (s : State) : Host.Outcome State Fault Refusal := finish s (s.privReg 0xD008 value ofs)

/-! ### The commands: rings, sync pages, any register -/

def execDoorbell (ctx ring tail ofs : Nat) (s : State) : Host.Outcome State Fault Refusal := finish s (s.ringReg ctx ring 0x0C tail ofs)

def execRingEnable (ctx ring cfg ofs : Nat) (s : State) : Host.Outcome State Fault Refusal := finish s (s.ringReg ctx ring 0x08 cfg ofs)

def execCringHead (ctx ring head ofs : Nat) (s : State) : Host.Outcome State Fault Refusal := finish s (s.ringReg ctx ring 0x4C head ofs)

/-- Offset of SYNC_ID id's word for SET, in the view of context ctx. -/
def pageOff (ctx id : Nat) : Nat := (if ctx = 0 then 0x14000 else 0x4000) + 4 * (id % 1024)

def execSyncPageSet (ctx id value ofs : Nat) (s : State) : Host.Outcome State Fault Refusal :=
  finish s (s.hostWrite (ctx != 0) ctx (pageOff ctx id) 4 value ofs [])

def execSyncPageAdd (ctx id value ofs : Nat) (s : State) : Host.Outcome State Fault Refusal :=
  finish s (s.hostWrite (ctx != 0) ctx (pageOff ctx id + 0x1000) 4 value ofs [])

def execRegisterWrite (tenant : Bool) (ctx off size value ofs : Nat) (data : Bytes) (s : State) : Host.Outcome State Fault Refusal :=
  finish s (s.hostWrite tenant ctx off size value ofs data)

/-! ### The wake from RETAIN (16 R453, 15 R420) -/

/-- Whole periods that passed without a counted edge: TICK_NOW advances, and each counts as a missed edge (15 R420). -/
def missFuel : Nat → State → State
  | 0, s => s
  | n + 1, s => missFuel n ((s.set .tickNowNow (s.now + 1)).edgeMissed).windowTurn

/-- A host request that waited for the wake is served (16 R453). -/
def State.serveWaiting (s : State) (r : Nat × Nat × Nat × Option Nat) (data : Bytes) : State :=
  match r.2.2.2 with
  | some v => s.hostWrite (r.1 != 0) r.1 r.2.1 r.2.2.1 v s.tick.ofs data
  | none =>
    let p := s.regRead r.1 r.2.1 r.2.2.1
    p.2.send (.hostReply p.1)

/-- ACTIVE after RETAIN: `ticks` periods have passed since the last counted edge; `data` is what a waiting ARM_UPD reads. -/
def execWakeComplete (ticks : Nat) (data : Bytes) (s : State) : Host.Outcome State Fault Refusal :=
  if ¬ s.waking then notDue "WAKE_COMPLETE"
  else
    let s1 : State := { s with waking := false, hcqWait := [], tick := { s.tick with idle := 0, ofs := 0, lostTo := 0, edge := .none, short := 0, spent := [] } }
    let s2 := (missFuel ticks s1).setEng 2
    finish s ((s.hcqWait.foldl (fun a r => a.serveWaiting r data) s2).goOn)

/-! ### IJTAG (15 R427, R428; 21 R533, R535) -/

/-- The IDCODE register (15 R427). -/
def idcode (s : State) : Nat := 1 + s.build.jedecMfr % 2 ^ 11 * 2 + 0x464A * 2 ^ 12 + 2 * 2 ^ 28

/-- A bit of delay: what BYPASS shifts out. -/
def bypassBits (bits n : Nat) : Nat := bits * 2 % 2 ^ n

/-- An IJTAG access. With DBG_EN low the network is BYPASS. The SRAM self-test runs only in RESET and FAULT, and is refused elsewhere; a
patrol test in ACTIVE waits for the next patrol slot; a substitution runs as a retirement. -/
def execIjtagAccess (op : IjtagOp) (s : State) : Host.Outcome State Fault Refusal :=
  match op with
  | .idcode => finish s (s.send (.tdo (natLe 4 (idcode s))))
  | .bypass bits n => finish s (s.send (.tdo (natLe (ceilDiv n 8) (bypassBits bits n))))
  | .bist bank good =>
    if ¬ s.pins.dbgEn then finish s (s.send (.tdo [0]))
    else if s.eng ≠ 0 ∧ s.eng ≠ 6 then finish s (s.send (.tdo [2]))
    else finish s (({ s with ijtag := true, store := [], cache := [], tables := [], slots := [] }).send (.tdo (natLe 4 (bank + b2n good * 2 ^ 31))))
  | .patrol cls phys good =>
    if ¬ s.pins.dbgEn then finish s (s.send (.tdo [0]))
    else if s.eng = 2 then
      finish s { s with ijtag := true, patina := { s.patina with urgent := s.patina.urgent ++ [(cls % 8, phys)] } }
    else finish s (({ s with ijtag := true }).send (.tdo (natLe 4 (phys + b2n good * 2 ^ 31))))
  | .retire cls phys =>
    if ¬ s.pins.dbgEn then finish s (s.send (.tdo [0])) else finish s (s.retire (cls % 8) phys)
  | .read off size =>
    if ¬ s.pins.dbgEn then finish s (s.send (.tdo (zeros (min size 8))))
    else
      let p := s.regRead 64 off size
      finish s (p.2.send (.tdo (natLe (min size 8) p.1)))

end Sys2Proof.Machine
end

