-- ==== Sys2Proof/Machine/Replay.lean ====
section
/-! DEFINITION. Replay (18 R494 to R498): a logged input is applied at its stamp; a logged check record is compared with the one that the
engine produces. -/
namespace Sys2Proof.Machine

/-- A value of 5 bits, signed. -/
def signed5 (v : Nat) : Int := if v % 32 < 16 then (v % 32 : Nat) else (v % 32 : Nat) - 32

/-- A logged register write acts as it did; it is not discarded (18 R495). -/
def State.loggedWrite (s : State) (tenant : Bool) (ctx off v : Nat) (data : Bytes) : State :=
  if s.awake ∨ s.eng = 1 then (s.wake).wordAny tenant ctx off v data else s

/-- The resets that a RESET record holds (18 R492). -/
def State.loggedReset (s : State) (kind ctx : Nat) : State :=
  match kind with
  | 1 => if ctx = 0 then s else s.tenantReset ctx
  | 2 => s.functionReset
  | 3 => s.engineReset
  | _ => s

/-- A HOSTFAULT record: the access of the job that has this tag, at the address, fails in translation (04 R142). Autonomous work is context 0
with RING 0. -/
def State.loggedFault (s : State) (ctx ring tag addr : Nat) : State :=
  let mine := fun (x : Xfer) =>
    match s.findEntry x.job with
    | some e => e.ctx == ctx && e.ring == ring && e.desc.tag == tag
    | none => ctx == 0 && ring == 0
  match s.xfers.find? (fun x => (x.kind == .ats || x.kind == .hostRead) && x.addr == addr && mine x) with
  | some x => (s.dropXfer x).pageFault x
  | none => s

/-- A logged check record waits for the one that the engine produces, or meets it (18 R497); a NONCE record also supplies its counter
(18 R496). -/
def State.checkRecord (s : State) (index typ a : Nat) (b : Bytes) : State :=
  let ns := if typ = 14 then s.yeljo.nonces ++ [(a % 256, leNat (slice b 16 8))] else s.yeljo.nonces
  ({ s with yeljo := { s.yeljo with due := s.yeljo.due ++ [(index, b)], nonces := ns } }).yMatch

/-- What a logged record does (18 R492, R495). -/
def State.applyRecord (s : State) (index : Nat) (b data : Bytes) : State :=
  let typ := fieldAt b 6 1 % 32
  let a := fieldAt b 8 8
  match typ with
  | 1 =>
    let e : EdgeSt := if bitOf a 37 then .outside else .inWindow (signed5 (a / 2 ^ 32))
    let t := if bitOf a 37 then s.missEdge else s
    { t with tick := { t.tick with edge := e } }
  | 2 => if owesStep s then (s.logRec 2 0 0 (a % 2 ^ 48) []).stepEnded (a % 2 ^ 48) false else s
  | 3 => if s.awake then (s.wake).doorbellAt (a % 64) (a / 64 % 4) (a / 256 % 65536) else s
  | 4 => s.loggedWrite (bitOf a 26) (a / 2 ^ 20 % 64) (a % 2 ^ 20) (a / 2 ^ 32) data
  | 5 => if s.awake then (s.wake).pageWrite (a % 64) (a / 64 % 1024) (a / 2 ^ 32) (bitOf a 16) else s
  | 6 => s.loggedReset (a % 4) (a / 16 % 64)
  | 7 => { s with tick := { s.tick with replayClock := some (a % 4) } }
  | 8 => if a % 16 = 6 then s.warned (a / 2 ^ 20 % 256) else s
  | 9 => s.remoteTurn (a % 256, a / 256 % 2 ^ 24, bitOf a 40)
  | 10 => s.loggedFault (a % 64) (a / 64 % 4) (a / 256 % 2 ^ 32) (leNat (slice b 16 8))
  | 12 => s.checkRecord index typ a b
  | 13 => s.checkRecord index typ a b
  | 14 => s.checkRecord index typ a b
  | 15 => s.checkRecord index typ a b
  | 16 => { s with yeljo := { s.yeljo with stopped := true } }
  | _ => s

/-- A record is due at its stamp: a TICK record before the boundary it stamps, any other in its tick. -/
def recordDue (s : State) (b : Bytes) : Bool :=
  s.replaying && !s.yeljo.stopped && !s.holdingUp && b.length == 32 && s.yeljo.pos < fieldAt s.yeljo.srcHeader 0x60 8 &&
  fieldAt b 7 1 == s.yeljo.pos % 256 &&
  (if fieldAt b 6 1 % 32 = 1 then fieldAt b 0 4 == (s.now + 1) % 2 ^ 32 else fieldAt b 0 4 == s.now % 2 ^ 32)

/-- REPLAY_INPUT: the next record of the session, `rec`; `data` is what an ARM_UPD that it holds reads. -/
def execReplayInput (rec data : Bytes) (s : State) : Host.Outcome State Fault Refusal :=
  if ¬ recordDue s rec then notDue "REPLAY_INPUT"
  else
    let i := s.yeljo.pos
    let t := s.at_ (fieldAt rec 4 2 % 2 ^ 13)
    let s1 : State := { t with yeljo := { t.yeljo with pos := i + 1 } }
    let s2 := s1.applyRecord i rec data
    finish s ((if s2.awake then s2.goOn else s2).replayDone)

end Sys2Proof.Machine
end

