-- ==== Sys2Proof/Machine/Dispatch.lean ====
section
/-! DEFINITION. One arm for each command. -/
namespace Sys2Proof.Machine

def exec (i : Instr) (s : State) : Host.Outcome State Fault Refusal :=
  match i with
  | .coldReset inst present => Sys2Proof.Machine.execColdReset inst present s
  | .packageReset inst present => Sys2Proof.Machine.execPackageReset inst present s
  | .functionReset ofs => Sys2Proof.Machine.execFunctionReset ofs s
  | .tenantReset ctx ofs => Sys2Proof.Machine.execTenantReset ctx ofs s
  | .engineRst ofs => Sys2Proof.Machine.execEngineRst ofs s
  | .pwrFailN ofs => Sys2Proof.Machine.execPwrFailN ofs s
  | .busVStrobe code ofs => Sys2Proof.Machine.execBusVStrobe code ofs s
  | .busvStaleTimeout => Sys2Proof.Machine.execBusvStaleTimeout s
  | .sagFastRise level ofs => Sys2Proof.Machine.execSagFastRise level ofs s
  | .sagStepUp level ofs => Sys2Proof.Machine.execSagStepUp level ofs s
  | .tickInEdge delta => Sys2Proof.Machine.execTickInEdge delta s
  | .tickBoundary => Sys2Proof.Machine.execTickBoundary s
  | .throttleWindowEnd => Sys2Proof.Machine.execThrottleWindowEnd s
  | .powerFault ofs => Sys2Proof.Machine.execPowerFault ofs s
  | .stepEnd step cut ofs => Sys2Proof.Machine.execStepEnd step cut ofs s
  | .guardWrite lane addr data be ord id now => Sys2Proof.Machine.execGuardWrite lane addr data be ord id now s
  | .rescueIssue now => Sys2Proof.Machine.execRescueIssue now s
  | .rescueLanding gran data err now => Sys2Proof.Machine.execRescueLanding gran data err now s
  | .poolDrain => Sys2Proof.Machine.execPoolDrain s
  | .guardWriteResponse lane spill id err => Sys2Proof.Machine.execGuardWriteResponse lane spill id err s
  | .copyReadLanding gran data err now => Sys2Proof.Machine.execCopyReadLanding gran data err now s
  | .bitmapClearDone => Sys2Proof.Machine.execBitmapClearDone s
  | .fabricReadResponse tag data err => Sys2Proof.Machine.execFabricReadResponse tag data err s
  | .fabricWriteAck id err => Sys2Proof.Machine.execFabricWriteAck id err s
  | .groupCloseTimeout ctx ring => Sys2Proof.Machine.execGroupCloseTimeout ctx ring s
  | .admissionDecision gid => Sys2Proof.Machine.execAdmissionDecision gid s
  | .doorbell ctx ring tail ofs => Sys2Proof.Machine.execDoorbell ctx ring tail ofs s
  | .entryFetch ctx ring bytes => Sys2Proof.Machine.execEntryFetch ctx ring bytes s
  | .ownRecheck ctx ring bytes => Sys2Proof.Machine.execOwnRecheck ctx ring bytes s
  | .ringEnable ctx ring cfg ofs => Sys2Proof.Machine.execRingEnable ctx ring cfg ofs s
  | .cringHead ctx ring head ofs => Sys2Proof.Machine.execCringHead ctx ring head ofs s
  | .nop ctx ring => Sys2Proof.Machine.execNop ctx ring s
  | .fence ctx ring => Sys2Proof.Machine.execFence ctx ring s
  | .copy ctx ring => Sys2Proof.Machine.execCopy ctx ring s
  | .snap ctx ring => Sys2Proof.Machine.execSnap ctx ring s
  | .restore ctx ring img => Sys2Proof.Machine.execRestore ctx ring img s
  | .swapIn ctx ring img => Sys2Proof.Machine.execSwapIn ctx ring img s
  | .chain ctx ring img => Sys2Proof.Machine.execChain ctx ring img s
  | .sealJob ctx ring => Sys2Proof.Machine.execSealJob ctx ring s
  | .openJob ctx ring => Sys2Proof.Machine.execOpenJob ctx ring s
  | .digest ctx ring => Sys2Proof.Machine.execDigest ctx ring s
  | .digestFinal ctx ring => Sys2Proof.Machine.execDigestFinal ctx ring s
  | .mouldLoad ctx ring data => Sys2Proof.Machine.execMouldLoad ctx ring data s
  | .permLoad ctx ring data => Sys2Proof.Machine.execPermLoad ctx ring data s
  | .lattice ctx ring => Sys2Proof.Machine.execLattice ctx ring s
  | .signalSet ctx ring => Sys2Proof.Machine.execSignalSet ctx ring s
  | .signalAdd ctx ring => Sys2Proof.Machine.execSignalAdd ctx ring s
  | .signalSub ctx ring => Sys2Proof.Machine.execSignalSub ctx ring s
  | .waitEq ctx ring => Sys2Proof.Machine.execWaitEq ctx ring s
  | .waitGe ctx ring => Sys2Proof.Machine.execWaitGe ctx ring s
  | .waitNe ctx ring => Sys2Proof.Machine.execWaitNe ctx ring s
  | .barrierArriveWait ctx ring => Sys2Proof.Machine.execBarrierArriveWait ctx ring s
  | .barrierArrive ctx ring => Sys2Proof.Machine.execBarrierArrive ctx ring s
  | .barrierInit ctx ring => Sys2Proof.Machine.execBarrierInit ctx ring s
  | .resume ctx ring => Sys2Proof.Machine.execResume ctx ring s
  | .v1Nop ctx ring => Sys2Proof.Machine.execV1Nop ctx ring s
  | .v1Copy ctx ring => Sys2Proof.Machine.execV1Copy ctx ring s
  | .v1Snap ctx ring => Sys2Proof.Machine.execV1Snap ctx ring s
  | .v1Restore ctx ring img => Sys2Proof.Machine.execV1Restore ctx ring img s
  | .v1Seal ctx ring => Sys2Proof.Machine.execV1Seal ctx ring s
  | .v1Open ctx ring => Sys2Proof.Machine.execV1Open ctx ring s
  | .v1Fence ctx ring => Sys2Proof.Machine.execV1Fence ctx ring s
  | .syncTimeout ctx ring => Sys2Proof.Machine.execSyncTimeout ctx ring s
  | .syncPageSet ctx id value ofs => Sys2Proof.Machine.execSyncPageSet ctx id value ofs s
  | .syncPageAdd ctx id value ofs => Sys2Proof.Machine.execSyncPageAdd ctx id value ofs s
  | .syncMapWrite value ofs => Sys2Proof.Machine.execSyncMapWrite value ofs s
  | .tickModeGo request ofs => Sys2Proof.Machine.execTickModeGo request ofs s
  | .stgCtrlSwap ofs => Sys2Proof.Machine.execStgCtrlSwap ofs s
  | .invAll ofs => Sys2Proof.Machine.execInvAll ofs s
  | .invCtx ctx ofs => Sys2Proof.Machine.execInvCtx ctx ofs s
  | .slotFlush ofs => Sys2Proof.Machine.execSlotFlush ofs s
  | .grdPeakClr ofs => Sys2Proof.Machine.execGrdPeakClr ofs s
  | .digPeakClr ofs => Sys2Proof.Machine.execDigPeakClr ofs s
  | .minClr ofs => Sys2Proof.Machine.execMinClr ofs s
  | .keyLoad value ofs => Sys2Proof.Machine.execKeyLoad value ofs s
  | .keyUnwrapDone => Sys2Proof.Machine.execKeyUnwrapDone s
  | .keyErase value ofs => Sys2Proof.Machine.execKeyErase value ofs s
  | .ackLost ofs => Sys2Proof.Machine.execAckLost ofs s
  | .pntInvCtx ctx ofs => Sys2Proof.Machine.execPntInvCtx ctx ofs s
  | .pntVlWrite ctx vl ofs => Sys2Proof.Machine.execPntVlWrite ctx vl ofs s
  | .warn ofs => Sys2Proof.Machine.execWarn ofs s
  | .abandon ofs => Sys2Proof.Machine.execAbandon ofs s
  | .adopt role ofs => Sys2Proof.Machine.execAdopt role ofs s
  | .go ofs header => Sys2Proof.Machine.execGo ofs header s
  | .retainReq ofs => Sys2Proof.Machine.execRetainReq ofs s
  | .armUpd ofs image => Sys2Proof.Machine.execArmUpd ofs image s
  | .qpReset ofs => Sys2Proof.Machine.execQpReset ofs s
  | .qpRts ofs => Sys2Proof.Machine.execQpRts ofs s
  | .retire ofs => Sys2Proof.Machine.execRetire ofs s
  | .patEccAdd count ofs => Sys2Proof.Machine.execPatEccAdd count ofs s
  | .close ofs => Sys2Proof.Machine.execClose ofs s
  | .irqEnWrite ctx value ofs => Sys2Proof.Machine.execIrqEnWrite ctx value ofs s
  | .registerWrite tenant ctx off size value ofs data => Sys2Proof.Machine.execRegisterWrite tenant ctx off size value ofs data s
  | .halfSwap => Sys2Proof.Machine.execHalfSwap s
  | .mouldBuildDone => Sys2Proof.Machine.execMouldBuildDone s
  | .sealOpenVerdict pipe => Sys2Proof.Machine.execSealOpenVerdict pipe s
  | .decodeSlotLoadDone slot => Sys2Proof.Machine.execDecodeSlotLoadDone slot s
  | .fingerprintDone job blk => Sys2Proof.Machine.execFingerprintDone job blk s
  | .arrivalDigestDone job blk => Sys2Proof.Machine.execArrivalDigestDone job blk s
  | .tileBoundary ofs => Sys2Proof.Machine.execTileBoundary ofs s
  | .atsTranslationResponse tag ok => Sys2Proof.Machine.execAtsTranslationResponse tag ok s
  | .atsInvalidation fn => Sys2Proof.Machine.execAtsInvalidation fn s
  | .hostReadCompletion tag data status => Sys2Proof.Machine.execHostReadCompletion tag data status s
  | .hostLinkDown => Sys2Proof.Machine.execHostLinkDown s
  | .hostRequestWake fn off size wr => Sys2Proof.Machine.execHostRequestWake fn off size wr s
  | .wakeComplete ticks data => Sys2Proof.Machine.execWakeComplete ticks data s
  | .receiveFrame lane err frame => Sys2Proof.Machine.execReceiveFrame lane err frame s
  | .rdmaWriteRequest qp psn rkey addr data => Sys2Proof.Machine.execRdmaWriteRequest qp psn rkey addr data s
  | .rdmaReadRequest qp psn rkey addr len => Sys2Proof.Machine.execRdmaReadRequest qp psn rkey addr len s
  | .rdmaReadResponse qp psn data => Sys2Proof.Machine.execRdmaReadResponse qp psn data s
  | .fingerprintBatch qp psn bytes => Sys2Proof.Machine.execFingerprintBatch qp psn bytes s
  | .commitNotice qp psn bytes => Sys2Proof.Machine.execCommitNotice qp psn bytes s
  | .sendWithInvalidate qp psn key => Sys2Proof.Machine.execSendWithInvalidate qp psn key s
  | .rcAck qp psn => Sys2Proof.Machine.execRcAck qp psn s
  | .nak qp psn kind => Sys2Proof.Machine.execNak qp psn kind s
  | .cnp qp => Sys2Proof.Machine.execCnp qp s
  | .cnpRecover qp => Sys2Proof.Machine.execCnpRecover qp s
  | .ackTimeout qp => Sys2Proof.Machine.execAckTimeout qp s
  | .remoteOpTimeout tag => Sys2Proof.Machine.execRemoteOpTimeout tag s
  | .linkUpFall lane => Sys2Proof.Machine.execLinkUpFall lane s
  | .linkDownTimeout lane => Sys2Proof.Machine.execLinkDownTimeout lane s
  | .dueTickCongested gid => Sys2Proof.Machine.execDueTickCongested gid s
  | .nvmeCompletion tgt cid status data => Sys2Proof.Machine.execNvmeCompletion tgt cid status data s
  | .keepAlive tgt => Sys2Proof.Machine.execKeepAlive tgt s
  | .xchgWaitTimeout seg => Sys2Proof.Machine.execXchgWaitTimeout seg s
  | .commitNoticeTimeout => Sys2Proof.Machine.execCommitNoticeTimeout s
  | .arrive src phase => Sys2Proof.Machine.execArrive src phase s
  | .release src phase => Sys2Proof.Machine.execRelease src phase s
  | .holdup src busV ofs => Sys2Proof.Machine.execHoldup src busV ofs s
  | .warnPacket src cause ofs => Sys2Proof.Machine.execWarnPacket src cause ofs s
  | .absent src cause => Sys2Proof.Machine.execAbsent src cause s
  | .bootWaitTimeout => Sys2Proof.Machine.execBootWaitTimeout s
  | .phase1Timeout => Sys2Proof.Machine.execPhase1Timeout s
  | .startAlone => Sys2Proof.Machine.execStartAlone s
  | .keyPortAck data err => Sys2Proof.Machine.execKeyPortAck data err s
  | .keyPortTimeout => Sys2Proof.Machine.execKeyPortTimeout s
  | .nvmReadDone data => Sys2Proof.Machine.execNvmReadDone data s
  | .nvmProgramDone ok => Sys2Proof.Machine.execNvmProgramDone ok s
  | .nvmEraseDone => Sys2Proof.Machine.execNvmEraseDone s
  | .signatureVerifyDone => Sys2Proof.Machine.execSignatureVerifyDone s
  | .watchdogExpiry ofs => Sys2Proof.Machine.execWatchdogExpiry ofs s
  | .idleEntry => Sys2Proof.Machine.execIdleEntry s
  | .pmWakeTick => Sys2Proof.Machine.execPmWakeTick s
  | .patrolSlot pass1 pass2 corrected => Sys2Proof.Machine.execPatrolSlot pass1 pass2 corrected s
  | .substitutionDone cls phys ofs => Sys2Proof.Machine.execSubstitutionDone cls phys ofs s
  | .eccWindowEnd => Sys2Proof.Machine.execEccWindowEnd s
  | .yeljoHeaderRewrite => Sys2Proof.Machine.execYeljoHeaderRewrite s
  | .replayInput rec data => Sys2Proof.Machine.execReplayInput rec data s
  | .hflrReqFall fn => Sys2Proof.Machine.execHflrReqFall fn s
  | .hcfgMsixMaskClear fn => Sys2Proof.Machine.execHcfgMsixMaskClear fn s
  | .linkUpRise lane => Sys2Proof.Machine.execLinkUpRise lane s
  | .strapChange inst present => Sys2Proof.Machine.execStrapChange inst present s
  | .sbDrop packet => Sys2Proof.Machine.execSbDrop packet s
  | .dbgEnFall => Sys2Proof.Machine.execDbgEnFall s
  | .ijtagAccess op => Sys2Proof.Machine.execIjtagAccess op s
  | .firmwareBack sram nvm => Sys2Proof.Machine.execFirmwareBack sram nvm s
  | .railRemoved => Sys2Proof.Machine.execRailRemoved s

end Sys2Proof.Machine
end

