-- ==== Sys2Proof/Safety.lean ====
section
/-! DEFINITION. What a safe run keeps: a register file in canonical form; and what a command leaves as it was. -/
namespace Sys2Proof.Safety

open Sys2Proof.Machine

/-- The canonical form of a register file (00 R13, R14): one cell a quantity, in strictly rising order, each value within the width of its
field, and none listed at its reset value. Equal register files are then equal lists. -/
abbrev CanonicalRegs (b : Build) (l : List Cell) : Prop :=
  l.Pairwise (fun c d => cellLt c d = true) ∧ ∀ c ∈ l, c.val < 2 ^ fldWidth c.fld ∧ cellIdle b c = false

/-- The states that a run is to stay in. -/
abbrev Canonical (s : State) : Prop := CanonicalRegs s.build s.regs

/-- Every register but those listed reads as before. -/
def KeepsRegs (fs : List Fld) (s t : State) : Prop := ∀ f i, f ∉ fs → t.getI f i = s.getI f i

/-- Fields in which the Yeljo log shows that it took a record or that a replay diverged (18 R493, R497). -/
def logFlds : List Fld :=
  [.yljNextIndex, .yljStatLost, .yljLostCount, .yljStatDiverged, .yljDivIndexIndex, .yljDivInfoType, .yljDivInfoOffset]

/-- Fields that follow from any change: pending bits of masked interrupt messages (19 R511). -/
def msgFlds : List Fld := [.fjMsixPbaPending]

/-- Fields that the end of an entry may write, beside those of messages and of the log: its rings' (13 R370, R371, R377). -/
def entryFlds : List Fld :=
  logFlds ++ msgFlds ++ [.cringTailTail, .cringTailPhase, .cringStatFull, .cringStatWaited, .ringStatCmplWait, .ringMalformedCount]

/-- What every host write may leave in registers beside its own effect: the log's traces, masked messages, and the wake that ends a pending
RETAIN request (16 R451, R453). -/
def hostFlds : List Fld := logFlds ++ msgFlds ++ [.fjStateRetainPend]

/-- Registers, packets sent and the log apart, the state is as before; the cycle of the command and the wake show in `tick` and `eng`. -/
def KeepsUnits (s t : State) : Prop := t = { s with regs := t.regs, out := t.out, yeljo := t.yeljo, tick := t.tick, eng := t.eng }

/-- Registers and packets sent apart, the state is as before. -/
def KeepsAll (s t : State) : Prop := t = { s with regs := t.regs, out := t.out }

/-- A host write acts as the tables state (19 R504): ACTIVE or IDLE, no hold-up, no wake in progress, locked; and no replay (18 R495). -/
abbrev HostOpen (s : State) : Prop :=
  (s.eng = 2 ∨ s.eng = 3) ∧ s.holdup = none ∧ s.waking = false ∧ s.flag .fjStateLocked = true ∧ s.replaying = false

/-- A context that has a view (15 R430, 19 R500). -/
abbrev HasView (s : State) (ctx : Nat) : Prop := ctx ≤ s.build.numVf ∧ ctx < 64

/-- No register lies at an offset of a view (00 R21): outside its tables, and inside a ring block at an offset that no register of a ring has. -/
abbrev NoRegister (s : State) (tenant : Bool) (off : Nat) : Prop :=
  if tenant = true then
    (0x40 ≤ off ∨ off = 0x18 ∨ off = 0x1C) ∧ (0x1000 ≤ off → off < 0x1200 → findIn ringMap (off % 0x80) = none) ∧
    ¬ (0x4000 ≤ off ∧ off < 0x6000) ∧ ¬ (0x8000 ≤ off ∧ off < 0x8400) ∧ off ≠ 0x9000 ∧ off ≠ 0x9004
  else
    off ≠ 0 ∧ (0x10000 ≤ off → off < 0x10200 → findIn ringMap (off % 0x80) = none) ∧ ¬ (0x14000 ≤ off ∧ off < 0x16000) ∧
    ¬ (0x18000 ≤ off ∧ off < 0x18400) ∧ off ≠ 0x19000 ∧ off ≠ 0x19004 ∧
    (0x20000 ≤ off → off < 0x28000 → findIn ringMap (off % 0x80) = none) ∧ ¬ (0x40000 ≤ off ∧ off < 0xC0000) ∧
    ¬ (0xD0000 ≤ off ∧ off < 0xE0000) ∧ findRow s off privMap = none

/-- The front entry of a ring is e, of the given opcode and format, and the engine is awake: the command of that opcode starts it. -/
abbrev Starts (s : State) (ctx ring op : Nat) (v1 : Bool) (e : Entry) : Prop :=
  s.frontReady ctx ring = some e ∧ e.desc.opcode = op ∧ e.desc.v1 = v1 ∧ s.awake = true

/-- The state in which a started entry does its work. -/
def started (s : State) (e : Entry) : State := s.modEntry e.uid (fun x => { x with stage := .running })

/-- The job of an entry is the newest of u: the entry's own descriptor, nothing of it done yet; entries, groups and rings are as in s. -/
def AddsJob (s u : State) (e : Entry) : Prop :=
  u.entries = s.entries ∧ u.groups = s.groups ∧ u.rings = s.rings ∧ ∃ l : List Job, ∃ j : Job, u.jobs = l ++ [j] ∧
    l.map (fun k => k.uid) = s.jobs.map (fun k => k.uid) ∧ j.uid = e.uid ∧ j.ctx = e.ctx ∧ j.desc = e.desc ∧ j.opcode = e.desc.opcode ∧
    j.inbound = e.desc.inbound ∧ j.stop = none ∧ j.doneBytes = 0 ∧ j.nextBlk = 0 ∧ j.blks = []

/-- The entry has ended: it waits to post its completion, or has posted it. -/
abbrev Ended (t : State) (uid : Nat) : Prop := (t.findEntry uid).all (fun x => x.stage == .ended) = true

/-- A sync entry starts: its SYNC_OP, its SYNC_ID and, where its translation maps it with the permission, the word. -/
abbrev StartsSync (s : State) (ctx ring op sub : Nat) (perm : Fld) (e : Entry) (c : SyncCheck) : Prop :=
  Starts s ctx ring op false e ∧ syncOpOf e.desc.arg = sub ∧ syncCheck s e.ctx e.desc.arg perm = c

/-- What a COLD or PACKAGE reset leaves: BOOT, the straps, the cause, every unit empty, every setting at its reset value, the first read of the
NVM device on its way. -/
def ColdState (inst present cause : Nat) (s t : State) : Prop :=
  t.eng = 1 ∧ t.get .fjPosInst = inst % 16 ∧ t.get .fjPosPresent = present % 65536 ∧ t.get .fjStateCause = cause ∧
  t.pins.posInst = inst % 16 ∧ t.pins.posPresent = present % 65536 ∧
  (∀ f i, (fldInfo f).keep ≠ .always → f ∉ [Fld.fjPosInst, .fjPosPresent, .fjStateCause, .fjMsixPbaPending] →
    t.getI f i = fldReset s.build f i) ∧
  t.groups = [] ∧ t.rings = [] ∧ t.entries = [] ∧ t.jobs = [] ∧ t.saved = [] ∧ t.keys = [] ∧ t.handles = [] ∧ t.tables = [] ∧ t.cache = [] ∧
  t.slots = [] ∧ t.store = [] ∧ t.words = [] ∧ t.waiters = [] ∧ t.qps = [] ∧ t.tgts = [] ∧ t.plinth = [] ∧ t.holdup = none ∧
  t.guard.armed = false ∧ t.guard.held = [] ∧ t.guard.pool = [] ∧ t.guard.spill = [] ∧ t.arm = Arm.none ∧ t.boot = Boot.start ∧
  t.yeljo = Yeljo.empty ∧ t.tick.running = false ∧ t.nvm = [⟨.read, 0, 512, [], .sfdp⟩]

/-- What the start of hold-up leaves in ACTIVE and IDLE: HOLDUP, the cause, the source and the bus code recorded, the clock at divisor 8; nothing is
written and the engine halts at once where PLINTH_READY is clear (17 R468). -/
def HoldupBegun (cause src busV : Nat) (s t : State) : Prop :=
  t.eng = 5 ∧ Out.clock 8 ∈ t.out ∧ ∃ h, t.holdup = some h ∧ h.cause = cause ∧ h.src = src ∧ h.busV = busV ∧
    h.halted = !s.flag .pwrStatPlinthReady ∧ (s.flag .pwrStatPlinthReady = false → t.nvm = [] ∧ t.jobs = [] ∧ t.entries = [] ∧ t.keys = [])

/-- A work entry that nothing bars is at the front of its ring: its own work starts (13 R364, 07 R215, 06 R198). -/
abbrev StartsWork (s : State) (ctx ring op : Nat) (v1 : Bool) : Prop :=
  ∃ e, Starts s ctx ring op v1 e ∧ (v1 = false → feedTurn s e = true) ∧ startBar (started s e) e e.desc = none

/-- A sync entry of the given SYNC_OP is at the front of its ring, and its word answers it (14 R381). -/
abbrev StartsOnWord (s : State) (ctx ring op sub : Nat) (perm : Fld) : Prop :=
  ∃ e p, StartsSync s ctx ring op sub perm e (.word p) ∧ (op = opSignal → signalReady s e = true)

/-- Where a command takes its own effect, and is neither early nor ignored: one line a command, on the state and the operands alone. The
conditions are those of its rule: 16 R436 to R454 for resets and start-up, 19 R504 for host writes, 13 R361 to R364 for entries, 02 R51 to
R89 for the clock, 03 R96 to R116 for the guard, 12 R329 to R345 for transport, 17 R458 to R484 for power and wear, 18 R493 to R497 for the log. -/
def Acts (s : State) : Instr → Prop
  | .coldReset _ _ => True
  | .packageReset _ _ => s.eng ≠ 8
  | .functionReset _ => (s.eng = 2 ∨ s.eng = 3 ∨ s.eng = 4) ∧ s.holdup = none ∧ s.replaying = false
  | .tenantReset ctx _ => (s.eng = 2 ∨ s.eng = 3 ∨ s.eng = 4) ∧ s.holdup = none ∧ s.replaying = false ∧ ctx % 64 ≠ 0
  | .engineRst _ => HostOpen s
  | .pwrFailN _ => (s.eng = 2 ∨ s.eng = 3) ∧ s.holdup = none
  | .busVStrobe _ _ => s.holdingUp = false
  | .busvStaleTimeout => True
  | .sagFastRise _ _ => s.holdingUp = false ∧ s.eng ≠ 4 ∧ s.eng ≠ 8
  | .sagStepUp level _ => s.holdingUp = false ∧ stepOf (level % 4) < s.get .tickStatClkStep
  | .tickInEdge _ => s.replaying = false ∧ s.tick.running = true ∧ s.holdingUp = false
  | .tickBoundary => boundaryDue s = true
  | .throttleWindowEnd => boundaryDue s = true ∧ (s.now + 1) % max 1 (s.get .tickThrWinWin) = 0
  | .powerFault ofs => s.get .tickThrUsedUsed ≤ s.get .tickThrAllowAllow ∧ s.get .tickThrAllowAllow < (s.accrue ofs).get .tickThrUsedUsed
  | .stepEnd _ _ ofs => owesStep s = true ∧ s.replaying = false ∧ s.tick.owedTo ≤ s.now * s.get .tickPeriodPeriod + ofs
  | .guardWrite _ _ _ _ _ _ _ => s.eng ≠ 0 ∧ s.eng ≠ 4 ∧ s.eng ≠ 8
  | .rescueIssue _ => s.guard.armed = true ∧ s.guard.rescueQ ≠ [] ∧ s.guard.freeSlot.isSome = true ∧ s.rescueTags.isSome = true
  | .rescueLanding gran _ _ _ => ∃ r ∈ s.guard.rescues, r.gran = gran
  | .poolDrain => s.guard.drainSlot.isSome = true ∧ (s.guard.freeSpill (s.get .grdSpillSlotsSlots)).isSome = true
  | .guardWriteResponse lane spill id _ => spill = true ∨ (lane, id) ∈ s.guard.awaiting
  | .copyReadLanding gran _ _ _ => s.guard.armed = true ∧ gran ∈ s.guard.copyReads ∧ (∀ r ∈ s.guard.rescues, r.gran = gran → r.dead = true)
  | .bitmapClearDone => s.guard.clearing.isSome = true
  | .fabricReadResponse tag _ _ => ∃ x ∈ s.xfers, x.kind = .fabRead ∧ x.tag = tag
  | .fabricWriteAck id _ => ∃ x ∈ s.xfers, x.kind = .fabWrite ∧ x.tag = id
  | .groupCloseTimeout ctx ring =>
    ∃ gid g, (s.ring ctx ring).openGid = some gid ∧ s.findGroup gid = some g ∧ g.lastFetch + 64 ≤ s.now ∧ s.holdingUp = false
  | .admissionDecision gid => ∃ g, s.findGroup gid = some g ∧ decisionDue s g = true ∧ s.awake = true
  | .doorbell ctx _ _ _ => HostOpen s ∧ HasView s ctx
  | .entryFetch ctx ring _ => mayFetch s ctx ring = true ∧ (s.ring ctx ring).ownSince = none
  | .ownRecheck ctx ring _ => mayFetch s ctx ring = true ∧ (s.ring ctx ring).ownSince.isSome = true
  | .ringEnable ctx _ _ _ => HostOpen s ∧ HasView s ctx
  | .cringHead ctx _ _ _ => HostOpen s ∧ HasView s ctx
  | .nop ctx ring => ∃ e, Starts s ctx ring opNop false e
  | .fence ctx ring => ∃ e, Starts s ctx ring opFence false e
  | .copy ctx ring => StartsWork s ctx ring opCopy false
  | .snap ctx ring => ∃ e, Starts s ctx ring opSnap false e
  | .restore ctx ring _ => StartsWork s ctx ring opRestore false
  | .swapIn ctx ring _ => StartsWork s ctx ring opSwapIn false
  | .chain ctx ring _ => StartsWork s ctx ring opChain false
  | .sealJob ctx ring => StartsWork s ctx ring opSeal false
  | .openJob ctx ring => StartsWork s ctx ring opOpen false
  | .digest ctx ring => StartsWork s ctx ring opDigest false
  | .digestFinal ctx ring => StartsWork s ctx ring opDigestFinal false
  | .mouldLoad ctx ring _ => ∃ e, Starts s ctx ring opMouldLoad false e
  | .permLoad ctx ring _ => ∃ e, Starts s ctx ring opPermLoad false e
  | .lattice ctx ring => StartsWork s ctx ring opLattice false
  | .signalSet ctx ring => StartsOnWord s ctx ring opSignal 0 .syncMapSigOk
  | .signalAdd ctx ring => StartsOnWord s ctx ring opSignal 1 .syncMapSigOk
  | .signalSub ctx ring => StartsOnWord s ctx ring opSignal 2 .syncMapSigOk
  | .waitEq ctx ring => StartsOnWord s ctx ring opWait 0 .syncMapWaitOk
  | .waitGe ctx ring => StartsOnWord s ctx ring opWait 1 .syncMapWaitOk
  | .waitNe ctx ring => StartsOnWord s ctx ring opWait 2 .syncMapWaitOk
  | .barrierArriveWait ctx ring => StartsOnWord s ctx ring opBarrier 0 .syncMapBarOk
  | .barrierArrive ctx ring => StartsOnWord s ctx ring opBarrier 1 .syncMapBarOk
  | .barrierInit ctx ring => StartsOnWord s ctx ring opBarrier 2 .syncMapBarOk
  | .resume ctx ring => ∃ e, Starts s ctx ring opResume false e ∧ feedTurn s e = true ∧ (s.savedRec e.ctx (e.desc.arg % 16)).isSome = true
  | .v1Nop ctx ring => ∃ e, Starts s ctx ring opNop true e
  | .v1Copy ctx ring => StartsWork s ctx ring opCopy true
  | .v1Snap ctx ring => ∃ e, Starts s ctx ring opSnap true e
  | .v1Restore ctx ring _ => StartsWork s ctx ring opRestore true
  | .v1Seal ctx ring => StartsWork s ctx ring opSeal true
  | .v1Open ctx ring => StartsWork s ctx ring opOpen true
  | .v1Fence ctx ring => ∃ e, Starts s ctx ring opFence true e
  | .syncTimeout ctx ring =>
    ∃ w t, s.waiters.find? (fun w => w.ctx == ctx && w.ring == ring) = some w ∧ w.timeout = some t ∧ t ≤ s.now ∧ s.holdingUp = false
  | .syncPageSet ctx id _ _ => HostOpen s ∧ HasView s ctx ∧ (pageTarget s ctx (id % 1024)).isSome = true
  | .syncPageAdd ctx id _ _ => HostOpen s ∧ HasView s ctx ∧ (pageTarget s ctx (id % 1024)).isSome = true
  | .syncMapWrite _ _ => HostOpen s ∧ s.get .syncMapSelCtx ≤ s.build.numVf
  | .tickModeGo _ _ => HostOpen s
  | .stgCtrlSwap _ => HostOpen s
  | .invAll _ => HostOpen s
  | .invCtx _ _ => HostOpen s
  | .slotFlush _ => HostOpen s
  | .grdPeakClr _ => HostOpen s
  | .digPeakClr _ => HostOpen s
  | .minClr _ => HostOpen s
  | .keyLoad _ _ => HostOpen s
  | .keyUnwrapDone => ∃ l, s.keyLoad = some l ∧ l.reserving = none ∧ s.holdingUp = false ∧ (l.armature = true → s.fwDown = false)
  | .keyErase _ _ => HostOpen s
  | .ackLost _ => HostOpen s
  | .pntInvCtx _ _ => HostOpen s
  | .pntVlWrite ctx _ _ => HostOpen s ∧ ctx % 64 ≤ s.build.numVf
  | .warn _ => HostOpen s
  | .abandon _ => HostOpen s
  | .adopt _ _ => HostOpen s
  | .go _ _ => s.eng = 1 ∧ s.holdup = none ∧ s.waking = false ∧ s.replaying = false ∧ s.flag .fjStateAwaitDriver = true
  | .retainReq _ => HostOpen s
  | .armUpd _ _ => HostOpen s
  | .qpReset _ => HostOpen s
  | .qpRts _ => HostOpen s
  | .retire _ => HostOpen s
  | .patEccAdd _ _ => HostOpen s
  | .close _ => HostOpen s
  | .irqEnWrite _ _ _ => HostOpen s
  | .registerWrite _ _ off size _ _ _ => HostOpen s ∧ (size = 4 ∧ off % 4 = 0 ∨ size = 8 ∧ off % 8 = 0)
  | .halfSwap => swapDue s = true ∧ s.awake = true
  | .mouldBuildDone => (building s).isSome = true
  | .sealOpenVerdict pipe => ∃ p ∈ s.pipes, p.pipe = pipe
  | .decodeSlotLoadDone slot => slotLoading s slot = true
  | .fingerprintDone job blk => ∃ j, s.findJob job = some j ∧ j.inbound = false ∧ (s.coreBlock job blk).isSome = true
  | .arrivalDigestDone job blk => ∃ j, s.findJob job = some j ∧ j.inbound = true ∧ (s.coreBlock job blk).isSome = true
  | .tileBoundary _ => s.holdingUp = false
  | .atsTranslationResponse tag _ => ∃ x ∈ s.xfers, x.kind = .ats ∧ x.tag = tag
  | .atsInvalidation _ => True
  | .hostReadCompletion tag _ _ => ∃ x ∈ s.xfers, (x.kind = .hostRead ∨ x.kind = .hostAck) ∧ x.tag = tag
  | .hostLinkDown => True
  | .hostRequestWake _ _ _ _ => s.eng = 4 ∨ s.waking = true
  | .wakeComplete _ _ => s.waking = true
  | .receiveFrame lane _ _ => hears s lane = true
  | .rdmaWriteRequest qp psn _ _ _ => arrival s (qp % 256) psn = .expected
  | .rdmaReadRequest qp psn _ _ _ => arrival s (qp % 256) psn = .expected
  | .rdmaReadResponse qp psn _ => hears s (laneOf s (qp % 256)) = true ∧ s.rts (qp % 256) = true ∧ ∃ x ∈ messages s (qp % 256), firstPsn s x = psn
  | .fingerprintBatch qp psn _ => arrival s (qp % 256) psn = .expected
  | .commitNotice qp psn _ => arrival s (qp % 256) psn = .expected
  | .sendWithInvalidate qp psn _ => arrival s (qp % 256) psn = .expected
  | .rcAck qp _ => hears s (laneOf s (qp % 256)) = true ∧ s.rts (qp % 256) = true
  | .nak qp _ _ => hears s (laneOf s (qp % 256)) = true ∧ s.rts (qp % 256) = true
  | .cnp qp => hears s (laneOf s (qp % 256)) = true ∧ s.rts (qp % 256) = true
  | .cnpRecover qp => s.rts (qp % 256) = true ∧ (s.qp (qp % 256)).rate < 1000 ∧ s.holdingUp = false
  | .ackTimeout qp => s.rts (qp % 256) = true ∧ s.xfers.any (fun x => onEntry s (qp % 256) x) = true ∧ s.holdingUp = false
  | .remoteOpTimeout tag =>
    ∃ x ∈ s.xfers, isOp x.kind = true ∧ x.promised = true ∧ x.job ≠ 0 ∧ opTimedOut s x = true ∧ (if isNvme x.kind then x.key = some tag else x.tag = tag)
  | .linkUpFall _ => True
  | .linkDownTimeout lane => laneUp s (lane % 4) = false ∧ s.holdingUp = false ∧ ∃ q, q < 256 ∧ s.rts q = true ∧ laneOf s q = lane % 4
  | .dueTickCongested gid =>
    s.awake = true ∧ (∃ g, s.findGroup gid = some g ∧ g.stage = .admitted ∧ g.promised = true ∧ g.void = false ∧ g.dueTick ≤ s.now) ∧
      ∃ j ∈ s.jobs, j.stop = none ∧ remoteWork s j = true ∧ s.entries.any (fun e => e.uid == j.uid && e.gid == gid) = true
  | .nvmeCompletion tgt cid _ _ => (nvmeOp s tgt cid).isSome = true ∧ s.holdingUp = false
  | .keepAlive tgt => tgtUsed s tgt = true ∧ tgtReady s tgt = true ∧ s.fwDown = false ∧ s.holdingUp = false
  | .xchgWaitTimeout seg =>
    isWriter s = false ∧ s.awake = true ∧ ∃ x g t, s.ckpt.snap = some x ∧ x.segs.find? (fun g => g.seg == seg) = some g ∧ g.copied = some t ∧
      t + s.get .fjCkptXchgWaitTicks ≤ s.now ∧ g.settled = false ∧ g.batch = none ∧ g.kept.isSome = true
  | .commitNoticeTimeout =>
    s.awake = true ∧ ∃ x t, s.ckpt.snap = some x ∧ x.twoTick = some t ∧ t + s.get .fjCkptXchgWaitTicks ≤ s.now ∧ x.notice = false ∧
      x.phase = .mirror
  | .arrive _ _ => booting s = true
  | .release _ phase =>
    isCoord s = false ∧
      (phase % 2 = 0 ∧ s.boot.stage = .phase0 ∨ phase % 2 = 1 ∧ s.boot.stage = .phase1 ∧ s.boot.edgeSeen = true)
  | .holdup _ _ _ => (s.eng = 2 ∨ s.eng = 3) ∧ s.holdup = none
  | .warnPacket _ _ _ => (s.eng = 2 ∨ s.eng = 3) ∧ s.replaying = false
  | .absent src _ => booting s = true ∧ src % 16 ≠ s.get .fjPosInst
  | .bootWaitTimeout => s.boot.stage = .phase0 ∧ isCoord s = true ∧ s.boot.alone = false
  | .phase1Timeout => s.boot.stage = .phase1 ∧ isCoord s = true ∧ s.boot.ready1 = false
  | .startAlone => s.boot.stage = .phase1 ∨ s.boot.stage = .phase0 ∧ (s.boot.alone = true ∨ isCoord s = false)
  | .keyPortAck _ _ => s.boot.stage = .checks ∧ s.boot.kpErr = false ∧ s.boot.kpWords.length < 20
  | .keyPortTimeout => s.boot.stage = .checks ∧ s.boot.kpErr = false ∧ s.boot.kpWords.length < 20
  | .nvmReadDone _ => ∃ o l, s.nvm = o :: l ∧ o.kind = .read
  | .nvmProgramDone _ => ∃ o l, s.nvm = o :: l ∧ o.kind = .program
  | .nvmEraseDone => ∃ o l, s.nvm = o :: l ∧ o.kind = .erase
  | .signatureVerifyDone => s.boot.stage = .checks ∧ s.boot.reading = 4
  | .watchdogExpiry _ => s.eng ≠ 6 ∧ s.holdingUp = false ∧ s.fwDown = false
  | .idleEntry =>
    s.eng = 2 ∧ s.holdup = none ∧ workless s = true ∧ s.get .fjPmIdleTicks ≠ 0 ∧ s.get .fjPmIdleTicks ≤ s.tick.idle
  | .pmWakeTick => s.eng = 4 ∧ s.get .fjPmWakeTick ≠ 0 ∧ s.get .fjPmWakeTick ≤ s.now
  | .patrolSlot _ _ _ => s.flag .patCtrlPatrolEn = true ∧ s.awake = true ∧ s.now % max 1 (s.get .patPatrolPeriod) = 0 ∧ s.fwDown = false ∧
    holdsBlock s (patrolUnit s).1 (patrolUnit s).2 = false
  | .substitutionDone cls phys _ =>
    ∃ x, s.patina.substs.find? (fun x => x.cls == cls && x.phys == phys) = some x ∧ x.tile = true ∧ s.fwDown = false ∧ s.holdingUp = false
  | .eccWindowEnd => s.now % 2 ^ (10 + s.get .patWarnWinLog2) = 0
  | .yeljoHeaderRewrite => s.recording = true ∧ s.now % 1024 = 0 ∧ s.holdingUp = false
  | .replayInput rec _ => recordDue s rec = true
  | .hflrReqFall _ => True
  | .hcfgMsixMaskClear _ => True
  | .linkUpRise _ => True
  | .strapChange _ _ => True
  | .sbDrop _ => True
  | .dbgEnFall => True
  | .ijtagAccess _ => True
  | .firmwareBack _ _ => s.fwDown = true
  | .railRemoved => True

end Sys2Proof.Safety
end

