-- ==== Sys2Proof/Certificates/Slice0/Obligations.lean ====
section
/-! DEFINITION. The statements for the provers: what the block's commands do, what they leave alone, and what every step keeps. -/

open Sys2Proof Sys2Proof.Machine Sys2Proof.Safety

/-- A step runs the command at the front of the queue, on the state with the rest of the queue. -/
def Obligations.StepRunsTheFrontCommand : Prop :=
  ∀ (c : Instr) (q : List Instr) (s : State), step { s with pending := c :: q } = exec c { s with pending := q }

/-- With no command waiting the block idles: the model's choice (log entry 5). A step takes exactly one command from the queue, changes no
build parameter, and refuses none. Every command that acts completes: where the state and the operands meet its rule's conditions, listed
command by command in `Acts`, it answers a next state, which keeps the build and the queue. -/
def Obligations.QueueDiscipline : Prop :=
  (∀ s : State, s.pending = [] → step s = .next s) ∧
  (∀ s : State, (∀ r, step s ≠ .refused r) ∧ ∀ t, step s = .next t → t.build = s.build ∧ t.pending = s.pending.tail) ∧
  (∀ (c : Instr) (s : State), Acts s c → ∃ t, exec c s = .next t ∧ t.build = s.build ∧ t.pending = s.pending)

/-- The state after reset is canonical, and no command waits. -/
def Obligations.ResetIsCanonical : Prop :=
  Canonical State.reset ∧ State.reset.pending = []

/-- Every step keeps the register file in its canonical form: one cell a quantity, none at its reset value, each within its field's width.
-/
def Obligations.StepKeepsRegistersCanonical : Prop :=
  ∀ s t : State, Canonical s → step s = .next t → Canonical t

/-- COLD and PACKAGE. A PACKAGE reset in OFF finds no power and does nothing (the model's reading). The supply goes: OFF. Nothing but what
power does not hold is left; the port's level is a value that no rule names. -/
def Obligations.PowerOnAndOff : Prop :=
  (∀ (s : State) (inst present : Nat),
     (∃ t, exec (.coldReset inst present) s = .next t ∧ ColdState inst present 0 s t) ∧
     (s.eng ≠ 8 → ∃ t, exec (.packageReset inst present) s = .next t ∧ ColdState inst present 1 s t) ∧
     (s.eng = 8 → ∃ t, exec (.packageReset inst present) s = .next t ∧ KeepsAll s t ∧ KeepsRegs msgFlds s t)) ∧
  (∀ s : State, ∃ t, exec .railRemoved s = .next t ∧ t.eng = 8 ∧ t.entries = [] ∧ t.jobs = [] ∧ t.keys = [] ∧ t.words = [] ∧ t.arm = Arm.none ∧
     t.guard.armed = false ∧ (∀ f i, (fldInfo f).keep ≠ .always → f ≠ .fjMsixPbaPending → t.getI f i = fldReset s.build f i))

/-- FUNCTION in ACTIVE, IDLE and RETAIN: HFLR_DONE[0] rises; the work of every context ends and nothing is left of it; keys that the
Armature did not load are erased; sync words are PLAIN 0; the settings of rings are at their reset values. ENGINE: nothing of the work is
left, firmware is down, the guard is disarmed, and IRQ_DONE.ENGINE_RST says so. TENANT of a context n ≥ 1: its entries, groups, rings, jobs'
saved state, handles, tables, Moulds and keys are gone, and HFLR_DONE[n] rises. -/
def Obligations.WorkResets : Prop :=
  (∀ (s : State) (ofs : Nat), s.eng = 2 ∨ s.eng = 3 ∨ s.eng = 4 → s.holdup = none → s.replaying = false →
     ∃ t, exec (.functionReset ofs) s = .next t ∧ Out.hflrDone 0 true ∈ t.out ∧ t.eng = 2 ∧ bitOf t.pins.hflrReq 0 = true ∧
       t.groups = [] ∧ t.rings = [] ∧ t.entries = [] ∧ t.jobs = [] ∧ t.waiters = [] ∧ t.words = [] ∧ t.handles = [] ∧ t.store = [] ∧
       t.slots = [] ∧ t.cache = [] ∧ t.saved = [] ∧ t.parked = [] ∧ t.vlPending = [] ∧ t.keyLoad = none ∧ t.guard.armed = false ∧
       t.tick.mode = none ∧ t.tick.pending = none ∧ t.ckpt.snap = none ∧ (∀ k ∈ t.keys, k.armature = false → k.key = none) ∧
       (∀ f i, (fldInfo f).keep = .ring → f ≠ .fjMsixPbaPending → t.getI f i = fldReset s.build f i) ∧
       t.arm = s.arm ∧ t.plinth = s.plinth ∧ t.ijtag = s.ijtag) ∧
  (∀ (s : State) (ofs : Nat), HostOpen s →
     ∃ t, exec (.engineRst ofs) s = .next t ∧ t.eng = 2 ∧ t.jobs = [] ∧ t.groups = [] ∧ t.waiters = [] ∧ t.handles = [] ∧ t.store = [] ∧
       t.cache = [] ∧ t.slots = [] ∧ t.keyLoad = none ∧ t.fwDown = true ∧ t.flag .fjWdogFwDown = true ∧
       t.flag .fjIrqDoneEngineRst = true ∧ t.guard.armed = false ∧ t.ckpt.snap = none ∧ t.tick.mode = none ∧
       t.arm = s.arm ∧ t.plinth = s.plinth) ∧
  (∀ (s : State) (ctx ofs : Nat), s.eng = 2 ∨ s.eng = 3 ∨ s.eng = 4 → s.holdup = none → s.replaying = false → ctx % 64 ≠ 0 →
     ∃ t, exec (.tenantReset ctx ofs) s = .next t ∧ Out.hflrDone (ctx % 64) true ∈ t.out ∧ t.eng = 2 ∧
       (∀ e ∈ t.entries, e.ctx ≠ ctx % 64) ∧ (∀ g ∈ t.groups, g.ctx ≠ ctx % 64) ∧ (∀ r ∈ t.rings, r.ctx ≠ ctx % 64) ∧
       (∀ j ∈ t.jobs, j.ctx ≠ ctx % 64) ∧ (∀ x ∈ t.saved, x.ctx ≠ ctx % 64) ∧ (∀ x ∈ t.handles, x.ctx ≠ ctx % 64) ∧
       (∀ x ∈ t.tables, x.ctx ≠ ctx % 64) ∧ (∀ x ∈ t.store, x.ctx ≠ ctx % 64) ∧ (∀ x ∈ t.keys, x.ctx = ctx % 64 → x.key = none))

/-- TENANT of context n ≥ 1 in ACTIVE, IDLE and RETAIN: HFLR_DONE[n] rises; the entries, groups, rings, saved records, handles, tables,
Moulds, cached blocks and keys of context n are gone; the context's own settings are at their reset values. In ACTIVE and IDLE the
entries, groups and handles of every other context stay, as do its settings, the queue pairs and the checkpoint. In BOOT and FAULT a
FUNCTION or TENANT request completes at once and resets nothing (16 R450); in hold-up it only shows at its pin; a replay counts it,
answers it at its pin and does not act on it (18 R495). -/
def Obligations.TenantResets : Prop :=
  (∀ (s : State) (ctx ofs : Nat), s.eng = 2 ∨ s.eng = 3 ∨ s.eng = 4 → s.holdup = none → s.replaying = false → ctx % 64 ≠ 0 →
     ∃ t, exec (.tenantReset ctx ofs) s = .next t ∧ Out.hflrDone (ctx % 64) true ∈ t.out ∧ t.eng = 2 ∧
       (∀ e ∈ t.entries, e.ctx ≠ ctx % 64) ∧ (∀ g ∈ t.groups, g.ctx ≠ ctx % 64) ∧ (∀ r ∈ t.rings, r.ctx ≠ ctx % 64) ∧
       (∀ x ∈ t.saved, x.ctx ≠ ctx % 64) ∧ (∀ p ∈ t.parked, p.1 ≠ ctx % 64) ∧ (∀ x ∈ t.handles, x.ctx ≠ ctx % 64) ∧
       (∀ x ∈ t.tables, x.ctx ≠ ctx % 64) ∧ (∀ x ∈ t.store, x.ctx ≠ ctx % 64) ∧ (∀ x ∈ t.cache, x.key.ctx ≠ ctx % 64) ∧
       (∀ x ∈ t.keys, x.ctx = ctx % 64 → x.key = none) ∧
       (∀ c, (cellCtx c = some (ctx % 64)) → (fldInfo c.fld).keep = .ring ∨ (fldInfo c.fld).keep = .ringCtx ∨ (fldInfo c.fld).keep = .ctxOwned →
         c.fld ≠ .fjMsixPbaPending →
         t.getI c.fld c.idx = fldReset s.build c.fld c.idx) ∧
       (s.eng ≠ 4 →
         t.entries = s.entries.filter (fun e => e.ctx != ctx % 64) ∧ t.groups = s.groups.filter (fun g => g.ctx != ctx % 64) ∧
         t.handles = s.handles.filter (fun x => x.ctx != ctx % 64) ∧
         (∀ c : Cell, cellCtx c ≠ some (ctx % 64) → c.fld ∉ hostFlds → t.getI c.fld c.idx = s.getI c.fld c.idx) ∧
         t.qps = s.qps ∧ t.ckpt = s.ckpt) ∧
       t.guard.armed = s.guard.armed ∧ t.arm = s.arm ∧ t.prints = s.prints ∧ t.patina = s.patina) ∧
  (∀ (s : State) (ctx ofs : Nat),
     ((s.eng = 1 ∨ s.eng = 6) → s.holdup = none → s.replaying = false →
       ∃ t u, exec (.functionReset ofs) s = .next t ∧ exec (.tenantReset ctx ofs) s = .next u ∧
         KeepsRegs msgFlds s t ∧ KeepsRegs msgFlds s u ∧ Out.hflrDone 0 true ∈ t.out ∧ Out.hflrDone (ctx % 64) true ∈ u.out ∧
         t = { s with regs := t.regs, out := t.out, pins := t.pins, tick := { s.tick with ofs := ofs } } ∧
         u = { s with regs := u.regs, out := u.out, pins := u.pins, tick := { s.tick with ofs := ofs } }) ∧
     (s.holdingUp = true → ∃ t u, exec (.functionReset ofs) s = .next t ∧ exec (.tenantReset ctx ofs) s = .next u ∧
       t = { s with regs := t.regs, out := t.out, pins := t.pins, tick := { s.tick with ofs := ofs } } ∧ KeepsRegs msgFlds s t ∧
       u = { s with regs := u.regs, out := u.out, pins := u.pins, tick := { s.tick with ofs := ofs } } ∧ KeepsRegs msgFlds s u) ∧
     (s.eng = 2 ∨ s.eng = 3 → s.holdup = none → s.replaying = true →
       ∃ t u, exec (.functionReset ofs) s = .next t ∧ exec (.tenantReset ctx ofs) s = .next u ∧
         Out.hflrDone 0 true ∈ t.out ∧ Out.hflrDone (ctx % 64) true ∈ u.out ∧
         t.get .yljIgnoredCount = satAdd 32 (s.get .yljIgnoredCount) 1 ∧ u.get .yljIgnoredCount = satAdd 32 (s.get .yljIgnoredCount) 1 ∧
         t.entries = s.entries ∧ u.entries = s.entries ∧ t.groups = s.groups ∧ u.groups = s.groups))

/-- TICK_MODE.GO submits REQUEST for the next boundary; the mode in force stays. FJ_CTRL.GO in ACTIVE and IDLE does nothing (16 R441);
RETAIN_REQ makes a request pending (16 R451); ARM_UPD checks the image before a byte of the device changes, and a failed check only
reports (16 R454). FJ_CTRL.GO in BOOT, AWAIT_DRIVER set: check 10 is made again; a breach is shown, and start-up waits on; else start-up
goes on with the reads of the Plinth areas. FJ_CTRL.ARM_UPD of an image that passes checks 5 to 7 and is newer than both copies: the
update runs, on NOR after an erase of its area, on MRAM at once (16 R454). -/
def Obligations.ControlWrites : Prop :=
  (∀ (s : State) (request ofs : Nat), HostOpen s →
     ∃ t, exec (.tickModeGo request ofs) s = .next t ∧ t.tick.pending = some (request % 4) ∧ t.get .tickModeRequest = request % 4 ∧
       t.tick.mode = s.tick.mode ∧ t.eng = 2 ∧ KeepsRegs (hostFlds ++ [.tickModeRequest]) s t ∧ KeepsUnits s t) ∧
  (∀ (s : State) (ofs : Nat) (b : Bytes), HostOpen s →
     (∃ t, exec (.go ofs b) s = .next t ∧ KeepsRegs hostFlds s t ∧ KeepsUnits s t) ∧
     (∃ t, exec (.retainReq ofs) s = .next t ∧ t.flag .fjStateRetainPend = true ∧ KeepsRegs hostFlds s t ∧ KeepsUnits s t) ∧
     (∃ t, exec (.armUpd ofs b) s = .next t ∧
       (s.get .fjArmUpdStatState = 1 → KeepsRegs hostFlds s t ∧ KeepsUnits s t) ∧
       (s.get .fjArmUpdStatState ≠ 1 → ∀ code,
         (let img := b.take (s.get .fjArmUpdLenLen)
          let c5 := check5 (fieldAt s.boot.directory 0x10 4) img
          c5 = false ∧ code = 0x10 ∨ c5 = true ∧ check6 s.arm.keyHash img = false ∧ code = 0x11 ∨
            c5 = true ∧ check6 s.arm.keyHash img = true ∧ check7 img = false ∧ code = 0x12 ∨
            c5 = true ∧ check6 s.arm.keyHash img = true ∧ check7 img = true ∧ (∃ x ∈ s.arm.copySeq, imgSeq img ≤ x.2) ∧ code = 0x17) →
         t.get .fjArmUpdStatState = 3 ∧ t.get .fjArmUpdStatCode = code ∧ t.flag .fjIrqDoneArmUpd = true ∧ KeepsUnits s t) ∧
       (t.armUpd ≠ s.armUpd → s.get .fjArmUpdStatState ≠ 1 ∧ check5 (fieldAt s.boot.directory 0x10 4) (b.take (s.get .fjArmUpdLenLen)) = true ∧
         check6 s.arm.keyHash (b.take (s.get .fjArmUpdLenLen)) = true ∧ check7 (b.take (s.get .fjArmUpdLenLen)) = true))) ∧
  (∀ (s : State) (ofs : Nat) (b : Bytes), s.eng = 1 → s.holdup = none → s.waking = false → s.replaying = false → s.flag .fjStateLocked = false →
     s.flag .fjStateAwaitDriver = true → s.boot.stuck = false → s.get .yljCfgMode ≠ 2 →
     (let u := (s.at_ ofs).wake
      (∀ o, configBreach u u.arm.records u.arm.pkg = some o →
        ∃ t, exec (.go ofs b) s = .next t ∧ t.flag .fjStateAwaitDriver = true ∧ t.flag .fjIrqDoneGo = true ∧ t.get .fjBootInfoCode = 0x15 ∧
          t.boot = s.boot ∧ t.nvm = s.nvm) ∧
      (configBreach u u.arm.records u.arm.pkg = none →
        ∃ t, exec (.go ofs b) s = .next t ∧ t.flag .fjStateAwaitDriver = false ∧ t.flag .fjIrqDoneGo = true ∧ t.boot.stage = .plinth ∧
          t.nvm = s.nvm ++ [⟨.read, plinthOff s, 0x2000, [], .plinth 0⟩, ⟨.read, plinthOff s + 0x10000, 0x2000, [], .plinth 1⟩,
            ⟨.read, plinthOff s + 0x20000, 0x10000, [], .journal 0⟩, ⟨.read, plinthOff s + 0x30000, 0x10000, [], .journal 1⟩]))) ∧
  (∀ (s : State) (ofs : Nat) (b : Bytes), HostOpen s → s.get .fjArmUpdStatState ≠ 1 →
     (let img := b.take (s.get .fjArmUpdLenLen)
      check5 (fieldAt s.boot.directory 0x10 4) img = true → check6 s.arm.keyHash img = true → check7 img = true →
      (∀ x ∈ s.arm.copySeq, x.2 < imgSeq img) →
      ∃ t, exec (.armUpd ofs b) s = .next t ∧ t.armUpd = some ⟨img, updateCopy s, 0⟩ ∧ t.get .fjArmUpdStatState = 1 ∧ t.get .fjArmUpdStatCode = 0 ∧
        (sfdpMram s.boot.sfdp = false →
          t.nvm = s.nvm ++ [⟨.erase, fieldAt s.boot.directory (8 + 4 * updateCopy s) 4, roundUp img.length 4096, [], .update⟩]) ∧
        (sfdpMram s.boot.sfdp = true → img ≠ [] →
          t.nvm = s.nvm ++ [⟨.program, fieldAt s.boot.directory (8 + 4 * updateCopy s) 4, min 256 img.length, slice img 0 256, .update⟩]) ∧
        t.entries = s.entries ∧ t.jobs = s.jobs ∧ t.keys = s.keys))

/-- The clears and the ECC count. GRD_CTRL.PEAK_CLR clears every PEAK field and GRD_STALL_MAX (03 R120); DIG_CTRL.PEAK_CLR,
PWR_CTRL.MIN_CLR and PAT_ECC_ADD act on one field each. INV_ALL and INV_CTX take model-cache entries away; a pinned one is marked and goes
when it is released (04 R150). SLOT_FLUSH invalidates every decode slot whose reference count is zero (05 R178). PNT_CTRL.INV_CTX empties
the tables of a context that no running job names; one in use goes when its job ends (09 R263). A write to PNT_VL waits for a boundary,
and PENDING shows it (09 R251). -/
def Obligations.ClearingWrites : Prop :=
  (∀ (s : State) (ofs count : Nat), HostOpen s →
     (∃ t, exec (.grdPeakClr ofs) s = .next t ∧ t.get .grdHoldPeak = 0 ∧ t.get .grdPoolPeak = 0 ∧ t.get .grdSpillPeakPeak = 0 ∧
       t.get .grdStallMaxNs = 0 ∧ KeepsRegs (hostFlds ++ [.grdHoldPeak, .grdPoolPeak, .grdSpillPeakPeak, .grdStallMaxNs]) s t ∧ KeepsUnits s t) ∧
     (∃ t, exec (.digPeakClr ofs) s = .next t ∧ t.get .digFptPeakPeak = 0 ∧ KeepsRegs (hostFlds ++ [.digFptPeakPeak]) s t ∧ KeepsUnits s t) ∧
     (∃ t, exec (.minClr ofs) s = .next t ∧ t.get .pwrBusvNowMin = 0xFFF ∧ KeepsRegs (hostFlds ++ [.pwrBusvNowMin]) s t ∧ KeepsUnits s t) ∧
     (∃ t, exec (.patEccAdd count ofs) s = .next t ∧ t.get .patEccWinCount = satAdd 32 (s.get .patEccWinCount) (count % 2 ^ 32) ∧
       KeepsRegs (hostFlds ++ [.patEccWinCount]) s t ∧ KeepsUnits s t)) ∧
  (∀ (s : State) (ctx ofs : Nat), HostOpen s →
     (∃ t, exec (.invAll ofs) s = .next t ∧ t.cache = (s.cache.filter (·.pinned)).map (fun e => { e with marked := true }) ∧
       KeepsRegs hostFlds s t ∧ KeepsUnits s { t with cache := s.cache }) ∧
     (∃ t, exec (.invCtx ctx ofs) s = .next t ∧ (∀ e ∈ t.cache, e.key.ctx = ctx % 64 → e.pinned ∧ e.marked) ∧
       (∀ e, e.key.ctx ≠ ctx % 64 → (e ∈ t.cache ↔ e ∈ s.cache)) ∧ t.get .stgMcCtrlCtx = ctx % 64 ∧
       KeepsRegs (hostFlds ++ [.stgMcCtrlCtx]) s t ∧ KeepsUnits s { t with cache := s.cache }) ∧
     (∃ t, exec (.slotFlush ofs) s = .next t ∧
       t.slots = s.slots.map (fun (x : DecSlot) => if x.refs = 0 then { x with mould := none } else x) ∧
       KeepsRegs hostFlds s t ∧ KeepsUnits s { t with slots := s.slots })) ∧
  (∀ (s : State) (ctx vl ofs : Nat), HostOpen s →
     (∃ t, exec (.pntInvCtx ctx ofs) s = .next t ∧
       (∀ x ∈ t.tables, x.ctx = ctx % 64 → x.dying = true ∧ tableInUse s x.ctx x.slot = true) ∧
       (∀ x ∈ s.tables, x.ctx ≠ ctx % 64 → x.dying = false → x ∈ t.tables) ∧ t.get .pntCtrlCtx = ctx % 64 ∧
       KeepsRegs (hostFlds ++ [.pntCtrlCtx]) s t ∧ KeepsUnits s { t with tables := s.tables }) ∧
     (ctx % 64 ≤ s.build.numVf →
       ∃ t, exec (.pntVlWrite ctx vl ofs) s = .next t ∧ (ctx % 64, vl % 4) ∈ t.vlPending ∧
         t.getI .pntVlVl (ctx % 64) = s.getI .pntVlVl (ctx % 64) ∧
         t.readFld .pntVlPending (ctx % 64) = 1 ∧
         KeepsRegs hostFlds s t ∧ KeepsUnits s { t with vlPending := s.vlPending }) ∧
     (s.build.numVf < ctx % 64 → ∃ t, exec (.pntVlWrite ctx vl ofs) s = .next t ∧ KeepsRegs hostFlds s t ∧ KeepsUnits s t)) ∧
  (∀ (s : State) (uid : Nat) (p : McKey → Bool),
     (∀ e ∈ (s.cacheUnpin uid p).cache, e.pinned = true ∨ e.marked = false) ∧
     (∀ x ∈ s.settleTables.tables, x.dying = true → tableInUse s x.ctx x.slot = true))

/-- SEAL_KEY_CMD (06 R191, R193): LOAD takes the blob of SEAL_KEY_BLOB unless a load is in progress; ERASE zeroes a key that no job uses
at once, and one in use when its last job ends; a write of both does both. ACK_LOST starts the reservation table anew (06 R189, 17 R470). -/
def Obligations.KeyCommands : Prop :=
  ∀ (s : State) (value ofs : Nat), HostOpen s →
    (∃ t, exec (.keyLoad value ofs) s = .next t ∧ t.get .sealKeyCmdEraseSlot = value / 2 ^ 8 % 256 ∧
      (s.keyLoad = none → t.keyLoad = some ⟨keyBlob s, false, none⟩ ∧ t.get .sealKeyResultState = 1 ∧ t.get .sealKeyResultCause = 0) ∧
      (∀ l, s.keyLoad = some l → t.keyLoad = some l ∧ t.get .sealKeyResultState = s.get .sealKeyResultState) ∧
      (bitOf value 1 = false → KeepsRegs (hostFlds ++ [.sealKeyCmdEraseSlot, .sealKeyResultState, .sealKeyResultCause]) s t ∧
        KeepsUnits s { t with keyLoad := s.keyLoad })) ∧
    (∃ t, exec (.keyErase value ofs) s = .next t ∧
      (let k := value / 2 ^ 8 % 256
       ((s.key k).key = none → t.keys = s.keys) ∧
       ((s.key k).key ≠ none → s.keyUsed k = true → t.key k = { s.key k with erasing := true }) ∧
       ((s.key k).key ≠ none → s.keyUsed k = false → t.key k = (s.key k).erase ∧ t.flag .fjIrqDoneKey = true) ∧
       (∀ j, j ≠ k → t.key j = s.key j)) ∧
      (bitOf value 0 = true → s.keyLoad = none → t.keyLoad = some ⟨keyBlob s, false, none⟩ ∧ t.get .sealKeyResultState = 1) ∧
      (bitOf value 0 = false →
        KeepsRegs (hostFlds ++ [.sealKeyCmdEraseSlot, .fjIrqDoneKey]) s t ∧ KeepsUnits s { t with keys := s.keys })) ∧
    (∀ x ∈ s.settleErases.keys, x.erasing = true → s.keyUsed x.slot = true) ∧
    (∃ t, exec (.ackLost ofs) s = .next t ∧ t.flag .sealStatTableLost = false ∧
      (s.flag .sealStatTableLost = false → KeepsRegs hostFlds s t ∧ KeepsUnits s t) ∧
      (s.flag .sealStatTableLost = true → (∀ x ∈ t.keys, x.hwm = 0) ∧ t.get .pwrJournalHalf = 0 ∧ t.get .pwrJournalNext = 1 ∧
        t.nvm = s.nvm ++ [⟨.erase, halfBase s 0, 0x10000, [], .eraseJournal 0⟩, ⟨.erase, halfBase s 1, 0x10000, [], .eraseJournal 1⟩,
          ⟨.program, halfBase s 0, 16, journalEntry 0xFF 0 (s.get .sealPrefixPrefix), .journalHeader⟩]))

/-- FJ_CKPT_CTRL.WARN raises a warning of cause 0x10, which the sideband relays (17 R481). A WARN packet counts as a warning, shows its
cause, and under the WARNED policy asks for a snapshot at the next opportunity; outside ACTIVE and IDLE, and in replay, it changes
nothing. -/
def Obligations.Warnings : Prop :=
  (∀ (s : State) (ofs : Nat), HostOpen s →
     ∃ t, exec (.warn ofs) s = .next t ∧ t.get .patLastWarnCause = 0x10 ∧ t.flag .patStatWarned = true ∧
       t.get .fjCkptWarnsCount = satAdd 32 (s.get .fjCkptWarnsCount) 1 ∧
       (s.get .fjCkptCfgPolicy = 1 → t.flag .fjCkptStatWarnPending = true) ∧ Out.sideband (sbPacket s 3 0 0x10) ∈ t.out ∧
       KeepsRegs (hostFlds ++ [.patLastWarnCause, .patStatWarned, .fjCkptWarnsCount, .fjCkptStatWarnPending]) s t ∧ KeepsUnits s t) ∧
  (∀ (s : State) (src cause ofs : Nat),
     ((s.eng = 2 ∨ s.eng = 3) → s.replaying = false →
       ∃ t, exec (.warnPacket src cause ofs) s = .next t ∧ t.get .fjCkptWarnsCount = satAdd 32 (s.get .fjCkptWarnsCount) 1 ∧
         t.get .patLastWarnCause = cause % 256 ∧ (s.get .fjCkptCfgPolicy = 1 → t.flag .fjCkptStatWarnPending = true) ∧
         KeepsRegs (logFlds ++ msgFlds ++ [.fjCkptWarnsCount, .patLastWarnCause, .fjCkptStatWarnPending]) s t ∧ t.ckpt = s.ckpt) ∧
     (s.eng ≠ 2 ∧ s.eng ≠ 3 ∨ s.replaying = true →
       ∃ t, exec (.warnPacket src cause ofs) s = .next t ∧ KeepsAll s t ∧ KeepsRegs msgFlds s t))

/-- FJ_CKPT_CTRL.ABANDON (10 R286) ends the snapshot: the guard disarms, and no snapshot is armed or committing before the work that then
goes on; without a snapshot it ends nothing. ADOPT acts on a spare that has not adopted and does nothing else where; a role that the Armature has and whose PEER entries agree
is adopted: reserves EMPTY, no peer's bytes counted, the guard's bitmaps to be cleared, IRQ_DONE.ADOPT (10 R288, R290; 16 R436). -/
def Obligations.AbandonAndAdopt : Prop :=
  (∀ (s : State) (ofs : Nat), HostOpen s → s.ckpt.snap ≠ none →
    ∃ u : State, exec (.abandon ofs) s = .next (finishState s u.work) ∧ u.guard.armed = false ∧ u.ckpt.snap = none ∧
      u.flag .fjCkptStatCommitPending = false) ∧
  (∀ (s : State) (ofs : Nat), HostOpen s → s.ckpt.snap = none →
    ∃ u : State, exec (.abandon ofs) s = .next (finishState s u.work) ∧ KeepsRegs hostFlds s u ∧ KeepsUnits s u) ∧
  (∀ (s : State) (role ofs : Nat), HostOpen s →
    ∃ u : State, exec (.adopt role ofs) s = .next (finishState s u.adopt) ∧ u.get .fjCkptCtrlRole = role % 16 ∧
      KeepsRegs (hostFlds ++ [.fjCkptCtrlRole]) s u ∧ KeepsUnits s u) ∧
  (∀ u : State, u.flag .fjCkptCfgSpare = false ∨ u.flag .fjCkptStatAdopted = true → u.adopt = u) ∧
  (∀ (u : State) (r : ArmRec), u.flag .fjCkptCfgSpare = true → u.flag .fjCkptStatAdopted = false →
    u.arm.records.find? (fun r => r.typ == 5 && fieldAt r.body 0 1 == u.get .fjCkptCtrlRole) = some r →
    rolePeersOk (u.applyPairs (r.body.drop 8)) = true →
    u.adopt.flag .fjCkptStatAdopted = true ∧ u.adopt.flag .fjIrqDoneAdopt = true ∧ u.adopt.guard.clean0 = false ∧
      u.adopt.guard.clean1 = false ∧ u.adopt.ckpt.slots = [⟨0, 0, 0⟩, ⟨0, 0, 0⟩] ∧ u.adopt.ckpt.peers = [])

/-- PAT_CTRL.RETIRE fails the selected unit, and does nothing to a unit that has failed or does not exist, nor to a spare in use (17 R483);
YLJ_CTRL.CLOSE ends the session (18 R490); STG_CTRL.SWAP closes context 0's open segment, which STG_SHORT_SEGS does not count (04 R132,
R151). A segment of a snapshot stays open: that is the model's reading (log entry 35). -/
def Obligations.RetireCloseAndSwap : Prop :=
  ∀ (s : State) (ofs : Nat), HostOpen s →
    (∃ t, exec (.retire ofs) s = .next t ∧
      (let c := s.get .patClassSelClass
       let p := s.get .patUnitSelUnit
       (c ≤ 7 → p < physCount s c → (s.unit c p).failed = false → ¬ (builtCount s c ≤ p ∧ (s.unit c p).logical.isSome = true) →
         (t.unit c p).failed = true) ∧
       ((s.unit c p).failed = true ∨ 7 < c ∨ physCount s c ≤ p ∨ (builtCount s c ≤ p ∧ (s.unit c p).logical.isSome = true) →
         t.patina = s.patina))) ∧
    (∃ t, exec (.close ofs) s = .next t ∧ t.flag .yljStatRecording = false ∧ t.jobs = s.jobs ∧ t.entries = s.entries ∧ t.groups = s.groups) ∧
    (∃ u : State, exec (.stgCtrlSwap ofs) s = .next (finishState s u.goOn) ∧ KeepsRegs hostFlds s u ∧
      (let h := s.half s.fillA
       (∀ j, s.findJob h.job = some j → h.st = .fill → h.closed = false → h.ctx = 0 → j.opcode ≠ opSnap → h.blocks ≠ [] →
         u.half u.fillA = h.close ∧ u.half (!u.fillA) = s.half (!s.fillA)) ∧
       (h.ctx ≠ 0 → KeepsUnits s u)))

/-- XPT_QP_CMD (12 R329). RESET clears an entry's PSNs and puts it in RESET, whatever its state; RTS from another state starts it at the
PSNs of its attributes, of which a connection to a target of its own at once uses the one it sends with; an entry in RTS stays as it is. -/
def Obligations.QueuePairCommands : Prop :=
  ∀ (s : State) (ofs : Nat), HostOpen s →
    (let q := s.get .xptQpSelQp
     (s.rts q = false → ∃ t, exec (.qpReset ofs) s = .next t ∧ t.getI .xptQpStateState q = 0 ∧ t.qp q = Qp.fresh q ∧
        t.jobs = s.jobs ∧ t.entries = s.entries ∧ (∀ p, p ≠ q → t.getI .xptQpStateState p = s.getI .xptQpStateState p)) ∧
     (s.rts q = true → ∃ t, exec (.qpReset ofs) s = .next t ∧ t.getI .xptQpStateState q = 0 ∧ t.qp q = Qp.fresh q) ∧
     (s.rts q = true → ∃ t, exec (.qpRts ofs) s = .next t ∧ KeepsRegs hostFlds s t ∧ KeepsUnits s t) ∧
     (s.rts q = false → ∃ t, exec (.qpRts ofs) s = .next t ∧ t.rts q = true ∧
        (t.qp q).recvPsn = s.getI .xptQpRpsnPsn q ∧ t.entries = s.entries) ∧
     (s.rts q = false → tgtsOf s q = [] → ∃ t, exec (.qpRts ofs) s = .next t ∧ t.rts q = true ∧
        (t.qp q).sendPsn = s.getI .xptQpSpsnPsn q ∧ (t.qp q).recvPsn = s.getI .xptQpRpsnPsn q ∧ t.jobs = s.jobs ∧ t.entries = s.entries))

/-- Pins that only show or count: a strap that changes, a sideband packet that could not be sent, the fall of a reset request, BUS_V
without a strobe, the debug enable. HCFG_MSIX_MASK[n] clears: every pending message of function n whose own mask is clear goes out, when
its message can be sent; one whose own mask is set stays pending; in HOLDUP and FAULT none goes (19 R511, 20 R523). Nothing but pending bits,
packets and the pin changes. -/
def Obligations.PinEvents : Prop :=
  (∀ (s : State) (inst present packet fn : Nat),
     (∃ t, exec (.strapChange inst present) s = .next t ∧ t.flag .fjPortStatStrapChg = true ∧ t.get .fjPosInst = s.get .fjPosInst ∧
       KeepsRegs (msgFlds ++ [.fjPortStatStrapChg]) s t ∧
       KeepsAll { s with pins := { s.pins with posInst := inst % 16, posPresent := present % 65536 } } t) ∧
     (∃ t, exec (.sbDrop packet) s = .next t ∧ t.flag .fjPortStatSbDrop = true ∧
       t.get .fjSbDropsCount = satAdd 32 (s.get .fjSbDropsCount) 1 ∧ KeepsRegs (msgFlds ++ [.fjPortStatSbDrop, .fjSbDropsCount]) s t ∧
       KeepsAll s t) ∧
     (∃ t, exec (.hflrReqFall fn) s = .next t ∧ Out.hflrDone (fn % 64) false ∈ t.out ∧ KeepsRegs msgFlds s t ∧
       (∀ k, bitOf t.pins.hflrReq k = (bitOf s.pins.hflrReq k && k != fn % 64)) ∧ KeepsAll { s with pins := t.pins } t) ∧
     (∃ t, exec .busvStaleTimeout s = .next t ∧ t.flag .fjPortStatBusvStale = true ∧ KeepsRegs (msgFlds ++ [.fjPortStatBusvStale]) s t ∧
       KeepsAll s t) ∧
     (∃ t, exec .dbgEnFall s = .next t ∧ t.pins.dbgEn = false ∧ t.ijtag = false ∧ KeepsRegs msgFlds s t ∧
       t.patina.urgent = (if s.ijtag then s.patina.urgent.dropLast else s.patina.urgent) ∧ t.patina.units = s.patina.units ∧
       t.entries = s.entries ∧ t.jobs = s.jobs ∧ t.eng = s.eng)) ∧
  (∀ (s : State) (fn : Nat), ∃ t, exec (.hcfgMsixMaskClear fn) s = .next t ∧ bitOf t.pins.msixMask (fn % 64) = false ∧
     KeepsRegs msgFlds s t ∧ KeepsAll { s with pins := t.pins } t ∧
     (s.eng = 5 ∨ s.eng = 6 → t.out = s.out ∧ ∀ i, t.getI .fjMsixPbaPending i = s.getI .fjMsixPbaPending i) ∧
     (s.eng ≠ 5 → s.eng ≠ 6 → bitOf s.pins.msixEn (fn % 64) = true → bitOf s.pins.bme (fn % 64) = true → ∀ v, v < 64 →
       bitOf (s.getI .fjMsixPbaPending (fn % 64)) v = true →
       (s.getI .fjMsixCtrlMask (64 * (fn % 64) + v) = 0 →
         bitOf (t.getI .fjMsixPbaPending (fn % 64)) v = false ∧
         Out.msix (fn % 64) v (s.getI .fjMsixAddrHiAddr (64 * (fn % 64) + v) * 2 ^ 32 + s.getI .fjMsixAddrLoAddr (64 * (fn % 64) + v) * 4)
           (s.getI .fjMsixDataData (64 * (fn % 64) + v)) ∈ t.out) ∧
       (s.getI .fjMsixCtrlMask (64 * (fn % 64) + v) = 1 → bitOf (t.getI .fjMsixPbaPending (fn % 64)) v = true)))

/-- Hold-up starts at PWR_FAIL_N, at a HOLDUP packet, and at a BUS_V code at or below the level for it. Once hold-up has started, later
triggers, SAG_FAST changes and the return of the bus are ignored. -/
def Obligations.HoldupBegins : Prop :=
  (∀ (s : State) (src busV code ofs : Nat), s.eng = 2 ∨ s.eng = 3 → s.holdup = none →
     (∃ t, exec (.pwrFailN ofs) s = .next t ∧ t.pins.pwrFailN = false ∧ HoldupBegun 2 0 s.pins.busVCode s t) ∧
     (∃ t, exec (.holdup src busV ofs) s = .next t ∧ HoldupBegun 3 (src % 16) (busV % 4096) s t) ∧
     (s.get .pwrBusvHold ≠ 0 → code % 4096 ≤ s.get .pwrBusvHold →
       ∃ t, exec (.busVStrobe code ofs) s = .next t ∧ t.pins.busVCode = code % 4096 ∧ HoldupBegun 1 0 (code % 4096) s t)) ∧
  (∀ (s : State) (src busV code level ofs : Nat), s.holdingUp = true →
     (∃ t, exec (.pwrFailN ofs) s = .next t ∧ KeepsRegs msgFlds s t ∧ KeepsAll { s with pins := t.pins } t) ∧
     (∃ t, exec (.holdup src busV ofs) s = .next t ∧ KeepsRegs msgFlds s t ∧ KeepsAll s t) ∧
     (∃ t, exec (.busVStrobe code ofs) s = .next t ∧ KeepsRegs msgFlds s t ∧ KeepsAll s t) ∧
     (∃ t, exec (.sagFastRise level ofs) s = .next t ∧ KeepsRegs (msgFlds ++ [.pwrStatSag]) s t ∧ KeepsAll { s with pins := t.pins } t))

/-- A BUS_V strobe that starts no hold-up: the code and the minimum are recorded; BUS_LOW follows the warning level, and the step from
above it to it or below raises a warning of cause 6, once (17 R462). SAG_FAST: the step in force is at least the level's at once (15 R423,
17 R458); steps up go by one (R460). Each step change is driven at the clock port, and each step down to S1 or S2 is counted (R461). R72:
each core cycle at divisor d adds d − 1 to TICK_THR_USED, and a cycle that has not ended waits for the next count; BUS_V without a strobe for
too long is STALE (15 R424). R76, R77: the cycle in which it exceeds the allowance is a power fault, which
voids the deadline of every admitted group and suspends promises. -/
def Obligations.BusAndClock : Prop :=
  (∀ (s : State) (code ofs : Nat), s.holdingUp = false → ¬ (s.get .pwrBusvHold ≠ 0 ∧ code % 4096 ≤ s.get .pwrBusvHold) →
     ∃ t, exec (.busVStrobe code ofs) s = .next t ∧ t.pins.busVCode = code % 4096 ∧ t.get .pwrBusvNowCode = code % 4096 ∧
       t.flag .pwrStatBusLow = decide (code % 4096 ≤ s.get .pwrBusvWarn) ∧ t.get .pwrBusvNowMin = min (s.get .pwrBusvNowMin) (code % 4096) ∧
       t.flag .fjPortStatBusvStale = false ∧
       (code % 4096 ≤ s.get .pwrBusvWarn → s.get .pwrBusvWarn < s.pins.busVCode →
         t.flag .pwrStatBusWarn = true ∧ t.get .patLastWarnCause = 6 ∧ Out.sideband (sbPacket s 3 0 6) ∈ t.out) ∧
       (¬ (code % 4096 ≤ s.get .pwrBusvWarn ∧ s.get .pwrBusvWarn < s.pins.busVCode) →
         KeepsRegs (msgFlds ++ [.pwrBusvNowCode, .pwrStatBusLow, .pwrBusvNowMin, .fjPortStatBusvStale]) s t) ∧
       KeepsAll { s with pins := { s.pins with busVCode := code % 4096 } } t) ∧
  (∀ (s : State) (level ofs : Nat), s.holdingUp = false →
     (s.eng ≠ 4 → s.eng ≠ 8 → ∃ t, exec (.sagFastRise level ofs) s = .next t ∧
       t.get .tickStatClkStep = max (s.get .tickStatClkStep) (stepOf (level % 4)) ∧ t.pins.sagFast = level % 4 ∧
       t.flag .pwrStatSag = decide (level % 4 ≠ 0) ∧
       (s.get .tickStatClkStep < stepOf (level % 4) →
         Out.clock (if stepOf (level % 4) = 1 then 2 else 4) ∈ t.out ∧
         t.get .pwrStepsS1Count = satAdd 32 (s.get .pwrStepsS1Count) (b2n (stepOf (level % 4) == 1)) ∧
         t.get .pwrStepsS2Count = satAdd 32 (s.get .pwrStepsS2Count) (b2n (stepOf (level % 4) == 2))) ∧
       t.entries = s.entries ∧ t.jobs = s.jobs ∧ t.guard = s.guard ∧ t.eng = s.eng) ∧
     (stepOf (level % 4) < s.get .tickStatClkStep → ∃ t, exec (.sagStepUp level ofs) s = .next t ∧
       t.get .tickStatClkStep = s.get .tickStatClkStep - 1 ∧
       Out.clock (if s.get .tickStatClkStep - 1 = 1 then 2 else if s.get .tickStatClkStep - 1 = 2 then 4 else 1) ∈ t.out ∧
       t.entries = s.entries ∧ t.jobs = s.jobs ∧ t.guard = s.guard ∧ t.eng = s.eng)) ∧
  ((∀ (s : State) (ofs : Nat), s.tick.running = true → s.holdingUp = false → s.tick.lostTo < ofs →
     (s.accrue ofs).get .tickThrUsedUsed = satAdd 32 (s.get .tickThrUsedUsed) (coreCycles s ofs * (s.divisor - 1)) ∧
     (s.accrue ofs).tick.lostTo = s.tick.lostTo + coreCycles s ofs * s.divisor ∧ ofs < (s.accrue ofs).tick.lostTo + s.divisor) ∧
   (∀ s : State, ∃ t, exec .busvStaleTimeout s = .next t ∧ t.flag .fjPortStatBusvStale = true ∧ t.get .pwrBusvNowCode = s.get .pwrBusvNowCode ∧
     KeepsRegs (msgFlds ++ [.fjPortStatBusvStale]) s t ∧ KeepsAll s t) ∧
   (∀ (s : State) (ofs : Nat), s.get .tickThrUsedUsed ≤ s.get .tickThrAllowAllow →
     s.get .tickThrAllowAllow < (s.accrue ofs).get .tickThrUsedUsed →
     ∃ t, exec (.powerFault ofs) s = .next t ∧ t.flag .tickStatPowerFault = true ∧ t.flag .tickStatSuspended = true ∧
       t.groups = s.groups.map Group.voided ∧ t.get .patLastWarnCause = 7 ∧ t.entries = s.entries ∧ t.jobs = s.jobs))

/-- A boundary, and one at which a throttle window ends: TICK_NOW advances, the pending mode request is taken, groups whose last
completion has been posted give up their reservations, TICK_THR_USED returns to zero where a window ends; then, in ACTIVE and IDLE, the
work goes on. -/
def Obligations.BoundaryTakesTheTick : Prop :=
  ∀ s : State, boundaryDue s = true →
    ∃ u : State, u.now = (s.now + 1) % 2 ^ 64 ∧ u.tick.ofs = 0 ∧ u.tick.edge = .none ∧ u.tick.pending = none ∧
      (∀ g ∈ u.groups, g.stage ≠ .done) ∧ (s.tick.pending ≠ none → u.flag .fjIrqDoneMode = true) ∧
      ((s.now + 1) % 2 ^ 64 % max 1 (s.get .tickThrWinWin) = 0 → u.get .tickThrUsedUsed = 0) ∧
      exec .tickBoundary s = .next (finishState s (if u.awake then u.goOn else u)) ∧
      ((s.now + 1) % max 1 (s.get .tickThrWinWin) = 0 →
        exec .throttleWindowEnd s = .next (finishState s (if u.awake then u.goOn else u)))

/-- What the pieces of a boundary do. R64: a request is applied when every reservation held fits the mode asked for, and refused
otherwise. R72, R77: a window's end clears the count, and lifts the suspension when the window kept within its allowance. R51: a missing
edge is counted, and the sixteenth in a row sets FREE_RUN; an edge in the window ends the row; a tick without one counts one missing edge,
but for a replay, whose log tells of it. A TICK_IN edge: within 8 cycles of the boundary expected it moves that boundary, farther off it
counts as missing at once (02 R51); RETAIN counts it as a tick, and a throttle window that ends with it is zeroed (15 R420, 02 R72); a
replay takes boundaries from its log (18 R495). -/
def Obligations.BoundaryPieces : Prop :=
  ((∀ (s : State) (m : Nat), s.tick.pending = some m →
     s.applyMode.tick.pending = none ∧ s.applyMode.flag .fjIrqDoneMode = true ∧
     (modeFits s m = true → s.applyMode.mode = m ∧ s.applyMode.get .tickModeRefused = s.get .tickModeRefused) ∧
     (modeFits s m = false → s.applyMode.mode = s.mode ∧ s.applyMode.flag .tickModeRefused = true) ∧ s.applyMode.groups = s.groups) ∧
   (∀ s : State, s.windowEnd.get .tickThrUsedUsed = 0 ∧
     s.windowEnd.flag .tickStatSuspended = (s.flag .tickStatSuspended && decide (s.get .tickThrAllowAllow < s.get .tickThrUsedUsed))) ∧
   (∀ s : State, s.missEdge.get .tickStatMissed = satAdd 16 (s.get .tickStatMissed) 1 ∧
     s.missEdge.flag .tickStatTickFault = true ∧ s.missEdge.tick.missedRow = s.tick.missedRow + 1 ∧
     (16 ≤ s.tick.missedRow + 1 → s.missEdge.flag .tickStatFreeRun = true) ∧
     (s.tick.missedRow + 1 < 16 → s.missEdge.flag .tickStatFreeRun = s.flag .tickStatFreeRun) ∧
     (s.replaying = true → s.edgeTaken .none = s) ∧
     (s.replaying = false → (s.edgeTaken .none).get .tickStatMissed = satAdd 16 (s.get .tickStatMissed) 1 ∧
       (s.edgeTaken .none).tick.missedRow = s.tick.missedRow + 1 ∧ (s.edgeTaken .none).flag .tickStatTickFault = true)) ∧
   (∀ (s : State) (d : Int), (s.edgeTaken (.inWindow d)).tick.missedRow = 0 ∧ (s.edgeTaken (.inWindow d)).flag .tickStatFreeRun = false)) ∧
  (∀ (s : State) (d : Int),
     (s.replaying = true → ∃ t, exec (.tickInEdge d) s = .next t ∧ KeepsRegs msgFlds s t ∧ KeepsAll s t) ∧
     (s.replaying = false → s.eng = 4 → ∃ t, exec (.tickInEdge d) s = .next t ∧ t.now = (s.now + 1) % 2 ^ 64 ∧ t.entries = s.entries ∧
       t.jobs = s.jobs ∧ t.eng = s.eng ∧
       ((s.now + 1) % 2 ^ 64 % max 1 (s.get .tickThrWinWin) = 0 → t.get .tickThrUsedUsed = 0) ∧
       ((s.now + 1) % 2 ^ 64 % max 1 (s.get .tickThrWinWin) ≠ 0 → KeepsRegs (msgFlds ++ [.tickNowNow]) s t ∧ KeepsAll s t)) ∧
     (s.replaying = false → s.eng ≠ 4 → s.boot.stage ≠ .phase1 → s.tick.running = true → s.holdingUp = false →
       (-8 ≤ d ∧ d ≤ 8 → ∃ t, exec (.tickInEdge d) s = .next t ∧ t.tick = { s.tick with edge := .inWindow d } ∧ KeepsRegs msgFlds s t ∧
         KeepsAll { s with tick := t.tick } t) ∧
       (¬ (-8 ≤ d ∧ d ≤ 8) → ∃ t, exec (.tickInEdge d) s = .next t ∧ t.get .tickStatMissed = satAdd 16 (s.get .tickStatMissed) 1 ∧
         t.flag .tickStatTickFault = true ∧
         t.tick = { s.tick with missedRow := s.tick.missedRow + 1, edge := if s.tick.edge = .none then .outside else s.tick.edge } ∧
         KeepsAll { s with tick := t.tick } t ∧
         KeepsRegs (msgFlds ++ [.tickStatMissed, .tickStatTickFault, .tickStatFreeRun]) s t)))

/-- IDLE is entered from ACTIVE after IDLE_TICKS ticks without work; RETAIN ends at the tick FJ_PM_WAKE names and at a host request, which
waits; the wake shows as ENG_STATE 4 to 3. The end of a wake: TICK_NOW has gone on by the periods that passed, each counted as a missed
edge; ACTIVE; the waiting requests are served in order, and work goes on. -/
def Obligations.PowerStates : Prop :=
  (∀ (s : State) (fn off size : Nat) (wr : Option Nat),
     (s.eng = 2 → s.holdup = none → workless s = true → s.get .fjPmIdleTicks ≠ 0 → s.get .fjPmIdleTicks ≤ s.tick.idle →
       ∃ t, exec .idleEntry s = .next t ∧ t.eng = 3 ∧ Out.engState 3 ∈ t.out ∧ KeepsRegs msgFlds s t ∧ KeepsAll { s with eng := 3 } t) ∧
     (s.eng = 4 → s.waking = false → s.get .fjPmWakeTick ≠ 0 → s.get .fjPmWakeTick ≤ s.now →
       ∃ t, exec .pmWakeTick s = .next t ∧ t.waking = true ∧ t.eng = 3 ∧ Out.engState 3 ∈ t.out ∧ t.now = s.now ∧ t.keys = s.keys) ∧
     (s.eng = 4 → ∃ t, exec (.hostRequestWake fn off size wr) s = .next t ∧ t.hcqWait = s.hcqWait ++ [(fn, off, size, wr)] ∧
       (s.waking = false → t.waking = true ∧ t.eng = 3 ∧ Out.engState 3 ∈ t.out))) ∧
  (∀ (s : State) (ticks : Nat) (data : Bytes), s.waking = true →
     ∃ u : State, exec (.wakeComplete ticks data) s =
         .next (finishState s ((s.hcqWait.foldl (fun a r => a.serveWaiting r data) u).goOn)) ∧
       u.eng = 2 ∧ u.waking = false ∧ u.hcqWait = [] ∧ u.now = (s.now + ticks) % 2 ^ 64 ∧ u.tick.missedRow = s.tick.missedRow + ticks ∧
       (u.flag .tickStatTickFault = true ∨ ticks = 0 ∧ u.flag .tickStatTickFault = s.flag .tickStatTickFault) ∧
       u.entries = s.entries ∧ u.keys = s.keys)

/-- R102, R103: a write outside every window without ORD, and any write while the guard is disarmed, passes at once. While it is armed a
guarded or ordered write takes an entry, or waits where all 2,048 are taken; it is then forwarded or held as the first matching row says,
and a row 7 hold queues its granule for rescue. In RETAIN, RESET and OFF no write is taken (R96). The rows of R103, in order. -/
def Obligations.GuardWrites : Prop :=
  (∀ (s : State) (lane addr : Nat) (data : Bytes) (be : Nat) (ord : Bool) (id : Nat) (now : GuardClock),
     ((s.eng = 0 ∨ s.eng = 4 ∨ s.eng = 8) →
       ∃ t, exec (.guardWrite lane addr data be ord id now) s = .next t ∧ KeepsRegs msgFlds s t ∧ KeepsAll s t) ∧
     (s.eng ≠ 0 → s.eng ≠ 4 → s.eng ≠ 8 → ∃ t, exec (.guardWrite lane addr data be ord id now) s = .next t ∧
       (let gran := s.granOf addr
        let sent := Out.guardOut (lane % 64) addr (sliceZ data 0 64) (be % 2 ^ 64) false id
        let v := s.guard.verdict (lane % 64) ord gran
        ((s.guard.armed = false ∨ gran = none ∧ ord = false) →
          sent ∈ t.out ∧ t.guard.awaiting = s.guard.awaiting ++ [(lane % 64, id)] ∧ t.guard.held = s.guard.held) ∧
        (s.guard.armed = true → gran ≠ none ∨ ord = true → s.guard.held.length < 2048 → s.guard.waiting = [] →
          (v = .pass → sent ∈ t.out ∧ t.guard.awaiting = s.guard.awaiting ++ [(lane % 64, id)] ∧ t.guard.held = s.guard.held) ∧
          (∀ why, v = .hold why → t.guard.awaiting = s.guard.awaiting ∧
            (∃ w, t.guard.held = s.guard.held ++ [w] ∧ w.addr = addr ∧ w.gran = gran ∧ w.why = why ∧ w.lane = lane % 64 ∧ w.id = id) ∧
            t.guard.rescueQ = (match why, gran with | .rescue, some x => s.guard.rescueQ ++ [x] | _, _ => s.guard.rescueQ))) ∧
        (s.guard.armed = true → gran ≠ none ∨ ord = true → ¬ (s.guard.held.length < 2048 ∧ s.guard.waiting = []) →
          (∃ w, t.guard.waiting = s.guard.waiting ++ [w] ∧ w.addr = addr ∧ w.gran = gran ∧ w.lane = lane % 64 ∧ w.id = id) ∧
          t.guard.held = s.guard.held ∧ t.guard.awaiting = s.guard.awaiting) ∧
        t.guard.armed = s.guard.armed ∧ t.guard.pool = s.guard.pool ∧ t.guard.spill = s.guard.spill ∧ t.entries = s.entries ∧ t.jobs = s.jobs))) ∧
  (∀ (g : Guard) (lane : Nat) (ord : Bool) (gran : Option Nat),
     (g.armed = false ∨ gran = none ∧ ord = false → g.verdict lane ord gran = .pass) ∧
     (g.armed = true → ord = true → (∃ w ∈ g.held, w.lane = lane) → g.verdict lane ord gran = .hold .order) ∧
     (g.armed = true → ¬ (ord = true ∧ ∃ w ∈ g.held, w.lane = lane) →
       (∀ x, gran = some x →
         ((∃ w ∈ g.held, w.gran = some x) → g.verdict lane ord gran = .hold .order) ∧
         ((∀ w ∈ g.held, w.gran ≠ some x) →
           (g.has x = true → g.verdict lane ord gran = .pass) ∧
           (g.has x = false → g.reading x = true → g.verdict lane ord gran = .hold .attach) ∧
           (g.has x = false → g.reading x = false → g.verdict lane ord gran = .hold .rescue))) ∧
       (gran = none → g.verdict lane ord gran = .pass)))

/-- R104, for the writes of a lane and for those that leave the hold queue: while the guard is armed nothing is forwarded to a granule
whose bit is not set, that is, whose old contents have neither landed in the rescue pool nor been read by the copy. -/
def Obligations.GuardNeverForwardsUncopied : Prop :=
  (∀ (s t : State) (lane addr : Nat) (data : Bytes) (be : Nat) (ord : Bool) (id x : Nat) (now : GuardClock),
    s.guard.armed = true → s.granOf addr = some x → s.guard.has x = false →
    exec (.guardWrite lane addr data be ord id now) s = .next t →
    t.guard.awaiting = s.guard.awaiting ∧ ∀ o ∈ t.out, o ∈ s.out ∨ ∃ n v a d, o = Out.msix n v a d) ∧
  (∀ (s : State) (now : GuardClock), s.guard.armed = true →
    ∀ o ∈ (s.releaseHeld now).out, o ∈ s.out ∨
      ∃ w ∈ s.guard.held ++ s.guard.waiting, o = .guardOut w.lane w.addr w.data w.be false w.id ∧
        ∀ x, w.gran = some x → s.guard.has x = true)

/-- R106 to R109, R112: a rescue is 64 reads of 64 B in the reserved tags into a free pool slot; its landing sets the granule's bit, fills
the slot and flags a late return; the oldest slot of the pool whose granule the copy has not come to drains into a free spill slot. A rescue that was given up leaves nothing. -/
def Obligations.RescuePoolAndSpill : Prop :=
  ∀ (s : State) (x k q gran : Nat) (now : GuardClock) (rest : List Nat) (data : Bytes),
    (s.guard.armed = true → s.guard.rescueQ = x :: rest → s.guard.freeSlot = some k → s.rescueTags = some q →
      ∃ u : State, exec (.rescueIssue now) s = .next (finishState s u.spillTurn) ∧ u.guard.rescueQ = rest ∧
        u.guard.rescues = s.guard.rescues ++ [⟨x, k, now.ns, q, false⟩] ∧ u.guard.pool = s.guard.pool ∧ u.guard.bits = s.guard.bits ∧
        u.out = s.out ++ (List.range 64).map (fun j => readOut s (10240 + 64 * q + j) (s.granAddr x + 64 * j) 1 2) ∧
        u.get .grdRescuesCount = satAdd 64 (s.get .grdRescuesCount) 1) ∧
    (∀ r, s.guard.rescues.find? (fun r => r.gran == gran) = some r →
      (r.dead = true → ∃ t, exec (.rescueLanding gran data false now) s = .next t ∧ t.guard.bits = s.guard.bits ∧ t.guard.pool = s.guard.pool ∧
        t.guard.held = s.guard.held ∧ t.guard.awaiting = s.guard.awaiting) ∧
      (r.dead = false → ∃ u : State, exec (.rescueLanding gran data false now) s = .next (finishState s (u.releaseHeld now).spillTurn) ∧
        u.guard.has gran = true ∧ u.guard.pool = s.guard.pool ++ [⟨r.slot, gran, sliceZ data 0 4096, s.guard.seq⟩] ∧
        u.guard.held = s.guard.held ∧
        (s.get .grdRlatMaxNs < now.ns - r.at_ → u.flag .grdStatRlatExceeded = true) ∧
        (now.ns - r.at_ ≤ s.get .grdRlatMaxNs → u.flag .grdStatRlatExceeded = s.flag .grdStatRlatExceeded))) ∧
    (∀ p, s.guard.drainSlot = some p → s.guard.freeSpill (s.get .grdSpillSlotsSlots) = some k →
      ∃ u : State, exec .poolDrain s = .next (finishState s u.spillTurn) ∧ u.guard.pool = s.guard.pool.erase p ∧
        u.guard.spill = s.guard.spill ++ [{ p with slot := k }] ∧
        u.out = s.out ++ (List.range 64).map (fun j =>
          Out.guardOut j (s.get .grdSpillBaseBase + k * 4096 + 64 * j) (sliceZ p.data (64 * j) 64) (2 ^ 64 - 1) true k))

/-- Responses of memory go up to the lane that awaits them; those of spill drains end inside, and an error sets FAB_ERR (15 R408, R431).
The end of a clearing makes that bitmap clean and empty (03 R100). R109, R116: a granule that the copy takes has its bit set and its pool
and spill slots freed, and the writes it held may go; with the last one the guard disarms and the commit is pending. A read that was given
up ends and leaves nothing. -/
def Obligations.GuardResponsesAndCopies : Prop :=
  (∀ (s : State) (lane id k z : Nat) (err : Bool),
     (∃ t, exec (.guardWriteResponse lane true id err) s = .next t ∧ (err = true → t.flag .fjPortStatFabErr = true) ∧
       t.guard = s.guard ∧ (err = false → KeepsRegs msgFlds s t ∧ KeepsAll s t)) ∧
     ((lane, id) ∈ s.guard.awaiting → ∃ t, exec (.guardWriteResponse lane false id err) s = .next t ∧ Out.guardResp lane id err ∈ t.out ∧
       t.guard = { s.guard with awaiting := s.guard.awaiting.erase (lane, id) } ∧ (err = true → t.flag .fjPortStatFabErr = true)) ∧
     (s.guard.clearing = some (k, z) → ∃ t, exec .bitmapClearDone s = .next t ∧
       (k = 0 → t.guard.bits0 = [] ∧ t.guard.clean0 = true ∧ t.flag .grdStatClean0 = true ∧ t.guard.bits1 = s.guard.bits1) ∧
       (k = 1 → t.guard.bits1 = [] ∧ t.guard.clean1 = true ∧ t.flag .grdStatClean1 = true ∧ t.guard.bits0 = s.guard.bits0) ∧
       t.guard.held = s.guard.held ∧ t.guard.pool = s.guard.pool ∧ t.entries = s.entries)) ∧
  ((∀ (s : State) (gran : Nat) (now : GuardClock) (data : Bytes) (err : Bool) (c : Nat × Nat × Bool),
     s.guard.copyTags.find? (fun c => c.1 == gran && c.2.2) = some c →
     ∃ t, exec (.copyReadLanding gran data err now) s = .next t ∧ t.guard = { s.guard with copyTags := s.guard.copyTags.erase c } ∧
       KeepsRegs msgFlds s t ∧ t.jobs = s.jobs) ∧
   (∀ (s : State) (gran : Nat) (now : GuardClock) (data : Bytes), s.guard.copyTags.find? (fun c => c.1 == gran && c.2.2) = none →
     s.guard.armed = true → gran ∈ s.guard.copyReads → (∀ r ∈ s.guard.rescues, r.gran = gran → r.dead = true) →
     exec (.copyReadLanding gran data false now) s =
       .next (finishState s (s.copyTake gran (match s.guard.pool.find? (fun p => p.gran == gran) with
         | some p => p.data | none => sliceZ data 0 4096) now).work)) ∧
   (∀ (s : State) (gran : Nat) (now : GuardClock) (d : Bytes), s.guard.armed = true → s.granTotal ≤ s.guard.taken.length + 1 →
     let t := s.copyTake gran d now
     t.guard.armed = false ∧ t.guard.has gran = true ∧ t.flag .fjCkptStatCommitPending = true ∧ (∀ p ∈ t.guard.pool, p.gran ≠ gran) ∧
     (∀ p ∈ t.guard.spill, p.gran ≠ gran)))

/-- R97: a STEP_END that is owed no answer, or that comes before the last answer is out, is not answered, and the second is flagged;
another is logged, answered as the step-end decision says, and its work goes on. -/
def Obligations.StepEnd : Prop :=
  ∀ (s : State) (step : Nat) (cut : Bool) (ofs : Nat), s.replaying = false →
    (owesStep s = false → ∃ t, exec (.stepEnd step cut ofs) s = .next t ∧ KeepsRegs msgFlds s t ∧ KeepsUnits s t) ∧
    (owesStep s = true → s.now * s.get .tickPeriodPeriod + ofs < s.tick.owedTo →
      ∃ t, exec (.stepEnd step cut ofs) s = .next t ∧ t.flag .fjPortStatStepEndEarly = true ∧
        KeepsRegs (msgFlds ++ [.fjPortStatStepEndEarly]) s t ∧ KeepsUnits s t) ∧
    (owesStep s = true → s.tick.owedTo ≤ s.now * s.get .tickPeriodPeriod + ofs →
      ∃ u : State, exec (.stepEnd step cut ofs) s = .next (finishState s (u.stepEnded (step % 2 ^ 48) cut).work) ∧
        KeepsRegs logFlds s u ∧ KeepsUnits s u ∧ u.tick.ofs = ofs)

/-- R538: the answer to a STEP_END is the first of UNAVAILABLE (no usable STEP_ID, hold-up, out of service), NONE (not selected), BUSY
(armed, or a group that writes a window runs), UNAVAILABLE (a bitmap still to be cleared, or an arming cut off before its arm point) and ARMED,
which flips GEN. A step held back is answered NONE. -/
def Obligations.StepEndAnswer : Prop :=
  ∀ (s : State) (step : Nat) (cut : Bool), step < 2 ^ 48 →
    let t := s.stepEnded step cut
    let due := snapDue ((s.set .grdArmStepStep step).set .tickStepStep step) step
    let stop := step = noStep ∨ s.holdingUp = true ∨ s.flag .patStatOutOfService = true
    t.get .tickStepStep = step ∧ t.get .grdArmStepStep = step ∧
    (stop → t.out.getLast? = some (.snapArmed 3) ∧ t.flag .grdStatUnavailable = true ∧ t.guard = s.guard) ∧
    (¬ stop → due = false → t.out.getLast? = some (.snapArmed 0) ∧ t.get .grdArmInfoResult = 0 ∧ t.guard = s.guard) ∧
    (¬ stop → due = true → heldBack s = true → t.out.getLast? = some (.snapArmed 0) ∧ t.get .fjCkptHeldCount = satAdd 32 (s.get .fjCkptHeldCount) 1 ∧
      t.guard = s.guard) ∧
    (¬ stop → due = true → heldBack s = false →
      (s.guard.armed = true ∨ windowWriter s = true → t.out.getLast? = some (.snapArmed 2) ∧ t.flag .grdStatSnapPending = true ∧
        t.get .grdSkippedCount = satAdd 32 (s.get .grdSkippedCount) 1 ∧ t.guard = s.guard) ∧
      (s.guard.armed = false → windowWriter s = false →
        ((s.guard.clean0 && s.guard.clean1) = false ∨ cut = true → t.out.getLast? = some (.snapArmed 3) ∧ t.flag .grdStatUnavailable = true ∧ t.guard = s.guard) ∧
        ((s.guard.clean0 && s.guard.clean1) = true → cut = false → t.out.getLast? = some (.snapArmed 1) ∧ t.guard.armed = true ∧
          t.guard.gen = 1 - s.guard.gen ∧ (∃ x, t.ckpt.snap = some x ∧ x.step = step) ∧ t.get .grdArmInfoResult = 1)))

/-- R362: a doorbell moves the tail of an enabled ring; one that names an index outside it, or a ring that is not enabled, sets TAIL_ERR.
R352: enabling a ring starts it at index 0 with phase 1 and empty; RING_CFG of an enabled ring does not change. R370, R371: CRING_HEAD
frees entries, and completions that waited go out. -/
def Obligations.RingRegisters : Prop :=
  ∀ (s : State) (ctx ring v ofs : Nat), HostOpen s → HasView s ctx →
    (let r := ring % 4
     let i := rix ctx r
     (s.getI .ringCfgEnable i = 1 → v % 65536 < ringSize s i →
       ∃ t, exec (.doorbell ctx ring v ofs) s = .next t ∧ t.getI .ringTailTail i = v % 65536 ∧
         KeepsRegs (hostFlds ++ [.ringTailTail]) s t ∧ (∀ j, j ≠ i → t.getI .ringTailTail j = s.getI .ringTailTail j) ∧ KeepsUnits s t) ∧
     (s.getI .ringCfgEnable i = 0 ∨ ringSize s i ≤ v % 65536 →
       ∃ t, exec (.doorbell ctx ring v ofs) s = .next t ∧ t.getI .ringStatTailErr i = 1 ∧ KeepsRegs (hostFlds ++ [.ringStatTailErr]) s t ∧
         (∀ j, j ≠ i → t.getI .ringStatTailErr j = s.getI .ringStatTailErr j) ∧ KeepsUnits s t) ∧
     (s.getI .ringCfgEnable i = 1 → ∃ t, exec (.ringEnable ctx ring v ofs) s = .next t ∧ KeepsRegs hostFlds s t ∧ KeepsUnits s t) ∧
     (s.getI .ringCfgEnable i = 0 → bitOf v 0 = true →
       ∃ t, exec (.ringEnable ctx ring v ofs) s = .next t ∧ t.getI .ringCfgEnable i = 1 ∧ t.getI .ringCfgFormat i = v / 2 % 2 ∧
         t.getI .ringCfgSpace i = v / 4 % 2 ∧ (v / 2 ^ 8 % 16 ≤ 10 → t.getI .ringCfgSz i = v / 2 ^ 8 % 16) ∧
         (10 < v / 2 ^ 8 % 16 → t.getI .ringCfgSz i = s.getI .ringCfgSz i) ∧ t.getI .ringHeadHead i = 0 ∧
         t.getI .ringTailTail i = 0 ∧ t.getI .cringTailTail i = 0 ∧ t.getI .cringTailPhase i = 1 ∧ t.ring ctx r = Ring.empty ctx r ∧
         t.entries = s.entries ∧ t.groups = s.groups) ∧
     (cringSize s i ≤ v % 65536 → ∃ t, exec (.cringHead ctx ring v ofs) s = .next t ∧ t.getI .cringHeadHead i = s.getI .cringHeadHead i ∧
       t.rings = s.rings ∧ KeepsRegs hostFlds s t) ∧
     (v % 65536 < cringSize s i → (s.ring ctx r).waiting = [] →
       ∃ t, exec (.cringHead ctx ring v ofs) s = .next t ∧ t.getI .cringHeadHead i = v % 65536 ∧ t.getI .cringStatFull i = 0 ∧
         t.getI .ringStatCmplWait i = 0 ∧ KeepsRegs (hostFlds ++ [.cringHeadHead, .cringStatFull, .ringStatCmplWait]) s t) ∧
     (v % 65536 < cringSize s i → ∃ u : State, exec (.cringHead ctx ring v ofs) s = .next (finishState s (u.drainCmpl ctx r)) ∧
       u.getI .cringHeadHead i = v % 65536 ∧ u.rings = s.rings ∧ KeepsRegs (hostFlds ++ [.cringHeadHead]) s u))

/-- R361 to R363: the entry at the head is taken: HEAD passes its slots, and the entry joins its group; one that shows OWN 0 is read
again, and one that the tail cuts waits for a doorbell. An OWN_RECHECK reads it in the same way. R65, R67: 64 ticks after its last
descriptor a group closes, with the smallest nonzero deadline of its entries; no other group changes. -/
def Obligations.EntriesAndGroups : Prop :=
  (∀ (s : State) (ctx ring : Nat) (b : Bytes), mayFetch s ctx ring = true →
     ∀ c : Instr, (c = .entryFetch ctx ring b ∧ (s.ring ctx ring).ownSince = none ∨
         c = .ownRecheck ctx ring b ∧ (s.ring ctx ring).ownSince ≠ none) →
       ∃ t, exec c s = .next t ∧
         (bitOf (fieldAt b 0 1) 7 = false → (t.ring ctx ring).ownSince = some ((s.ring ctx ring).ownSince.getD s.now) ∧ t.entries = s.entries ∧
           KeepsRegs msgFlds s t) ∧
         (bitOf (fieldAt b 0 1) 7 = true → covered s (rix ctx ring) < slotsOf s (rix ctx ring) b → KeepsRegs msgFlds s t ∧ KeepsAll s t) ∧
         (bitOf (fieldAt b 0 1) 7 = true → slotsOf s (rix ctx ring) b ≤ covered s (rix ctx ring) → s.flag .patStatOutOfService = false →
           t.getI .ringHeadHead (rix ctx ring) = (s.getI .ringHeadHead (rix ctx ring) + slotsOf s (rix ctx ring) b) % ringSize s (rix ctx ring) % 2 ^ 16 ∧
           t.getI .ringEntriesCount (rix ctx ring) = satAdd 32 (s.getI .ringEntriesCount (rix ctx ring)) 1 ∧
           (t.ring ctx ring).ownSince = none ∧
           ∃ e : Entry, t.entries = s.entries ++ [e] ∧ e.ctx = ctx ∧ e.ring = ring ∧ e.stage = .fetched ∧ e.checked = s.now ∧
             e.desc.slots = slotsOf s (rix ctx ring) b ∧ (∃ g ∈ t.groups, g.gid = e.gid ∧ g.step = e.desc.step) ∧
             (e.bad = none ↔ (readEntry s (rix ctx ring) (sliceZ b 0 (32 * slotsOf s (rix ctx ring) b))).2 = none))) ∧
  (∀ (s : State) (ctx ring gid : Nat) (g : Group), (s.ring ctx ring).openGid = some gid → s.findGroup gid = some g → g.stage = .opened →
     g.lastFetch + 64 ≤ s.now → s.holdingUp = false →
     ∃ t, exec (.groupCloseTimeout ctx ring) s = .next t ∧
       t.findGroup gid = some { g with
         stage := .closed, closeTick := s.now,
         deadline := minNonzero ((s.entries.filter (fun e => e.gid == gid)).map (fun e => promiseOf e.desc)) } ∧
       (t.ring g.ctx g.ring).openGid = none ∧ (∀ h, h ≠ gid → t.findGroup h = s.findGroup h) ∧ t.entries = s.entries ∧
       KeepsRegs msgFlds s t)

/-- R66, R68 to R70: admission. A group that uses the Pointing unit while a VL change waits is held; a group with an entry that fails its own
checks is refused; one that would write a guarded window is held; else the test decides: admitted, with what it reserves, its entries ready
in order, or refused. A refused group's entries never run, and each but a FENCE ends. An engine in IDLE wakes for a group that it admits. -/
def Obligations.AdmissionDecides : Prop :=
  (∀ (s : State) (gid : Nat) (g : Group), s.findGroup gid = some g → decisionDue s g = true → s.awake = true →
    let u := if g.snapshot then s.decideSnap g else s.decideGroup g
    exec (.admissionDecision gid) s = .next (finishState s (if s.eng = 3 ∧ ¬ workless u then u.wake else u))) ∧
  (∀ (s : State) (g : Group), s.findGroup g.gid = some g →
    let es := groupEntries s g.gid
    let own := es.any (fun e => e.bad.isSome || (entryCheck s e.ctx e.desc).isSome)
    let a := askOf s g es (testDeadline s g)
    let t := s.decideGroup g
    let refused := (∀ h, t.findGroup g.gid = some h → h.stage = .refused ∨ h.stage = .done) ∧ (∀ e ∈ t.entries, e.stage = .ready → e ∈ s.entries) ∧
      ∀ e ∈ es, (∀ f ∈ es, f.uid = e.uid → f.desc.opcode ≠ opFence) → Ended t e.uid
    (vlHolds s g es = true → t.findGroup g.gid = some { g with stage := .held } ∧ t.entries = s.entries) ∧
    (vlHolds s g es = false → own = true → refused) ∧
    (own = false → mustHold s g es = true → t.findGroup g.gid = some { g with stage := .held } ∧ t.entries = s.entries) ∧
    (own = false → mustHold s g es = false →
      (∀ need, admitTest s a = .ok need →
        t.entries = s.entries.map (fun e => if e.gid = g.gid ∧ e.stage = .fetched then { e with stage := .ready } else e) ∧
        (∃ h, t.findGroup g.gid = some h ∧ h.stage = .admitted ∧ h.need = need ∧ h.holds = true ∧ h.promised = (g.deadline != 0) ∧
          h.dueTick = g.closeTick + g.deadline ∧ h.mode = s.mode) ∧ t.out = s.out) ∧
      (∀ code, admitTest s a = .error code → refused)))

/-- R370 to R372: a completion is written at CRING_TAIL with the ring's phase, the tail goes on by one modulo the ring, and the phase
flips where it wraps; with no free entry the completion waits, FULL and WAITED set, and nothing is written. A ring in fabric memory takes it
as beats of 64 B, each sent on the write channel of its address (15 R406) or waiting its turn. -/
def Obligations.CompletionsPost : Prop :=
  ∀ (s : State) (c : Cmpl),
    let i := rix c.ctx c.ring
    (s.getI .cringCfgSpace i = 0 →
      ∃ ms, (s.writeCmpl c).out = s.out ++ [Out.hostWrite c.ctx (s.getI .cringBaseBase i + 32 * s.getI .cringTailTail i) (c.bytes s)] ++ ms ∧
        ∀ o ∈ ms, ∃ n v a d, o = Out.msix n v a d) ∧
    (s.getI .cringCfgSpace i = 1 → ∀ b ∈ beatsOf (s.getI .cringBaseBase i + 32 * s.getI .cringTailTail i) (c.bytes s),
      (∃ id, Out.fabWrite (memChan s b.1 % 8) id b.1 b.2.1 b.2.2 ∈ (s.writeCmpl c).out) ∨
        ∃ w ∈ (s.writeCmpl c).pendWr, w.addr = b.1 ∧ w.data = b.2.1 ∧ w.be = b.2.2) ∧
    (s.getI .cringTailTail i < cringSize s i →
      (s.writeCmpl c).getI .cringTailTail i = (s.getI .cringTailTail i + 1) % cringSize s i % 2 ^ 16 ∧
      ((s.writeCmpl c).getI .cringTailPhase i ≠ s.getI .cringTailPhase i ↔ s.getI .cringTailTail i + 1 = cringSize s i)) ∧
    (s.writeCmpl c).entries = s.entries ∧ (s.writeCmpl c).jobs = s.jobs ∧
    (canPost s c.ctx c.ring = false →
      (s.postCmpl c).out = s.out ∧ (s.postCmpl c).getI .cringStatFull i = 1 ∧ (s.postCmpl c).getI .cringStatWaited i = 1 ∧
      ((s.postCmpl c).ring c.ctx c.ring).waiting = (s.ring c.ctx c.ring).waiting ++ [c]) ∧
    (canPost s c.ctx c.ring = true → (s.ring c.ctx c.ring).waiting = [] → s.postCmpl c = s.writeCmpl c)

/-- A NOP ends with ST_OK. A FENCE ends once every earlier entry of its ring has ended, and until then blocks its ring (14 R391); both in
v1 form too. Nothing but the end of the entry happens. -/
def Obligations.NopAndFence : Prop :=
  ∀ (s : State) (ctx ring : Nat) (e : Entry) (v1 : Bool),
    (Starts s ctx ring opNop v1 e →
      exec (if v1 then .v1Nop ctx ring else .nop ctx ring) s =
        .next (finishState s ((started s e).endEntry e.uid { Result.ok with step := e.desc.step })) ∧
      Ended ((started s e).endEntry e.uid { Result.ok with step := e.desc.step }) e.uid ∧
      ∃ t, exec (if v1 then .v1Nop ctx ring else .nop ctx ring) s = .next t ∧ t.jobs = s.jobs ∧ t.guard = s.guard ∧ t.words = s.words ∧
        t.keys = s.keys ∧ KeepsRegs entryFlds s t) ∧
    (Starts s ctx ring opFence v1 e →
      (fenceDone s e = true →
        exec (if v1 then .v1Fence ctx ring else .fence ctx ring) s =
          .next (finishState s ((started s e).endEntry e.uid { Result.ok with step := e.desc.step }))) ∧
      (fenceDone s e = false →
        ∃ t, exec (if v1 then .v1Fence ctx ring else .fence ctx ring) s = .next t ∧
          t.entries = replaceFirst (fun x => x.uid == e.uid) (fun x => { x with stage := .blocked }) s.entries ∧ KeepsRegs msgFlds s t ∧
          KeepsAll { s with entries := t.entries } t))

/-- R381: a sync entry whose SYNC_ID has VALID clear ends with ST_SYNC_UNMAPPED, and one that lacks the permission with ST_ACCESS_DENIED;
neither touches a word. A SYNC_MAP write for an entry that a waiting entry of its context uses is ignored, and MAP_BUSY sets. -/
def Obligations.SyncChecks : Prop :=
  (∀ (s : State) (ctx ring : Nat) (e : Entry),
    ∀ x ∈ [(Instr.signalSet ctx ring, opSignal, 0, Fld.syncMapSigOk), (.signalAdd ctx ring, opSignal, 1, .syncMapSigOk),
        (.signalSub ctx ring, opSignal, 2, .syncMapSigOk), (.waitEq ctx ring, opWait, 0, .syncMapWaitOk), (.waitGe ctx ring, opWait, 1, .syncMapWaitOk),
        (.waitNe ctx ring, opWait, 2, .syncMapWaitOk), (.barrierArriveWait ctx ring, opBarrier, 0, .syncMapBarOk),
        (.barrierArrive ctx ring, opBarrier, 1, .syncMapBarOk), (.barrierInit ctx ring, opBarrier, 2, .syncMapBarOk)],
      Starts s ctx ring x.2.1 false e → syncOpOf e.desc.arg = x.2.2.1 → (x.2.1 = opSignal → signalReady s e = true) →
      (let i := mapIx e.ctx (syncIdOf e.desc.arg)
       (s.getI .syncMapValid i ≠ 1 → exec x.1 s = .next (finishState s ((started s e).endSync e.uid stSyncUnmapped 0))) ∧
       (s.getI .syncMapValid i = 1 → s.getI x.2.2.2 i ≠ 1 →
         exec x.1 s = .next (finishState s ((started s e).endSync e.uid stAccessDenied 0))) ∧
       ∀ st, (finishState s ((started s e).endSync e.uid st 0)).words = s.words ∧
         Ended (finishState s ((started s e).endSync e.uid st 0)) e.uid)) ∧
  (∀ (s : State) (value ofs : Nat), HostOpen s → s.get .syncMapSelCtx ≤ s.build.numVf →
    (∃ w ∈ s.waiters, w.ctx = s.get .syncMapSelCtx ∧ w.syncId = s.get .syncMapSelId) →
    ∃ t, exec (.syncMapWrite value ofs) s = .next t ∧ t.flag .syncStatMapBusy = true ∧ KeepsRegs (hostFlds ++ [.syncStatMapBusy]) s t ∧
      KeepsUnits s t)

/-- R383, R387, R388: a SIGNAL sets, adds to or subtracts from its word modulo 2^32, and releases the WAITs that the new VALUE satisfies,
and no others. R381: an unmapped SYNC_ID and a missing permission touch no word. R395: on a barrier word only a SET by the owner, with
nothing counted and nobody waiting, acts, and turns it PLAIN. -/
def Obligations.Signals : Prop :=
  ∀ (s : State) (ctx ring : Nat) (e : Entry),
    ∀ x ∈ [(Instr.signalSet ctx ring, 0, setFn), (.signalAdd ctx ring, 1, addFn), (.signalSub ctx ring, 2, subFn)],
      signalReady s e = true →
      (∀ p, StartsSync s ctx ring opSignal x.2.1 .syncMapSigOk e (.word p) →
        ∃ t, exec x.1 s = .next t ∧ Ended t e.uid ∧ (∀ q, q ≠ p → t.word q = s.word q) ∧
          ((s.word p).barrier = false →
            let n := x.2.2 (s.word p).val (syncValOf e.desc.arg) % 2 ^ 32
            t.word p = { s.word p with val := n, lastSw := false, lastCtx := e.ctx, lastRing := e.ring } ∧
            (∀ w ∈ t.waiters, w.phys = p → waitHolds w.what n w.value = false) ∧
            (∀ w ∈ s.waiters, w.uid ≠ e.uid → ¬ (∃ y ∈ s.waiters, y.uid = w.uid ∧ y.phys = p ∧ waitHolds y.what n y.value = true) → w ∈ t.waiters) ∧
            t.get .syncSignalsCount = satAdd 64 (s.get .syncSignalsCount) 1 ∧ KeepsRegs (entryFlds ++ [.syncSignalsCount]) s t) ∧
          ((s.word p).barrier = true →
            (x.2.1 = 0 ∧ ownerOf p = e.ctx ∧ (s.word p).counted = 0 ∧ (∀ w ∈ s.waiters, w.phys ≠ p) →
              t.word p = { SyncWord.fresh p with val := syncValOf e.desc.arg, lastCtx := e.ctx, lastRing := e.ring }) ∧
            (¬ (x.2.1 = 0 ∧ ownerOf p = e.ctx ∧ (s.word p).counted = 0 ∧ (∀ w ∈ s.waiters, w.phys ≠ p)) →
              t.word p = s.word p ∧ KeepsRegs entryFlds s t))) ∧
      (∀ st, StartsSync s ctx ring opSignal x.2.1 .syncMapSigOk e (.bad st) →
        ∃ t, exec x.1 s = .next t ∧ Ended t e.uid ∧ t.words = s.words ∧ KeepsRegs entryFlds s t)

/-- R383, R384: a WAIT whose condition holds ends at once; another blocks its ring, and waits with its timeout. R381, R384: an unmapped
SYNC_ID, a missing permission and a barrier word end it. No WAIT changes a word. -/
def Obligations.Waits : Prop :=
  ∀ (s : State) (ctx ring : Nat) (e : Entry),
    ∀ x ∈ [(Instr.waitEq ctx ring, 0, WaitFor.eq), (.waitGe ctx ring, 1, .ge), (.waitNe ctx ring, 2, .ne)],
      (∀ p, StartsSync s ctx ring opWait x.2.1 .syncMapWaitOk e (.word p) →
        ∃ t, exec x.1 s = .next t ∧ t.words = s.words ∧ KeepsRegs entryFlds s t ∧
          ((s.word p).barrier = true ∨ waitHolds x.2.2 (s.word p).val (syncValOf e.desc.arg) = true → Ended t e.uid) ∧
          ((s.word p).barrier = false → waitHolds x.2.2 (s.word p).val (syncValOf e.desc.arg) = false →
            t.waiters = s.waiters ++ [⟨e.uid, e.ctx, e.ring, syncIdOf e.desc.arg, p, x.2.2, syncValOf e.desc.arg, timeoutOf e⟩] ∧
            t.entries = replaceFirst (fun y => y.uid == e.uid) (fun y => { y with stage := .blocked }) s.entries)) ∧
      (∀ st, StartsSync s ctx ring opWait x.2.1 .syncMapWaitOk e (.bad st) →
        ∃ t, exec x.1 s = .next t ∧ Ended t e.uid ∧ t.words = s.words ∧ KeepsRegs entryFlds s t)

/-- R395: a SIGNAL SET by the owner of a barrier word with no counted or held arrival turns it back to PLAIN with the SET value; any other
SIGNAL and every WAIT on a barrier word end with ST_SYNC_KIND. The sync page reads R. -/
def Obligations.BarrierWordsAndSignals : Prop :=
  (∀ (s : State) (ctx ring p : Nat) (e : Entry),
    (∀ x ∈ [(Instr.signalSet ctx ring, 0), (.signalAdd ctx ring, 1), (.signalSub ctx ring, 2)],
      signalReady s e = true → StartsSync s ctx ring opSignal x.2 .syncMapSigOk e (.word p) → (s.word p).barrier = true →
      (x.2 = 0 → ownerOf p = e.ctx → (s.word p).counted = 0 → (∀ w ∈ s.waiters, w.phys ≠ p) →
        ∃ t, exec x.1 s = .next t ∧ Ended t e.uid ∧ (t.word p).barrier = false ∧ (t.word p).val = syncValOf e.desc.arg) ∧
      (¬ (x.2 = 0 ∧ ownerOf p = e.ctx ∧ (s.word p).counted = 0 ∧ ∀ w ∈ s.waiters, w.phys ≠ p) →
        exec x.1 s = .next (finishState s ((started s e).endSync e.uid stSyncKind 0)))) ∧
    (∀ x ∈ [(Instr.waitEq ctx ring, 0), (.waitGe ctx ring, 1), (.waitNe ctx ring, 2)],
      StartsSync s ctx ring opWait x.2 .syncMapWaitOk e (.word p) → (s.word p).barrier = true →
      exec x.1 s = .next (finishState s ((started s e).endSync e.uid stSyncKind 0)))) ∧
  (∀ (s : State) (ctx id p : Nat), HostOpen s → HasView s ctx → id < 1024 → s.mapped ctx id = some p → (s.word p).barrier = true →
    s.viewWord ctx ((if ctx = 0 then 0x14000 else 0x4000) + 4 * id) = (s.word p).val)

/-- R392 to R396: an arrival of the round is counted, and one that waits blocks its ring; the last arrival releases the round; an arrival
for the next round is held; any other breaks the barrier, and ends everyone who waits on it. R392: INIT by the owner makes the word a
barrier of round 0 for VALUE parties, and ends everyone who waits on it; by another context it is refused. R382, R396: a timeout ends the
waiting entry with ST_SYNC_TIMEOUT, and takes back a counted arrival. -/
def Obligations.Barriers : Prop :=
  (∀ (s : State) (ctx ring : Nat) (e : Entry) (wait : Bool),
     (let c := if wait then Instr.barrierArriveWait ctx ring else .barrierArrive ctx ring
      let sub := if wait then 0 else 1
      (∀ p, StartsSync s ctx ring opBarrier sub .syncMapBarOk e (.word p) →
        let w := s.word p
        let v := syncValOf e.desc.arg
        ∃ t, exec c s = .next t ∧ (∀ q, q ≠ p → t.word q = s.word q) ∧
          (w.barrier = false ∨ w.broken = true → Ended t e.uid ∧ (t.word p).val = w.val ∧ (t.word p).counted = w.counted) ∧
          (w.barrier = true → w.broken = false → w.val < 2 ^ 32 → v = w.val → w.counted + 1 < w.parties → (∀ x ∈ s.waiters, x.uid ≠ e.uid) →
            (t.word p).counted = w.counted + 1 ∧ (t.word p).val = w.val ∧
            (wait = true → t.waiters = s.waiters ++ [⟨e.uid, e.ctx, e.ring, syncIdOf e.desc.arg, p, .round, w.val, timeoutOf e⟩] ∧
              ∀ x, t.findEntry e.uid = some x → x.stage = .blocked) ∧
            (wait = false → Ended t e.uid)) ∧
          (w.barrier = true → w.broken = false → w.val < 2 ^ 32 → v = w.val → w.counted + 1 = w.parties →
            (∀ x ∈ s.waiters, x.phys = p → x.what = .round ∧ x.uid ≠ e.uid) →
            t.word p = { w with val := (w.val + 1) % 2 ^ 32, counted := 0, lastSw := false, lastCtx := e.ctx, lastRing := e.ring } ∧
            Ended t e.uid ∧ (∀ x ∈ t.waiters, x.phys ≠ p) ∧ ∀ x ∈ s.waiters, x.phys = p → Ended t x.uid) ∧
          (w.barrier = true → w.broken = false → w.val < 2 ^ 32 → v = (w.val + 1) % 2 ^ 32 →
            t.waiters = s.waiters ++ [⟨e.uid, e.ctx, e.ring, syncIdOf e.desc.arg, p, .held wait, v, timeoutOf e⟩] ∧
            (t.word p).counted = w.counted) ∧
          (w.barrier = true → w.broken = false → w.val < 2 ^ 32 → v ≠ w.val → v ≠ (w.val + 1) % 2 ^ 32 →
            (t.word p).broken = true ∧ (t.word p).counted = 0 ∧ t.flag .syncStatOverrun = true ∧
            t.get .syncOverrunsCount = satAdd 32 (s.get .syncOverrunsCount) 1 ∧ Ended t e.uid ∧ (∀ x ∈ t.waiters, x.phys ≠ p) ∧
            ∀ x ∈ s.waiters, x.phys = p → Ended t x.uid)) ∧
      (∀ st, StartsSync s ctx ring opBarrier sub .syncMapBarOk e (.bad st) →
        ∃ t, exec c s = .next t ∧ Ended t e.uid ∧ t.words = s.words))) ∧
  ((∀ (s : State) (ctx ring : Nat) (e : Entry),
     (∀ p, StartsSync s ctx ring opBarrier 2 .syncMapBarOk e (.word p) →
       ∃ t, exec (.barrierInit ctx ring) s = .next t ∧ Ended t e.uid ∧
         (ownerOf p = e.ctx → t.word p = ⟨p, 0, true, false, syncValOf e.desc.arg, 0, false, e.ctx, e.ring⟩ ∧ (∀ x ∈ t.waiters, x.phys ≠ p) ∧
           (∀ x ∈ s.waiters, x.phys = p → Ended t x.uid) ∧ (∀ q, q ≠ p → t.word q = s.word q)) ∧
         (ownerOf p ≠ e.ctx → t.words = s.words)) ∧
     (∀ st, StartsSync s ctx ring opBarrier 2 .syncMapBarOk e (.bad st) →
       ∃ t, exec (.barrierInit ctx ring) s = .next t ∧ Ended t e.uid ∧ t.words = s.words)) ∧
   (∀ (s : State) (ctx ring tick : Nat) (w : Waiter), s.waiters.find? (fun w => w.ctx == ctx && w.ring == ring) = some w →
     w.timeout = some tick → tick ≤ s.now → s.holdingUp = false →
     exec (.syncTimeout ctx ring) s = .next (finishState s (((s.withdraw w).bump .syncTimeoutsCount 1).endSync w.uid stSyncTimeout 0)) ∧
     ∃ t, exec (.syncTimeout ctx ring) s = .next t ∧ t.get .syncTimeoutsCount = satAdd 32 (s.get .syncTimeoutsCount) 1 ∧
       (∀ x ∈ t.waiters, x.uid ≠ w.uid) ∧ Ended t w.uid ∧
       (w.what = .round → (t.word w.phys).counted = (s.word w.phys).counted - 1) ∧ (w.what ≠ .round → t.words = s.words)))

/-- R386: the sync page. An accepted write sets a word, or adds to it modulo 2^32, and releases the WAITs it satisfies; an unmapped
SYNC_ID, a missing SIG_OK and a barrier word leave it alone. R381: SYNC_MAP changes an entry that no waiting entry uses. -/
def Obligations.SyncPageAndMap : Prop :=
  ∀ (s : State) (ctx id value ofs : Nat), HostOpen s → HasView s ctx →
    (∀ p, pageTarget s ctx (id % 1024) = some p →
      (∃ t, exec (.syncPageSet ctx id value ofs) s = .next t ∧ (t.word p).val = value % 2 ^ 32 ∧ (t.word p).lastSw = true ∧
        (t.word p).lastCtx = ctx ∧ (∀ q, q ≠ p → t.word q = s.word q) ∧
        (∀ w ∈ t.waiters, w.phys = p → waitHolds w.what (value % 2 ^ 32) w.value = false)) ∧
      (∃ t, exec (.syncPageAdd ctx id value ofs) s = .next t ∧ (t.word p).val = ((s.word p).val + value % 2 ^ 32) % 2 ^ 32 ∧
        (t.word p).lastSw = true ∧ (t.word p).lastCtx = ctx ∧ (∀ q, q ≠ p → t.word q = s.word q) ∧
        (∀ w ∈ t.waiters, w.phys = p → waitHolds w.what (((s.word p).val + value % 2 ^ 32) % 2 ^ 32) w.value = false))) ∧
    (pageTarget s ctx (id % 1024) = none →
      (∃ t, exec (.syncPageSet ctx id value ofs) s = .next t ∧ t.words = s.words ∧ t.waiters = s.waiters ∧ KeepsRegs hostFlds s t) ∧
      (∃ t, exec (.syncPageAdd ctx id value ofs) s = .next t ∧ t.words = s.words ∧ t.waiters = s.waiters ∧ KeepsRegs hostFlds s t)) ∧
    (let c := s.get .syncMapSelCtx
     let k := s.get .syncMapSelId
     let i := 1024 * c + k
     c ≤ s.build.numVf →
     ((∃ w ∈ s.waiters, w.ctx = c ∧ w.syncId = k) → ∃ t, exec (.syncMapWrite value ofs) s = .next t ∧ t.flag .syncStatMapBusy = true ∧
       KeepsRegs (hostFlds ++ [.syncStatMapBusy]) s t ∧ KeepsUnits s t) ∧
     ((∀ w ∈ s.waiters, ¬ (w.ctx = c ∧ w.syncId = k)) → ∃ t, exec (.syncMapWrite value ofs) s = .next t ∧
       t.getI .syncMapPhys i = value % 2 ^ 16 ∧ t.getI .syncMapValid i = value / 2 ^ 16 % 2 ∧ t.getI .syncMapSigOk i = value / 2 ^ 17 % 2 ∧
       t.getI .syncMapWaitOk i = value / 2 ^ 18 % 2 ∧ t.getI .syncMapBarOk i = value / 2 ^ 19 % 2 ∧
       KeepsRegs (hostFlds ++ [.syncMapPhys, .syncMapValid, .syncMapSigOk, .syncMapWaitOk, .syncMapBarOk]) s t ∧ KeepsUnits s t))

/-- COPY, an outbound CHAIN, SEAL, OPEN, DIGEST, DIGEST_FINAL and LATTICE, in both formats: the entry at the front of its ring starts,
after the feeds before it on its digest handle and not sooner, and its job joins those that run; one whose far end, key or handle bars it
ends without a job. -/
def Obligations.StreamJobsStart : Prop :=
  ∀ (s : State) (ctx ring : Nat) (img : List StepImage) (e : Entry) (v1 : Bool),
    ∀ x ∈ (if v1 then [(Instr.v1Copy ctx ring, opCopy), (.v1Seal ctx ring, opSeal), (.v1Open ctx ring, opOpen)] else
        [(.copy ctx ring, opCopy), (.chain ctx ring img, opChain), (.sealJob ctx ring, opSeal), (.openJob ctx ring, opOpen),
         (.digest ctx ring, opDigest), (.digestFinal ctx ring, opDigestFinal), (.lattice ctx ring, opLattice)]),
      Starts s ctx ring x.2 v1 e → (v1 = false → feedTurn s e = false → ∃ w, exec x.1 s = .fault (.notDue w)) ∧
      ((v1 = false → feedTurn s e = true) → (x.2 = opChain → e.desc.inbound = false) →
      (∀ st, startBar (started s e) e e.desc = some st →
        exec x.1 s = .next (finishState s ((started s e).endEntry e.uid { Result.of st with step := e.desc.step }))) ∧
      (startBar (started s e) e e.desc = none →
        ∃ u : State, exec x.1 s = .next (finishState s (u.launch e.uid)) ∧ AddsJob (started s e) u e))

/-- SWAP_IN, an inbound CHAIN and RESTORE, v1 too: a far end that is down ends the entry with its status, and so does what else bars its job. A
stream as the source makes its job. A shard makes it once its container has given a plan, and a container that fails a check ends the entry
with the status of the check, after the report of the offending shards that a RESTORE writes; a RESTORE whose lengths differ ends with
ST_LENGTH_MISMATCH; one with COMMON ends with the newest step that every shard has. -/
def Obligations.ShardJobsStart : Prop :=
  ∀ (s : State) (ctx ring : Nat) (img : List StepImage) (e : Entry),
    (∀ x ∈ [(Instr.swapIn ctx ring img, opSwapIn), (.chain ctx ring img, opChain)],
      Starts s ctx ring x.2 false e → feedTurn s e = true → (x.2 = opChain → e.desc.inbound = true) →
      (e.desc.obj = none → startBar (started s e) e e.desc = none →
        ∃ u : State, exec x.1 s = .next (finishState s (u.launch e.uid)) ∧ AddsJob (started s e) u e) ∧
      (∀ o st, e.desc.obj = some o → farBar (started s e) o = some st →
        exec x.1 s = .next (finishState s ((started s e).endEntry e.uid { Result.of st with step := e.desc.step }))) ∧
      (∀ o, e.desc.obj = some o → farBar (started s e) o = none →
        (∀ st a, swapPlan (started s e) e.ctx e.desc o img = .error (st, a) →
          exec x.1 s = .next (finishState s ((started s e).endEntry e.uid { Result.of st with step := e.desc.step }))) ∧
        (∀ p st, swapPlan (started s e) e.ctx e.desc o img = .ok p → startBar (started s e) e e.desc = some st →
          exec x.1 s = .next (finishState s ((started s e).endEntry e.uid { Result.of st with step := e.desc.step }))) ∧
        (∀ p, swapPlan (started s e) e.ctx e.desc o img = .ok p → startBar (started s e) e e.desc = none →
          ∃ u : State, exec x.1 s = .next (finishState s (u.launch e.uid)) ∧ AddsJob (started s e) u e))) ∧
    (∀ v1 : Bool,
      let c := if v1 then Instr.v1Restore ctx ring img else .restore ctx ring img
      Starts s ctx ring opRestore v1 e → (v1 = false → feedTurn s e = true) → ∀ o, e.desc.obj = some o →
      let barred : Nat → Prop := fun st =>
        exec c s = .next (finishState s ((started s e).endEntry e.uid { Result.of st with step := e.desc.step }))
      (∀ st, startBar (started s e) e e.desc = some st → barred st) ∧
      (startBar (started s e) e e.desc = none → e.desc.flags.common = true →
        let v := (started s e).initHandle e e.desc
        (∀ n, commonFrom v e.ctx e.desc o img (stepsIn o.step e.desc.step img) [] = .ok n →
          exec c s = .next (finishState s (v.endEntry e.uid { Result.ok with step := n }))) ∧
        (∀ r, commonFrom v e.ctx e.desc o img (stepsIn o.step e.desc.step img) [] = .error r →
          exec c s = .next (finishState s (v.reportAndEnd e e.desc o stMixedStep r)))) ∧
      (startBar (started s e) e e.desc = none → e.desc.flags.common = false →
        ∀ m segs i p, phaseAt (started s e) e.ctx e.desc.step e.desc o img = .good m segs →
          pickImage (started s e) e.ctx e.desc.step o img = some i → planOf (started s e) e.desc o i m segs = .ok p →
          let bad : Bool := (match p.raw, e.desc.dst with
            | some n, some r => latLen (e.desc.latCfg (s.get .latStatLanes)) (pointLen e.desc.pnt n) != r.total
            | _, _ => false)
          (∀ st, headerBar (started s e) e.ctx e.desc p = some st → barred st) ∧
          (headerBar (started s e) e.ctx e.desc p = none → bad = true → barred stLengthMismatch) ∧
          (headerBar (started s e) e.ctx e.desc p = none → bad = false →
            ∃ u : State, exec c s = .next (finishState s (u.launch e.uid)) ∧ AddsJob (started s e) u e)) ∧
      (startBar (started s e) e e.desc = none → e.desc.flags.common = false →
        (∀ m segs i st, phaseAt (started s e) e.ctx e.desc.step e.desc o img = .good m segs →
          pickImage (started s e) e.ctx e.desc.step o img = some i → planOf (started s e) e.desc o i m segs = .error st → barred st) ∧
        (∀ st r, phaseAt (started s e) e.ctx e.desc.step e.desc o img = .fail st r →
          (st ≠ stMouldInvalid → exec c s = .next (finishState s ((started s e).reportAndEnd e e.desc o st r))) ∧
          (st ≠ stMouldInvalid → r = [] → barred st) ∧
          (st = stMouldInvalid → r = [] → ∃ t, exec c s = .next t ∧ Ended t e.uid ∧ t.jobs = s.jobs ∧
            t.get .cdrCheckFailsCount = satAdd 32 (s.get .cdrCheckFailsCount) 1 ∧ t.get .cdrFailInfoStatus = stMouldInvalid))))

/-- A SNAP waits among the snapshot's requests, with its FILE and HOST wishes; the entry keeps running. Nothing else changes. MOULD_LOAD
and PERM_LOAD start the job that reads their bytes. When these have come, a load that passes its checks fills its entry or slot and no
other; a table is stamped with the next load number. One that fails leaves the store as it was, and the slots too but for those that were
only kept for its job. Either way the entry ends. RESUME. Without a saved record it fails; under a table loaded anew, with an averaged row
open under another lane count, or barred as any job may be, it ends and moves nothing; else the saved job goes on under the entry, at the
lane count of now. -/
def Obligations.SnapsLoadsAndResume : Prop :=
  (∀ (s : State) (ctx ring : Nat) (e : Entry) (v1 : Bool), Starts s ctx ring opSnap v1 e →
     ∃ t, exec (if v1 then .v1Snap ctx ring else .snap ctx ring) s = .next t ∧
       t.ckpt = { s.ckpt with snaps := s.ckpt.snaps ++ [(e.uid, e.desc.flags.file, e.desc.flags.host)] } ∧
       t.entries = replaceFirst (fun y => y.uid == e.uid) (fun y => { y with stage := .running }) s.entries ∧
       KeepsAll { s with ckpt := t.ckpt, entries := t.entries } t ∧ KeepsRegs msgFlds s t) ∧
  (∀ (s : State) (ctx ring : Nat) (data : Bytes) (e : Entry),
     ∀ x ∈ [(Instr.mouldLoad ctx ring data, opMouldLoad), (.permLoad ctx ring data, opPermLoad)],
       Starts s ctx ring x.2 false e →
       (∀ st, startBar (started s e) e e.desc = some st →
         exec x.1 s = .next (finishState s ((started s e).endEntry e.uid { Result.of st with step := e.desc.step }))) ∧
       (startBar (started s e) e e.desc = none →
         ∃ u : State, exec x.1 s = .next (finishState s (u.launch e.uid)) ∧ AddsJob (started s e) u e)) ∧
  (∀ (s : State) (j : Job),
     let t := s.endLoad j
     let k := j.desc.arg % 8
     let n := if s.getI .pntLoadctrCount j.ctx = 2 ^ 32 - 1 then 2 else s.getI .pntLoadctrCount j.ctx + 1
     Ended t j.uid ∧
     (j.opcode = opMouldLoad →
       (∀ m, parseMould j.main = some m →
         t.store.find? (fun x => x.ctx == j.ctx && x.entry == k) = some ⟨j.ctx, k, m⟩ ∧
         (∀ x : StoreEntry, ¬ (x.ctx = j.ctx ∧ x.entry = k) → (x ∈ t.store ↔ x ∈ s.store))) ∧
       (parseMould j.main = none →
         t.store = s.store ∧ t.get .cdrCheckFailsCount = satAdd 32 (s.get .cdrCheckFailsCount) 1 ∧
         t.get .cdrFailInfoStatus = stMouldInvalid ∧ t.get .cdrFailInfoCtx = j.ctx % 64)) ∧
     (j.opcode = opPermLoad →
       (∀ p, parsePerm (s.vl j.ctx) j.main = .table p →
         t.table j.ctx k = some ⟨j.ctx, k, { p with loadNo := n }, false⟩ ∧ t.getI .pntLoadctrCount j.ctx = n ∧
         (∀ x ∈ s.tables, ¬ (x.ctx = j.ctx ∧ x.slot = k) → x.dying = false → x ∈ t.tables)) ∧
       (parsePerm (s.vl j.ctx) j.main = .range →
         t.get .pntRangeRefusalsCount = satAdd 32 (s.get .pntRangeRefusalsCount) 1 ∧ (∀ x ∈ t.tables, x ∈ s.tables) ∧
         (∀ x ∈ s.tables, x.dying = false → x ∈ t.tables)) ∧
       (parsePerm (s.vl j.ctx) j.main = .malformed →
         (∀ x ∈ t.tables, x ∈ s.tables) ∧ (∀ x ∈ s.tables, x.dying = false → x ∈ t.tables)))) ∧
  (∀ (s : State) (ctx ring : Nat) (e : Entry), Starts s ctx ring opResume false e → feedTurn s e = true →
     (s.savedRec e.ctx (e.desc.arg % 16) = none →
       exec (.resume ctx ring) s = .next (finishState s ((started s e).endEntry e.uid { Result.of stMalformed with step := e.desc.step }))) ∧
     (∀ r, s.savedRec e.ctx (e.desc.arg % 16) = some r →
       (tableKept s e.ctx r.job = false →
         ∃ t, exec (.resume ctx ring) s = .next t ∧ Ended t e.uid ∧ t.jobs = s.jobs ∧ KeepsRegs entryFlds s t ∧
           t.saved = s.saved.filter (fun x => !(x.ctx == e.ctx && x.id == r.id))) ∧
       (tableKept s e.ctx r.job = true → rowOpen r.job (s.get .latStatLanes) = true →
         ∃ t, exec (.resume ctx ring) s = .next t ∧ Ended t e.uid ∧ t.jobs = s.jobs ∧ t.flag .latStatReshaped = true ∧
           t.saved = s.saved.filter (fun x => !(x.ctx == e.ctx && x.id == r.id)) ∧
           t.get .latReshapedJobsCount = satAdd 32 (s.get .latReshapedJobsCount) 1 ∧
           KeepsRegs (entryFlds ++ [.latStatReshaped, .latReshapedJobsCount]) s t) ∧
       (tableKept s e.ctx r.job = true → rowOpen r.job (s.get .latStatLanes) = false → (startBar (started s e) e r.desc).isSome = true →
         ∃ t, exec (.resume ctx ring) s = .next t ∧ Ended t e.uid ∧ t.jobs = s.jobs ∧ KeepsRegs entryFlds s t) ∧
       (tableKept s e.ctx r.job = true → rowOpen r.job (s.get .latStatLanes) = false → startBar (started s e) e r.desc = none →
         ∃ u : State, exec (.resume ctx ring) s = .next (finishState s (u.launch e.uid)) ∧ u.entries = (started s e).entries ∧
           ∃ j : Job, u.jobs = s.jobs ++ [j] ∧ j.uid = e.uid ∧ j.doneBytes = r.job.doneBytes ∧ j.nextBlk = r.job.nextBlk ∧
             j.inps = r.job.inps ∧ j.blks = r.job.blks ∧ ∀ l, j.lat = some l → l.lanes = s.get .latStatLanes)))

/-- A read's bytes join its input behind those already there; in hold-up they are dropped (17 R464). A read that fails stops its job with the failure's status, and the bytes
from its offset on do not count. A write's acknowledgement: a block is acknowledged at its destination once no piece of it is left to
come. A write that fails stops its job, and no block from its own on stands. -/
def Obligations.DataComesAndGoes : Prop :=
  (∀ (s : State) (tag k off : Nat) (data : Bytes) (x : Xfer) (j : Job), x.use = .input k off → s.findJob x.job = some j → k < j.inps.length →
     (s.xfers.find? (fun x => x.kind == .fabRead && x.tag == tag) = some x →
       (s.holdingUp = true → exec (.fabricReadResponse tag data false) s = .next (finishState s (s.dropXfer x))) ∧
       (s.holdingUp = false → j.srcCut = none → off = (j.inp k).data.length → (j.inp k).early = [] →
         ∃ u : State, exec (.fabricReadResponse tag data false) s = .next (finishState s u.goOn) ∧ u.xfers = s.xfers.erase x ∧
           u.regs = s.regs ∧ u.entries = s.entries ∧ ∃ i, u.findJob x.job = some i ∧ i.stop = j.stop ∧
             (i.inp k).data = (j.inp k).data ++ partsOf x data ∧ ∀ n, n ≠ k → i.inp n = j.inp n) ∧
       (isSnapJob s x.job = false → j.stop = none →
         ∃ u : State, exec (.fabricReadResponse tag data true) s = .next (finishState s u.goOn) ∧ u.flag .fjPortStatFabErr = true ∧
           u.get .patMemUncorrCount = satAdd 32 (s.get .patMemUncorrCount) 1 ∧ ∃ i, u.findJob x.job = some i ∧
             i.stop = some (stMemError, 0) ∧ (i.inp k).data = (j.inp k).data.take off)) ∧
     (s.xfers.find? (fun x => (x.kind == .hostRead || x.kind == .hostAck) && x.tag == tag) = some x →
       (x.kind = .hostRead → s.holdingUp = false → j.srcCut = none → off = (j.inp k).data.length → (j.inp k).early = [] →
         ∃ u : State, exec (.hostReadCompletion tag data 0) s = .next (finishState s u.goOn) ∧ u.xfers = s.xfers.erase x ∧
           ∃ i, u.findJob x.job = some i ∧ i.stop = j.stop ∧ (i.inp k).data = (j.inp k).data ++ sliceZ data 0 x.len) ∧
       (∀ status, status ≠ 0 → isSnapJob s x.job = false → j.stop = none →
         ∃ u : State, exec (.hostReadCompletion tag data status) s = .next (finishState s u.goOn) ∧ ∃ i, u.findJob x.job = some i ∧
           i.stop = some (stHostError, min status 3) ∧ (i.inp k).data = (j.inp k).data.take off))) ∧
  (∀ (s : State) (id d b : Nat) (x : Xfer), x.use = .block d b → s.xfers.find? (fun x => x.kind == .fabWrite && x.tag == id) = some x →
     (pieceLeft (s.dropXfer x) x.job d b = true →
       exec (.fabricWriteAck id false) s = .next (finishState s (s.dropXfer x).goOn)) ∧
     (∀ j o, pieceLeft (s.dropXfer x) x.job d b = false → s.findJob x.job = some j → j.verify = false →
       j.blks.find? (fun o => o.idx == b) = some o →
       ∃ u : State, exec (.fabricWriteAck id false) s = .next (finishState s u.goOn) ∧ ∃ i, u.findJob x.job = some i ∧ i.stop = j.stop ∧
         ∃ p, i.blks.find? (fun o => o.idx == b) = some p ∧ d ∈ p.acked ∧ (∀ c, c ≠ d → (c ∈ p.acked ↔ c ∈ o.acked))) ∧
     (∀ j, s.findJob x.job = some j → isSnapJob s x.job = false → j.stop = none →
       ∃ u : State, exec (.fabricWriteAck id true) s = .next (finishState s u.goOn) ∧ u.flag .fjPortStatFabErr = true ∧
         ∃ i n, u.findJob x.job = some i ∧ i.stop = some (stMemError, 0) ∧ i.limit = some n ∧ n ≤ b))

/-- Address translation. One that passes lets the access go out; a write goes in its turn, behind those that were asked for before it. A page that is not present stops the job: resumably, its record saved,
where the function's PRI is on and a record is free. An invalidation is answered once what was on its way has completed. The host link
goes down: no request to the host is left, each job that waited for one stops with ST_HOST_ERROR, and no invalidation is owed an answer.
-/
def Obligations.HostAccess : Prop :=
  ((∀ (s : State) (tag : Nat) (x : Xfer), s.xfers.find? (fun x => x.kind == .ats && x.tag == tag) = some x → x.use ≠ .side →
     (x.data = [] →
       ∃ u : State, exec (.atsTranslationResponse tag true) s = .next (finishState s u.goOn) ∧
         u.out = s.out ++ [Out.hostRead s.uid x.via x.addr x.len] ∧ ∃ y : Xfer, u.xfers = s.xfers.erase x ++ [y] ∧ y.kind = .hostRead ∧
           y.tag = s.uid ∧ y.job = x.job ∧ y.use = x.use ∧ y.len = x.len) ∧
     (x.data ≠ [] →
       let u : State := { s with xfers := s.xfers.map (fun (y : Xfer) => if y = x then { y with kind := .hostReady } else y) }
       exec (.atsTranslationResponse tag true) s = .next (finishState s u.hostReadies.goOn)) ∧
     (∀ j e, s.replaying = false → s.findJob x.job = some j → s.findEntry j.uid = some e → isSnapJob s j.uid = false → j.stop = none →
       e.desc.opcode ≠ opResume →
       ∃ u : State, exec (.atsTranslationResponse tag false) s = .next (finishState s u.goOn) ∧
         u.get .stgFaultsCount = satAdd 32 (s.get .stgFaultsCount) 1 ∧
         (bitOf s.pins.priEn x.via = false → u.saved = s.saved ∧ ∃ i, u.findJob x.job = some i ∧ i.stop = some (stPageFault, 0)) ∧
         (bitOf s.pins.priEn x.via = true → Out.pageRequest x.via (x.addr / 4096 * 4096) ∈ u.out ∧
           (freeSave s j.ctx = none → u.saved = s.saved ∧ ∃ i, u.findJob x.job = some i ∧ i.stop = some (stSaveFull, 0)) ∧
           (∀ n, freeSave s j.ctx = some n → (∃ i, u.findJob x.job = some i ∧ i.stop = some (stPageFaultResumable, 0) ∧ i.saveId = n ∧
             i.faultAddr = x.addr) ∧ ∃ r, u.savedRec j.ctx n = some r ∧ r.desc = j.desc)))) ∧
   (∀ (s : State) (fn : Nat),
     let tags := (s.xfers.filter (fun x => (x.kind == .hostRead || x.kind == .hostAck) && x.via == fn)).map (fun x => x.tag)
     ∃ t, exec (.atsInvalidation fn) s = .next t ∧ KeepsRegs msgFlds s t ∧ t.xfers = s.xfers ∧ t.jobs = s.jobs ∧
       (tags = [] → Out.atsDone fn ∈ t.out ∧ t.atsInv = s.atsInv) ∧ (tags ≠ [] → t.atsInv = s.atsInv ++ [(fn, tags)])) ∧
   (∀ (s : State) (fn tag : Nat) (tags : List Nat), (fn, tags) ∈ s.atsInv →
     ((∀ n ∈ tags, n = tag) → Out.atsDone fn ∈ (s.atsSettle tag).out) ∧
     ((∃ n ∈ tags, n ≠ tag) → (fn, tags.filter (fun n => n != tag)) ∈ (s.atsSettle tag).atsInv))) ∧
  (∀ s : State, s.ckpt.snap = none → s.ckpt.tail = [] →
     ∃ u : State, exec .hostLinkDown s = .next (finishState s u.goOn) ∧ u.pins.hostLinkUp = false ∧ u.atsInv = [] ∧ u.pendHost = [] ∧
       (∀ x ∈ u.xfers, isHostOp x.kind = false) ∧ u.entries = s.entries ∧ u.regs = s.regs ∧
       ∀ j, s.findJob j.uid = some j → j.stop = none → (∃ x ∈ s.xfers, isHostOp x.kind = true ∧ x.job = j.uid) →
         ∃ i, u.findJob j.uid = some i ∧ i.stop = some (stHostError, 3))

/-- A segment closes with its census: one that counted a value is coded, and its Mould is still to be built; another is not coded. The halves
swap roles. A Mould of the census is complete when its build ends, before the swap or after it, and until then nothing of the segment is
encoded. The decoder: a slot's load lets the blocks that wait for it be decoded. A block that passes the checks is decoded to the
bytes they give; one that fails is counted, and neither it nor a later one is released. -/
def Obligations.CodingStages : Prop :=
  ((∀ (h : Half) (f : CodedFmt), codedFmt h.format = some f →
     (h.coded = true → (censusOf f (h.blocks.map (fun b => b.data))).any (· != 0) = true →
       h.close = { h with closed := true, coded := true, built := false }) ∧
     (h.coded = false ∨ (censusOf f (h.blocks.map (fun b => b.data))).any (· != 0) = false →
       h.close = { h with closed := true, coded := false, built := true })) ∧
   (∀ s : State, swapDue s = true → s.awake = true →
     ∃ u : State, exec .halfSwap s = .next (finishState s (u.drainHalf s.fillA).goOn) ∧ u.fillA = !s.fillA ∧ u.jobs = s.jobs ∧ u.out = s.out ∧
       u.half s.fillA = { s.half s.fillA with st := .drain } ∧ u.half (!s.fillA) = s.half (!s.fillA) ∧
       ((s.half s.fillA).built = false → u.drainHalf s.fillA = u)) ∧
   (∀ (s : State) (a : Bool), building s = some a →
     ∃ u : State, exec .mouldBuildDone s = .next (finishState s (u.drainHalf a).goOn) ∧ u.half (!a) = s.half (!a) ∧ u.jobs = s.jobs ∧
       u.half a = { s.half a with built := true, mould := (codedFmt (s.half a).format).map (fun f =>
         buildMould (s.half a).format (censusOf f ((s.half a).blocks.map (fun b => b.data)))) })) ∧
  ((∀ (s : State) (k : Nat), slotLoading s k = true → exec (.decodeSlotLoadDone k) s = .next (finishState s (s.slotLoaded k).goOn)) ∧
   (∀ (s : State) (j : Job) (r : Rec) (h : BlockHdr) (mo : Option Mould), s.findJob j.uid = some j →
     j.recs.find? (fun x => x.idx == r.idx) = some r →
     (∀ raw, decodeBody h mo r.body = .ok raw → ∃ i, (s.decodeRec j.uid r h mo).findJob j.uid = some i ∧ i.stop = j.stop ∧
       i.recs.find? (fun x => x.idx == r.idx) = some { r with stage := .decoded, raw := raw, body := [] } ∧
       (s.decodeRec j.uid r h mo).get .cdrDecBlocksCount = satAdd 64 (s.get .cdrDecBlocksCount) 1) ∧
     (∀ c, decodeBody h mo r.body = .error c → ∃ i, (s.decodeRec j.uid r h mo).findJob j.uid = some i ∧
       i.stop = (match j.stop with | some x => some x | none => some (stCheckFail, 0)) ∧ i.recs = j.recs.filter (fun x => x.idx < r.idx) ∧
       (s.decodeRec j.uid r h mo).get .cdrCheckFailsCount = satAdd 32 (s.get .cdrCheckFailsCount) 1 ∧
       (s.decodeRec j.uid r h mo).get .cdrFailInfoCheck = c % 8)))

/-- A pipe's verdict frees the pipe. A record whose tag is right is opened; one whose tag is wrong is counted, its job stops, and neither
it nor a later record is kept. A read-back that is wrong is counted at the pipe that sealed it and stops the job before that block.
Fingerprints are SHA-256 of a block on a core, and are counted; the core takes the next block that waits. An inbound block whose
fingerprint is expected and differs stops its job with ST_CHECK_FAIL, and neither it nor a block after it goes on. -/
def Obligations.VerdictsAndFingerprints : Prop :=
  (∀ (s : State) (pipe : Nat) (p : PipeUse) (j : Job), s.pipes.find? (fun q => q.pipe == pipe) = some p → s.findJob p.job = some j →
     (p.back = false → ∀ r h, j.recs.find? (fun r => r.idx == p.blk) = some r → r.hdr = some h →
       (∀ body, j.openRec h (s.key h.keySlot).key r.bytes = some body →
         ∃ u : State, exec (.sealOpenVerdict pipe) s = .next (finishState s u.goOn) ∧ (∀ q ∈ u.pipes, q.pipe ≠ pipe) ∧ u.regs = s.regs ∧
           ∃ i, u.findJob p.job = some i ∧ i.stop = j.stop ∧
             i.recs.find? (fun r => r.idx == p.blk) = some { r with stage := .opened, body := body }) ∧
       (j.openRec h (s.key h.keySlot).key r.bytes = none → j.uid = p.job → j.stop = none →
         ∃ u : State, exec (.sealOpenVerdict pipe) s = .next (finishState s u.goOn) ∧ (∀ q ∈ u.pipes, q.pipe ≠ pipe) ∧
           u.get .sealTagFailsCount = satAdd 32 (s.get .sealTagFailsCount) 1 ∧ ∃ i, u.findJob p.job = some i ∧ i.stop = some (stTagFail, 0) ∧
             i.recs = j.recs.filter (fun r => r.idx < p.blk))) ∧
     (p.back = true → isSnapJob s p.job = false → ∀ o, j.blks.find? (fun o => o.idx == p.blk) = some o →
       (backVerdict s p.data = none → ∃ u : State, exec (.sealOpenVerdict pipe) s = .next (finishState s u.goOn) ∧
         (∀ q ∈ u.pipes, q.pipe ≠ pipe) ∧ ∃ i, u.findJob p.job = some i ∧
         ∃ q, i.blks.find? (fun o => o.idx == p.blk) = some q ∧ p.dst ∈ q.verified) ∧
       (∀ st, backVerdict s p.data = some st → j.stop = none →
         ∃ u : State, exec (.sealOpenVerdict pipe) s = .next (finishState s u.goOn) ∧ (∀ q ∈ u.pipes, q.pipe ≠ pipe) ∧
           u.get .sealVerifyFailsCount = satAdd 32 (s.get .sealVerifyFailsCount) 1 ∧
           u.getI .sealPipeVfailCount o.pipe = satAdd 32 (s.getI .sealPipeVfailCount o.pipe) 1 ∧ ∃ i n, u.findJob p.job = some i ∧
             i.stop = some (st, 0) ∧ i.limit = some n ∧ n ≤ p.blk))) ∧
  (∀ (s : State) (job blk : Nat) (j : Job) (p : Print), s.findJob job = some j → s.coreBlock job blk = some p →
     (j.inbound = false →
       ∃ u : State, exec (.fingerprintDone job blk) s = .next (finishState s u.goOn) ∧ u.printing = (s.endPrint p).printing ∧
         u.get .digFpBlocksCount = satAdd 64 (s.get .digFpBlocksCount) 1 ∧ ∃ i, u.findJob job = some i ∧
           i.prints = j.prints ++ [(blk, sha256 p.data)] ∧ i.stop = j.stop) ∧
     (j.inbound = true →
       ((∀ f k, expectedPrint j blk p.data.length = some (f, k) → f = sha256 p.data) →
         ∃ u : State, exec (.arrivalDigestDone job blk) s = .next (finishState s u.goOn) ∧ u.printing = (s.endPrint p).printing ∧
           u.get .digFpBlocksCount = satAdd 64 (s.get .digFpBlocksCount) 1 ∧ u.jobs = s.jobs ∧
           KeepsRegs (logFlds ++ [.digFpBlocksCount]) s u) ∧
       (∀ f k, expectedPrint j blk p.data.length = some (f, k) → f ≠ sha256 p.data → j.stop = none →
         ∃ u : State, exec (.arrivalDigestDone job blk) s = .next (finishState s u.goOn) ∧ u.flag .digStatArrivalFail = true ∧
           u.get .digArrivalFailsCount = satAdd 32 (s.get .digArrivalFailsCount) 1 ∧ ∃ i n, u.findJob job = some i ∧
             i.stop = some (stCheckFail, 0) ∧ i.limit = some n ∧ n ≤ k ∧
             i.recs = j.recs.filter (fun r => canonAt j blk && decide (r.idx < blk)))))

/-- A tile boundary: in hold-up nothing happens; else the substitutions that wait may complete, and the landing buffers go to promised
inbound streams first. A lattice job goes on at a new lane count unless a row of statistics is open; with no lane left a job that still
needs the lattice stops. Patrol, substitution and the ECC windows. -/
def Obligations.TilesAndPatina : Prop :=
  ((∀ (s : State) (ofs : Nat), s.holdingUp = true → ∃ t, exec (.tileBoundary ofs) s = .next t ∧ KeepsAll s t ∧ KeepsRegs msgFlds s t) ∧
   (∀ (s : State) (ofs : Nat), s.holdingUp = false → ∃ u v w : State,
     exec (.tileBoundary ofs) s = .next (finishState s (if w.yeljo.frozen then v else w.goOnAt true)) ∧ w = (v.jobs.map (fun j => j.uid)).foldl (fun a n => a.pumpFeed n true) v ∧
     u.jobs.map (fun j => j.uid) = v.jobs.map (fun j => j.uid) ∧ (∀ x ∈ v.patina.substs, x.tile = true) ∧
     v.yielded = (((u.jobs.filter (fun j => j.inbound)).filter (fun j => j.promised) ++
       (u.jobs.filter (fun j => j.inbound)).filter (fun j => !j.promised)).drop 8).map (fun j => j.uid)) ∧
   (∀ (s : State) (j : Job) (l : LatCfg), s.findJob j.uid = some j → j.lat = some l → j.stop = none →
     (s.logicalOf 2 ≠ 0 → l.lanes = s.get .latStatLanes → s.reshape j = s) ∧
     (s.logicalOf 2 ≠ 0 → l.lanes ≠ s.get .latStatLanes → rowOpen j (s.get .latStatLanes) = false →
       (s.reshape j).findJob j.uid = some { j with lat := some { l with lanes := s.get .latStatLanes } } ∧ (s.reshape j).regs = s.regs) ∧
     (s.logicalOf 2 ≠ 0 → l.lanes ≠ s.get .latStatLanes → rowOpen j (s.get .latStatLanes) = true →
       (s.reshape j).flag .latStatReshaped = true ∧
       (s.reshape j).get .latReshapedJobsCount = satAdd 32 (s.get .latReshapedJobsCount) 1 ∧
       ∃ i, (s.reshape j).findJob j.uid = some i ∧ i.stop = some (stLatticeReshaped, 0)) ∧
     (s.logicalOf 2 = 0 → needsLattice j l = false → s.reshape j = s) ∧
     (s.logicalOf 2 = 0 → needsLattice j l = true → ∃ i, (s.reshape j).findJob j.uid = some i ∧ i.stop = some (stLatticeReshaped, 0)))) ∧
  ((∀ (s : State) (a b : Bool) (n : Nat), s.flag .patCtrlPatrolEn = true → s.awake = true → s.now % max 1 (s.get .patPatrolPeriod) = 0 →
     (s.fwDown = true → ∃ t, exec (.patrolSlot a b n) s = .next t ∧ t.liveFld .patStatPatrolHeld 0 = 1 ∧ t.patina = s.patina ∧
       KeepsRegs msgFlds s t) ∧
     (holdsBlock s (patrolUnit s).1 (patrolUnit s).2 = true → ∃ t, exec (.patrolSlot a b n) s = .next t ∧ t.patina = s.patina ∧
       KeepsRegs msgFlds s t) ∧
     (s.fwDown = false → holdsBlock s (patrolUnit s).1 (patrolUnit s).2 = false →
       (s.unit (patrolUnit s).1 (patrolUnit s).2).failed = false → (patrolUnit s).1 ≠ 6 → a = false → b = false →
       ∃ t, exec (.patrolSlot a b n) s = .next t ∧ (t.unit (patrolUnit s).1 (patrolUnit s).2).failed = true ∧
         (t.unit (patrolUnit s).1 (patrolUnit s).2).wear =
           min ((s.unit (patrolUnit s).1 (patrolUnit s).2).wear + 1) (wearMax (patrolUnit s).1)) ∧
     (s.fwDown = false → (patrolUnit s).1 ≠ 6 → a = true ∨ b = true →
       ∃ t, exec (.patrolSlot a b n) s = .next t ∧ t.patina.units = s.patina.units)) ∧
   (∀ (s : State) (cls phys ofs : Nat) (x : Subst), s.patina.substs.find? (fun x => x.cls == cls && x.phys == phys) = some x →
     x.tile = true → s.fwDown = false → s.holdingUp = false → phys ≠ x.spare →
     ∃ t, exec (.substitutionDone cls phys ofs) s = .next t ∧ (t.unit cls phys).logical = none ∧ (t.unit cls x.spare).logical = some x.logical ∧
       t.flag .patStatSubst = true ∧ t.get .patSubstsCount = satAdd 32 (s.get .patSubstsCount) 1 ∧
       (∀ y ∈ t.patina.substs, ¬ (y.cls = cls ∧ y.phys = phys)) ∧ t.get .patLastClass = cls % 8 ∧ t.jobs = s.jobs) ∧
   (∀ s : State, s.now % 2 ^ (10 + s.get .patWarnWinLog2) = 0 →
     ∃ t, exec .eccWindowEnd s = .next t ∧ t.get .patEccWinCount = 0 ∧ t.patina = { s.patina with sramWin := [] } ∧
       (s.get .patEccWinCount < s.get .patWarnEccThr → (∀ x ∈ s.patina.sramWin, x.2 < s.get .patWarnEccThr) →
         KeepsRegs (msgFlds ++ [.patEccWinCount]) s t) ∧
       (s.get .patWarnEccThr ≤ s.get .patEccWinCount → t.flag .patStatWarned = true ∧ t.get .patLastWarnCause = 4 ∧
         ∃ o ∈ t.out, o = Out.sideband (sbPacket s 3 0 4))))

/-- A frame: unheard while its lane has no link; discarded and counted when it is damaged, unknown or longer than the lane takes; control
frames and TCP for an open port go to the core; a good RoCE packet for an entry in RTS wakes the engine, and one marked CE is answered
with a notification. -/
def Obligations.FramesArrive : Prop :=
  ∀ (s : State) (lane : Nat) (f : Frame),
    (hears s lane = false → ∀ err, ∃ t, exec (.receiveFrame lane err f) s = .next t ∧ KeepsRegs msgFlds s t ∧ KeepsAll s t) ∧
    (hears s lane = true →
      (∀ err, err = true ∨ (∃ n, f = .other n) ∨ (∃ b, f = .control b ∧ 9216 < b.length) ∨
          (∃ h b, f = .tcp h b ∧ (h = false ∨ 9216 < b.length)) ∨
          (∃ qpn icrc ce n, f = .roce qpn icrc ce n ∧ (entryOf s lane qpn = none ∨ icrc = false ∨ 9216 < n)) →
        ∃ t, exec (.receiveFrame lane err f) s = .next t ∧ t.get .xptDroppedCount = satAdd 32 (s.get .xptDroppedCount) 1 ∧
          KeepsRegs (msgFlds ++ [.xptDroppedCount]) s t ∧ KeepsAll s t) ∧
      (∀ b, f = .control b ∨ f = .tcp true b → b.length ≤ 9216 →
        ∃ t, exec (.receiveFrame lane false f) s = .next t ∧ Out.toCore b ∈ t.out ∧ KeepsRegs msgFlds s t ∧ KeepsAll s t) ∧
      (∀ qpn q ce n, f = .roce qpn true ce n → entryOf s lane qpn = some q → n ≤ 9216 →
        ∃ t, exec (.receiveFrame lane false f) s = .next t ∧ t.eng = (if s.eng = 3 then 2 else s.eng) ∧
          (ce = false → KeepsRegs (msgFlds ++ [.fjStateRetainPend]) s t ∧ t.qps = s.qps) ∧
          (ce = true → (s.qp q).cnpAt = none → Out.cnp q ∈ t.out ∧ t.get .xptCnpTxCount = satAdd 32 (s.get .xptCnpTxCount) 1 ∧
            (t.qp q).cnpAt = some s.now)))

/-- Requests of a peer, whatever they are: not heard without a link; discarded where the entry is not in RTS; a NAK of the expected number
when one is missing. One that no check of R330 lets through is refused with an access NAK, and the entry goes to ERROR. One that was seen
before is acknowledged again. Requests that pass. A write's acknowledgement is owed until its bytes are placed; a read waits for its bytes;
a SEND is acknowledged and handed on, unless no buffer is free; an invalidated key exposes its command's buffer no longer. -/
def Obligations.PeerRequests : Prop :=
  (∀ (s : State) (qp psn key addr len : Nat) (data : Bytes),
     let q := qp % 256
     let cs := [Instr.rdmaWriteRequest qp psn key addr data, .rdmaReadRequest qp psn key addr len, .fingerprintBatch qp psn data,
       .commitNotice qp psn data]
     (∀ c ∈ cs,
       (arrival s q psn = .unheard → exec c s = .next (finishState s s.goOn)) ∧
       (arrival s q psn = .refused → exec c s = .next (finishState s s.dropped.goOn)) ∧
       (arrival s q psn = .ahead → ∃ u : State, exec c s = .next (finishState s u.goOn) ∧ Out.rdmaNak q (s.qp q).recvPsn 0 ∈ u.out ∧
         u.qps = s.qps ∧ KeepsRegs [.fjStateRetainPend] s u)) ∧
     (arrival s q psn = .behind →
       (∀ c ∈ [Instr.fingerprintBatch qp psn data, .commitNotice qp psn data],
         ∃ u : State, exec c s = .next (finishState s u.goOn) ∧ Out.rdmaAck q ((psn + packets s q data.length - 1) % 2 ^ 24) ∈ u.out ∧ u.qps = s.qps) ∧
       ((psn + packets s q data.length - 1) % 2 ^ 24 ∉ (s.qp q).acks →
         ∃ u : State, exec (.rdmaWriteRequest qp psn key addr data) s = .next (finishState s u.goOn) ∧
           Out.rdmaAck q ((psn + packets s q data.length - 1) % 2 ^ 24) ∈ u.out ∧ u.qps = s.qps) ∧
       ∃ t, exec (.sendWithInvalidate qp psn key) s = .next t ∧ Out.rdmaAck q psn ∈ t.out ∧ t.qps = s.qps ∧ t.xfers = s.xfers) ∧
     (arrival s q psn = .refused → ∃ t, exec (.sendWithInvalidate qp psn key) s = .next t ∧
       t.get .xptDroppedCount = satAdd 32 (s.get .xptDroppedCount) 1 ∧ KeepsRegs (msgFlds ++ [.xptDroppedCount]) s t ∧ KeepsAll s t) ∧
     ((arrival s q psn = .unheard → ∃ t, exec (.sendWithInvalidate qp psn key) s = .next t ∧ KeepsRegs msgFlds s t ∧ KeepsAll s t) ∧
      (arrival s q psn = .ahead → ∃ t, exec (.sendWithInvalidate qp psn key) s = .next t ∧ Out.rdmaNak q (s.qp q).recvPsn 0 ∈ t.out ∧
        t.qps = s.qps ∧ t.xfers = s.xfers)) ∧
     (arrival s q psn = .expected → keyOp s q key = none →
       (∀ c ∈ [(Instr.rdmaWriteRequest qp psn key addr data, reach s q key addr data.length (s.getI .xptQpAttrWrOk q == 1)),
           (.rdmaReadRequest qp psn key addr len, reach s q key addr len (s.getI .xptQpAttrRdOk q == 1))],
         c.2 = none → ∃ u : State, exec c.1 s = .next (finishState s u.goOn) ∧ Out.rdmaNak q psn 2 ∈ u.out ∧
           u.get .xptDroppedCount = satAdd 32 (s.get .xptDroppedCount) 1 ∧ u.getI .xptQpStateState q = qpErr ∧
           u.getI .xptQpStateLastErr q = stXptNakAccess) ∧
       (∃ t, exec (.sendWithInvalidate qp psn key) s = .next t ∧ Out.rdmaNak q psn 2 ∈ t.out ∧ t.getI .xptQpStateState q = qpErr))) ∧
  (∀ (s : State) (qp psn key addr len : Nat) (data : Bytes),
     let q := qp % 256
     let w := (psn + packets s q data.length - 1) % 2 ^ 24
     arrival s q psn = .expected →
     (keyOp s q key = none → ∀ x, reach s q key addr data.length (s.getI .xptQpAttrWrOk q == 1) = some x → data ≠ [] →
       ∃ u : State, exec (.rdmaWriteRequest qp psn key addr data) s = .next (finishState s u.goOn) ∧
         (u.qp q).recvPsn = ((s.qp q).recvPsn + packets s q data.length) % 2 ^ 24 ∧ w ∈ (u.qp q).acks ∧
         u.get .xptRxBytesBytes = (s.get .xptRxBytesBytes + data.length) % 2 ^ 64) ∧
     (keyOp s q key = none → ∀ x, reach s q key addr len (s.getI .xptQpAttrRdOk q == 1) = some x → 0 < len →
       ∃ u : State, exec (.rdmaReadRequest qp psn key addr len) s = .next (finishState s u.goOn) ∧
         (u.qp q).recvPsn = ((s.qp q).recvPsn + packets s q len) % 2 ^ 24 ∧ (u.qp q).reads = (s.qp q).reads ++ [⟨psn, len, []⟩]) ∧
     (∀ c ∈ [Instr.fingerprintBatch qp psn data, .commitNotice qp psn data],
       (s.getI .xptQpAttrSendOk q = 0 → ∃ u : State, exec c s = .next (finishState s u.goOn) ∧ Out.rdmaNak q psn 2 ∈ u.out ∧
         u.getI .xptQpStateState q = qpErr ∧ u.getI .xptQpStateLastErr q = stXptNakAccess) ∧
       (s.getI .xptQpAttrSendOk q = 1 → data.length ≤ 8192 →
         let relays := (s.xfers.filter (fun x => x.use == .relay q)).length + (s.pendOps.filter (fun p => p.use == .relay q)).length
         (16 ≤ relays → ∃ u : State, exec c s = .next (finishState s u.goOn) ∧ Out.rdmaNak q psn 3 ∈ u.out ∧ u.qps = s.qps) ∧
         (relays < 16 → ∃ u : State, exec c s = .next (finishState s u.goOn) ∧ Out.rdmaAck q w ∈ u.out ∧
           (u.qp q).recvPsn = ((s.qp q).recvPsn + packets s q data.length) % 2 ^ 24 ∧
           (∀ p, isWriter s = false → nextQp s = some p → s.rts p = true →
             (∃ x ∈ u.xfers, x.use = .relay q) ∨ (∃ x ∈ u.pendOps, x.use = .relay q))))) ∧
     (∀ x, keyOp s q key = some x → ∃ t, exec (.sendWithInvalidate qp psn key) s = .next t ∧ Out.rdmaAck q psn ∈ t.out ∧
       (t.qp q).recvPsn = ((s.qp q).recvPsn + 1) % 2 ^ 24 ∧ t.jobs = s.jobs ∧
       t.xfers = s.xfers.map (fun y => if y = x then { y with key := none } else y)))

/-- Acknowledgements, answers and NAKs. An ACK ends the operations up to its number, as far as the first READ that is not answered; a READ's data joins its input; a sequence or RNR NAK
sends everything again until the retries are used up; an access or operation NAK puts the entry into ERROR. Every frame sent is 60 B to 4,222 B long (15 R415),
and leaves by its entry's lane while that lane has its link (15 R416). -/
def Obligations.OperationsEnd : Prop :=
  (∀ (s : State) (o : Out), (∀ l b, Out.frame l b ∈ framesOf s o → 60 ≤ b.length ∧ b.length ≤ 4222) ∧
    ∀ f ∈ (s.transmit o).out, f ∈ s.out ∨ f = o ∨ (f ∈ framesOf s o ∧ ∀ l b, f = Out.frame l b → bitOf s.pins.linkUp l = true)) ∧
  ∀ (s : State) (qp psn kind : Nat) (data : Bytes) (x : Xfer) (l : List Xfer),
    let q := qp % 256
    let before := (psn + 2 ^ 24 - 1) % 2 ^ 24
    hears s (laneOf s q) = true → s.rts q = true → s.replaying = false → messages s q = x :: l →
    (let done := (x :: l).takeWhile (fun y => upTo psn y && y.kind != .rdmaRead)
     done ≠ [] → (∀ y ∈ done, y.use = .side) →
      ∃ u : State, exec (.rcAck qp psn) s = .next (finishState s u.goOn) ∧ u.xfers = done.foldl (fun a y => a.erase y) s.xfers ∧
        (u.qp q).retries = 0) ∧
    (upTo psn x = false → ∃ u : State, exec (.rcAck qp psn) s = .next (finishState s u.goOn) ∧ u.xfers = s.xfers ∧ u.qps = s.qps) ∧
    (∀ k off j, x.kind = .rdmaRead → (psn + 2 ^ 24 - firstPsn s x) % 2 ^ 24 < packets s q x.len → x.use = .input k off →
      s.findJob x.job = some j → k < j.inps.length → j.srcCut = none → off = (j.inp k).data.length → (j.inp k).early = [] →
      ∃ u : State, exec (.rdmaReadResponse qp psn data) s = .next (finishState s u.goOn) ∧ u.xfers = s.xfers.erase x ∧
        ∃ i, u.findJob x.job = some i ∧ (i.inp k).data = (j.inp k).data ++ sliceZ data 0 x.len) ∧
    (upTo before x = false →
      (kind = 0 ∨ kind = 3 → (s.qp q).retries < s.getI .xptQpAttrRetry q →
        ∃ u : State, exec (.nak qp psn kind) s = .next (finishState s u.goOn) ∧ u.get .xptNakRxCount = satAdd 32 (s.get .xptNakRxCount) 1 ∧
          (u.qp q).retries = (s.qp q).retries + 1 ∧ (∀ y ∈ x :: l, upTo before y = false → y.wire s ∈ u.out) ∧ u.xfers = s.xfers) ∧
      (∀ st, (kind = 0 ∨ kind = 3) ∧ s.getI .xptQpAttrRetry q ≤ (s.qp q).retries ∧ st = stXptRetryExceeded ∨
          kind = 2 ∧ st = stXptNakAccess ∨ (kind = 1 ∨ 3 < kind) ∧ st = stXptNakOp →
        ∃ u : State, exec (.nak qp psn kind) s = .next (finishState s u.goOn) ∧ u.getI .xptQpStateState q = qpErr ∧
          u.getI .xptQpStateLastErr q = st))

/-- Rates. A notification halves an entry's rate, down to the floor; each recovery gives back 5 % of the lane's, up to all of it. The
lanes' links show in XPT_STAT; a fall is recorded; a link down past the timeout puts each entry of its lane that is in RTS into ERROR with
ST_XPT_LINK_DOWN, and no other. -/
def Obligations.RatesAndLinks : Prop :=
  (∀ (s : State) (qp : Nat),
     let q := qp % 256
     (hears s (laneOf s q) = true → s.rts q = true →
       ∃ t, exec (.cnp qp) s = .next t ∧ (t.qp q).rate = max (s.get .xptCcMinRate) ((s.qp q).rate / 2) ∧
         t.get .xptCnpRxCount = satAdd 32 (s.get .xptCnpRxCount) 1 ∧ KeepsRegs (msgFlds ++ [.xptCnpRxCount, .fjStateRetainPend]) s t ∧
         t.xfers = s.xfers ∧ ∀ p, p ≠ q → t.qp p = s.qp p) ∧
     (hears s (laneOf s q) = false → ∃ t, exec (.cnp qp) s = .next t ∧ KeepsRegs msgFlds s t ∧ KeepsAll s t) ∧
     (hears s (laneOf s q) = true → s.rts q = false →
       ∃ t, exec (.cnp qp) s = .next t ∧ t.get .xptDroppedCount = satAdd 32 (s.get .xptDroppedCount) 1 ∧ t.qps = s.qps) ∧
     (s.rts q = true → (s.qp q).rate < 1000 → s.holdingUp = false →
       ∃ t, exec (.cnpRecover qp) s = .next t ∧ (t.qp q).rate = min 1000 ((s.qp q).rate + 50) ∧ KeepsRegs msgFlds s t ∧ t.xfers = s.xfers ∧
         ∀ p, p ≠ q → t.qp p = s.qp p)) ∧
  (∀ (s : State) (lane : Nat),
     (∃ t, exec (.linkUpFall lane) s = .next t ∧ (∀ k, bitOf t.pins.linkUp k = (bitOf s.pins.linkUp k && k != lane % 4)) ∧
       t.get .xptStatLaneUp = t.pins.linkUp % 16 ∧ t.flag .xptStatLinkDown = true ∧
       KeepsRegs (msgFlds ++ [.xptStatLaneUp, .xptStatLinkDown]) s t ∧ KeepsAll { s with pins := t.pins } t) ∧
     (∃ t, exec (.linkUpRise lane) s = .next t ∧ (∀ k, bitOf t.pins.linkUp k = (bitOf s.pins.linkUp k || k == lane % 4)) ∧
       t.get .xptStatLaneUp = t.pins.linkUp % 16 ∧ KeepsRegs (msgFlds ++ [.xptStatLaneUp]) s t ∧ KeepsAll { s with pins := t.pins } t) ∧
     (laneUp s (lane % 4) = false → s.holdingUp = false → (∃ q, q < 256 ∧ s.rts q = true ∧ laneOf s q = lane % 4) →
       ∃ u : State, exec (.linkDownTimeout lane) s = .next (finishState s u.goOn) ∧ ∀ q, q < 256 →
         (s.rts q = true ∧ laneOf s q = lane % 4 → u.getI .xptQpStateState q = qpErr ∧ u.getI .xptQpStateLastErr q = stXptLinkDown) ∧
         (¬ (s.rts q = true ∧ laneOf s q = lane % 4) → u.getI .xptQpStateState q = s.getI .xptQpStateState q)))

/-- What runs out of time: an entry's ACK timeout retries, then goes to ERROR with ST_XPT_TIMEOUT; a promised operation that is
past its limit stops its job with that status; a promised group late at DUE_TICK stops with ST_XPT_CONGESTED; a segment without its batch goes in full, and a commit without
its notice is LOCAL. -/
def Obligations.Timeouts : Prop :=
  (∀ (s : State) (qp : Nat),
    let q := qp % 256
    s.rts q = true → s.xfers.any (fun x => onEntry s q x) = true → s.holdingUp = false →
    ∃ u : State, exec (.ackTimeout qp) s = .next (finishState s u.goOn) ∧
      (s.getI .xptQpAttrRetry q ≤ (s.qp q).retries → u.getI .xptQpStateState q = qpErr ∧ u.getI .xptQpStateLastErr q = stXptTimeout) ∧
      ((s.qp q).retries < s.getI .xptQpAttrRetry q → (u.qp q).retries = (s.qp q).retries + 1 ∧ u.xfers = s.xfers ∧
        u.get .xptTimeoutsCount = satAdd 32 (s.get .xptTimeoutsCount) 1)) ∧
  (∀ (s : State) (tag : Nat) (x : Xfer) (j : Job),
    s.xfers.find? (fun x => isOp x.kind && x.promised && x.job != 0 && opTimedOut s x && (if isNvme x.kind then x.key == some tag else x.tag == tag)) =
      some x → s.findJob x.job = some j → isSnapJob s x.job = false → j.stop = none →
    ∃ u : State, exec (.remoteOpTimeout tag) s = .next (finishState s u.goOn) ∧
      ∃ i, u.findJob x.job = some i ∧ i.stop = some (stXptTimeout, 0)) ∧
  (∀ (s : State) (gid : Nat) (g : Group) (j : Job), s.findGroup gid = some g → g.stage = .admitted → g.promised = true → g.void = false →
    g.dueTick ≤ s.now → s.awake = true → s.findJob j.uid = some j → s.entries.any (fun e => e.uid == j.uid && e.gid == gid) = true →
    j.stop = none → remoteWork s j = true →
    ∃ u : State, exec (.dueTickCongested gid) s = .next (finishState s u.goOn) ∧ u.flag .xptStatCongested = true ∧
      ∃ i, u.findJob j.uid = some i ∧ i.stop = some (stXptCongested, 0)) ∧
  (∀ (s : State) (seg t : Nat) (x : Snap) (g : SnapSeg), s.ckpt.snap = some x → x.segs.find? (fun g => g.seg == seg) = some g →
    g.copied = some t → t + s.get .fjCkptXchgWaitTicks ≤ s.now → g.settled = false → g.batch = none → g.kept.isSome = true →
    isWriter s = false → s.awake = true →
    ∃ u : State, exec (.xchgWaitTimeout seg) s = .next (finishState s u.work) ∧
      u.get .fjCkptUnmatchedCount = satAdd 32 (s.get .fjCkptUnmatchedCount) g.blocks ∧ u.entries = s.entries ∧
      ∃ y, u.ckpt.snap = some y ∧ ∀ h ∈ y.segs, h.seg = seg → h.settled = true ∧ h.sent = List.range g.blocks) ∧
  (∀ (s : State) (t : Nat) (x : Snap), s.ckpt.snap = some x → x.twoTick = some t → t + s.get .fjCkptXchgWaitTicks ≤ s.now → x.notice = false →
    x.phase = .mirror → s.awake = true →
    ∃ u : State, exec .commitNoticeTimeout s = .next (finishState s u.work) ∧
      ∃ y, u.ckpt.snap = some y ∧ y.phase = .maquette ∧ y.mirror = .failed stXptTimeout)

/-- NVMe. A completion of a TCP target waits while firmware is down (01 R28). A Read's data joins its input; a command that fails stops its job with ST_NVME_STATUS and the status, and shows it; Keep Alive
goes to a connected target. -/
def Obligations.NvmeCommands : Prop :=
  (∀ (s : State) (tgt cid status : Nat) (data : Bytes) (x : Xfer), nvmeOp s tgt cid = some x → s.holdingUp = false →
    (s.fwDown = true → s.getI .xptTgtCfgTcp x.via = 1 → exec (.nvmeCompletion tgt cid status data) s = .next (finishState s s.goOn))) ∧
  (∀ (s : State) (tgt cid status k off : Nat) (data : Bytes) (x : Xfer) (j : Job), nvmeOp s tgt cid = some x → s.holdingUp = false →
    s.replaying = false → s.findJob x.job = some j → (s.getI .xptTgtCfgTcp tgt = 1 → s.fwDown = false) →
    (status = 0 → x.kind = .nvmeRead → x.use = .input k off → k < j.inps.length → j.srcCut = none → off = (j.inp k).data.length →
      (j.inp k).early = [] →
      ∃ u : State, exec (.nvmeCompletion tgt cid status data) s = .next (finishState s u.goOn) ∧ u.xfers = s.xfers.erase x ∧
        ∃ i, u.findJob x.job = some i ∧
          (i.inp k).data = (j.inp k).data ++ sliceZ (readData x data) (wantedOf s x).1 (wantedOf s x).2) ∧
    (status ≠ 0 → x.kind ≠ .nvmeAdmin → (∀ n, x.use ≠ .area n) → isSnapJob s x.job = false → j.stop = none →
      ∃ u : State, exec (.nvmeCompletion tgt cid status data) s = .next (finishState s u.goOn) ∧
        u.getI .xptTgtStateLastSc tgt = status % 256 ∧ ∃ i, u.findJob x.job = some i ∧ i.stop = some (stNvmeStatus, status % 2 ^ 16))) ∧
  (∀ (s : State) (tgt : Nat), tgtUsed s tgt = true → tgtReady s tgt = true → s.fwDown = false → s.holdingUp = false →
    ∃ t, exec (.keepAlive tgt) s = .next t ∧ Out.keepAlive tgt ∈ t.out ∧ KeepsRegs msgFlds s t ∧ KeepsAll s t)

/-- A package that has left the barrier, or whose engine is in FAULT, ignores its packets. ARRIVE counts an instance, RELEASE lets a
member go on, ABSENT takes an instance out; the time-outs release the barrier with those who came, and an instance that nobody joins
starts alone. -/
def Obligations.StartBarrier : Prop :=
  ∀ (s : State) (src phase cause : Nat),
    let i := src % 16
    let b1 := { s.boot with arrived := i :: s.boot.arrived.filter (· != i) }
    (booting s = false → ∀ c ∈ [Instr.arrive src phase, .absent src cause, .release src phase], ∃ t, exec c s = .next t ∧ KeepsAll s t ∧ KeepsRegs msgFlds s t) ∧
    (booting s = true → phase % 2 = 0 → s.boot.stage ≠ .phase0 → s.boot.stage ≠ .phase1 →
      ∃ t, exec (.arrive src phase) s = .next t ∧ t.boot = b1 ∧ KeepsRegs msgFlds s t ∧ KeepsAll { s with boot := t.boot } t) ∧
    (phase % 2 = 0 → s.boot.stage = .phase0 → s.eng = 1 → isCoord s = true → (∃ k ∈ b1.arrived, k ≠ s.get .fjPosInst) →
      (∀ k ∈ fitted s, k ∈ b1.arrived ∨ k ∈ s.boot.absent) →
      ∃ t, exec (.arrive src phase) s = .next t ∧ t.boot.stage = .phase1 ∧ t.get .fjBarrierMembers = maskOf b1.arrived ∧
        t.get .fjBarrierMissing = s.get .fjPosPresent - maskOf b1.arrived ∧ Out.sideband (sbPacket s 1 0 0) ∈ t.out) ∧
    (phase % 2 = 1 → s.boot.stage = .phase1 → s.eng = 1 → isCoord s = true → i ∈ s.boot.arrived →
      ∃ t, exec (.arrive src phase) s = .next t ∧ i ∈ t.boot.answered ∧ KeepsRegs msgFlds s t ∧
        ((∀ k ∈ s.boot.arrived, k = i ∨ k ∈ s.boot.answered) → t.boot.ready1 = true)) ∧
    (phase % 2 = 0 → s.boot.stage = .phase0 → isCoord s = false →
      ∃ t, exec (.release src phase) s = .next t ∧ t.boot.stage = .phase1 ∧ Out.sideband (sbPacketTo s i 0 1) ∈ t.out ∧
        KeepsRegs msgFlds s t) ∧
    (phase % 2 = 1 → s.boot.stage = .phase1 → isCoord s = false → s.boot.edgeSeen = true →
      ∃ t, exec (.release src phase) s = .next t ∧ t.boot.stage = .started ∧ t.tick.running = true ∧ t.now = 0 ∧
        t.get .fjBarrierMembers = maskOf [s.get .fjPosInst, i]) ∧
    (booting s = true → i ≠ s.get .fjPosInst → ∃ t, exec (.absent src cause) s = .next t ∧ i ∈ t.boot.absent ∧ i ∉ t.boot.arrived) ∧
    (s.boot.stage = .phase0 → isCoord s = true → s.boot.alone = false →
      ((∀ k ∈ s.boot.arrived, k = s.get .fjPosInst) → ∃ t, exec .bootWaitTimeout s = .next t ∧ t.boot = { s.boot with alone := true }) ∧
      ((∃ k ∈ s.boot.arrived, k ≠ s.get .fjPosInst) → ∃ t, exec .bootWaitTimeout s = .next t ∧ t.boot.stage = .phase1 ∧
        t.get .fjBarrierMembers = maskOf s.boot.arrived ∧ Out.sideband (sbPacket s 1 0 0) ∈ t.out)) ∧
    (s.boot.stage = .phase1 → isCoord s = true → s.boot.ready1 = false →
      let m := maskOf (s.boot.arrived.filter (fun k => s.boot.answered.contains k))
      ∃ t, exec .phase1Timeout s = .next t ∧ t.boot.ready1 = true ∧ t.get .fjBarrierMembers = m ∧
        t.get .fjBarrierMissing = s.get .fjPosPresent - m ∧ KeepsRegs (msgFlds ++ [.fjBarrierMembers, .fjBarrierMissing]) s t) ∧
    (s.boot.stage = .phase1 ∨ s.boot.stage = .phase0 ∧ (s.boot.alone = true ∨ isCoord s = false) →
      ∃ t, exec .startAlone s = .next t ∧ t.flag .fjStateAlone = true ∧ t.boot = { s.boot with stage := .phase1, alone := true })

/-- The key port. Its twenty words become the unique key and the key hash; an error or a word that does not come in time is FAULT with
code 2, once the NVM device has shown its parameters. The signature checks choose a copy: the first tried that passes the checks, with its
identity shown; where none passes, FAULT with the code of the first tried. -/
def Obligations.StartChecks : Prop :=
  (∀ (s : State) (data : Nat), s.boot.stage = .checks → s.boot.kpErr = false → s.boot.kpWords.length < 20 →
     (s.boot.kpWords.length < 19 → ∃ t, exec (.keyPortAck data false) s = .next t ∧ t.boot.kpWords = s.boot.kpWords ++ [data % 2 ^ 32] ∧
       (∃ a b, Out.keyRequest a b ∈ t.out ∧ (s.boot.kpWords.length < 7 → a = 0 ∧ b = s.boot.kpWords.length + 1) ∧
         (7 ≤ s.boot.kpWords.length → a = 1 ∧ b = s.boot.kpWords.length - 7)) ∧ KeepsRegs msgFlds s t) ∧
     (s.boot.kpWords.length = 19 → ∃ t, exec (.keyPortAck data false) s = .next t ∧ t.flag .fjPortStatKpDone = true ∧
       t.arm.duk = (s.boot.kpWords.take 8).flatMap (natLe 4) ∧
       t.arm.keyHash = ((s.boot.kpWords ++ [data % 2 ^ 32]).drop 8).flatMap (natLe 4)) ∧
     (∀ c ∈ [Instr.keyPortAck data true, .keyPortTimeout],
       (s.boot.sfdp = [] → ∃ t, exec c s = .next t ∧ t.boot = { s.boot with kpErr := true } ∧ KeepsRegs msgFlds s t) ∧
       (s.boot.sfdp ≠ [] → sfdpOk s.boot.sfdp = true →
         ∃ t, exec c s = .next t ∧ t.eng = 6 ∧ t.get .fjStateFault = 2 ∧ t.get .fjBootInfoCode = 2 ∧
           Out.sideband (sbPacket s 4 0 2) ∈ t.out))) ∧
  (∀ (s : State) (k : Nat) (l : List Nat), s.boot.stage = .checks → s.boot.reading = 4 → copyOrder s = k :: l →
     (∀ c, copyCode s k = some c → (∀ n ∈ l, (copyCode s n).isSome = true) →
       ∃ t, exec .signatureVerifyDone s = .next t ∧ t.eng = 6 ∧ t.get .fjStateFault = c % 256 ∧ t.get .fjBootInfoCode = c % 256 ∧
         Out.sideband (sbPacket s 4 0 c) ∈ t.out ∧ t.nvm = []) ∧
     (let b := copyBytes s.boot.images k
      let rs := appliedRecords (s.get .fjPosInst) b
      copyCode s k = none → configBreach (s.configured rs) rs (fieldAt b 0x14 4) = none →
       ∃ t, exec .signatureVerifyDone s = .next t ∧ t.get .fjBootInfoCopy = k % 2 ∧ t.get .fjArmSeqSeq = imgSeq b % 2 ^ 32 ∧ t.arm.records = rs ∧
         t.arm.digest = sha384 b ∧ t.eng = s.eng))

/-- The NVM port: one operation at a time, in order. A device that does not pass is FAULT 1; a reservation read back right is durable; a
save goes on page by page, is read back, and ends in the halt, after one more attempt where it reads back wrong; an erased record slot is
ready for the next save. Firmware. The watchdog before the lock is FAULT 0x16; after it the engine goes on without firmware. Firmware
comes back from a copy that is whole, and otherwise stays away. -/
def Obligations.NvmAndFirmware : Prop :=
  ((∀ (s : State) (o : NvmOp) (data : Bytes) (l : List NvmOp), s.nvm = o :: l → o.kind = .read →
     (o.use = .sfdp → s.boot.stage = .checks → 0 < o.len → sfdpOk (sliceZ data 0 o.len) = false →
       ∃ t, exec (.nvmReadDone data) s = .next t ∧ t.eng = 6 ∧ t.get .fjStateFault = 1 ∧ t.nvm = []) ∧
     (∀ k h q, o.use = .reserve → data = lastEntry s → s.journal.copies = [] → s.journal.queue = (k, h) :: q →
       ∃ u : State, exec (.nvmReadDone data) s = .next (finishState s u.journalGo) ∧ (u.key k).hwm = max h (s.key k).hwm ∧
         (s.keyLoad = none → (u.key k).fails = 0 ∧ u.journal.queue = q) ∧ ∀ n, n ≠ k → (u.key n).hwm = (s.key n).hwm) ∧
     (∀ h, o.use = .save → s.holdup = some h →
       (sliceZ data 0 o.len = h.record ∨ h.retried = true → ∃ t, exec (.nvmReadDone data) s = .next t ∧ t.eng = 5 ∧ t.keys = [] ∧
         t.jobs = [] ∧ t.entries = [] ∧ t.nvm = [] ∧ t.holdup = some { h with halted := true }) ∧
       (sliceZ data 0 o.len ≠ h.record → h.retried = false → l = [] → h.record ≠ [] →
         ∃ t, exec (.nvmReadDone data) s = .next t ∧ t.holdup = some { h with retried := true, done := 0 } ∧
           Out.nvmProgram (plinthOff s + 0x10000 * h.slot) (slice h.record 0 256) ∈ t.out))) ∧
   (∀ (s : State) (o : NvmOp) (h : Holdup) (ok : Bool), s.nvm = [o] → o.kind = .program → o.use = .save → s.holdup = some h →
     let n := h.done + o.len
     ∃ t, exec (.nvmProgramDone ok) s = .next t ∧ t.holdup = some { h with done := n } ∧ KeepsRegs msgFlds s t ∧
       (n < h.record.length → Out.nvmProgram (plinthOff s + 0x10000 * h.slot + n) (slice h.record n 256) ∈ t.out) ∧
       (h.record.length ≤ n → Out.nvmRead (plinthOff s + 0x10000 * h.slot) h.record.length ∈ t.out)) ∧
   (∀ (s : State) (o : NvmOp) (k : Nat) (l : List NvmOp), s.nvm = o :: l → o.kind = .erase → o.use = .eraseRecord k →
     (∀ x ∈ l, x.use ≠ .eraseRecord k) →
     ∃ t, exec .nvmEraseDone s = .next t ∧ t.flag .pwrStatPlinthReady = true ∧ KeepsRegs (msgFlds ++ [.pwrStatPlinthReady]) s t ∧ t.nvm = l) ∧
   (∀ (s : State) (o : NvmOp), (s.nvmIssue o).nvm = s.nvm ++ [o] ∧ (s.nvm ≠ [] → (s.nvmIssue o).out = s.out) ∧
     (s.nvm = [] → (s.nvmIssue o).out = s.out ++ [nvmOut o]) ∧
     (∀ p l, s.nvm = p :: o :: l → s.nvmNext.nvm = o :: l ∧ s.nvmNext.out = s.out ++ [nvmOut o]))) ∧
  (∀ (s : State) (ofs : Nat) (sram nvm : Bool),
     (s.eng ≠ 6 → s.holdingUp = false → s.fwDown = false →
       (s.flag .fjStateLocked = false → ∃ t, exec (.watchdogExpiry ofs) s = .next t ∧ t.eng = 6 ∧ t.get .fjStateFault = 0x16 ∧
         t.guard.armed = false) ∧
       (s.flag .fjStateLocked = true → ∃ t, exec (.watchdogExpiry ofs) s = .next t ∧ t.fwDown = true ∧ t.flag .fjWdogFwDown = true ∧
         KeepsRegs (msgFlds ++ [.fjWdogFwDown]) s t ∧ t.eng = s.eng ∧ t.entries = s.entries ∧ t.jobs = s.jobs)) ∧
     (s.fwDown = true →
       (sram = false → nvm = false → ∃ t, exec (.firmwareBack sram nvm) s = .next t ∧ t.fwDown = true ∧ t.arm.fwGood = false ∧
         KeepsRegs msgFlds s t) ∧
       (sram = true ∨ nvm = true → ∃ t, exec (.firmwareBack sram nvm) s = .next t ∧ t.fwDown = false ∧ t.flag .fjWdogFwDown = false ∧
         t.get .fjWdogRestarts = satAdd 16 (s.get .fjWdogRestarts) 1 ∧ t.arm.fwNvmGood = nvm ∧ t.jobs = s.jobs ∧ t.keys = s.keys)))

/-- R188, R191: a sealed block's counter is the slot's next, below its high-water mark, and is used up by the draw; with none left the
slot seals no more. A key load ends with the record's slot and its result. -/
def Obligations.CountersAndKeys : Prop :=
  (∀ (s : State) (ctx k c : Nat) (t : State), s.replaying = false → s.drawNonce ctx k = .ok c t →
    c = (s.key k).ctr ∧ c < (s.key k).hwm ∧ c < 2 ^ 64 - 1 ∧ (t.key k).ctr = c + 1 ∧ (∀ n, n ≠ k → (t.key n).ctr = (s.key n).ctr) ∧
      s.flag .sealStatTableLost = false ∧ t.jobs = s.jobs) ∧
  (∀ (s : State) (ctx k : Nat), s.replaying = false → (s.key k).exhausted = true ∨ 2 ^ 64 - 1 ≤ (s.key k).ctr →
    ∃ t, s.drawNonce ctx k = .fail stSealExhausted t ∧ (t.key k).exhausted = true) ∧
  (∀ (s : State) (l : KeyLoad), s.keyLoad = some l → l.reserving = none → s.holdingUp = false → (l.armature = true → s.fwDown = false) →
    s.boot.stage ≠ .keys →
    (∀ slot cause, unwrapBlob s l.blob = .bad slot cause → ∃ t, exec .keyUnwrapDone s = .next t ∧ t.get .sealKeyResultState = 3 ∧
      t.get .sealKeyResultCause = cause % 8 ∧ t.get .sealKeyResultSlot = slot % 256 ∧ t.keys = s.keys ∧ t.keyLoad = none ∧
      t.flag .fjIrqDoneKey = true) ∧
    (∀ r, unwrapBlob s l.blob = .good r → reservedEnough s r = true → ∃ t, exec .keyUnwrapDone s = .next t ∧ t.get .sealKeyResultState = 2 ∧
      (t.key (fieldAt r 0x20 1)).key = some (sliceZ r 0 32) ∧ (t.key (fieldAt r 0x20 1)).ctx = fieldAt r 0x21 1 ∧
      (t.key (fieldAt r 0x20 1)).ctr = (s.key (fieldAt r 0x20 1)).ctr ∧ t.keyLoad = none ∧ t.flag .fjIrqDoneKey = true))

/-- R21: an offset inside a view that no register occupies reads as zero and ignores writes. -/
def Obligations.EmptyOffsets : Prop :=
  ∀ (s : State) (tenant : Bool) (ctx off value ofs : Nat) (data : Bytes), HostOpen s → HasView s ctx → (tenant = true ↔ ctx ≠ 0) →
    off % 4 = 0 → off < (if tenant then 0x10000 else 0x100000) → NoRegister s tenant off →
    s.viewWord ctx off = 0 ∧
    ∃ t, exec (.registerWrite tenant ctx off 4 value ofs data) s = .next t ∧ KeepsRegs hostFlds s t ∧ KeepsUnits s t

/-- R504, R502, R17, R21: where a host write does nothing: in RESET, OFF and hold-up; through a view that does not exist; of a size or
alignment that registers do not take; at an offset where none lies. R13, R14 on the fields of a register that no action watches: an RW
field takes the value, held to its range; a W1C field loses the bits written 1; any other is unchanged. Through FJ_IRQ_EN the mask takes
the value, from the privileged view alone. -/
def Obligations.RegisterAccess : Prop :=
  (∀ (s : State) (tenant : Bool) (ctx off size value ofs : Nat) (data : Bytes),
     (s.eng = 0 ∨ s.eng = 8 ∨ s.holdingUp = true ∨ (tenant = true ∧ ¬ (1 ≤ ctx ∧ ctx ≤ s.build.numVf)) →
       ∃ t, exec (.registerWrite tenant ctx off size value ofs data) s = .next t ∧ KeepsAll s t ∧ KeepsRegs msgFlds s t) ∧
     (HostOpen s → ¬ (size = 4 ∧ off % 4 = 0 ∨ size = 8 ∧ off % 8 = 0) →
       ∃ t, exec (.registerWrite tenant ctx off size value ofs data) s = .next t ∧ KeepsAll s t ∧ KeepsRegs msgFlds s t) ∧
     (HostOpen s → off < 0x10000 → off % 4 = 0 → findRow s off privMap = none →
       ∃ t, exec (.registerWrite false ctx off 4 value ofs data) s = .next t ∧ KeepsRegs hostFlds s t ∧ KeepsUnits s t)) ∧
  ((∀ (s : State) (off value ofs i : Nat) (r : MapRow) (data : Bytes), HostOpen s → off < 0x10000 → off % 4 = 0 →
     findRow s off privMap = some (r, i) → rowShut s r off i = false →
     off ∉ [0x0044, 0x0110, 0x0204, 0x1010, 0x2004, 0x3004, 0x3080, 0x4004, 0x5004, 0x5040, 0x6004, 0x8004, 0x9034, 0xA004, 0xA010, 0xB010, 0xC008,
       0xD008] → ¬ (0x5010 ≤ off ∧ off < 0x5040) → ¬ (0x8100 ≤ off ∧ off < 0x8200) →
     ∃ t, exec (.registerWrite false 0 off 4 value ofs data) s = .next t ∧ KeepsRegs (hostFlds ++ r.bits.map (fun b => b.fld)) s t ∧ KeepsUnits s t ∧
       ∀ b ∈ r.bits, b.fld ∉ hostFlds → (∀ c ∈ r.bits, c.fld = b.fld → c = b) →
         ((fldInfo b.fld).acc = .rw → b.sh = 0 → b.w = fldWidth b.fld →
           t.getI b.fld i = fieldRule s.build b.fld (s.getI b.fld i) (bitsOf (value % 2 ^ 32) b.lo b.w) % 2 ^ b.w) ∧
         ((fldInfo b.fld).acc = .w1c → b.sh = 0 → b.w = fldWidth b.fld →
           ∀ k, bitOf (t.getI b.fld i) k = (bitOf (s.getI b.fld i) k && !bitOf (bitsOf (value % 2 ^ 32) b.lo b.w) k)) ∧
         ((fldInfo b.fld).acc = .ro ∨ (fldInfo b.fld).acc = .rwl → t.getI b.fld i = s.getI b.fld i)) ∧
   (∀ (s : State) (value ofs : Nat), HostOpen s →
     (∃ t, exec (.irqEnWrite 0 value ofs) s = .next t ∧ t.get .fjIrqEnEn = value % 2 ^ 16 ∧ KeepsRegs (hostFlds ++ [.fjIrqEnEn]) s t ∧ KeepsUnits s t) ∧
     (∀ ctx, HasView s ctx → ctx ≠ 0 → ∃ t, exec (.irqEnWrite ctx value ofs) s = .next t ∧ KeepsRegs hostFlds s t ∧ KeepsUnits s t)))

/-- R14: once the configuration is locked, no host write changes a locked field, but for the role that ADOPT takes. -/
def Obligations.LockedFieldsStay : Prop :=
  ∀ (s : State) (tenant : Bool) (ctx off size value ofs : Nat) (data : Bytes), HostOpen s → off / 8 * 8 ∉ [0x0040, 0x0110, 0x3000] →
    ∃ t, exec (.registerWrite tenant ctx off size value ofs data) s = .next t ∧
      ∀ f i, (fldInfo f).acc = .rwl → f ∉ hostFlds → t.getI f i = s.getI f i

/-- R501: a write through a tenant's view changes no setting, and nothing of another context beyond what its signals release. -/
def Obligations.TenantsAreKeptApart : Prop :=
  ∀ (s : State) (ctx off size value ofs : Nat) (data : Bytes), HostOpen s →
    ∃ t, exec (.registerWrite true ctx off size value ofs data) s = .next t ∧ t.keys = s.keys ∧ t.qps = s.qps ∧ t.guard = s.guard ∧
      t.tables = s.tables ∧ t.store = s.store ∧ t.jobs = s.jobs ∧ t.ckpt = s.ckpt ∧
      ∀ f i, f ∉ hostFlds ++ entryFlds ++ [.syncSignalsCount] → cellCtx ⟨f, i, 0⟩ ≠ some ctx → t.getI f i = s.getI f i

/-- IJTAG. IDCODE and BYPASS always answer; everything else only with DBG_EN high. The SRAM test runs only in RESET and FAULT; a
patrol in ACTIVE goes to the patrol's queue, and answers at once elsewhere; a retirement fails its unit; a read answers with the bytes of the
privileged view. The log's header goes out again each 1,024 ticks. In replay the next record of the session is taken at its stamp, and
acts: a boundary's edge moves it, or counts as missing. -/
def Obligations.DebugAndReplay : Prop :=
  (∀ (s : State) (bank cls phys off size : Nat) (good : Bool),
     (∃ t, exec (.ijtagAccess .idcode) s = .next t ∧ Out.tdo (natLe 4 (idcode s)) ∈ t.out ∧ KeepsAll s t ∧ KeepsRegs msgFlds s t) ∧
     (∀ n, ∃ t, exec (.ijtagAccess (.bypass bank n)) s = .next t ∧ Out.tdo (natLe (ceilDiv n 8) (bank * 2 % 2 ^ n)) ∈ t.out ∧ KeepsAll s t) ∧
     (s.pins.dbgEn = false → ∀ op ∈ [IjtagOp.bist bank good, .patrol cls phys good, .retire cls phys, .read off size],
       ∃ t, exec (.ijtagAccess op) s = .next t ∧ KeepsAll s t ∧ KeepsRegs msgFlds s t) ∧
     (s.pins.dbgEn = true → s.eng ≠ 0 → s.eng ≠ 6 → ∃ t, exec (.ijtagAccess (.bist bank good)) s = .next t ∧ Out.tdo [2] ∈ t.out ∧ KeepsAll s t) ∧
     (s.pins.dbgEn = true → s.eng = 0 ∨ s.eng = 6 → ∃ t, exec (.ijtagAccess (.bist bank good)) s = .next t ∧ t.ijtag = true ∧ t.store = [] ∧
       t.cache = [] ∧ t.tables = [] ∧ t.slots = [] ∧ t.keys = s.keys ∧ KeepsRegs msgFlds s t) ∧
     (s.pins.dbgEn = true → s.eng = 2 → ∃ t, exec (.ijtagAccess (.patrol cls phys good)) s = .next t ∧ t.ijtag = true ∧
       t.patina.urgent = s.patina.urgent ++ [(cls % 8, phys)] ∧ KeepsRegs msgFlds s t ∧ t.entries = s.entries) ∧
     (s.pins.dbgEn = true → s.eng ≠ 2 → ∃ t, exec (.ijtagAccess (.patrol cls phys good)) s = .next t ∧ t.ijtag = true ∧
       Out.tdo (natLe 4 (phys + b2n good * 2 ^ 31)) ∈ t.out ∧ t.patina = s.patina ∧ KeepsRegs msgFlds s t) ∧
     (s.pins.dbgEn = true → ∃ t, exec (.ijtagAccess (.read off size)) s = .next t ∧
       Out.tdo (natLe (min size 8) (s.regRead 64 off size).1) ∈ t.out ∧ KeepsRegs msgFlds s t ∧ KeepsAll { s with latch := t.latch } t) ∧
     (s.pins.dbgEn = true → phys < physCount s (cls % 8) → (s.unit (cls % 8) phys).failed = false →
       ¬ (builtCount s (cls % 8) ≤ phys ∧ (s.unit (cls % 8) phys).logical.isSome = true) →
       ∃ t, exec (.ijtagAccess (.retire cls phys)) s = .next t ∧ (t.unit (cls % 8) phys).failed = true)) ∧
  ((∀ s : State, s.recording = true → s.now % 1024 = 0 → s.holdingUp = false →
     ∃ t, exec .yeljoHeaderRewrite s = .next t ∧ KeepsRegs msgFlds s t ∧ t.yeljo = s.yeljo ∧ t.entries = s.entries ∧ t.jobs = s.jobs ∧ t.xfers.length + t.pendWr.length =
         s.xfers.length + s.pendWr.length + (beatsOf (s.get .yljBaseBase) (yljHeader s false)).length) ∧
   (∀ (s : State) (rec data : Bytes), recordDue s rec = true →
     let typ := fieldAt rec 6 1 % 32
     let a := fieldAt rec 8 8
     ∃ u : State, exec (.replayInput rec data) s = .next (finishState s ((if u.awake then u.goOn else u).replayDone)) ∧
       (typ = 1 ∧ bitOf a 37 = false ∨ typ = 7 ∨ typ = 16 → u.yeljo.pos = s.yeljo.pos + 1 ∧ u.regs = s.regs ∧ u.entries = s.entries ∧ u.jobs = s.jobs) ∧
       (typ = 1 → bitOf a 37 = true → u.tick.edge = .outside ∧ u.get .tickStatMissed = satAdd 16 (s.get .tickStatMissed) 1 ∧
         u.flag .tickStatTickFault = true ∧ u.yeljo.pos = s.yeljo.pos + 1 ∧ u.entries = s.entries ∧ u.jobs = s.jobs) ∧
       (typ = 1 → bitOf a 37 = false → u.tick.edge = .inWindow (signed5 (a / 2 ^ 32))) ∧ (typ = 7 → u.tick.replayClock = some (a % 4)) ∧
       (typ = 16 → u.yeljo.stopped = true) ∧
       (typ = 8 → a % 16 = 6 → u.get .fjCkptWarnsCount = satAdd 32 (s.get .fjCkptWarnsCount) 1)))
end

