-- ==== Sys2Proof/Laws/Regs.lean ====
section
/-! SUPPORT. Laws of the register file: order of cells, reads after writes, the canonical form. -/
namespace Sys2Proof.Machine

theorem Fld.ctorIdx_inj {a b : Fld} (h : a.ctorIdx = b.ctorIdx) : a = b := by
  rw [← Fld.ofNat_ctorIdx a, ← Fld.ofNat_ctorIdx b, h]

/-! ### The order of cells -/

theorem cellSame_iff (a b : Cell) : cellSame a b = true ↔ a.fld = b.fld ∧ a.idx = b.idx := by simp [cellSame]

theorem cellLt_iff (a b : Cell) :
    cellLt a b = true ↔ a.fld.ctorIdx < b.fld.ctorIdx ∨ (a.fld.ctorIdx = b.fld.ctorIdx ∧ a.idx < b.idx) := by
  simp [cellLt]

theorem cellLt_trans {a b c : Cell} (h : cellLt a b = true) (k : cellLt b c = true) : cellLt a c = true := by
  rw [cellLt_iff] at *; omega

theorem cellLt_not_same {a b : Cell} (h : cellLt a b = true) : cellSame a b = false := by
  rw [cellLt_iff] at h
  by_contra hc
  simp only [Bool.not_eq_false, cellSame_iff] at hc
  rw [hc.1, hc.2] at h
  omega

theorem cellLt_of_not {a b : Cell} (h : cellSame a b = false) (k : cellLt a b = false) : cellLt b a = true := by
  rw [cellLt_iff]
  rw [← Bool.not_eq_true, cellLt_iff] at k
  rw [← Bool.not_eq_true, cellSame_iff] at h
  by_cases e : a.fld.ctorIdx = b.fld.ctorIdx
  · have hi : a.idx ≠ b.idx := fun hi => h ⟨Fld.ctorIdx_inj e, hi⟩
    omega
  · omega

/-! ### `putCell` keeps the canonical form -/

theorem mem_putCell {b : Build} {c d : Cell} {l : List Cell} (h : d ∈ putCell b c l) : (d = c ∧ cellIdle b c = false) ∨ d ∈ l := by
  induction l with
  | nil => simp only [putCell] at h; split at h <;> simp_all
  | cons e t ih =>
    simp only [putCell] at h
    split at h
    · split at h <;> simp_all; tauto
    · split at h
      · split at h <;> simp_all
      · rcases List.mem_cons.mp h with rfl | h
        · exact .inr (by simp)
        · rcases ih h with h | h
          · exact .inl h
          · exact .inr (List.mem_cons_of_mem _ h)

theorem sorted_putCell {b : Build} {c : Cell} {l : List Cell} (h : l.Pairwise (fun c d => cellLt c d = true)) :
    (putCell b c l).Pairwise (fun c d => cellLt c d = true) := by
  induction l with
  | nil => simp only [putCell]; split <;> simp
  | cons e t ih =>
    have ht := (List.pairwise_cons.mp h).2
    have he := (List.pairwise_cons.mp h).1
    simp only [putCell]
    split
    · rename_i hs
      split
      · exact ht
      · refine List.pairwise_cons.mpr ⟨fun d hd => ?_, ht⟩
        have := he d hd
        rw [cellLt_iff] at this ⊢
        rw [cellSame_iff] at hs
        rwa [hs.1, hs.2]
    · split
      · rename_i hl
        split
        · exact h
        · refine List.pairwise_cons.mpr ⟨fun d hd => ?_, h⟩
          rcases List.mem_cons.mp hd with rfl | hd
          · exact hl
          · exact cellLt_trans hl (he d hd)
      · rename_i hs hl
        refine List.pairwise_cons.mpr ⟨fun d hd => ?_, ih ht⟩
        rcases mem_putCell hd with ⟨rfl, _⟩ | hd
        · exact cellLt_of_not (by simpa using hs) (by simpa using hl)
        · exact he d hd

theorem canonRegs_cons (b : Build) (c : Cell) (l : List Cell) :
    canonRegs b (c :: l) = putCell b { c with val := c.val % 2 ^ fldWidth c.fld } (canonRegs b l) := rfl

/-- `canonRegs` brings any register file to its canonical form. -/
theorem canonRegs_canonical (b : Build) (l : List Cell) : Safety.CanonicalRegs b (canonRegs b l) := by
  induction l with
  | nil => simp [canonRegs, Safety.CanonicalRegs]
  | cons c t ih =>
    rw [canonRegs_cons]
    refine ⟨sorted_putCell ih.1, fun d hd => ?_⟩
    rcases mem_putCell hd with ⟨rfl, hi⟩ | hd
    · exact ⟨Nat.mod_lt _ (by positivity), hi⟩
    · exact ih.2 d hd

/-! ### Reads -/

/-- A register's value in a register file. -/
def readCell (b : Build) (l : List Cell) (f : Fld) (i : Nat) : Nat :=
  match findCell f i l with
  | some v => v % 2 ^ fldWidth f
  | none => fldReset b f i

theorem getI_eq (s : State) (f : Fld) (i : Nat) : s.getI f i = readCell s.build s.regs f i := rfl

theorem findCell_absent {f : Fld} {i : Nat} {c : Cell} {l : List Cell} (hc : c.fld = f ∧ c.idx = i)
    (h : ∀ d ∈ l, cellLt c d = true) : findCell f i l = none := by
  induction l with
  | nil => rfl
  | cons e t ih =>
    have he := cellLt_not_same (h e (by simp))
    rw [← Bool.not_eq_true, cellSame_iff] at he
    have : (e.fld == f && e.idx == i) = false := by
      rw [← Bool.not_eq_true]
      simp only [Bool.and_eq_true, beq_iff_eq]
      rintro ⟨rfl, rfl⟩
      exact he hc
    simp only [findCell, this]
    exact ih (fun d hd => h d (by simp [hd]))

theorem findCell_putCell {b : Build} {c : Cell} {l : List Cell} (f : Fld) (i : Nat)
    (h : l.Pairwise (fun c d => cellLt c d = true)) :
    findCell f i (putCell b c l) =
      if c.fld = f ∧ c.idx = i then (if cellIdle b c then none else some c.val) else findCell f i l := by
  induction l with
  | nil =>
    simp only [putCell]
    by_cases hi : cellIdle b c <;> simp [hi, findCell]
  | cons e t ih =>
    have ht := (List.pairwise_cons.mp h).2
    have he := (List.pairwise_cons.mp h).1
    simp only [putCell]
    split
    · rename_i hs
      rw [cellSame_iff] at hs
      by_cases hc : c.fld = f ∧ c.idx = i
      · have habs : findCell f i t = none := findCell_absent (c := c) hc (fun d hd => by
          have := he d hd
          rw [cellLt_iff] at this ⊢
          rwa [hs.1, hs.2])
        split <;> simp_all [findCell]
      · have hn : (e.fld == f && e.idx == i) = false := by
          rw [← Bool.not_eq_true]; simp only [Bool.and_eq_true, beq_iff_eq]; rw [← hs.1, ← hs.2]; exact hc
        have hm : (c.fld == f && c.idx == i) = false := by
          rw [← Bool.not_eq_true]; simp only [Bool.and_eq_true, beq_iff_eq]; exact hc
        rw [if_neg hc]
        split <;> simp [findCell, hn, hm]
    · split
      · rename_i hl
        by_cases hc : c.fld = f ∧ c.idx = i
        · have habs : findCell f i (e :: t) = none := findCell_absent (c := c) hc (fun d hd => by
            rcases List.mem_cons.mp hd with rfl | hd
            · exact hl
            · exact cellLt_trans hl (he d hd))
          rw [if_pos hc]
          split
          · exact habs
          · simp [findCell, hc.1, hc.2]
        · have hm : (c.fld == f && c.idx == i) = false := by
            rw [← Bool.not_eq_true]; simp only [Bool.and_eq_true, beq_iff_eq]; exact hc
          rw [if_neg hc]
          split
          · rfl
          · rw [findCell]; simp [hm]
      · rename_i hs _
        by_cases hc : c.fld = f ∧ c.idx = i
        · have hn : (e.fld == f && e.idx == i) = false := by
            rw [← Bool.not_eq_true]; simp only [Bool.and_eq_true, beq_iff_eq]
            rintro ⟨h1, h2⟩
            apply hs
            rw [cellSame_iff, hc.1, hc.2, h1, h2]; simp
          rw [findCell, hn]
          simpa [hc] using ih ht
        · rw [findCell]
          conv_rhs => rw [findCell]
          simp only [ih ht, if_neg hc]

/-- The canonical form reads as the register file it comes from. -/
theorem readCell_canonRegs (b : Build) (l : List Cell) (f : Fld) (i : Nat) : readCell b (canonRegs b l) f i = readCell b l f i := by
  induction l with
  | nil => rfl
  | cons c t ih =>
    rw [canonRegs_cons]
    simp only [readCell] at ih ⊢
    rw [findCell_putCell f i (canonRegs_canonical b t).1]
    by_cases hc : c.fld = f ∧ c.idx = i
    · obtain ⟨rfl, rfl⟩ := hc
      by_cases hi : c.val % 2 ^ fldWidth c.fld = fldReset b c.fld c.idx <;> simp [findCell, cellIdle, hi]
    · have hm : (c.fld == f && c.idx == i) = false := by
        rw [← Bool.not_eq_true]; simp only [Bool.and_eq_true, beq_iff_eq]; exact hc
      simp only [findCell, hm, if_neg hc]
      exact ih

/-! ### Reads after writes -/

@[simp] theorem getI_setI_same (s : State) (f : Fld) (i v : Nat) : (s.setI f i v).getI f i = v % 2 ^ fldWidth f := by
  simp [State.getI, State.setI, findCell]

theorem getI_setI_other (s : State) {f g : Fld} {i j : Nat} (v : Nat) (h : ¬ (f = g ∧ i = j)) : (s.setI f i v).getI g j = s.getI g j := by
  have : (f == g && i == j) = false := by rw [← Bool.not_eq_true]; simp only [Bool.and_eq_true, beq_iff_eq]; exact h
  simp only [State.getI, State.setI, findCell, this]
  rfl

/-- A register after a write: the value at its own place, else as it was. -/
theorem getI_setI (s : State) (f g : Fld) (i j v : Nat) :
    (s.setI f i v).getI g j = if f = g ∧ i = j then v % 2 ^ fldWidth f else s.getI g j := by
  by_cases h : f = g ∧ i = j
  · obtain ⟨rfl, rfl⟩ := h
    simp
  · rw [if_neg h, getI_setI_other s v h]

theorem get_set (s : State) (f g : Fld) (v : Nat) : (s.set f v).get g = if f = g then v % 2 ^ fldWidth f else s.get g := by
  simp [State.get, State.set, getI_setI]

theorem getI_set (s : State) (f g : Fld) (j v : Nat) :
    (s.set f v).getI g j = if f = g ∧ 0 = j then v % 2 ^ fldWidth f else s.getI g j := by
  rw [State.set, getI_setI]

theorem getI_bumpI (s : State) (f g : Fld) (i j n : Nat) :
    (s.bumpI f i n).getI g j = if f = g ∧ i = j then satAdd (fldWidth f) (s.getI f i) n % 2 ^ fldWidth f else s.getI g j := by
  rw [State.bumpI, getI_setI]

end Sys2Proof.Machine
end

