-- ==== Sys2Proof/Laws/State.lean ====
section
/-! SUPPORT. Each field of the state after each of the plain updates: as it was, but for the one that the update writes. -/
namespace Sys2Proof.Machine.State

/-! ### `setI` -/

@[simp] theorem setI_latch (s : State) (f : Fld) (i v : Nat) : (s.setI f i v).latch = s.latch := rfl
@[simp] theorem setI_build (s : State) (f : Fld) (i v : Nat) : (s.setI f i v).build = s.build := rfl
@[simp] theorem setI_pins (s : State) (f : Fld) (i v : Nat) : (s.setI f i v).pins = s.pins := rfl
@[simp] theorem setI_eng (s : State) (f : Fld) (i v : Nat) : (s.setI f i v).eng = s.eng := rfl
@[simp] theorem setI_waking (s : State) (f : Fld) (i v : Nat) : (s.setI f i v).waking = s.waking := rfl
@[simp] theorem setI_boot (s : State) (f : Fld) (i v : Nat) : (s.setI f i v).boot = s.boot := rfl
@[simp] theorem setI_arm (s : State) (f : Fld) (i v : Nat) : (s.setI f i v).arm = s.arm := rfl
@[simp] theorem setI_armUpd (s : State) (f : Fld) (i v : Nat) : (s.setI f i v).armUpd = s.armUpd := rfl
@[simp] theorem setI_tick (s : State) (f : Fld) (i v : Nat) : (s.setI f i v).tick = s.tick := rfl
@[simp] theorem setI_groups (s : State) (f : Fld) (i v : Nat) : (s.setI f i v).groups = s.groups := rfl
@[simp] theorem setI_rings (s : State) (f : Fld) (i v : Nat) : (s.setI f i v).rings = s.rings := rfl
@[simp] theorem setI_entries (s : State) (f : Fld) (i v : Nat) : (s.setI f i v).entries = s.entries := rfl
@[simp] theorem setI_jobs (s : State) (f : Fld) (i v : Nat) : (s.setI f i v).jobs = s.jobs := rfl
@[simp] theorem setI_saved (s : State) (f : Fld) (i v : Nat) : (s.setI f i v).saved = s.saved := rfl
@[simp] theorem setI_parked (s : State) (f : Fld) (i v : Nat) : (s.setI f i v).parked = s.parked := rfl
@[simp] theorem setI_yielded (s : State) (f : Fld) (i v : Nat) : (s.setI f i v).yielded = s.yielded := rfl
@[simp] theorem setI_guard (s : State) (f : Fld) (i v : Nat) : (s.setI f i v).guard = s.guard := rfl
@[simp] theorem setI_halfA (s : State) (f : Fld) (i v : Nat) : (s.setI f i v).halfA = s.halfA := rfl
@[simp] theorem setI_halfB (s : State) (f : Fld) (i v : Nat) : (s.setI f i v).halfB = s.halfB := rfl
@[simp] theorem setI_fillA (s : State) (f : Fld) (i v : Nat) : (s.setI f i v).fillA = s.fillA := rfl
@[simp] theorem setI_xfers (s : State) (f : Fld) (i v : Nat) : (s.setI f i v).xfers = s.xfers := rfl
@[simp] theorem setI_pendWr (s : State) (f : Fld) (i v : Nat) : (s.setI f i v).pendWr = s.pendWr := rfl
@[simp] theorem setI_pendOps (s : State) (f : Fld) (i v : Nat) : (s.setI f i v).pendOps = s.pendOps := rfl
@[simp] theorem setI_pendHost (s : State) (f : Fld) (i v : Nat) : (s.setI f i v).pendHost = s.pendHost := rfl
@[simp] theorem setI_atsInv (s : State) (f : Fld) (i v : Nat) : (s.setI f i v).atsInv = s.atsInv := rfl
@[simp] theorem setI_cache (s : State) (f : Fld) (i v : Nat) : (s.setI f i v).cache = s.cache := rfl
@[simp] theorem setI_slots (s : State) (f : Fld) (i v : Nat) : (s.setI f i v).slots = s.slots := rfl
@[simp] theorem setI_store (s : State) (f : Fld) (i v : Nat) : (s.setI f i v).store = s.store := rfl
@[simp] theorem setI_keys (s : State) (f : Fld) (i v : Nat) : (s.setI f i v).keys = s.keys := rfl
@[simp] theorem setI_keyLoad (s : State) (f : Fld) (i v : Nat) : (s.setI f i v).keyLoad = s.keyLoad := rfl
@[simp] theorem setI_pipes (s : State) (f : Fld) (i v : Nat) : (s.setI f i v).pipes = s.pipes := rfl
@[simp] theorem setI_sealPipes (s : State) (f : Fld) (i v : Nat) : (s.setI f i v).sealPipes = s.sealPipes := rfl
@[simp] theorem setI_prints (s : State) (f : Fld) (i v : Nat) : (s.setI f i v).prints = s.prints := rfl
@[simp] theorem setI_printing (s : State) (f : Fld) (i v : Nat) : (s.setI f i v).printing = s.printing := rfl
@[simp] theorem setI_handles (s : State) (f : Fld) (i v : Nat) : (s.setI f i v).handles = s.handles := rfl
@[simp] theorem setI_tables (s : State) (f : Fld) (i v : Nat) : (s.setI f i v).tables = s.tables := rfl
@[simp] theorem setI_vlPending (s : State) (f : Fld) (i v : Nat) : (s.setI f i v).vlPending = s.vlPending := rfl
@[simp] theorem setI_ckpt (s : State) (f : Fld) (i v : Nat) : (s.setI f i v).ckpt = s.ckpt := rfl
@[simp] theorem setI_qps (s : State) (f : Fld) (i v : Nat) : (s.setI f i v).qps = s.qps := rfl
@[simp] theorem setI_tgts (s : State) (f : Fld) (i v : Nat) : (s.setI f i v).tgts = s.tgts := rfl
@[simp] theorem setI_words (s : State) (f : Fld) (i v : Nat) : (s.setI f i v).words = s.words := rfl
@[simp] theorem setI_waiters (s : State) (f : Fld) (i v : Nat) : (s.setI f i v).waiters = s.waiters := rfl
@[simp] theorem setI_nvm (s : State) (f : Fld) (i v : Nat) : (s.setI f i v).nvm = s.nvm := rfl
@[simp] theorem setI_journal (s : State) (f : Fld) (i v : Nat) : (s.setI f i v).journal = s.journal := rfl
@[simp] theorem setI_holdup (s : State) (f : Fld) (i v : Nat) : (s.setI f i v).holdup = s.holdup := rfl
@[simp] theorem setI_patina (s : State) (f : Fld) (i v : Nat) : (s.setI f i v).patina = s.patina := rfl
@[simp] theorem setI_plinth (s : State) (f : Fld) (i v : Nat) : (s.setI f i v).plinth = s.plinth := rfl
@[simp] theorem setI_yeljo (s : State) (f : Fld) (i v : Nat) : (s.setI f i v).yeljo = s.yeljo := rfl
@[simp] theorem setI_ijtag (s : State) (f : Fld) (i v : Nat) : (s.setI f i v).ijtag = s.ijtag := rfl
@[simp] theorem setI_fwDown (s : State) (f : Fld) (i v : Nat) : (s.setI f i v).fwDown = s.fwDown := rfl
@[simp] theorem setI_hcqWait (s : State) (f : Fld) (i v : Nat) : (s.setI f i v).hcqWait = s.hcqWait := rfl
@[simp] theorem setI_tag (s : State) (f : Fld) (i v : Nat) : (s.setI f i v).tag = s.tag := rfl
@[simp] theorem setI_uid (s : State) (f : Fld) (i v : Nat) : (s.setI f i v).uid = s.uid := rfl
@[simp] theorem setI_freeCtr (s : State) (f : Fld) (i v : Nat) : (s.setI f i v).freeCtr = s.freeCtr := rfl
@[simp] theorem setI_out (s : State) (f : Fld) (i v : Nat) : (s.setI f i v).out = s.out := rfl
@[simp] theorem setI_pending (s : State) (f : Fld) (i v : Nat) : (s.setI f i v).pending = s.pending := rfl

/-! ### `set` -/

@[simp] theorem set_latch (s : State) (f : Fld) (v : Nat) : (s.set f v).latch = s.latch := rfl
@[simp] theorem set_build (s : State) (f : Fld) (v : Nat) : (s.set f v).build = s.build := rfl
@[simp] theorem set_pins (s : State) (f : Fld) (v : Nat) : (s.set f v).pins = s.pins := rfl
@[simp] theorem set_eng (s : State) (f : Fld) (v : Nat) : (s.set f v).eng = s.eng := rfl
@[simp] theorem set_waking (s : State) (f : Fld) (v : Nat) : (s.set f v).waking = s.waking := rfl
@[simp] theorem set_boot (s : State) (f : Fld) (v : Nat) : (s.set f v).boot = s.boot := rfl
@[simp] theorem set_arm (s : State) (f : Fld) (v : Nat) : (s.set f v).arm = s.arm := rfl
@[simp] theorem set_armUpd (s : State) (f : Fld) (v : Nat) : (s.set f v).armUpd = s.armUpd := rfl
@[simp] theorem set_tick (s : State) (f : Fld) (v : Nat) : (s.set f v).tick = s.tick := rfl
@[simp] theorem set_groups (s : State) (f : Fld) (v : Nat) : (s.set f v).groups = s.groups := rfl
@[simp] theorem set_rings (s : State) (f : Fld) (v : Nat) : (s.set f v).rings = s.rings := rfl
@[simp] theorem set_entries (s : State) (f : Fld) (v : Nat) : (s.set f v).entries = s.entries := rfl
@[simp] theorem set_jobs (s : State) (f : Fld) (v : Nat) : (s.set f v).jobs = s.jobs := rfl
@[simp] theorem set_saved (s : State) (f : Fld) (v : Nat) : (s.set f v).saved = s.saved := rfl
@[simp] theorem set_parked (s : State) (f : Fld) (v : Nat) : (s.set f v).parked = s.parked := rfl
@[simp] theorem set_yielded (s : State) (f : Fld) (v : Nat) : (s.set f v).yielded = s.yielded := rfl
@[simp] theorem set_guard (s : State) (f : Fld) (v : Nat) : (s.set f v).guard = s.guard := rfl
@[simp] theorem set_halfA (s : State) (f : Fld) (v : Nat) : (s.set f v).halfA = s.halfA := rfl
@[simp] theorem set_halfB (s : State) (f : Fld) (v : Nat) : (s.set f v).halfB = s.halfB := rfl
@[simp] theorem set_fillA (s : State) (f : Fld) (v : Nat) : (s.set f v).fillA = s.fillA := rfl
@[simp] theorem set_xfers (s : State) (f : Fld) (v : Nat) : (s.set f v).xfers = s.xfers := rfl
@[simp] theorem set_pendWr (s : State) (f : Fld) (v : Nat) : (s.set f v).pendWr = s.pendWr := rfl
@[simp] theorem set_pendOps (s : State) (f : Fld) (v : Nat) : (s.set f v).pendOps = s.pendOps := rfl
@[simp] theorem set_pendHost (s : State) (f : Fld) (v : Nat) : (s.set f v).pendHost = s.pendHost := rfl
@[simp] theorem set_atsInv (s : State) (f : Fld) (v : Nat) : (s.set f v).atsInv = s.atsInv := rfl
@[simp] theorem set_cache (s : State) (f : Fld) (v : Nat) : (s.set f v).cache = s.cache := rfl
@[simp] theorem set_slots (s : State) (f : Fld) (v : Nat) : (s.set f v).slots = s.slots := rfl
@[simp] theorem set_store (s : State) (f : Fld) (v : Nat) : (s.set f v).store = s.store := rfl
@[simp] theorem set_keys (s : State) (f : Fld) (v : Nat) : (s.set f v).keys = s.keys := rfl
@[simp] theorem set_keyLoad (s : State) (f : Fld) (v : Nat) : (s.set f v).keyLoad = s.keyLoad := rfl
@[simp] theorem set_pipes (s : State) (f : Fld) (v : Nat) : (s.set f v).pipes = s.pipes := rfl
@[simp] theorem set_sealPipes (s : State) (f : Fld) (v : Nat) : (s.set f v).sealPipes = s.sealPipes := rfl
@[simp] theorem set_prints (s : State) (f : Fld) (v : Nat) : (s.set f v).prints = s.prints := rfl
@[simp] theorem set_printing (s : State) (f : Fld) (v : Nat) : (s.set f v).printing = s.printing := rfl
@[simp] theorem set_handles (s : State) (f : Fld) (v : Nat) : (s.set f v).handles = s.handles := rfl
@[simp] theorem set_tables (s : State) (f : Fld) (v : Nat) : (s.set f v).tables = s.tables := rfl
@[simp] theorem set_vlPending (s : State) (f : Fld) (v : Nat) : (s.set f v).vlPending = s.vlPending := rfl
@[simp] theorem set_ckpt (s : State) (f : Fld) (v : Nat) : (s.set f v).ckpt = s.ckpt := rfl
@[simp] theorem set_qps (s : State) (f : Fld) (v : Nat) : (s.set f v).qps = s.qps := rfl
@[simp] theorem set_tgts (s : State) (f : Fld) (v : Nat) : (s.set f v).tgts = s.tgts := rfl
@[simp] theorem set_words (s : State) (f : Fld) (v : Nat) : (s.set f v).words = s.words := rfl
@[simp] theorem set_waiters (s : State) (f : Fld) (v : Nat) : (s.set f v).waiters = s.waiters := rfl
@[simp] theorem set_nvm (s : State) (f : Fld) (v : Nat) : (s.set f v).nvm = s.nvm := rfl
@[simp] theorem set_journal (s : State) (f : Fld) (v : Nat) : (s.set f v).journal = s.journal := rfl
@[simp] theorem set_holdup (s : State) (f : Fld) (v : Nat) : (s.set f v).holdup = s.holdup := rfl
@[simp] theorem set_patina (s : State) (f : Fld) (v : Nat) : (s.set f v).patina = s.patina := rfl
@[simp] theorem set_plinth (s : State) (f : Fld) (v : Nat) : (s.set f v).plinth = s.plinth := rfl
@[simp] theorem set_yeljo (s : State) (f : Fld) (v : Nat) : (s.set f v).yeljo = s.yeljo := rfl
@[simp] theorem set_ijtag (s : State) (f : Fld) (v : Nat) : (s.set f v).ijtag = s.ijtag := rfl
@[simp] theorem set_fwDown (s : State) (f : Fld) (v : Nat) : (s.set f v).fwDown = s.fwDown := rfl
@[simp] theorem set_hcqWait (s : State) (f : Fld) (v : Nat) : (s.set f v).hcqWait = s.hcqWait := rfl
@[simp] theorem set_tag (s : State) (f : Fld) (v : Nat) : (s.set f v).tag = s.tag := rfl
@[simp] theorem set_uid (s : State) (f : Fld) (v : Nat) : (s.set f v).uid = s.uid := rfl
@[simp] theorem set_freeCtr (s : State) (f : Fld) (v : Nat) : (s.set f v).freeCtr = s.freeCtr := rfl
@[simp] theorem set_out (s : State) (f : Fld) (v : Nat) : (s.set f v).out = s.out := rfl
@[simp] theorem set_pending (s : State) (f : Fld) (v : Nat) : (s.set f v).pending = s.pending := rfl

/-! ### `up` -/

@[simp] theorem up_latch (s : State) (f : Fld) : (s.up f).latch = s.latch := rfl
@[simp] theorem up_build (s : State) (f : Fld) : (s.up f).build = s.build := rfl
@[simp] theorem up_pins (s : State) (f : Fld) : (s.up f).pins = s.pins := rfl
@[simp] theorem up_eng (s : State) (f : Fld) : (s.up f).eng = s.eng := rfl
@[simp] theorem up_waking (s : State) (f : Fld) : (s.up f).waking = s.waking := rfl
@[simp] theorem up_boot (s : State) (f : Fld) : (s.up f).boot = s.boot := rfl
@[simp] theorem up_arm (s : State) (f : Fld) : (s.up f).arm = s.arm := rfl
@[simp] theorem up_armUpd (s : State) (f : Fld) : (s.up f).armUpd = s.armUpd := rfl
@[simp] theorem up_tick (s : State) (f : Fld) : (s.up f).tick = s.tick := rfl
@[simp] theorem up_groups (s : State) (f : Fld) : (s.up f).groups = s.groups := rfl
@[simp] theorem up_rings (s : State) (f : Fld) : (s.up f).rings = s.rings := rfl
@[simp] theorem up_entries (s : State) (f : Fld) : (s.up f).entries = s.entries := rfl
@[simp] theorem up_jobs (s : State) (f : Fld) : (s.up f).jobs = s.jobs := rfl
@[simp] theorem up_saved (s : State) (f : Fld) : (s.up f).saved = s.saved := rfl
@[simp] theorem up_parked (s : State) (f : Fld) : (s.up f).parked = s.parked := rfl
@[simp] theorem up_yielded (s : State) (f : Fld) : (s.up f).yielded = s.yielded := rfl
@[simp] theorem up_guard (s : State) (f : Fld) : (s.up f).guard = s.guard := rfl
@[simp] theorem up_halfA (s : State) (f : Fld) : (s.up f).halfA = s.halfA := rfl
@[simp] theorem up_halfB (s : State) (f : Fld) : (s.up f).halfB = s.halfB := rfl
@[simp] theorem up_fillA (s : State) (f : Fld) : (s.up f).fillA = s.fillA := rfl
@[simp] theorem up_xfers (s : State) (f : Fld) : (s.up f).xfers = s.xfers := rfl
@[simp] theorem up_pendWr (s : State) (f : Fld) : (s.up f).pendWr = s.pendWr := rfl
@[simp] theorem up_pendOps (s : State) (f : Fld) : (s.up f).pendOps = s.pendOps := rfl
@[simp] theorem up_pendHost (s : State) (f : Fld) : (s.up f).pendHost = s.pendHost := rfl
@[simp] theorem up_atsInv (s : State) (f : Fld) : (s.up f).atsInv = s.atsInv := rfl
@[simp] theorem up_cache (s : State) (f : Fld) : (s.up f).cache = s.cache := rfl
@[simp] theorem up_slots (s : State) (f : Fld) : (s.up f).slots = s.slots := rfl
@[simp] theorem up_store (s : State) (f : Fld) : (s.up f).store = s.store := rfl
@[simp] theorem up_keys (s : State) (f : Fld) : (s.up f).keys = s.keys := rfl
@[simp] theorem up_keyLoad (s : State) (f : Fld) : (s.up f).keyLoad = s.keyLoad := rfl
@[simp] theorem up_pipes (s : State) (f : Fld) : (s.up f).pipes = s.pipes := rfl
@[simp] theorem up_sealPipes (s : State) (f : Fld) : (s.up f).sealPipes = s.sealPipes := rfl
@[simp] theorem up_prints (s : State) (f : Fld) : (s.up f).prints = s.prints := rfl
@[simp] theorem up_printing (s : State) (f : Fld) : (s.up f).printing = s.printing := rfl
@[simp] theorem up_handles (s : State) (f : Fld) : (s.up f).handles = s.handles := rfl
@[simp] theorem up_tables (s : State) (f : Fld) : (s.up f).tables = s.tables := rfl
@[simp] theorem up_vlPending (s : State) (f : Fld) : (s.up f).vlPending = s.vlPending := rfl
@[simp] theorem up_ckpt (s : State) (f : Fld) : (s.up f).ckpt = s.ckpt := rfl
@[simp] theorem up_qps (s : State) (f : Fld) : (s.up f).qps = s.qps := rfl
@[simp] theorem up_tgts (s : State) (f : Fld) : (s.up f).tgts = s.tgts := rfl
@[simp] theorem up_words (s : State) (f : Fld) : (s.up f).words = s.words := rfl
@[simp] theorem up_waiters (s : State) (f : Fld) : (s.up f).waiters = s.waiters := rfl
@[simp] theorem up_nvm (s : State) (f : Fld) : (s.up f).nvm = s.nvm := rfl
@[simp] theorem up_journal (s : State) (f : Fld) : (s.up f).journal = s.journal := rfl
@[simp] theorem up_holdup (s : State) (f : Fld) : (s.up f).holdup = s.holdup := rfl
@[simp] theorem up_patina (s : State) (f : Fld) : (s.up f).patina = s.patina := rfl
@[simp] theorem up_plinth (s : State) (f : Fld) : (s.up f).plinth = s.plinth := rfl
@[simp] theorem up_yeljo (s : State) (f : Fld) : (s.up f).yeljo = s.yeljo := rfl
@[simp] theorem up_ijtag (s : State) (f : Fld) : (s.up f).ijtag = s.ijtag := rfl
@[simp] theorem up_fwDown (s : State) (f : Fld) : (s.up f).fwDown = s.fwDown := rfl
@[simp] theorem up_hcqWait (s : State) (f : Fld) : (s.up f).hcqWait = s.hcqWait := rfl
@[simp] theorem up_tag (s : State) (f : Fld) : (s.up f).tag = s.tag := rfl
@[simp] theorem up_uid (s : State) (f : Fld) : (s.up f).uid = s.uid := rfl
@[simp] theorem up_freeCtr (s : State) (f : Fld) : (s.up f).freeCtr = s.freeCtr := rfl
@[simp] theorem up_out (s : State) (f : Fld) : (s.up f).out = s.out := rfl
@[simp] theorem up_pending (s : State) (f : Fld) : (s.up f).pending = s.pending := rfl

/-! ### `down` -/

@[simp] theorem down_latch (s : State) (f : Fld) : (s.down f).latch = s.latch := rfl
@[simp] theorem down_build (s : State) (f : Fld) : (s.down f).build = s.build := rfl
@[simp] theorem down_pins (s : State) (f : Fld) : (s.down f).pins = s.pins := rfl
@[simp] theorem down_eng (s : State) (f : Fld) : (s.down f).eng = s.eng := rfl
@[simp] theorem down_waking (s : State) (f : Fld) : (s.down f).waking = s.waking := rfl
@[simp] theorem down_boot (s : State) (f : Fld) : (s.down f).boot = s.boot := rfl
@[simp] theorem down_arm (s : State) (f : Fld) : (s.down f).arm = s.arm := rfl
@[simp] theorem down_armUpd (s : State) (f : Fld) : (s.down f).armUpd = s.armUpd := rfl
@[simp] theorem down_tick (s : State) (f : Fld) : (s.down f).tick = s.tick := rfl
@[simp] theorem down_groups (s : State) (f : Fld) : (s.down f).groups = s.groups := rfl
@[simp] theorem down_rings (s : State) (f : Fld) : (s.down f).rings = s.rings := rfl
@[simp] theorem down_entries (s : State) (f : Fld) : (s.down f).entries = s.entries := rfl
@[simp] theorem down_jobs (s : State) (f : Fld) : (s.down f).jobs = s.jobs := rfl
@[simp] theorem down_saved (s : State) (f : Fld) : (s.down f).saved = s.saved := rfl
@[simp] theorem down_parked (s : State) (f : Fld) : (s.down f).parked = s.parked := rfl
@[simp] theorem down_yielded (s : State) (f : Fld) : (s.down f).yielded = s.yielded := rfl
@[simp] theorem down_guard (s : State) (f : Fld) : (s.down f).guard = s.guard := rfl
@[simp] theorem down_halfA (s : State) (f : Fld) : (s.down f).halfA = s.halfA := rfl
@[simp] theorem down_halfB (s : State) (f : Fld) : (s.down f).halfB = s.halfB := rfl
@[simp] theorem down_fillA (s : State) (f : Fld) : (s.down f).fillA = s.fillA := rfl
@[simp] theorem down_xfers (s : State) (f : Fld) : (s.down f).xfers = s.xfers := rfl
@[simp] theorem down_pendWr (s : State) (f : Fld) : (s.down f).pendWr = s.pendWr := rfl
@[simp] theorem down_pendOps (s : State) (f : Fld) : (s.down f).pendOps = s.pendOps := rfl
@[simp] theorem down_pendHost (s : State) (f : Fld) : (s.down f).pendHost = s.pendHost := rfl
@[simp] theorem down_atsInv (s : State) (f : Fld) : (s.down f).atsInv = s.atsInv := rfl
@[simp] theorem down_cache (s : State) (f : Fld) : (s.down f).cache = s.cache := rfl
@[simp] theorem down_slots (s : State) (f : Fld) : (s.down f).slots = s.slots := rfl
@[simp] theorem down_store (s : State) (f : Fld) : (s.down f).store = s.store := rfl
@[simp] theorem down_keys (s : State) (f : Fld) : (s.down f).keys = s.keys := rfl
@[simp] theorem down_keyLoad (s : State) (f : Fld) : (s.down f).keyLoad = s.keyLoad := rfl
@[simp] theorem down_pipes (s : State) (f : Fld) : (s.down f).pipes = s.pipes := rfl
@[simp] theorem down_sealPipes (s : State) (f : Fld) : (s.down f).sealPipes = s.sealPipes := rfl
@[simp] theorem down_prints (s : State) (f : Fld) : (s.down f).prints = s.prints := rfl
@[simp] theorem down_printing (s : State) (f : Fld) : (s.down f).printing = s.printing := rfl
@[simp] theorem down_handles (s : State) (f : Fld) : (s.down f).handles = s.handles := rfl
@[simp] theorem down_tables (s : State) (f : Fld) : (s.down f).tables = s.tables := rfl
@[simp] theorem down_vlPending (s : State) (f : Fld) : (s.down f).vlPending = s.vlPending := rfl
@[simp] theorem down_ckpt (s : State) (f : Fld) : (s.down f).ckpt = s.ckpt := rfl
@[simp] theorem down_qps (s : State) (f : Fld) : (s.down f).qps = s.qps := rfl
@[simp] theorem down_tgts (s : State) (f : Fld) : (s.down f).tgts = s.tgts := rfl
@[simp] theorem down_words (s : State) (f : Fld) : (s.down f).words = s.words := rfl
@[simp] theorem down_waiters (s : State) (f : Fld) : (s.down f).waiters = s.waiters := rfl
@[simp] theorem down_nvm (s : State) (f : Fld) : (s.down f).nvm = s.nvm := rfl
@[simp] theorem down_journal (s : State) (f : Fld) : (s.down f).journal = s.journal := rfl
@[simp] theorem down_holdup (s : State) (f : Fld) : (s.down f).holdup = s.holdup := rfl
@[simp] theorem down_patina (s : State) (f : Fld) : (s.down f).patina = s.patina := rfl
@[simp] theorem down_plinth (s : State) (f : Fld) : (s.down f).plinth = s.plinth := rfl
@[simp] theorem down_yeljo (s : State) (f : Fld) : (s.down f).yeljo = s.yeljo := rfl
@[simp] theorem down_ijtag (s : State) (f : Fld) : (s.down f).ijtag = s.ijtag := rfl
@[simp] theorem down_fwDown (s : State) (f : Fld) : (s.down f).fwDown = s.fwDown := rfl
@[simp] theorem down_hcqWait (s : State) (f : Fld) : (s.down f).hcqWait = s.hcqWait := rfl
@[simp] theorem down_tag (s : State) (f : Fld) : (s.down f).tag = s.tag := rfl
@[simp] theorem down_uid (s : State) (f : Fld) : (s.down f).uid = s.uid := rfl
@[simp] theorem down_freeCtr (s : State) (f : Fld) : (s.down f).freeCtr = s.freeCtr := rfl
@[simp] theorem down_out (s : State) (f : Fld) : (s.down f).out = s.out := rfl
@[simp] theorem down_pending (s : State) (f : Fld) : (s.down f).pending = s.pending := rfl

/-! ### `bumpI` -/

@[simp] theorem bumpI_latch (s : State) (f : Fld) (i n : Nat) : (s.bumpI f i n).latch = s.latch := rfl
@[simp] theorem bumpI_build (s : State) (f : Fld) (i n : Nat) : (s.bumpI f i n).build = s.build := rfl
@[simp] theorem bumpI_pins (s : State) (f : Fld) (i n : Nat) : (s.bumpI f i n).pins = s.pins := rfl
@[simp] theorem bumpI_eng (s : State) (f : Fld) (i n : Nat) : (s.bumpI f i n).eng = s.eng := rfl
@[simp] theorem bumpI_waking (s : State) (f : Fld) (i n : Nat) : (s.bumpI f i n).waking = s.waking := rfl
@[simp] theorem bumpI_boot (s : State) (f : Fld) (i n : Nat) : (s.bumpI f i n).boot = s.boot := rfl
@[simp] theorem bumpI_arm (s : State) (f : Fld) (i n : Nat) : (s.bumpI f i n).arm = s.arm := rfl
@[simp] theorem bumpI_armUpd (s : State) (f : Fld) (i n : Nat) : (s.bumpI f i n).armUpd = s.armUpd := rfl
@[simp] theorem bumpI_tick (s : State) (f : Fld) (i n : Nat) : (s.bumpI f i n).tick = s.tick := rfl
@[simp] theorem bumpI_groups (s : State) (f : Fld) (i n : Nat) : (s.bumpI f i n).groups = s.groups := rfl
@[simp] theorem bumpI_rings (s : State) (f : Fld) (i n : Nat) : (s.bumpI f i n).rings = s.rings := rfl
@[simp] theorem bumpI_entries (s : State) (f : Fld) (i n : Nat) : (s.bumpI f i n).entries = s.entries := rfl
@[simp] theorem bumpI_jobs (s : State) (f : Fld) (i n : Nat) : (s.bumpI f i n).jobs = s.jobs := rfl
@[simp] theorem bumpI_saved (s : State) (f : Fld) (i n : Nat) : (s.bumpI f i n).saved = s.saved := rfl
@[simp] theorem bumpI_parked (s : State) (f : Fld) (i n : Nat) : (s.bumpI f i n).parked = s.parked := rfl
@[simp] theorem bumpI_yielded (s : State) (f : Fld) (i n : Nat) : (s.bumpI f i n).yielded = s.yielded := rfl
@[simp] theorem bumpI_guard (s : State) (f : Fld) (i n : Nat) : (s.bumpI f i n).guard = s.guard := rfl
@[simp] theorem bumpI_halfA (s : State) (f : Fld) (i n : Nat) : (s.bumpI f i n).halfA = s.halfA := rfl
@[simp] theorem bumpI_halfB (s : State) (f : Fld) (i n : Nat) : (s.bumpI f i n).halfB = s.halfB := rfl
@[simp] theorem bumpI_fillA (s : State) (f : Fld) (i n : Nat) : (s.bumpI f i n).fillA = s.fillA := rfl
@[simp] theorem bumpI_xfers (s : State) (f : Fld) (i n : Nat) : (s.bumpI f i n).xfers = s.xfers := rfl
@[simp] theorem bumpI_pendWr (s : State) (f : Fld) (i n : Nat) : (s.bumpI f i n).pendWr = s.pendWr := rfl
@[simp] theorem bumpI_pendOps (s : State) (f : Fld) (i n : Nat) : (s.bumpI f i n).pendOps = s.pendOps := rfl
@[simp] theorem bumpI_pendHost (s : State) (f : Fld) (i n : Nat) : (s.bumpI f i n).pendHost = s.pendHost := rfl
@[simp] theorem bumpI_atsInv (s : State) (f : Fld) (i n : Nat) : (s.bumpI f i n).atsInv = s.atsInv := rfl
@[simp] theorem bumpI_cache (s : State) (f : Fld) (i n : Nat) : (s.bumpI f i n).cache = s.cache := rfl
@[simp] theorem bumpI_slots (s : State) (f : Fld) (i n : Nat) : (s.bumpI f i n).slots = s.slots := rfl
@[simp] theorem bumpI_store (s : State) (f : Fld) (i n : Nat) : (s.bumpI f i n).store = s.store := rfl
@[simp] theorem bumpI_keys (s : State) (f : Fld) (i n : Nat) : (s.bumpI f i n).keys = s.keys := rfl
@[simp] theorem bumpI_keyLoad (s : State) (f : Fld) (i n : Nat) : (s.bumpI f i n).keyLoad = s.keyLoad := rfl
@[simp] theorem bumpI_pipes (s : State) (f : Fld) (i n : Nat) : (s.bumpI f i n).pipes = s.pipes := rfl
@[simp] theorem bumpI_sealPipes (s : State) (f : Fld) (i n : Nat) : (s.bumpI f i n).sealPipes = s.sealPipes := rfl
@[simp] theorem bumpI_prints (s : State) (f : Fld) (i n : Nat) : (s.bumpI f i n).prints = s.prints := rfl
@[simp] theorem bumpI_printing (s : State) (f : Fld) (i n : Nat) : (s.bumpI f i n).printing = s.printing := rfl
@[simp] theorem bumpI_handles (s : State) (f : Fld) (i n : Nat) : (s.bumpI f i n).handles = s.handles := rfl
@[simp] theorem bumpI_tables (s : State) (f : Fld) (i n : Nat) : (s.bumpI f i n).tables = s.tables := rfl
@[simp] theorem bumpI_vlPending (s : State) (f : Fld) (i n : Nat) : (s.bumpI f i n).vlPending = s.vlPending := rfl
@[simp] theorem bumpI_ckpt (s : State) (f : Fld) (i n : Nat) : (s.bumpI f i n).ckpt = s.ckpt := rfl
@[simp] theorem bumpI_qps (s : State) (f : Fld) (i n : Nat) : (s.bumpI f i n).qps = s.qps := rfl
@[simp] theorem bumpI_tgts (s : State) (f : Fld) (i n : Nat) : (s.bumpI f i n).tgts = s.tgts := rfl
@[simp] theorem bumpI_words (s : State) (f : Fld) (i n : Nat) : (s.bumpI f i n).words = s.words := rfl
@[simp] theorem bumpI_waiters (s : State) (f : Fld) (i n : Nat) : (s.bumpI f i n).waiters = s.waiters := rfl
@[simp] theorem bumpI_nvm (s : State) (f : Fld) (i n : Nat) : (s.bumpI f i n).nvm = s.nvm := rfl
@[simp] theorem bumpI_journal (s : State) (f : Fld) (i n : Nat) : (s.bumpI f i n).journal = s.journal := rfl
@[simp] theorem bumpI_holdup (s : State) (f : Fld) (i n : Nat) : (s.bumpI f i n).holdup = s.holdup := rfl
@[simp] theorem bumpI_patina (s : State) (f : Fld) (i n : Nat) : (s.bumpI f i n).patina = s.patina := rfl
@[simp] theorem bumpI_plinth (s : State) (f : Fld) (i n : Nat) : (s.bumpI f i n).plinth = s.plinth := rfl
@[simp] theorem bumpI_yeljo (s : State) (f : Fld) (i n : Nat) : (s.bumpI f i n).yeljo = s.yeljo := rfl
@[simp] theorem bumpI_ijtag (s : State) (f : Fld) (i n : Nat) : (s.bumpI f i n).ijtag = s.ijtag := rfl
@[simp] theorem bumpI_fwDown (s : State) (f : Fld) (i n : Nat) : (s.bumpI f i n).fwDown = s.fwDown := rfl
@[simp] theorem bumpI_hcqWait (s : State) (f : Fld) (i n : Nat) : (s.bumpI f i n).hcqWait = s.hcqWait := rfl
@[simp] theorem bumpI_tag (s : State) (f : Fld) (i n : Nat) : (s.bumpI f i n).tag = s.tag := rfl
@[simp] theorem bumpI_uid (s : State) (f : Fld) (i n : Nat) : (s.bumpI f i n).uid = s.uid := rfl
@[simp] theorem bumpI_freeCtr (s : State) (f : Fld) (i n : Nat) : (s.bumpI f i n).freeCtr = s.freeCtr := rfl
@[simp] theorem bumpI_out (s : State) (f : Fld) (i n : Nat) : (s.bumpI f i n).out = s.out := rfl
@[simp] theorem bumpI_pending (s : State) (f : Fld) (i n : Nat) : (s.bumpI f i n).pending = s.pending := rfl

/-! ### `bump` -/

@[simp] theorem bump_latch (s : State) (f : Fld) (n : Nat) : (s.bump f n).latch = s.latch := rfl
@[simp] theorem bump_build (s : State) (f : Fld) (n : Nat) : (s.bump f n).build = s.build := rfl
@[simp] theorem bump_pins (s : State) (f : Fld) (n : Nat) : (s.bump f n).pins = s.pins := rfl
@[simp] theorem bump_eng (s : State) (f : Fld) (n : Nat) : (s.bump f n).eng = s.eng := rfl
@[simp] theorem bump_waking (s : State) (f : Fld) (n : Nat) : (s.bump f n).waking = s.waking := rfl
@[simp] theorem bump_boot (s : State) (f : Fld) (n : Nat) : (s.bump f n).boot = s.boot := rfl
@[simp] theorem bump_arm (s : State) (f : Fld) (n : Nat) : (s.bump f n).arm = s.arm := rfl
@[simp] theorem bump_armUpd (s : State) (f : Fld) (n : Nat) : (s.bump f n).armUpd = s.armUpd := rfl
@[simp] theorem bump_tick (s : State) (f : Fld) (n : Nat) : (s.bump f n).tick = s.tick := rfl
@[simp] theorem bump_groups (s : State) (f : Fld) (n : Nat) : (s.bump f n).groups = s.groups := rfl
@[simp] theorem bump_rings (s : State) (f : Fld) (n : Nat) : (s.bump f n).rings = s.rings := rfl
@[simp] theorem bump_entries (s : State) (f : Fld) (n : Nat) : (s.bump f n).entries = s.entries := rfl
@[simp] theorem bump_jobs (s : State) (f : Fld) (n : Nat) : (s.bump f n).jobs = s.jobs := rfl
@[simp] theorem bump_saved (s : State) (f : Fld) (n : Nat) : (s.bump f n).saved = s.saved := rfl
@[simp] theorem bump_parked (s : State) (f : Fld) (n : Nat) : (s.bump f n).parked = s.parked := rfl
@[simp] theorem bump_yielded (s : State) (f : Fld) (n : Nat) : (s.bump f n).yielded = s.yielded := rfl
@[simp] theorem bump_guard (s : State) (f : Fld) (n : Nat) : (s.bump f n).guard = s.guard := rfl
@[simp] theorem bump_halfA (s : State) (f : Fld) (n : Nat) : (s.bump f n).halfA = s.halfA := rfl
@[simp] theorem bump_halfB (s : State) (f : Fld) (n : Nat) : (s.bump f n).halfB = s.halfB := rfl
@[simp] theorem bump_fillA (s : State) (f : Fld) (n : Nat) : (s.bump f n).fillA = s.fillA := rfl
@[simp] theorem bump_xfers (s : State) (f : Fld) (n : Nat) : (s.bump f n).xfers = s.xfers := rfl
@[simp] theorem bump_pendWr (s : State) (f : Fld) (n : Nat) : (s.bump f n).pendWr = s.pendWr := rfl
@[simp] theorem bump_pendOps (s : State) (f : Fld) (n : Nat) : (s.bump f n).pendOps = s.pendOps := rfl
@[simp] theorem bump_pendHost (s : State) (f : Fld) (n : Nat) : (s.bump f n).pendHost = s.pendHost := rfl
@[simp] theorem bump_atsInv (s : State) (f : Fld) (n : Nat) : (s.bump f n).atsInv = s.atsInv := rfl
@[simp] theorem bump_cache (s : State) (f : Fld) (n : Nat) : (s.bump f n).cache = s.cache := rfl
@[simp] theorem bump_slots (s : State) (f : Fld) (n : Nat) : (s.bump f n).slots = s.slots := rfl
@[simp] theorem bump_store (s : State) (f : Fld) (n : Nat) : (s.bump f n).store = s.store := rfl
@[simp] theorem bump_keys (s : State) (f : Fld) (n : Nat) : (s.bump f n).keys = s.keys := rfl
@[simp] theorem bump_keyLoad (s : State) (f : Fld) (n : Nat) : (s.bump f n).keyLoad = s.keyLoad := rfl
@[simp] theorem bump_pipes (s : State) (f : Fld) (n : Nat) : (s.bump f n).pipes = s.pipes := rfl
@[simp] theorem bump_sealPipes (s : State) (f : Fld) (n : Nat) : (s.bump f n).sealPipes = s.sealPipes := rfl
@[simp] theorem bump_prints (s : State) (f : Fld) (n : Nat) : (s.bump f n).prints = s.prints := rfl
@[simp] theorem bump_printing (s : State) (f : Fld) (n : Nat) : (s.bump f n).printing = s.printing := rfl
@[simp] theorem bump_handles (s : State) (f : Fld) (n : Nat) : (s.bump f n).handles = s.handles := rfl
@[simp] theorem bump_tables (s : State) (f : Fld) (n : Nat) : (s.bump f n).tables = s.tables := rfl
@[simp] theorem bump_vlPending (s : State) (f : Fld) (n : Nat) : (s.bump f n).vlPending = s.vlPending := rfl
@[simp] theorem bump_ckpt (s : State) (f : Fld) (n : Nat) : (s.bump f n).ckpt = s.ckpt := rfl
@[simp] theorem bump_qps (s : State) (f : Fld) (n : Nat) : (s.bump f n).qps = s.qps := rfl
@[simp] theorem bump_tgts (s : State) (f : Fld) (n : Nat) : (s.bump f n).tgts = s.tgts := rfl
@[simp] theorem bump_words (s : State) (f : Fld) (n : Nat) : (s.bump f n).words = s.words := rfl
@[simp] theorem bump_waiters (s : State) (f : Fld) (n : Nat) : (s.bump f n).waiters = s.waiters := rfl
@[simp] theorem bump_nvm (s : State) (f : Fld) (n : Nat) : (s.bump f n).nvm = s.nvm := rfl
@[simp] theorem bump_journal (s : State) (f : Fld) (n : Nat) : (s.bump f n).journal = s.journal := rfl
@[simp] theorem bump_holdup (s : State) (f : Fld) (n : Nat) : (s.bump f n).holdup = s.holdup := rfl
@[simp] theorem bump_patina (s : State) (f : Fld) (n : Nat) : (s.bump f n).patina = s.patina := rfl
@[simp] theorem bump_plinth (s : State) (f : Fld) (n : Nat) : (s.bump f n).plinth = s.plinth := rfl
@[simp] theorem bump_yeljo (s : State) (f : Fld) (n : Nat) : (s.bump f n).yeljo = s.yeljo := rfl
@[simp] theorem bump_ijtag (s : State) (f : Fld) (n : Nat) : (s.bump f n).ijtag = s.ijtag := rfl
@[simp] theorem bump_fwDown (s : State) (f : Fld) (n : Nat) : (s.bump f n).fwDown = s.fwDown := rfl
@[simp] theorem bump_hcqWait (s : State) (f : Fld) (n : Nat) : (s.bump f n).hcqWait = s.hcqWait := rfl
@[simp] theorem bump_tag (s : State) (f : Fld) (n : Nat) : (s.bump f n).tag = s.tag := rfl
@[simp] theorem bump_uid (s : State) (f : Fld) (n : Nat) : (s.bump f n).uid = s.uid := rfl
@[simp] theorem bump_freeCtr (s : State) (f : Fld) (n : Nat) : (s.bump f n).freeCtr = s.freeCtr := rfl
@[simp] theorem bump_out (s : State) (f : Fld) (n : Nat) : (s.bump f n).out = s.out := rfl
@[simp] theorem bump_pending (s : State) (f : Fld) (n : Nat) : (s.bump f n).pending = s.pending := rfl

/-! ### `send` -/

@[simp] theorem send_regs (s : State) (o : Out) : (s.send o).regs = s.regs := rfl
@[simp] theorem send_latch (s : State) (o : Out) : (s.send o).latch = s.latch := rfl
@[simp] theorem send_build (s : State) (o : Out) : (s.send o).build = s.build := rfl
@[simp] theorem send_pins (s : State) (o : Out) : (s.send o).pins = s.pins := rfl
@[simp] theorem send_eng (s : State) (o : Out) : (s.send o).eng = s.eng := rfl
@[simp] theorem send_waking (s : State) (o : Out) : (s.send o).waking = s.waking := rfl
@[simp] theorem send_boot (s : State) (o : Out) : (s.send o).boot = s.boot := rfl
@[simp] theorem send_arm (s : State) (o : Out) : (s.send o).arm = s.arm := rfl
@[simp] theorem send_armUpd (s : State) (o : Out) : (s.send o).armUpd = s.armUpd := rfl
@[simp] theorem send_tick (s : State) (o : Out) : (s.send o).tick = s.tick := rfl
@[simp] theorem send_groups (s : State) (o : Out) : (s.send o).groups = s.groups := rfl
@[simp] theorem send_rings (s : State) (o : Out) : (s.send o).rings = s.rings := rfl
@[simp] theorem send_entries (s : State) (o : Out) : (s.send o).entries = s.entries := rfl
@[simp] theorem send_jobs (s : State) (o : Out) : (s.send o).jobs = s.jobs := rfl
@[simp] theorem send_saved (s : State) (o : Out) : (s.send o).saved = s.saved := rfl
@[simp] theorem send_parked (s : State) (o : Out) : (s.send o).parked = s.parked := rfl
@[simp] theorem send_yielded (s : State) (o : Out) : (s.send o).yielded = s.yielded := rfl
@[simp] theorem send_guard (s : State) (o : Out) : (s.send o).guard = s.guard := rfl
@[simp] theorem send_halfA (s : State) (o : Out) : (s.send o).halfA = s.halfA := rfl
@[simp] theorem send_halfB (s : State) (o : Out) : (s.send o).halfB = s.halfB := rfl
@[simp] theorem send_fillA (s : State) (o : Out) : (s.send o).fillA = s.fillA := rfl
@[simp] theorem send_xfers (s : State) (o : Out) : (s.send o).xfers = s.xfers := rfl
@[simp] theorem send_pendWr (s : State) (o : Out) : (s.send o).pendWr = s.pendWr := rfl
@[simp] theorem send_pendOps (s : State) (o : Out) : (s.send o).pendOps = s.pendOps := rfl
@[simp] theorem send_pendHost (s : State) (o : Out) : (s.send o).pendHost = s.pendHost := rfl
@[simp] theorem send_atsInv (s : State) (o : Out) : (s.send o).atsInv = s.atsInv := rfl
@[simp] theorem send_cache (s : State) (o : Out) : (s.send o).cache = s.cache := rfl
@[simp] theorem send_slots (s : State) (o : Out) : (s.send o).slots = s.slots := rfl
@[simp] theorem send_store (s : State) (o : Out) : (s.send o).store = s.store := rfl
@[simp] theorem send_keys (s : State) (o : Out) : (s.send o).keys = s.keys := rfl
@[simp] theorem send_keyLoad (s : State) (o : Out) : (s.send o).keyLoad = s.keyLoad := rfl
@[simp] theorem send_pipes (s : State) (o : Out) : (s.send o).pipes = s.pipes := rfl
@[simp] theorem send_sealPipes (s : State) (o : Out) : (s.send o).sealPipes = s.sealPipes := rfl
@[simp] theorem send_prints (s : State) (o : Out) : (s.send o).prints = s.prints := rfl
@[simp] theorem send_printing (s : State) (o : Out) : (s.send o).printing = s.printing := rfl
@[simp] theorem send_handles (s : State) (o : Out) : (s.send o).handles = s.handles := rfl
@[simp] theorem send_tables (s : State) (o : Out) : (s.send o).tables = s.tables := rfl
@[simp] theorem send_vlPending (s : State) (o : Out) : (s.send o).vlPending = s.vlPending := rfl
@[simp] theorem send_ckpt (s : State) (o : Out) : (s.send o).ckpt = s.ckpt := rfl
@[simp] theorem send_qps (s : State) (o : Out) : (s.send o).qps = s.qps := rfl
@[simp] theorem send_tgts (s : State) (o : Out) : (s.send o).tgts = s.tgts := rfl
@[simp] theorem send_words (s : State) (o : Out) : (s.send o).words = s.words := rfl
@[simp] theorem send_waiters (s : State) (o : Out) : (s.send o).waiters = s.waiters := rfl
@[simp] theorem send_nvm (s : State) (o : Out) : (s.send o).nvm = s.nvm := rfl
@[simp] theorem send_journal (s : State) (o : Out) : (s.send o).journal = s.journal := rfl
@[simp] theorem send_holdup (s : State) (o : Out) : (s.send o).holdup = s.holdup := rfl
@[simp] theorem send_patina (s : State) (o : Out) : (s.send o).patina = s.patina := rfl
@[simp] theorem send_plinth (s : State) (o : Out) : (s.send o).plinth = s.plinth := rfl
@[simp] theorem send_yeljo (s : State) (o : Out) : (s.send o).yeljo = s.yeljo := rfl
@[simp] theorem send_ijtag (s : State) (o : Out) : (s.send o).ijtag = s.ijtag := rfl
@[simp] theorem send_fwDown (s : State) (o : Out) : (s.send o).fwDown = s.fwDown := rfl
@[simp] theorem send_hcqWait (s : State) (o : Out) : (s.send o).hcqWait = s.hcqWait := rfl
@[simp] theorem send_tag (s : State) (o : Out) : (s.send o).tag = s.tag := rfl
@[simp] theorem send_uid (s : State) (o : Out) : (s.send o).uid = s.uid := rfl
@[simp] theorem send_freeCtr (s : State) (o : Out) : (s.send o).freeCtr = s.freeCtr := rfl
@[simp] theorem send_pending (s : State) (o : Out) : (s.send o).pending = s.pending := rfl

/-! ### `sendAll` -/

@[simp] theorem sendAll_regs (s : State) (os : List Out) : (s.sendAll os).regs = s.regs := rfl
@[simp] theorem sendAll_latch (s : State) (os : List Out) : (s.sendAll os).latch = s.latch := rfl
@[simp] theorem sendAll_build (s : State) (os : List Out) : (s.sendAll os).build = s.build := rfl
@[simp] theorem sendAll_pins (s : State) (os : List Out) : (s.sendAll os).pins = s.pins := rfl
@[simp] theorem sendAll_eng (s : State) (os : List Out) : (s.sendAll os).eng = s.eng := rfl
@[simp] theorem sendAll_waking (s : State) (os : List Out) : (s.sendAll os).waking = s.waking := rfl
@[simp] theorem sendAll_boot (s : State) (os : List Out) : (s.sendAll os).boot = s.boot := rfl
@[simp] theorem sendAll_arm (s : State) (os : List Out) : (s.sendAll os).arm = s.arm := rfl
@[simp] theorem sendAll_armUpd (s : State) (os : List Out) : (s.sendAll os).armUpd = s.armUpd := rfl
@[simp] theorem sendAll_tick (s : State) (os : List Out) : (s.sendAll os).tick = s.tick := rfl
@[simp] theorem sendAll_groups (s : State) (os : List Out) : (s.sendAll os).groups = s.groups := rfl
@[simp] theorem sendAll_rings (s : State) (os : List Out) : (s.sendAll os).rings = s.rings := rfl
@[simp] theorem sendAll_entries (s : State) (os : List Out) : (s.sendAll os).entries = s.entries := rfl
@[simp] theorem sendAll_jobs (s : State) (os : List Out) : (s.sendAll os).jobs = s.jobs := rfl
@[simp] theorem sendAll_saved (s : State) (os : List Out) : (s.sendAll os).saved = s.saved := rfl
@[simp] theorem sendAll_parked (s : State) (os : List Out) : (s.sendAll os).parked = s.parked := rfl
@[simp] theorem sendAll_yielded (s : State) (os : List Out) : (s.sendAll os).yielded = s.yielded := rfl
@[simp] theorem sendAll_guard (s : State) (os : List Out) : (s.sendAll os).guard = s.guard := rfl
@[simp] theorem sendAll_halfA (s : State) (os : List Out) : (s.sendAll os).halfA = s.halfA := rfl
@[simp] theorem sendAll_halfB (s : State) (os : List Out) : (s.sendAll os).halfB = s.halfB := rfl
@[simp] theorem sendAll_fillA (s : State) (os : List Out) : (s.sendAll os).fillA = s.fillA := rfl
@[simp] theorem sendAll_xfers (s : State) (os : List Out) : (s.sendAll os).xfers = s.xfers := rfl
@[simp] theorem sendAll_pendWr (s : State) (os : List Out) : (s.sendAll os).pendWr = s.pendWr := rfl
@[simp] theorem sendAll_pendOps (s : State) (os : List Out) : (s.sendAll os).pendOps = s.pendOps := rfl
@[simp] theorem sendAll_pendHost (s : State) (os : List Out) : (s.sendAll os).pendHost = s.pendHost := rfl
@[simp] theorem sendAll_atsInv (s : State) (os : List Out) : (s.sendAll os).atsInv = s.atsInv := rfl
@[simp] theorem sendAll_cache (s : State) (os : List Out) : (s.sendAll os).cache = s.cache := rfl
@[simp] theorem sendAll_slots (s : State) (os : List Out) : (s.sendAll os).slots = s.slots := rfl
@[simp] theorem sendAll_store (s : State) (os : List Out) : (s.sendAll os).store = s.store := rfl
@[simp] theorem sendAll_keys (s : State) (os : List Out) : (s.sendAll os).keys = s.keys := rfl
@[simp] theorem sendAll_keyLoad (s : State) (os : List Out) : (s.sendAll os).keyLoad = s.keyLoad := rfl
@[simp] theorem sendAll_pipes (s : State) (os : List Out) : (s.sendAll os).pipes = s.pipes := rfl
@[simp] theorem sendAll_sealPipes (s : State) (os : List Out) : (s.sendAll os).sealPipes = s.sealPipes := rfl
@[simp] theorem sendAll_prints (s : State) (os : List Out) : (s.sendAll os).prints = s.prints := rfl
@[simp] theorem sendAll_printing (s : State) (os : List Out) : (s.sendAll os).printing = s.printing := rfl
@[simp] theorem sendAll_handles (s : State) (os : List Out) : (s.sendAll os).handles = s.handles := rfl
@[simp] theorem sendAll_tables (s : State) (os : List Out) : (s.sendAll os).tables = s.tables := rfl
@[simp] theorem sendAll_vlPending (s : State) (os : List Out) : (s.sendAll os).vlPending = s.vlPending := rfl
@[simp] theorem sendAll_ckpt (s : State) (os : List Out) : (s.sendAll os).ckpt = s.ckpt := rfl
@[simp] theorem sendAll_qps (s : State) (os : List Out) : (s.sendAll os).qps = s.qps := rfl
@[simp] theorem sendAll_tgts (s : State) (os : List Out) : (s.sendAll os).tgts = s.tgts := rfl
@[simp] theorem sendAll_words (s : State) (os : List Out) : (s.sendAll os).words = s.words := rfl
@[simp] theorem sendAll_waiters (s : State) (os : List Out) : (s.sendAll os).waiters = s.waiters := rfl
@[simp] theorem sendAll_nvm (s : State) (os : List Out) : (s.sendAll os).nvm = s.nvm := rfl
@[simp] theorem sendAll_journal (s : State) (os : List Out) : (s.sendAll os).journal = s.journal := rfl
@[simp] theorem sendAll_holdup (s : State) (os : List Out) : (s.sendAll os).holdup = s.holdup := rfl
@[simp] theorem sendAll_patina (s : State) (os : List Out) : (s.sendAll os).patina = s.patina := rfl
@[simp] theorem sendAll_plinth (s : State) (os : List Out) : (s.sendAll os).plinth = s.plinth := rfl
@[simp] theorem sendAll_yeljo (s : State) (os : List Out) : (s.sendAll os).yeljo = s.yeljo := rfl
@[simp] theorem sendAll_ijtag (s : State) (os : List Out) : (s.sendAll os).ijtag = s.ijtag := rfl
@[simp] theorem sendAll_fwDown (s : State) (os : List Out) : (s.sendAll os).fwDown = s.fwDown := rfl
@[simp] theorem sendAll_hcqWait (s : State) (os : List Out) : (s.sendAll os).hcqWait = s.hcqWait := rfl
@[simp] theorem sendAll_tag (s : State) (os : List Out) : (s.sendAll os).tag = s.tag := rfl
@[simp] theorem sendAll_uid (s : State) (os : List Out) : (s.sendAll os).uid = s.uid := rfl
@[simp] theorem sendAll_freeCtr (s : State) (os : List Out) : (s.sendAll os).freeCtr = s.freeCtr := rfl
@[simp] theorem sendAll_pending (s : State) (os : List Out) : (s.sendAll os).pending = s.pending := rfl

/-! ### `at_` -/

@[simp] theorem note_regs (s : State) (n : Nat) : (s.at_ n).regs = s.regs := rfl
@[simp] theorem note_latch (s : State) (n : Nat) : (s.at_ n).latch = s.latch := rfl
@[simp] theorem note_build (s : State) (n : Nat) : (s.at_ n).build = s.build := rfl
@[simp] theorem note_pins (s : State) (n : Nat) : (s.at_ n).pins = s.pins := rfl
@[simp] theorem note_eng (s : State) (n : Nat) : (s.at_ n).eng = s.eng := rfl
@[simp] theorem note_waking (s : State) (n : Nat) : (s.at_ n).waking = s.waking := rfl
@[simp] theorem note_boot (s : State) (n : Nat) : (s.at_ n).boot = s.boot := rfl
@[simp] theorem note_arm (s : State) (n : Nat) : (s.at_ n).arm = s.arm := rfl
@[simp] theorem note_armUpd (s : State) (n : Nat) : (s.at_ n).armUpd = s.armUpd := rfl
@[simp] theorem note_groups (s : State) (n : Nat) : (s.at_ n).groups = s.groups := rfl
@[simp] theorem note_rings (s : State) (n : Nat) : (s.at_ n).rings = s.rings := rfl
@[simp] theorem note_entries (s : State) (n : Nat) : (s.at_ n).entries = s.entries := rfl
@[simp] theorem note_jobs (s : State) (n : Nat) : (s.at_ n).jobs = s.jobs := rfl
@[simp] theorem note_saved (s : State) (n : Nat) : (s.at_ n).saved = s.saved := rfl
@[simp] theorem note_parked (s : State) (n : Nat) : (s.at_ n).parked = s.parked := rfl
@[simp] theorem note_yielded (s : State) (n : Nat) : (s.at_ n).yielded = s.yielded := rfl
@[simp] theorem note_guard (s : State) (n : Nat) : (s.at_ n).guard = s.guard := rfl
@[simp] theorem note_halfA (s : State) (n : Nat) : (s.at_ n).halfA = s.halfA := rfl
@[simp] theorem note_halfB (s : State) (n : Nat) : (s.at_ n).halfB = s.halfB := rfl
@[simp] theorem note_fillA (s : State) (n : Nat) : (s.at_ n).fillA = s.fillA := rfl
@[simp] theorem note_xfers (s : State) (n : Nat) : (s.at_ n).xfers = s.xfers := rfl
@[simp] theorem note_pendWr (s : State) (n : Nat) : (s.at_ n).pendWr = s.pendWr := rfl
@[simp] theorem note_pendOps (s : State) (n : Nat) : (s.at_ n).pendOps = s.pendOps := rfl
@[simp] theorem note_pendHost (s : State) (n : Nat) : (s.at_ n).pendHost = s.pendHost := rfl
@[simp] theorem note_atsInv (s : State) (n : Nat) : (s.at_ n).atsInv = s.atsInv := rfl
@[simp] theorem note_cache (s : State) (n : Nat) : (s.at_ n).cache = s.cache := rfl
@[simp] theorem note_slots (s : State) (n : Nat) : (s.at_ n).slots = s.slots := rfl
@[simp] theorem note_store (s : State) (n : Nat) : (s.at_ n).store = s.store := rfl
@[simp] theorem note_keys (s : State) (n : Nat) : (s.at_ n).keys = s.keys := rfl
@[simp] theorem note_keyLoad (s : State) (n : Nat) : (s.at_ n).keyLoad = s.keyLoad := rfl
@[simp] theorem note_pipes (s : State) (n : Nat) : (s.at_ n).pipes = s.pipes := rfl
@[simp] theorem note_sealPipes (s : State) (n : Nat) : (s.at_ n).sealPipes = s.sealPipes := rfl
@[simp] theorem note_prints (s : State) (n : Nat) : (s.at_ n).prints = s.prints := rfl
@[simp] theorem note_printing (s : State) (n : Nat) : (s.at_ n).printing = s.printing := rfl
@[simp] theorem note_handles (s : State) (n : Nat) : (s.at_ n).handles = s.handles := rfl
@[simp] theorem note_tables (s : State) (n : Nat) : (s.at_ n).tables = s.tables := rfl
@[simp] theorem note_vlPending (s : State) (n : Nat) : (s.at_ n).vlPending = s.vlPending := rfl
@[simp] theorem note_ckpt (s : State) (n : Nat) : (s.at_ n).ckpt = s.ckpt := rfl
@[simp] theorem note_qps (s : State) (n : Nat) : (s.at_ n).qps = s.qps := rfl
@[simp] theorem note_tgts (s : State) (n : Nat) : (s.at_ n).tgts = s.tgts := rfl
@[simp] theorem note_words (s : State) (n : Nat) : (s.at_ n).words = s.words := rfl
@[simp] theorem note_waiters (s : State) (n : Nat) : (s.at_ n).waiters = s.waiters := rfl
@[simp] theorem note_nvm (s : State) (n : Nat) : (s.at_ n).nvm = s.nvm := rfl
@[simp] theorem note_journal (s : State) (n : Nat) : (s.at_ n).journal = s.journal := rfl
@[simp] theorem note_holdup (s : State) (n : Nat) : (s.at_ n).holdup = s.holdup := rfl
@[simp] theorem note_patina (s : State) (n : Nat) : (s.at_ n).patina = s.patina := rfl
@[simp] theorem note_plinth (s : State) (n : Nat) : (s.at_ n).plinth = s.plinth := rfl
@[simp] theorem note_yeljo (s : State) (n : Nat) : (s.at_ n).yeljo = s.yeljo := rfl
@[simp] theorem note_ijtag (s : State) (n : Nat) : (s.at_ n).ijtag = s.ijtag := rfl
@[simp] theorem note_fwDown (s : State) (n : Nat) : (s.at_ n).fwDown = s.fwDown := rfl
@[simp] theorem note_hcqWait (s : State) (n : Nat) : (s.at_ n).hcqWait = s.hcqWait := rfl
@[simp] theorem note_tag (s : State) (n : Nat) : (s.at_ n).tag = s.tag := rfl
@[simp] theorem note_uid (s : State) (n : Nat) : (s.at_ n).uid = s.uid := rfl
@[simp] theorem note_freeCtr (s : State) (n : Nat) : (s.at_ n).freeCtr = s.freeCtr := rfl
@[simp] theorem note_out (s : State) (n : Nat) : (s.at_ n).out = s.out := rfl
@[simp] theorem note_pending (s : State) (n : Nat) : (s.at_ n).pending = s.pending := rfl

/-! ### What the updates write -/

@[simp] theorem send_out (s : State) (o : Out) : (s.send o).out = s.out ++ [o] := rfl
@[simp] theorem sendAll_out (s : State) (os : List Out) : (s.sendAll os).out = s.out ++ os := rfl
@[simp] theorem note_tick (s : State) (n : Nat) : (s.at_ n).tick = { s.tick with ofs := n } := rfl
@[simp] theorem getI_send (s : State) (o : Out) (f : Fld) (i : Nat) : (s.send o).getI f i = s.getI f i := rfl
@[simp] theorem getI_sendAll (s : State) (os : List Out) (f : Fld) (i : Nat) : (s.sendAll os).getI f i = s.getI f i := rfl
@[simp] theorem getI_note (s : State) (n : Nat) (f : Fld) (i : Nat) : (s.at_ n).getI f i = s.getI f i := rfl

end Sys2Proof.Machine.State
end

