-- ==== Sys2Proof/Laws/Finish.lean ====
section
/-! SUPPORT. What `finish` can do to a state: it sends interrupt messages, notes those that are masked, and puts the register file into its
canonical form; it never touches anything else. -/
namespace Sys2Proof.Machine

theorem keepsAll_trans {s t u : State} (h : Safety.KeepsAll s t) (k : Safety.KeepsAll t u) : Safety.KeepsAll s u := by
  unfold Safety.KeepsAll at *
  rw [k, h]

/-- Interrupt messages only are added, and no register but the pending bits of MSI-X changes. -/
def OnlyMessages (s t : State) : Prop :=
  Safety.KeepsAll s t ∧ (∃ ms, t.out = s.out ++ ms ∧ ∀ o ∈ ms, ∃ n v a d, o = Out.msix n v a d) ∧
    ∀ f i, f ≠ .fjMsixPbaPending → t.getI f i = s.getI f i

theorem OnlyMessages.refl (s : State) : OnlyMessages s s := ⟨rfl, ⟨[], by simp⟩, fun _ _ _ => rfl⟩

theorem OnlyMessages.trans {s t u : State} (h : OnlyMessages s t) (k : OnlyMessages t u) : OnlyMessages s u := by
  obtain ⟨h1, ⟨ms, h2, h3⟩, h4⟩ := h
  obtain ⟨k1, ⟨ns, k2, k3⟩, k4⟩ := k
  refine ⟨keepsAll_trans h1 k1, ⟨ms ++ ns, by rw [k2, h2, List.append_assoc], fun o ho => ?_⟩, fun f i hf => (k4 f i hf).trans (h4 f i hf)⟩
  rcases List.mem_append.mp ho with ho | ho
  · exact h3 o ho
  · exact k3 o ho

theorem message_only (s : State) (n v : Nat) : OnlyMessages s (s.message n v) := by
  unfold State.message
  split
  · exact .refl s
  · split
    · exact ⟨rfl, ⟨[], by simp⟩, fun f i hf => getI_setI_other s _ (fun h => hf h.1.symm)⟩
    · exact ⟨rfl, ⟨_, rfl, fun o ho => ⟨_, _, _, _, List.mem_singleton.mp ho⟩⟩, fun f i _ => rfl⟩

theorem foldl_only {α : Type} (l : List α) (g : State → α → State) (h : ∀ s a, OnlyMessages s (g s a)) (s : State) :
    OnlyMessages s (l.foldl g s) := by
  induction l generalizing s with
  | nil => exact .refl s
  | cons a t ih => exact (h s a).trans (ih _)

theorem irqRise_only (s0 s : State) : OnlyMessages s (irqRise s0 s) :=
  foldl_only _ _ (fun a k => by split; exacts [message_only _ _ _, .refl _]) s

theorem tenantMessages_only (s0 s : State) : OnlyMessages s (tenantMessages s0 s) :=
  foldl_only _ _ (fun a k => by split; exacts [message_only _ _ _, .refl _]) s

theorem messages_only (s0 s : State) : OnlyMessages s (tenantMessages s0 (irqRise s0 s)) :=
  (irqRise_only s0 s).trans (tenantMessages_only s0 _)

/-! ### `finishState` -/

@[simp] theorem finishState_build (s0 s : State) : (finishState s0 s).build = s0.build := rfl

@[simp] theorem finishState_pending (s0 s : State) : (finishState s0 s).pending = s0.pending := rfl

/-- Every field but the registers, the packets sent, the build and the queue is as the meaning left it. -/
theorem finishState_eq (s0 s : State) :
    finishState s0 s = { s with
      regs := (finishState s0 s).regs, out := (finishState s0 s).out, build := s0.build, pending := s0.pending } := by
  have h := (messages_only s0 s).1
  unfold Safety.KeepsAll at h
  unfold finishState
  dsimp only
  rw [h]

@[simp] theorem finishState_latch (s0 s : State) : (finishState s0 s).latch = s.latch := by rw [finishState_eq]

@[simp] theorem finishState_pins (s0 s : State) : (finishState s0 s).pins = s.pins := by rw [finishState_eq]

@[simp] theorem finishState_eng (s0 s : State) : (finishState s0 s).eng = s.eng := by rw [finishState_eq]

@[simp] theorem finishState_waking (s0 s : State) : (finishState s0 s).waking = s.waking := by rw [finishState_eq]

@[simp] theorem finishState_boot (s0 s : State) : (finishState s0 s).boot = s.boot := by rw [finishState_eq]

@[simp] theorem finishState_arm (s0 s : State) : (finishState s0 s).arm = s.arm := by rw [finishState_eq]

@[simp] theorem finishState_armUpd (s0 s : State) : (finishState s0 s).armUpd = s.armUpd := by rw [finishState_eq]

@[simp] theorem finishState_tick (s0 s : State) : (finishState s0 s).tick = s.tick := by rw [finishState_eq]

@[simp] theorem finishState_groups (s0 s : State) : (finishState s0 s).groups = s.groups := by rw [finishState_eq]

@[simp] theorem finishState_rings (s0 s : State) : (finishState s0 s).rings = s.rings := by rw [finishState_eq]

@[simp] theorem finishState_entries (s0 s : State) : (finishState s0 s).entries = s.entries := by rw [finishState_eq]

@[simp] theorem finishState_jobs (s0 s : State) : (finishState s0 s).jobs = s.jobs := by rw [finishState_eq]

@[simp] theorem finishState_saved (s0 s : State) : (finishState s0 s).saved = s.saved := by rw [finishState_eq]

@[simp] theorem finishState_parked (s0 s : State) : (finishState s0 s).parked = s.parked := by rw [finishState_eq]

@[simp] theorem finishState_yielded (s0 s : State) : (finishState s0 s).yielded = s.yielded := by rw [finishState_eq]

@[simp] theorem finishState_guard (s0 s : State) : (finishState s0 s).guard = s.guard := by rw [finishState_eq]

@[simp] theorem finishState_halfA (s0 s : State) : (finishState s0 s).halfA = s.halfA := by rw [finishState_eq]

@[simp] theorem finishState_halfB (s0 s : State) : (finishState s0 s).halfB = s.halfB := by rw [finishState_eq]

@[simp] theorem finishState_fillA (s0 s : State) : (finishState s0 s).fillA = s.fillA := by rw [finishState_eq]

@[simp] theorem finishState_xfers (s0 s : State) : (finishState s0 s).xfers = s.xfers := by rw [finishState_eq]

@[simp] theorem finishState_pendWr (s0 s : State) : (finishState s0 s).pendWr = s.pendWr := by rw [finishState_eq]

@[simp] theorem finishState_pendOps (s0 s : State) : (finishState s0 s).pendOps = s.pendOps := by rw [finishState_eq]

@[simp] theorem finishState_pendHost (s0 s : State) : (finishState s0 s).pendHost = s.pendHost := by rw [finishState_eq]

@[simp] theorem finishState_atsInv (s0 s : State) : (finishState s0 s).atsInv = s.atsInv := by rw [finishState_eq]

@[simp] theorem finishState_cache (s0 s : State) : (finishState s0 s).cache = s.cache := by rw [finishState_eq]

@[simp] theorem finishState_slots (s0 s : State) : (finishState s0 s).slots = s.slots := by rw [finishState_eq]

@[simp] theorem finishState_store (s0 s : State) : (finishState s0 s).store = s.store := by rw [finishState_eq]

@[simp] theorem finishState_keys (s0 s : State) : (finishState s0 s).keys = s.keys := by rw [finishState_eq]

@[simp] theorem finishState_keyLoad (s0 s : State) : (finishState s0 s).keyLoad = s.keyLoad := by rw [finishState_eq]

@[simp] theorem finishState_pipes (s0 s : State) : (finishState s0 s).pipes = s.pipes := by rw [finishState_eq]

@[simp] theorem finishState_sealPipes (s0 s : State) : (finishState s0 s).sealPipes = s.sealPipes := by rw [finishState_eq]

@[simp] theorem finishState_prints (s0 s : State) : (finishState s0 s).prints = s.prints := by rw [finishState_eq]

@[simp] theorem finishState_printing (s0 s : State) : (finishState s0 s).printing = s.printing := by rw [finishState_eq]

@[simp] theorem finishState_handles (s0 s : State) : (finishState s0 s).handles = s.handles := by rw [finishState_eq]

@[simp] theorem finishState_tables (s0 s : State) : (finishState s0 s).tables = s.tables := by rw [finishState_eq]

@[simp] theorem finishState_vlPending (s0 s : State) : (finishState s0 s).vlPending = s.vlPending := by rw [finishState_eq]

@[simp] theorem finishState_ckpt (s0 s : State) : (finishState s0 s).ckpt = s.ckpt := by rw [finishState_eq]

@[simp] theorem finishState_qps (s0 s : State) : (finishState s0 s).qps = s.qps := by rw [finishState_eq]

@[simp] theorem finishState_tgts (s0 s : State) : (finishState s0 s).tgts = s.tgts := by rw [finishState_eq]

@[simp] theorem finishState_words (s0 s : State) : (finishState s0 s).words = s.words := by rw [finishState_eq]

@[simp] theorem finishState_waiters (s0 s : State) : (finishState s0 s).waiters = s.waiters := by rw [finishState_eq]

@[simp] theorem finishState_nvm (s0 s : State) : (finishState s0 s).nvm = s.nvm := by rw [finishState_eq]

@[simp] theorem finishState_journal (s0 s : State) : (finishState s0 s).journal = s.journal := by rw [finishState_eq]

@[simp] theorem finishState_holdup (s0 s : State) : (finishState s0 s).holdup = s.holdup := by rw [finishState_eq]

@[simp] theorem finishState_patina (s0 s : State) : (finishState s0 s).patina = s.patina := by rw [finishState_eq]

@[simp] theorem finishState_plinth (s0 s : State) : (finishState s0 s).plinth = s.plinth := by rw [finishState_eq]

@[simp] theorem finishState_yeljo (s0 s : State) : (finishState s0 s).yeljo = s.yeljo := by rw [finishState_eq]

@[simp] theorem finishState_ijtag (s0 s : State) : (finishState s0 s).ijtag = s.ijtag := by rw [finishState_eq]

@[simp] theorem finishState_fwDown (s0 s : State) : (finishState s0 s).fwDown = s.fwDown := by rw [finishState_eq]

@[simp] theorem finishState_hcqWait (s0 s : State) : (finishState s0 s).hcqWait = s.hcqWait := by rw [finishState_eq]

@[simp] theorem finishState_tag (s0 s : State) : (finishState s0 s).tag = s.tag := by rw [finishState_eq]

@[simp] theorem finishState_uid (s0 s : State) : (finishState s0 s).uid = s.uid := by rw [finishState_eq]

@[simp] theorem finishState_freeCtr (s0 s : State) : (finishState s0 s).freeCtr = s.freeCtr := by rw [finishState_eq]

theorem finishState_canonical (s0 s : State) : Safety.Canonical (finishState s0 s) := canonRegs_canonical _ _

/-- Registers read after `finish` as the meaning left them, but for the pending bits of MSI-X. -/
theorem getI_finishState {s0 s : State} (hb : s.build = s0.build) {f : Fld} (hf : f ≠ .fjMsixPbaPending) (i : Nat) :
    (finishState s0 s).getI f i = s.getI f i := by
  obtain ⟨h1, _, h3⟩ := messages_only s0 s
  rw [← h3 f i hf, getI_eq, getI_eq]
  have hb' : (tenantMessages s0 (irqRise s0 s)).build = s0.build := by
    unfold Safety.KeepsAll at h1
    rw [h1]
    exact hb
  rw [hb']
  exact readCell_canonRegs _ _ _ _

theorem get_finishState {s0 s : State} (hb : s.build = s0.build) {f : Fld} (hf : f ≠ .fjMsixPbaPending) :
    (finishState s0 s).get f = s.get f := getI_finishState hb hf 0

/-- `finish` adds interrupt messages at the end of what the ports send, and nothing else. -/
theorem finishState_out (s0 s : State) :
    ∃ ms, (finishState s0 s).out = s.out ++ ms ∧ ∀ o ∈ ms, ∃ n v a d, o = Out.msix n v a d := (messages_only s0 s).2.1

end Sys2Proof.Machine
end

