-- ==== Sys2Proof/Laws/Entry.lean ====
section
/-! SUPPORT. What the log, a posted completion and the end of an entry can do to a state: one lemma an operation. -/
namespace Sys2Proof.Machine

open Safety

theorem keepsRegs_refl (fs : List Fld) (s : State) : KeepsRegs fs s s := fun _ _ _ => rfl

theorem keepsRegs_trans {fs : List Fld} {s t u : State} (h : KeepsRegs fs s t) (k : KeepsRegs fs t u) : KeepsRegs fs s u :=
  fun f i hf => (k f i hf).trans (h f i hf)

theorem keepsRegs_mono {fs gs : List Fld} {s t : State} (hs : fs ⊆ gs) (h : KeepsRegs fs s t) : KeepsRegs gs s t :=
  fun f i hf => h f i (fun hm => hf (hs hm))

theorem keepsRegs_setI {fs : List Fld} {f : Fld} (hf : f ∈ fs) (s : State) (i v : Nat) : KeepsRegs fs s (s.setI f i v) :=
  fun _ _ hg => getI_setI_other s v (fun h => hg (h.1 ▸ hf))

theorem keepsRegs_of_regs {fs : List Fld} {s t : State} (hb : t.build = s.build) (hr : t.regs = s.regs) : KeepsRegs fs s t :=
  fun f i _ => by rw [getI_eq, getI_eq, hb, hr]

/-! ### The log -/

/-- Only the log changes, and the fields that show it. -/
def LogOnly (s t : State) : Prop := t = { s with regs := t.regs, yeljo := t.yeljo } ∧ KeepsRegs logFlds s t

theorem LogOnly.refl (s : State) : LogOnly s s := ⟨rfl, keepsRegs_refl _ _⟩

theorem LogOnly.trans {s t u : State} (h : LogOnly s t) (k : LogOnly t u) : LogOnly s u :=
  ⟨by rw [k.1, h.1], keepsRegs_trans h.2 k.2⟩

theorem logOnly_setI {f : Fld} (hf : f ∈ logFlds) (s : State) (i v : Nat) : LogOnly s (s.setI f i v) := ⟨rfl, keepsRegs_setI hf s i v⟩

theorem logOnly_yeljo (s : State) (y : Yeljo) : LogOnly s { s with yeljo := y } := ⟨rfl, fun _ _ _ => rfl⟩

theorem logOnly_yPut (s : State) (r : YRec) : LogOnly s (s.yPut r) := by
  unfold State.yPut
  split
  · exact (logOnly_yeljo s _).trans (logOnly_setI (by decide) _ 0 _)
  · exact ((logOnly_yeljo s _).trans (logOnly_setI (by decide) _ 0 _)).trans (logOnly_setI (by decide) _ 0 _)

theorem logOnly_diverge (s : State) (i ty o : Nat) : LogOnly s (s.diverge i ty o) :=
  ((((logOnly_yeljo s _).trans (logOnly_setI (by decide) _ 0 _)).trans (logOnly_setI (by decide) _ 0 _)).trans
    (logOnly_setI (by decide) _ 0 _)).trans (logOnly_setI (by decide) _ 0 _)

theorem logOnly_yMatchFuel (n : Nat) (s : State) : LogOnly s (yMatchFuel n s) := by
  induction n generalizing s with
  | zero => exact .refl s
  | succ n ih =>
    simp only [yMatchFuel]
    split
    · split
      · exact (logOnly_yeljo s _).trans (ih _)
      · exact (logOnly_yeljo s _).trans (logOnly_diverge _ _ _ _)
    · exact .refl s

theorem logOnly_yMatch (s : State) : LogOnly s s.yMatch := by
  unfold State.yMatch
  split
  · exact .refl s
  · exact logOnly_yMatchFuel _ s

/-- Whatever is logged, nothing but the log changes. -/
theorem logRec_only (s : State) (typ ctx ring a : Nat) (b : Bytes) : LogOnly s (s.logRec typ ctx ring a b) := by
  have h (r : YRec) : LogOnly s (if s.recording then s.yPut r else s) := by
    split
    · exact logOnly_yPut s r
    · exact .refl s
  unfold State.logRec
  dsimp only
  split
  · exact ((h _).trans (logOnly_yeljo _ _)).trans (logOnly_yMatch _)
  · exact h _

theorem logWrite_only (s : State) (tenant : Bool) (ctx off size v : Nat) : LogOnly s (s.logWrite tenant ctx off size v) := by
  unfold State.logWrite
  dsimp only
  split
  · exact (logRec_only _ _ _ _ _ _).trans (logRec_only _ _ _ _ _ _)
  · exact logRec_only _ _ _ _ _ _

/-! ### The end of an entry -/

/-- Only what the end of an entry writes changes: entries, groups and rings, the completions sent, and the log. -/
def EntryOnly (s t : State) : Prop :=
  t = { s with
    regs := t.regs, out := t.out, yeljo := t.yeljo, entries := t.entries, groups := t.groups, rings := t.rings, xfers := t.xfers,
    pendWr := t.pendWr, tag := t.tag } ∧ KeepsRegs entryFlds s t

theorem EntryOnly.refl (s : State) : EntryOnly s s := ⟨rfl, keepsRegs_refl _ _⟩

theorem EntryOnly.trans {s t u : State} (h : EntryOnly s t) (k : EntryOnly t u) : EntryOnly s u :=
  ⟨by rw [k.1, h.1], keepsRegs_trans h.2 k.2⟩

theorem LogOnly.entry {s t : State} (h : LogOnly s t) : EntryOnly s t := by
  refine ⟨?_, keepsRegs_mono (by decide) h.2⟩
  have := h.1
  rw [this]

theorem OnlyMessages.entry {s t : State} (h : OnlyMessages s t) : EntryOnly s t := by
  refine ⟨?_, fun f i hf => h.2.2 f i (fun e => hf (e ▸ by decide))⟩
  have := h.1
  unfold KeepsAll at this
  rw [this]

theorem entryOnly_setI {f : Fld} (hf : f ∈ entryFlds) (s : State) (i v : Nat) : EntryOnly s (s.setI f i v) := ⟨rfl, keepsRegs_setI hf s i v⟩

theorem entryOnly_fabBeat (s : State) (w : PendWr) : EntryOnly s (s.fabBeat w) := ⟨rfl, fun _ _ _ => rfl⟩

theorem entryOnly_fabOffer (s : State) (w : PendWr) : EntryOnly s (s.fabOffer w) := by
  unfold State.fabOffer
  split
  · exact entryOnly_fabBeat s w
  · exact ⟨rfl, fun _ _ _ => rfl⟩

theorem foldl_entry {α : Type} (l : List α) (g : State → α → State) (h : ∀ s a, EntryOnly s (g s a)) (s : State) :
    EntryOnly s (l.foldl g s) := by
  induction l generalizing s with
  | nil => exact .refl s
  | cons a t ih => exact (h s a).trans (ih _)

theorem entryOnly_fabWrite (s : State) (job : Nat) (use : XUse) (addr : Nat) (data : Bytes) (promised : Bool) :
    EntryOnly s (s.fabWrite job use addr data promised) :=
  foldl_entry _ _ (fun a _ => entryOnly_fabOffer a _) s

theorem entryOnly_putRing (s : State) (r : Ring) : EntryOnly s (s.putRing r) := ⟨rfl, fun _ _ _ => rfl⟩

theorem entryOnly_modGroup (s : State) (gid : Nat) (f : Group → Group) : EntryOnly s (s.modGroup gid f) := ⟨rfl, fun _ _ _ => rfl⟩

theorem entryOnly_modEntry (s : State) (uid : Nat) (f : Entry → Entry) : EntryOnly s (s.modEntry uid f) := ⟨rfl, fun _ _ _ => rfl⟩

theorem entryOnly_ite {s a b : State} {p : Prop} [Decidable p] (ha : EntryOnly s a) (hb : EntryOnly s b) :
    EntryOnly s (if p then a else b) := by split <;> assumption

theorem EntryOnly.may {s a b : State} {p : Prop} [Decidable p] (ha : EntryOnly s a) (hb : EntryOnly a b) :
    EntryOnly s (if p then b else a) := entryOnly_ite (ha.trans hb) ha

theorem writeCmpl_only (s : State) (c : Cmpl) : EntryOnly s (s.writeCmpl c) := by
  unfold State.writeCmpl
  dsimp only
  refine EntryOnly.may ?_ (message_only _ _ _).entry
  refine .trans ?_ (logRec_only _ _ _ _ _ _).entry
  refine EntryOnly.may ?_ (entryOnly_setI (f := .cringTailPhase) (by decide) _ _ _)
  refine .trans ?_ (entryOnly_setI (f := .cringTailTail) (by decide) _ _ _)
  exact entryOnly_ite (entryOnly_fabWrite _ _ _ _ _ _) ⟨rfl, fun _ _ _ => rfl⟩

theorem postCmpl_only (s : State) (c : Cmpl) : EntryOnly s (s.postCmpl c) := by
  unfold State.postCmpl
  dsimp only
  split
  · exact writeCmpl_only s c
  · exact (((entryOnly_putRing _ _).trans (entryOnly_setI (by decide) _ _ _)).trans (entryOnly_setI (by decide) _ _ _)).trans
      (entryOnly_setI (by decide) _ _ _)

theorem drainCmplFuel_only (n ctx ring : Nat) (s : State) : EntryOnly s (drainCmplFuel n ctx ring s) := by
  induction n generalizing s with
  | zero => exact .refl s
  | succ n ih =>
    simp only [drainCmplFuel]
    split
    · exact (entryOnly_setI (by decide) _ _ _).trans (entryOnly_setI (by decide) _ _ _)
    · split
      · exact ((entryOnly_putRing _ _).trans (writeCmpl_only _ _)).trans (ih _)
      · exact .refl s

theorem settleGroupFuel_only (n gid : Nat) (s : State) : EntryOnly s (settleGroupFuel n gid s) := by
  induction n generalizing s with
  | zero => exact .refl s
  | succ n ih =>
    simp only [settleGroupFuel]
    split
    · rename_i g e _ _
      split
      · exact .refl s
      · have h1 : EntryOnly s { s with entries := s.entries.filter (fun x => x.uid != e.uid) } := ⟨rfl, fun _ _ _ => rfl⟩
        have h2 : ∀ a : State, ∀ l : List Cmpl, EntryOnly a (l.foldl (fun a c => a.postCmpl c) a) := fun a l =>
          foldl_entry l _ (fun a c => postCmpl_only a c) a
        refine EntryOnly.trans ?_ (ih _)
        split
        · refine EntryOnly.trans ?_ (entryOnly_modGroup _ _ _)
          split
          · exact (h1.trans (entryOnly_modGroup _ _ _)).trans (h2 _ _)
          · exact h1.trans (entryOnly_modGroup _ _ _)
        · split
          · exact (h1.trans (entryOnly_modGroup _ _ _)).trans (h2 _ _)
          · exact h1.trans (entryOnly_modGroup _ _ _)
    · exact .refl s

theorem settleGroup_only (s : State) (gid : Nat) : EntryOnly s (s.settleGroup gid) := settleGroupFuel_only _ gid s

theorem settleRing_only (s : State) (ctx ring : Nat) : EntryOnly s (s.settleRing ctx ring) :=
  foldl_entry _ _ (fun a g => settleGroup_only a g) s

theorem endOne_only (s : State) (uid : Nat) (r : Result) : EntryOnly s (s.endOne uid r) := by
  unfold State.endOne
  split
  · exact .refl s
  · have h1 : ∀ i v, EntryOnly s (if r.status = stMalformed then
        (s.modEntry uid (fun e => { e with stage := .ended, res := r })).setI .ringMalformedCount i v
        else s.modEntry uid (fun e => { e with stage := .ended, res := r })) := fun i v =>
      EntryOnly.may (entryOnly_modEntry _ _ _) (entryOnly_setI (by decide) _ i v)
    exact entryOnly_ite (h1 _ _) (((h1 _ _).trans (settleGroup_only _ _)).trans (settleRing_only _ _ _))

theorem wakeFence_only (s : State) (ctx ring : Nat) : EntryOnly s (s.wakeFence ctx ring) := by
  unfold State.wakeFence
  split
  · split
    · exact endOne_only _ _ _
    · exact .refl s
  · exact .refl s

/-- What the end of an entry can change. -/
theorem endEntry_only (s : State) (uid : Nat) (r : Result) : EntryOnly s (s.endEntry uid r) := by
  unfold State.endEntry
  split
  · exact .refl s
  · exact (endOne_only _ _ _).trans (wakeFence_only _ _ _)

end Sys2Proof.Machine
end

