-- ==== Sys2Proof/Laws/Exec.lean ====
section
/-! SUPPORT. Every command that completes ends with `finish`: one lemma a meaning, and the case split over all of them. -/
namespace Sys2Proof.Machine

/-- An outcome that, where it is a next state, is one that `finish` makes from s. -/
def Ends (s : State) (o : Host.Outcome State Fault Refusal) : Prop := ∀ t, o = .next t → ∃ u, t = finishState s u

theorem ends_finish (s u : State) : Ends s (finish s u) := fun t h => ⟨u, by simpa [finish] using h.symm⟩

theorem ends_notDue (s : State) (w : String) : Ends s (notDue w) := fun t h => by simp [notDue] at h

theorem ends_ite {s : State} {p : Prop} [Decidable p] {a b : Host.Outcome State Fault Refusal} (ha : Ends s a) (hb : Ends s b) :
    Ends s (if p then a else b) := by split <;> assumption

theorem ends_startEntry (name : String) (ctx ring op : Nat) (v1 : Bool) (s : State) (body : Entry → State → State) :
    Ends s (startEntry name ctx ring op v1 s body) := by
  unfold startEntry
  repeat' (first | exact ends_finish _ _ | exact ends_notDue _ _ | split)

theorem ends_startFeeder (name : String) (ctx ring op : Nat) (v1 : Bool) (s : State) (body : Entry → State → State) :
    Ends s (startFeeder name ctx ring op v1 s body) := by
  unfold startFeeder
  repeat' (first | exact ends_startEntry _ _ _ _ _ _ _ | exact ends_notDue _ _ | split)

theorem ends_startSync (name : String) (ctx ring op sub : Nat) (s : State) (body : Entry → State → State) :
    Ends s (startSync name ctx ring op sub s body) := by
  unfold startSync
  repeat' (first | exact ends_startEntry _ _ _ _ _ _ _ | exact ends_notDue _ _ | split)

theorem ends_coldReset inst present (s : State) : Ends s (execColdReset inst present s) := ends_finish _ _

theorem ends_packageReset inst present (s : State) : Ends s (execPackageReset inst present s) := by
  unfold execPackageReset
  repeat' (first | exact ends_finish _ _ | refine ends_ite ?_ ?_)

theorem ends_functionReset ofs (s : State) : Ends s (execFunctionReset ofs s) := by
  unfold execFunctionReset
  repeat' (first | exact ends_finish _ _ | refine ends_ite ?_ ?_)

theorem ends_tenantReset ctx ofs (s : State) : Ends s (execTenantReset ctx ofs s) := by
  unfold execTenantReset
  repeat' (first | exact ends_finish _ _ | refine ends_ite ?_ ?_)

theorem ends_engineRst ofs (s : State) : Ends s (execEngineRst ofs s) := ends_finish _ _

theorem ends_pwrFailN ofs (s : State) : Ends s (execPwrFailN ofs s) := ends_finish _ _

theorem ends_busVStrobe code ofs (s : State) : Ends s (execBusVStrobe code ofs s) := by
  unfold execBusVStrobe
  repeat' (first | exact ends_finish _ _ | refine ends_ite ?_ ?_)

theorem ends_busvStaleTimeout (s : State) : Ends s (execBusvStaleTimeout s) := ends_finish _ _

theorem ends_sagFastRise level ofs (s : State) : Ends s (execSagFastRise level ofs s) := by
  unfold execSagFastRise
  repeat' (first | exact ends_finish _ _ | refine ends_ite ?_ ?_)

theorem ends_sagStepUp level ofs (s : State) : Ends s (execSagStepUp level ofs s) := by
  unfold execSagStepUp
  repeat' (first | exact ends_finish _ _ | exact ends_notDue _ _ | refine ends_ite ?_ ?_)

theorem ends_tickInEdge delta (s : State) : Ends s (execTickInEdge delta s) := by
  unfold execTickInEdge
  repeat' (first | exact ends_finish _ _ | refine ends_ite ?_ ?_)

theorem ends_tickBoundary (s : State) : Ends s (execTickBoundary s) := by
  unfold execTickBoundary
  repeat' (first | exact ends_finish _ _ | exact ends_notDue _ _ | refine ends_ite ?_ ?_)

theorem ends_throttleWindowEnd (s : State) : Ends s (execThrottleWindowEnd s) := by
  unfold execThrottleWindowEnd
  repeat' (first | exact ends_finish _ _ | exact ends_notDue _ _ | refine ends_ite ?_ ?_)

theorem ends_powerFault ofs (s : State) : Ends s (execPowerFault ofs s) := by
  unfold execPowerFault
  repeat' (first | exact ends_finish _ _ | exact ends_notDue _ _ | refine ends_ite ?_ ?_)

theorem ends_stepEnd step cut ofs (s : State) : Ends s (execStepEnd step cut ofs s) := by
  unfold execStepEnd
  repeat' (first | exact ends_finish _ _ | refine ends_ite ?_ ?_)

theorem ends_guardWrite lane addr data be ord id now (s : State) : Ends s (execGuardWrite lane addr data be ord id now s) := by
  unfold execGuardWrite
  repeat' (first | exact ends_finish _ _ | refine ends_ite ?_ ?_)

theorem ends_rescueIssue now (s : State) : Ends s (execRescueIssue now s) := by
  unfold execRescueIssue
  repeat' (first | exact ends_finish _ _ | exact ends_notDue _ _ | refine ends_ite ?_ ?_ | split)

theorem ends_rescueLanding gran data err now (s : State) : Ends s (execRescueLanding gran data err now s) := by
  unfold execRescueLanding
  repeat' (first | exact ends_finish _ _ | exact ends_notDue _ _ | refine ends_ite ?_ ?_ | split)

theorem ends_poolDrain (s : State) : Ends s (execPoolDrain s) := by
  unfold execPoolDrain
  repeat' (first | exact ends_finish _ _ | exact ends_notDue _ _ | split)

theorem ends_guardWriteResponse lane spill id err (s : State) : Ends s (execGuardWriteResponse lane spill id err s) := by
  unfold execGuardWriteResponse
  repeat' (first | exact ends_finish _ _ | exact ends_notDue _ _ | refine ends_ite ?_ ?_)

theorem ends_copyReadLanding gran data err now (s : State) : Ends s (execCopyReadLanding gran data err now s) := by
  unfold execCopyReadLanding
  dsimp only
  repeat' (first | exact ends_finish _ _ | exact ends_notDue _ _ | refine ends_ite ?_ ?_ | split)

theorem ends_bitmapClearDone (s : State) : Ends s (execBitmapClearDone s) := by
  unfold execBitmapClearDone
  repeat' (first | exact ends_finish _ _ | exact ends_notDue _ _ | refine ends_ite ?_ ?_ | split)

theorem ends_fabricReadResponse tag data err (s : State) : Ends s (execFabricReadResponse tag data err s) := by
  unfold execFabricReadResponse
  repeat' (first | exact ends_finish _ _ | exact ends_notDue _ _ | refine ends_ite ?_ ?_ | split)

theorem ends_fabricWriteAck id err (s : State) : Ends s (execFabricWriteAck id err s) := by
  unfold execFabricWriteAck
  repeat' (first | exact ends_finish _ _ | exact ends_notDue _ _ | refine ends_ite ?_ ?_ | split)

theorem ends_groupCloseTimeout ctx ring (s : State) : Ends s (execGroupCloseTimeout ctx ring s) := by
  unfold execGroupCloseTimeout
  repeat' (first | exact ends_finish _ _ | exact ends_notDue _ _ | refine ends_ite ?_ ?_ | split)

theorem ends_admissionDecision gid (s : State) : Ends s (execAdmissionDecision gid s) := by
  unfold execAdmissionDecision
  repeat' (first | exact ends_finish _ _ | exact ends_notDue _ _ | refine ends_ite ?_ ?_ | split)

theorem ends_doorbell ctx ring tail ofs (s : State) : Ends s (execDoorbell ctx ring tail ofs s) := ends_finish _ _

theorem ends_entryFetch ctx ring bytes (s : State) : Ends s (execEntryFetch ctx ring bytes s) := by
  unfold execEntryFetch
  repeat' (first | exact ends_finish _ _ | exact ends_notDue _ _ | refine ends_ite ?_ ?_)

theorem ends_ownRecheck ctx ring bytes (s : State) : Ends s (execOwnRecheck ctx ring bytes s) := by
  unfold execOwnRecheck
  repeat' (first | exact ends_finish _ _ | exact ends_notDue _ _ | refine ends_ite ?_ ?_)

theorem ends_ringEnable ctx ring cfg ofs (s : State) : Ends s (execRingEnable ctx ring cfg ofs s) := ends_finish _ _

theorem ends_cringHead ctx ring head ofs (s : State) : Ends s (execCringHead ctx ring head ofs s) := ends_finish _ _

theorem ends_nop ctx ring (s : State) : Ends s (execNop ctx ring s) :=
  ends_startEntry _ _ _ _ _ _ _

theorem ends_fence ctx ring (s : State) : Ends s (execFence ctx ring s) :=
  ends_startEntry _ _ _ _ _ _ _

theorem ends_copy ctx ring (s : State) : Ends s (execCopy ctx ring s) :=
  ends_startFeeder _ _ _ _ _ _ _

theorem ends_snap ctx ring (s : State) : Ends s (execSnap ctx ring s) :=
  ends_startEntry _ _ _ _ _ _ _

theorem ends_restore ctx ring img (s : State) : Ends s (execRestore ctx ring img s) :=
  ends_startFeeder _ _ _ _ _ _ _

theorem ends_swapIn ctx ring img (s : State) : Ends s (execSwapIn ctx ring img s) :=
  ends_startFeeder _ _ _ _ _ _ _

theorem ends_chain ctx ring img (s : State) : Ends s (execChain ctx ring img s) :=
  ends_startFeeder _ _ _ _ _ _ _

theorem ends_sealJob ctx ring (s : State) : Ends s (execSealJob ctx ring s) :=
  ends_startFeeder _ _ _ _ _ _ _

theorem ends_openJob ctx ring (s : State) : Ends s (execOpenJob ctx ring s) :=
  ends_startFeeder _ _ _ _ _ _ _

theorem ends_digest ctx ring (s : State) : Ends s (execDigest ctx ring s) :=
  ends_startFeeder _ _ _ _ _ _ _

theorem ends_digestFinal ctx ring (s : State) : Ends s (execDigestFinal ctx ring s) :=
  ends_startFeeder _ _ _ _ _ _ _

theorem ends_mouldLoad ctx ring data (s : State) : Ends s (execMouldLoad ctx ring data s) :=
  ends_startEntry _ _ _ _ _ _ _

theorem ends_permLoad ctx ring data (s : State) : Ends s (execPermLoad ctx ring data s) :=
  ends_startEntry _ _ _ _ _ _ _

theorem ends_lattice ctx ring (s : State) : Ends s (execLattice ctx ring s) :=
  ends_startFeeder _ _ _ _ _ _ _

theorem ends_signalSet ctx ring (s : State) : Ends s (execSignalSet ctx ring s) :=
  ends_startSync _ _ _ _ _ _ _

theorem ends_signalAdd ctx ring (s : State) : Ends s (execSignalAdd ctx ring s) :=
  ends_startSync _ _ _ _ _ _ _

theorem ends_signalSub ctx ring (s : State) : Ends s (execSignalSub ctx ring s) :=
  ends_startSync _ _ _ _ _ _ _

theorem ends_waitEq ctx ring (s : State) : Ends s (execWaitEq ctx ring s) :=
  ends_startSync _ _ _ _ _ _ _

theorem ends_waitGe ctx ring (s : State) : Ends s (execWaitGe ctx ring s) :=
  ends_startSync _ _ _ _ _ _ _

theorem ends_waitNe ctx ring (s : State) : Ends s (execWaitNe ctx ring s) :=
  ends_startSync _ _ _ _ _ _ _

theorem ends_barrierArriveWait ctx ring (s : State) : Ends s (execBarrierArriveWait ctx ring s) :=
  ends_startSync _ _ _ _ _ _ _

theorem ends_barrierArrive ctx ring (s : State) : Ends s (execBarrierArrive ctx ring s) :=
  ends_startSync _ _ _ _ _ _ _

theorem ends_barrierInit ctx ring (s : State) : Ends s (execBarrierInit ctx ring s) :=
  ends_startSync _ _ _ _ _ _ _

theorem ends_resume ctx ring (s : State) : Ends s (execResume ctx ring s) :=
  ends_startFeeder _ _ _ _ _ _ _

theorem ends_v1Nop ctx ring (s : State) : Ends s (execV1Nop ctx ring s) :=
  ends_startEntry _ _ _ _ _ _ _

theorem ends_v1Copy ctx ring (s : State) : Ends s (execV1Copy ctx ring s) :=
  ends_startEntry _ _ _ _ _ _ _

theorem ends_v1Snap ctx ring (s : State) : Ends s (execV1Snap ctx ring s) :=
  ends_startEntry _ _ _ _ _ _ _

theorem ends_v1Restore ctx ring img (s : State) : Ends s (execV1Restore ctx ring img s) :=
  ends_startEntry _ _ _ _ _ _ _

theorem ends_v1Seal ctx ring (s : State) : Ends s (execV1Seal ctx ring s) :=
  ends_startEntry _ _ _ _ _ _ _

theorem ends_v1Open ctx ring (s : State) : Ends s (execV1Open ctx ring s) :=
  ends_startEntry _ _ _ _ _ _ _

theorem ends_v1Fence ctx ring (s : State) : Ends s (execV1Fence ctx ring s) :=
  ends_startEntry _ _ _ _ _ _ _

theorem ends_syncTimeout ctx ring (s : State) : Ends s (execSyncTimeout ctx ring s) := by
  unfold execSyncTimeout
  repeat' (first | exact ends_finish _ _ | exact ends_notDue _ _ | refine ends_ite ?_ ?_ | split)

theorem ends_syncPageSet ctx id value ofs (s : State) : Ends s (execSyncPageSet ctx id value ofs s) := ends_finish _ _

theorem ends_syncPageAdd ctx id value ofs (s : State) : Ends s (execSyncPageAdd ctx id value ofs s) := ends_finish _ _

theorem ends_syncMapWrite value ofs (s : State) : Ends s (execSyncMapWrite value ofs s) := ends_finish _ _

theorem ends_tickModeGo request ofs (s : State) : Ends s (execTickModeGo request ofs s) := ends_finish _ _

theorem ends_stgCtrlSwap ofs (s : State) : Ends s (execStgCtrlSwap ofs s) := ends_finish _ _

theorem ends_invAll ofs (s : State) : Ends s (execInvAll ofs s) := ends_finish _ _

theorem ends_invCtx ctx ofs (s : State) : Ends s (execInvCtx ctx ofs s) := ends_finish _ _

theorem ends_slotFlush ofs (s : State) : Ends s (execSlotFlush ofs s) := ends_finish _ _

theorem ends_grdPeakClr ofs (s : State) : Ends s (execGrdPeakClr ofs s) := ends_finish _ _

theorem ends_digPeakClr ofs (s : State) : Ends s (execDigPeakClr ofs s) := ends_finish _ _

theorem ends_minClr ofs (s : State) : Ends s (execMinClr ofs s) := ends_finish _ _

theorem ends_keyLoad value ofs (s : State) : Ends s (execKeyLoad value ofs s) := ends_finish _ _

theorem ends_keyUnwrapDone (s : State) : Ends s (execKeyUnwrapDone s) := by
  unfold execKeyUnwrapDone
  repeat' (first | exact ends_finish _ _ | exact ends_notDue _ _ | refine ends_ite ?_ ?_ | split)

theorem ends_keyErase value ofs (s : State) : Ends s (execKeyErase value ofs s) := ends_finish _ _

theorem ends_ackLost ofs (s : State) : Ends s (execAckLost ofs s) := ends_finish _ _

theorem ends_pntInvCtx ctx ofs (s : State) : Ends s (execPntInvCtx ctx ofs s) := ends_finish _ _

theorem ends_pntVlWrite ctx vl ofs (s : State) : Ends s (execPntVlWrite ctx vl ofs s) := ends_finish _ _

theorem ends_warn ofs (s : State) : Ends s (execWarn ofs s) := ends_finish _ _

theorem ends_abandon ofs (s : State) : Ends s (execAbandon ofs s) := ends_finish _ _

theorem ends_adopt role ofs (s : State) : Ends s (execAdopt role ofs s) := ends_finish _ _

theorem ends_go ofs header (s : State) : Ends s (execGo ofs header s) := ends_finish _ _

theorem ends_retainReq ofs (s : State) : Ends s (execRetainReq ofs s) := ends_finish _ _

theorem ends_armUpd ofs image (s : State) : Ends s (execArmUpd ofs image s) := ends_finish _ _

theorem ends_qpReset ofs (s : State) : Ends s (execQpReset ofs s) := ends_finish _ _

theorem ends_qpRts ofs (s : State) : Ends s (execQpRts ofs s) := ends_finish _ _

theorem ends_retire ofs (s : State) : Ends s (execRetire ofs s) := ends_finish _ _

theorem ends_patEccAdd count ofs (s : State) : Ends s (execPatEccAdd count ofs s) := ends_finish _ _

theorem ends_close ofs (s : State) : Ends s (execClose ofs s) := ends_finish _ _

theorem ends_irqEnWrite ctx value ofs (s : State) : Ends s (execIrqEnWrite ctx value ofs s) := ends_finish _ _

theorem ends_registerWrite tenant ctx off size value ofs data (s : State) : Ends s (execRegisterWrite tenant ctx off size value ofs data s) := ends_finish _ _

theorem ends_halfSwap (s : State) : Ends s (execHalfSwap s) := by
  unfold execHalfSwap
  repeat' (first | exact ends_finish _ _ | exact ends_notDue _ _ | refine ends_ite ?_ ?_)

theorem ends_mouldBuildDone (s : State) : Ends s (execMouldBuildDone s) := by
  unfold execMouldBuildDone
  repeat' (first | exact ends_finish _ _ | exact ends_notDue _ _ | split)

theorem ends_sealOpenVerdict pipe (s : State) : Ends s (execSealOpenVerdict pipe s) := by
  unfold execSealOpenVerdict
  repeat' (first | exact ends_finish _ _ | exact ends_notDue _ _ | refine ends_ite ?_ ?_ | split)

theorem ends_decodeSlotLoadDone slot (s : State) : Ends s (execDecodeSlotLoadDone slot s) := by
  unfold execDecodeSlotLoadDone
  repeat' (first | exact ends_finish _ _ | exact ends_notDue _ _ | refine ends_ite ?_ ?_)

theorem ends_fingerprintDone job blk (s : State) : Ends s (execFingerprintDone job blk s) := by
  unfold execFingerprintDone
  repeat' (first | exact ends_finish _ _ | exact ends_notDue _ _ | refine ends_ite ?_ ?_ | split)

theorem ends_arrivalDigestDone job blk (s : State) : Ends s (execArrivalDigestDone job blk s) := by
  unfold execArrivalDigestDone
  repeat' (first | exact ends_finish _ _ | exact ends_notDue _ _ | refine ends_ite ?_ ?_ | split)

theorem ends_tileBoundary ofs (s : State) : Ends s (execTileBoundary ofs s) := by
  unfold execTileBoundary
  repeat' (first | exact ends_finish _ _ | refine ends_ite ?_ ?_)

theorem ends_atsTranslationResponse tag ok (s : State) : Ends s (execAtsTranslationResponse tag ok s) := by
  unfold execAtsTranslationResponse
  repeat' (first | exact ends_finish _ _ | exact ends_notDue _ _ | refine ends_ite ?_ ?_ | split)

theorem ends_atsInvalidation fn (s : State) : Ends s (execAtsInvalidation fn s) := by
  unfold execAtsInvalidation
  repeat' (first | exact ends_finish _ _)

theorem ends_hostReadCompletion tag data status (s : State) : Ends s (execHostReadCompletion tag data status s) := by
  unfold execHostReadCompletion
  repeat' (first | exact ends_finish _ _ | exact ends_notDue _ _ | refine ends_ite ?_ ?_ | split)

theorem ends_hostLinkDown (s : State) : Ends s (execHostLinkDown s) := by
  unfold execHostLinkDown
  repeat' (first | exact ends_finish _ _)

theorem ends_hostRequestWake fn off size wr (s : State) : Ends s (execHostRequestWake fn off size wr s) := by
  unfold execHostRequestWake
  repeat' (first | exact ends_finish _ _ | exact ends_notDue _ _ | refine ends_ite ?_ ?_)

theorem ends_wakeComplete ticks data (s : State) : Ends s (execWakeComplete ticks data s) := by
  unfold execWakeComplete
  repeat' (first | exact ends_finish _ _ | exact ends_notDue _ _ | refine ends_ite ?_ ?_)

theorem ends_receiveFrame lane err frame (s : State) : Ends s (execReceiveFrame lane err frame s) := ends_finish _ _

theorem ends_rdmaWriteRequest qp psn rkey addr data (s : State) : Ends s (execRdmaWriteRequest qp psn rkey addr data s) := ends_finish _ _

theorem ends_rdmaReadRequest qp psn rkey addr len (s : State) : Ends s (execRdmaReadRequest qp psn rkey addr len s) := ends_finish _ _

theorem ends_rdmaReadResponse qp psn data (s : State) : Ends s (execRdmaReadResponse qp psn data s) := ends_finish _ _

theorem ends_fingerprintBatch qp psn bytes (s : State) : Ends s (execFingerprintBatch qp psn bytes s) := ends_finish _ _

theorem ends_commitNotice qp psn bytes (s : State) : Ends s (execCommitNotice qp psn bytes s) := ends_finish _ _

theorem ends_sendWithInvalidate qp psn key (s : State) : Ends s (execSendWithInvalidate qp psn key s) := ends_finish _ _

theorem ends_rcAck qp psn (s : State) : Ends s (execRcAck qp psn s) := ends_finish _ _

theorem ends_nak qp psn kind (s : State) : Ends s (execNak qp psn kind s) := ends_finish _ _

theorem ends_cnp qp (s : State) : Ends s (execCnp qp s) := by
  unfold execCnp
  repeat' (first | exact ends_finish _ _ | refine ends_ite ?_ ?_)

theorem ends_cnpRecover qp (s : State) : Ends s (execCnpRecover qp s) := by
  unfold execCnpRecover
  repeat' (first | exact ends_finish _ _ | exact ends_notDue _ _ | refine ends_ite ?_ ?_)

theorem ends_ackTimeout qp (s : State) : Ends s (execAckTimeout qp s) := by
  unfold execAckTimeout
  repeat' (first | exact ends_finish _ _ | exact ends_notDue _ _ | refine ends_ite ?_ ?_)

theorem ends_remoteOpTimeout tag (s : State) : Ends s (execRemoteOpTimeout tag s) := by
  unfold execRemoteOpTimeout
  repeat' (first | exact ends_finish _ _ | exact ends_notDue _ _ | refine ends_ite ?_ ?_ | split)

theorem ends_linkUpFall lane (s : State) : Ends s (execLinkUpFall lane s) := by
  unfold execLinkUpFall
  repeat' (first | exact ends_finish _ _)

theorem ends_linkDownTimeout lane (s : State) : Ends s (execLinkDownTimeout lane s) := by
  unfold execLinkDownTimeout
  repeat' (first | exact ends_finish _ _ | exact ends_notDue _ _ | refine ends_ite ?_ ?_)

theorem ends_dueTickCongested gid (s : State) : Ends s (execDueTickCongested gid s) := by
  unfold execDueTickCongested
  repeat' (first | exact ends_finish _ _ | exact ends_notDue _ _ | refine ends_ite ?_ ?_ | split)

theorem ends_nvmeCompletion tgt cid status data (s : State) : Ends s (execNvmeCompletion tgt cid status data s) := by
  unfold execNvmeCompletion
  repeat' (first | exact ends_finish _ _ | exact ends_notDue _ _ | refine ends_ite ?_ ?_ | split)

theorem ends_keepAlive tgt (s : State) : Ends s (execKeepAlive tgt s) := by
  unfold execKeepAlive
  repeat' (first | exact ends_finish _ _ | exact ends_notDue _ _ | refine ends_ite ?_ ?_)

theorem ends_xchgWaitTimeout seg (s : State) : Ends s (execXchgWaitTimeout seg s) := by
  unfold execXchgWaitTimeout
  repeat' (first | exact ends_finish _ _ | exact ends_notDue _ _ | refine ends_ite ?_ ?_ | split)

theorem ends_commitNoticeTimeout (s : State) : Ends s (execCommitNoticeTimeout s) := by
  unfold execCommitNoticeTimeout
  repeat' (first | exact ends_finish _ _ | exact ends_notDue _ _ | refine ends_ite ?_ ?_ | split)

theorem ends_arrive src phase (s : State) : Ends s (execArrive src phase s) := by
  unfold execArrive
  repeat' (first | exact ends_finish _ _ | refine ends_ite ?_ ?_)

theorem ends_release src phase (s : State) : Ends s (execRelease src phase s) := by
  unfold execRelease
  repeat' (first | exact ends_finish _ _ | refine ends_ite ?_ ?_)

theorem ends_holdup src busV ofs (s : State) : Ends s (execHoldup src busV ofs s) := ends_finish _ _

theorem ends_warnPacket src cause ofs (s : State) : Ends s (execWarnPacket src cause ofs s) := by
  unfold execWarnPacket
  repeat' (first | exact ends_finish _ _ | refine ends_ite ?_ ?_)

theorem ends_absent src cause (s : State) : Ends s (execAbsent src cause s) := by
  unfold execAbsent
  repeat' (first | exact ends_finish _ _ | refine ends_ite ?_ ?_)

theorem ends_bootWaitTimeout (s : State) : Ends s (execBootWaitTimeout s) := by
  unfold execBootWaitTimeout
  repeat' (first | exact ends_finish _ _ | exact ends_notDue _ _ | refine ends_ite ?_ ?_)

theorem ends_phase1Timeout (s : State) : Ends s (execPhase1Timeout s) := by
  unfold execPhase1Timeout
  repeat' (first | exact ends_finish _ _ | exact ends_notDue _ _ | refine ends_ite ?_ ?_)

theorem ends_startAlone (s : State) : Ends s (execStartAlone s) := by
  unfold execStartAlone
  repeat' (first | exact ends_finish _ _ | exact ends_notDue _ _ | refine ends_ite ?_ ?_)

theorem ends_keyPortAck data err (s : State) : Ends s (execKeyPortAck data err s) := by
  unfold execKeyPortAck
  repeat' (first | exact ends_finish _ _ | exact ends_notDue _ _ | refine ends_ite ?_ ?_)

theorem ends_keyPortTimeout (s : State) : Ends s (execKeyPortTimeout s) := by
  unfold execKeyPortTimeout
  repeat' (first | exact ends_finish _ _ | exact ends_notDue _ _ | refine ends_ite ?_ ?_)

theorem ends_nvmReadDone data (s : State) : Ends s (execNvmReadDone data s) := by
  unfold execNvmReadDone
  repeat' (first | exact ends_finish _ _ | exact ends_notDue _ _ | refine ends_ite ?_ ?_ | split)

theorem ends_nvmProgramDone ok (s : State) : Ends s (execNvmProgramDone ok s) := by
  unfold execNvmProgramDone
  repeat' (first | exact ends_finish _ _ | exact ends_notDue _ _ | refine ends_ite ?_ ?_ | split)

theorem ends_nvmEraseDone (s : State) : Ends s (execNvmEraseDone s) := by
  unfold execNvmEraseDone
  repeat' (first | exact ends_finish _ _ | exact ends_notDue _ _ | refine ends_ite ?_ ?_ | split)

theorem ends_signatureVerifyDone (s : State) : Ends s (execSignatureVerifyDone s) := by
  unfold execSignatureVerifyDone
  repeat' (first | exact ends_finish _ _ | exact ends_notDue _ _ | refine ends_ite ?_ ?_)

theorem ends_watchdogExpiry ofs (s : State) : Ends s (execWatchdogExpiry ofs s) := by
  unfold execWatchdogExpiry
  repeat' (first | exact ends_finish _ _ | exact ends_notDue _ _ | refine ends_ite ?_ ?_)

theorem ends_idleEntry (s : State) : Ends s (execIdleEntry s) := by
  unfold execIdleEntry
  repeat' (first | exact ends_finish _ _ | exact ends_notDue _ _ | refine ends_ite ?_ ?_)

theorem ends_pmWakeTick (s : State) : Ends s (execPmWakeTick s) := by
  unfold execPmWakeTick
  repeat' (first | exact ends_finish _ _ | exact ends_notDue _ _ | refine ends_ite ?_ ?_)

theorem ends_patrolSlot pass1 pass2 corrected (s : State) : Ends s (execPatrolSlot pass1 pass2 corrected s) := by
  unfold execPatrolSlot
  repeat' (first | exact ends_finish _ _ | exact ends_notDue _ _ | refine ends_ite ?_ ?_)

theorem ends_substitutionDone cls phys ofs (s : State) : Ends s (execSubstitutionDone cls phys ofs s) := by
  unfold execSubstitutionDone
  repeat' (first | exact ends_finish _ _ | exact ends_notDue _ _ | refine ends_ite ?_ ?_ | split)

theorem ends_eccWindowEnd (s : State) : Ends s (execEccWindowEnd s) := by
  unfold execEccWindowEnd
  repeat' (first | exact ends_finish _ _ | exact ends_notDue _ _ | refine ends_ite ?_ ?_)

theorem ends_yeljoHeaderRewrite (s : State) : Ends s (execYeljoHeaderRewrite s) := by
  unfold execYeljoHeaderRewrite
  repeat' (first | exact ends_finish _ _ | exact ends_notDue _ _ | refine ends_ite ?_ ?_)

theorem ends_replayInput rec data (s : State) : Ends s (execReplayInput rec data s) := by
  unfold execReplayInput
  repeat' (first | exact ends_finish _ _ | exact ends_notDue _ _ | refine ends_ite ?_ ?_)

theorem ends_hflrReqFall fn (s : State) : Ends s (execHflrReqFall fn s) := by
  unfold execHflrReqFall
  repeat' (first | exact ends_finish _ _)

theorem ends_hcfgMsixMaskClear fn (s : State) : Ends s (execHcfgMsixMaskClear fn s) := by
  unfold execHcfgMsixMaskClear
  repeat' (first | exact ends_finish _ _)

theorem ends_linkUpRise lane (s : State) : Ends s (execLinkUpRise lane s) := by
  unfold execLinkUpRise
  repeat' (first | exact ends_finish _ _)

theorem ends_strapChange inst present (s : State) : Ends s (execStrapChange inst present s) := ends_finish _ _

theorem ends_sbDrop packet (s : State) : Ends s (execSbDrop packet s) := ends_finish _ _

theorem ends_dbgEnFall (s : State) : Ends s (execDbgEnFall s) := by
  unfold execDbgEnFall
  repeat' (first | exact ends_finish _ _ | refine ends_ite ?_ ?_)

theorem ends_ijtagAccess op (s : State) : Ends s (execIjtagAccess op s) := by
  unfold execIjtagAccess
  repeat' (first | exact ends_finish _ _ | refine ends_ite ?_ ?_ | split)

theorem ends_firmwareBack sram nvm (s : State) : Ends s (execFirmwareBack sram nvm s) := by
  unfold execFirmwareBack
  repeat' (first | exact ends_finish _ _ | exact ends_notDue _ _ | refine ends_ite ?_ ?_)

theorem ends_railRemoved (s : State) : Ends s (execRailRemoved s) := by
  unfold execRailRemoved
  repeat' (first | exact ends_finish _ _)

/-- Whatever command completes, `finish` has made the next state. -/
theorem exec_ends (c : Instr) (s : State) : Ends s (exec c s) := by
  cases c with
  | coldReset inst present => exact ends_coldReset inst present s
  | packageReset inst present => exact ends_packageReset inst present s
  | functionReset ofs => exact ends_functionReset ofs s
  | tenantReset ctx ofs => exact ends_tenantReset ctx ofs s
  | engineRst ofs => exact ends_engineRst ofs s
  | pwrFailN ofs => exact ends_pwrFailN ofs s
  | busVStrobe code ofs => exact ends_busVStrobe code ofs s
  | busvStaleTimeout => exact ends_busvStaleTimeout s
  | sagFastRise level ofs => exact ends_sagFastRise level ofs s
  | sagStepUp level ofs => exact ends_sagStepUp level ofs s
  | tickInEdge delta => exact ends_tickInEdge delta s
  | tickBoundary => exact ends_tickBoundary s
  | throttleWindowEnd => exact ends_throttleWindowEnd s
  | powerFault ofs => exact ends_powerFault ofs s
  | stepEnd step cut ofs => exact ends_stepEnd step cut ofs s
  | guardWrite lane addr data be ord id now => exact ends_guardWrite lane addr data be ord id now s
  | rescueIssue now => exact ends_rescueIssue now s
  | rescueLanding gran data err now => exact ends_rescueLanding gran data err now s
  | poolDrain => exact ends_poolDrain s
  | guardWriteResponse lane spill id err => exact ends_guardWriteResponse lane spill id err s
  | copyReadLanding gran data err now => exact ends_copyReadLanding gran data err now s
  | bitmapClearDone => exact ends_bitmapClearDone s
  | fabricReadResponse tag data err => exact ends_fabricReadResponse tag data err s
  | fabricWriteAck id err => exact ends_fabricWriteAck id err s
  | groupCloseTimeout ctx ring => exact ends_groupCloseTimeout ctx ring s
  | admissionDecision gid => exact ends_admissionDecision gid s
  | doorbell ctx ring tail ofs => exact ends_doorbell ctx ring tail ofs s
  | entryFetch ctx ring bytes => exact ends_entryFetch ctx ring bytes s
  | ownRecheck ctx ring bytes => exact ends_ownRecheck ctx ring bytes s
  | ringEnable ctx ring cfg ofs => exact ends_ringEnable ctx ring cfg ofs s
  | cringHead ctx ring head ofs => exact ends_cringHead ctx ring head ofs s
  | nop ctx ring => exact ends_nop ctx ring s
  | fence ctx ring => exact ends_fence ctx ring s
  | copy ctx ring => exact ends_copy ctx ring s
  | snap ctx ring => exact ends_snap ctx ring s
  | restore ctx ring img => exact ends_restore ctx ring img s
  | swapIn ctx ring img => exact ends_swapIn ctx ring img s
  | chain ctx ring img => exact ends_chain ctx ring img s
  | sealJob ctx ring => exact ends_sealJob ctx ring s
  | openJob ctx ring => exact ends_openJob ctx ring s
  | digest ctx ring => exact ends_digest ctx ring s
  | digestFinal ctx ring => exact ends_digestFinal ctx ring s
  | mouldLoad ctx ring data => exact ends_mouldLoad ctx ring data s
  | permLoad ctx ring data => exact ends_permLoad ctx ring data s
  | lattice ctx ring => exact ends_lattice ctx ring s
  | signalSet ctx ring => exact ends_signalSet ctx ring s
  | signalAdd ctx ring => exact ends_signalAdd ctx ring s
  | signalSub ctx ring => exact ends_signalSub ctx ring s
  | waitEq ctx ring => exact ends_waitEq ctx ring s
  | waitGe ctx ring => exact ends_waitGe ctx ring s
  | waitNe ctx ring => exact ends_waitNe ctx ring s
  | barrierArriveWait ctx ring => exact ends_barrierArriveWait ctx ring s
  | barrierArrive ctx ring => exact ends_barrierArrive ctx ring s
  | barrierInit ctx ring => exact ends_barrierInit ctx ring s
  | resume ctx ring => exact ends_resume ctx ring s
  | v1Nop ctx ring => exact ends_v1Nop ctx ring s
  | v1Copy ctx ring => exact ends_v1Copy ctx ring s
  | v1Snap ctx ring => exact ends_v1Snap ctx ring s
  | v1Restore ctx ring img => exact ends_v1Restore ctx ring img s
  | v1Seal ctx ring => exact ends_v1Seal ctx ring s
  | v1Open ctx ring => exact ends_v1Open ctx ring s
  | v1Fence ctx ring => exact ends_v1Fence ctx ring s
  | syncTimeout ctx ring => exact ends_syncTimeout ctx ring s
  | syncPageSet ctx id value ofs => exact ends_syncPageSet ctx id value ofs s
  | syncPageAdd ctx id value ofs => exact ends_syncPageAdd ctx id value ofs s
  | syncMapWrite value ofs => exact ends_syncMapWrite value ofs s
  | tickModeGo request ofs => exact ends_tickModeGo request ofs s
  | stgCtrlSwap ofs => exact ends_stgCtrlSwap ofs s
  | invAll ofs => exact ends_invAll ofs s
  | invCtx ctx ofs => exact ends_invCtx ctx ofs s
  | slotFlush ofs => exact ends_slotFlush ofs s
  | grdPeakClr ofs => exact ends_grdPeakClr ofs s
  | digPeakClr ofs => exact ends_digPeakClr ofs s
  | minClr ofs => exact ends_minClr ofs s
  | keyLoad value ofs => exact ends_keyLoad value ofs s
  | keyUnwrapDone => exact ends_keyUnwrapDone s
  | keyErase value ofs => exact ends_keyErase value ofs s
  | ackLost ofs => exact ends_ackLost ofs s
  | pntInvCtx ctx ofs => exact ends_pntInvCtx ctx ofs s
  | pntVlWrite ctx vl ofs => exact ends_pntVlWrite ctx vl ofs s
  | warn ofs => exact ends_warn ofs s
  | abandon ofs => exact ends_abandon ofs s
  | adopt role ofs => exact ends_adopt role ofs s
  | go ofs header => exact ends_go ofs header s
  | retainReq ofs => exact ends_retainReq ofs s
  | armUpd ofs image => exact ends_armUpd ofs image s
  | qpReset ofs => exact ends_qpReset ofs s
  | qpRts ofs => exact ends_qpRts ofs s
  | retire ofs => exact ends_retire ofs s
  | patEccAdd count ofs => exact ends_patEccAdd count ofs s
  | close ofs => exact ends_close ofs s
  | irqEnWrite ctx value ofs => exact ends_irqEnWrite ctx value ofs s
  | registerWrite tenant ctx off size value ofs data => exact ends_registerWrite tenant ctx off size value ofs data s
  | halfSwap => exact ends_halfSwap s
  | mouldBuildDone => exact ends_mouldBuildDone s
  | sealOpenVerdict pipe => exact ends_sealOpenVerdict pipe s
  | decodeSlotLoadDone slot => exact ends_decodeSlotLoadDone slot s
  | fingerprintDone job blk => exact ends_fingerprintDone job blk s
  | arrivalDigestDone job blk => exact ends_arrivalDigestDone job blk s
  | tileBoundary ofs => exact ends_tileBoundary ofs s
  | atsTranslationResponse tag ok => exact ends_atsTranslationResponse tag ok s
  | atsInvalidation fn => exact ends_atsInvalidation fn s
  | hostReadCompletion tag data status => exact ends_hostReadCompletion tag data status s
  | hostLinkDown => exact ends_hostLinkDown s
  | hostRequestWake fn off size wr => exact ends_hostRequestWake fn off size wr s
  | wakeComplete ticks data => exact ends_wakeComplete ticks data s
  | receiveFrame lane err frame => exact ends_receiveFrame lane err frame s
  | rdmaWriteRequest qp psn rkey addr data => exact ends_rdmaWriteRequest qp psn rkey addr data s
  | rdmaReadRequest qp psn rkey addr len => exact ends_rdmaReadRequest qp psn rkey addr len s
  | rdmaReadResponse qp psn data => exact ends_rdmaReadResponse qp psn data s
  | fingerprintBatch qp psn bytes => exact ends_fingerprintBatch qp psn bytes s
  | commitNotice qp psn bytes => exact ends_commitNotice qp psn bytes s
  | sendWithInvalidate qp psn key => exact ends_sendWithInvalidate qp psn key s
  | rcAck qp psn => exact ends_rcAck qp psn s
  | nak qp psn kind => exact ends_nak qp psn kind s
  | cnp qp => exact ends_cnp qp s
  | cnpRecover qp => exact ends_cnpRecover qp s
  | ackTimeout qp => exact ends_ackTimeout qp s
  | remoteOpTimeout tag => exact ends_remoteOpTimeout tag s
  | linkUpFall lane => exact ends_linkUpFall lane s
  | linkDownTimeout lane => exact ends_linkDownTimeout lane s
  | dueTickCongested gid => exact ends_dueTickCongested gid s
  | nvmeCompletion tgt cid status data => exact ends_nvmeCompletion tgt cid status data s
  | keepAlive tgt => exact ends_keepAlive tgt s
  | xchgWaitTimeout seg => exact ends_xchgWaitTimeout seg s
  | commitNoticeTimeout => exact ends_commitNoticeTimeout s
  | arrive src phase => exact ends_arrive src phase s
  | release src phase => exact ends_release src phase s
  | holdup src busV ofs => exact ends_holdup src busV ofs s
  | warnPacket src cause ofs => exact ends_warnPacket src cause ofs s
  | absent src cause => exact ends_absent src cause s
  | bootWaitTimeout => exact ends_bootWaitTimeout s
  | phase1Timeout => exact ends_phase1Timeout s
  | startAlone => exact ends_startAlone s
  | keyPortAck data err => exact ends_keyPortAck data err s
  | keyPortTimeout => exact ends_keyPortTimeout s
  | nvmReadDone data => exact ends_nvmReadDone data s
  | nvmProgramDone ok => exact ends_nvmProgramDone ok s
  | nvmEraseDone => exact ends_nvmEraseDone s
  | signatureVerifyDone => exact ends_signatureVerifyDone s
  | watchdogExpiry ofs => exact ends_watchdogExpiry ofs s
  | idleEntry => exact ends_idleEntry s
  | pmWakeTick => exact ends_pmWakeTick s
  | patrolSlot pass1 pass2 corrected => exact ends_patrolSlot pass1 pass2 corrected s
  | substitutionDone cls phys ofs => exact ends_substitutionDone cls phys ofs s
  | eccWindowEnd => exact ends_eccWindowEnd s
  | yeljoHeaderRewrite => exact ends_yeljoHeaderRewrite s
  | replayInput rec data => exact ends_replayInput rec data s
  | hflrReqFall fn => exact ends_hflrReqFall fn s
  | hcfgMsixMaskClear fn => exact ends_hcfgMsixMaskClear fn s
  | linkUpRise lane => exact ends_linkUpRise lane s
  | strapChange inst present => exact ends_strapChange inst present s
  | sbDrop packet => exact ends_sbDrop packet s
  | dbgEnFall => exact ends_dbgEnFall s
  | ijtagAccess op => exact ends_ijtagAccess op s
  | firmwareBack sram nvm => exact ends_firmwareBack sram nvm s
  | railRemoved => exact ends_railRemoved s

end Sys2Proof.Machine
end

