-- ==== Sys2Proof/Laws/Host.lean ====
section
/-! SUPPORT. The way of a host write into a register: when it acts, and what the access types and the messages can change. -/
namespace Sys2Proof.Machine

open Safety

/-! ### The start of every host access: its cycle is noted, and IDLE ends -/

/-- The state in which an accepted host write acts. -/
def State.hostTurn (s : State) (ofs : Nat) : State := (s.at_ ofs).wake

/-- A wake changes the state of the engine, its idle count and the pending RETAIN request, and nothing else. -/
theorem wake_only (s : State) :
    s.wake = { s with regs := s.wake.regs, out := s.wake.out, tick := s.wake.tick, eng := s.wake.eng } ∧
      KeepsRegs [.fjStateRetainPend] s s.wake ∧ s.wake.eng = (if s.eng = 3 then 2 else s.eng) := by
  unfold State.wake
  dsimp only
  split <;> refine ⟨rfl, fun f i hf => ?_, ?_⟩
  · exact getI_setI_other _ _ (fun h => hf (by simp [h.1]))
  · rfl
  · exact getI_setI_other _ _ (fun h => hf (by simp [h.1]))
  · rfl

theorem hostTurn_eq (s : State) (ofs : Nat) :
    s.hostTurn ofs =
      { s with regs := (s.hostTurn ofs).regs, out := (s.hostTurn ofs).out, tick := (s.hostTurn ofs).tick, eng := (s.hostTurn ofs).eng } := by
  have h := (wake_only (s.at_ ofs)).1
  unfold State.hostTurn
  rw [h]
  rfl

theorem getI_hostTurn (s : State) (ofs : Nat) {f : Fld} (hf : f ≠ .fjStateRetainPend) (i : Nat) :
    (s.hostTurn ofs).getI f i = s.getI f i := (wake_only (s.at_ ofs)).2.1 f i (by simp [hf])

theorem hostTurn_eng {s : State} (h : HostOpen s) (ofs : Nat) : (s.hostTurn ofs).eng = 2 := by
  have e := (wake_only (s.at_ ofs)).2.2
  unfold State.hostTurn
  rw [e]
  rcases h.1 with h | h <;> simp [h]

theorem hostTurn_locked {s : State} (h : HostOpen s) (ofs : Nat) : (s.hostTurn ofs).flag .fjStateLocked = true := by
  have := h.2.2.2.1
  unfold State.flag State.get at *
  rwa [getI_hostTurn s ofs (by decide)]

/-- An accepted write of a word acts in the state that its start leaves. -/
theorem hostWrite_open {s : State} (h : HostOpen s) {tenant : Bool} {n off size v ofs : Nat} {data : Bytes}
    (hv : viewOk s tenant n = true) (hs : sizeOk off size = true) :
    s.hostWrite tenant n off size v ofs data = (s.hostTurn ofs).writeWords tenant n off size v data := by
  obtain ⟨he, hh, hw, -, hr⟩ := h
  have h1 : ¬ (s.eng = 0 ∨ s.eng = 8 ∨ s.holdingUp ∨ ¬ viewOk s tenant n) := by
    unfold State.holdingUp
    rw [hh, hv]
    rcases he with he | he <;> simp [he]
  have h2 : ¬ (s.eng = 4 ∨ s.waking) := by
    rw [hw]
    rcases he with he | he <;> simp [he]
  have h3 : ¬ replayDrops s tenant off := by simp [replayDrops, hr]
  unfold State.hostWrite
  rw [if_neg h1, if_neg h2, if_neg h3, if_neg (by simp [hs])]
  rfl

theorem wordAny_active {s : State} (h : s.eng = 2) (tenant : Bool) (n off v : Nat) (data : Bytes) :
    s.wordAny tenant n off v data = s.wordWrite tenant n off v data := by
  simp [State.wordAny, h]

/-- An accepted write to a register of the privileged view. -/
theorem privReg_open {s : State} (h : HostOpen s) {off : Nat} (hoff : off % 4 = 0) (hlow : off < 0x10000) (v ofs : Nat) :
    s.privReg off v ofs = (s.hostTurn ofs).regWrite off (v % 2 ^ 32) [] := by
  unfold State.privReg
  rw [hostWrite_open h (by simp [viewOk]) (by simp [sizeOk, hoff])]
  unfold State.writeWords
  dsimp only
  rw [if_neg (by decide), wordAny_active (hostTurn_eng h ofs)]
  unfold State.wordWrite
  rw [if_neg (by decide), if_neg (by omega), if_neg (by omega), if_neg (by omega)]

/-! ### Access types and messages -/

theorem putBits_only (s : State) (accs : List Access) (bits : List BitsOf) (i v : Nat) :
    s.putBits accs bits i v = { s with regs := (s.putBits accs bits i v).regs } ∧
      ∀ f j, (∀ b ∈ bits, b.fld = f → accs.contains (fldInfo f).acc = false) → (s.putBits accs bits i v).getI f j = s.getI f j := by
  unfold State.putBits
  induction bits generalizing s with
  | nil => exact ⟨rfl, fun _ _ _ => rfl⟩
  | cons b t ih =>
    rw [List.foldl_cons]
    by_cases hc : accs.contains (fldInfo b.fld).acc
    · rw [if_pos hc]
      obtain ⟨h1, h2⟩ := ih (s.setI b.fld i (fieldRule s.build b.fld (s.getI b.fld i) (mergeBits (s.getI b.fld i) b.sh b.w (bitsOf v b.lo b.w))))
      refine ⟨by rw [h1]; rfl, fun f j hf => ?_⟩
      rw [h2 f j (fun b' hb' => hf b' (List.mem_cons_of_mem _ hb'))]
      refine getI_setI_other s _ (fun h => ?_)
      have := hf b (by simp) h.1
      rw [← h.1, hc] at this
      cases this
    · rw [if_neg hc]
      obtain ⟨h1, h2⟩ := ih s
      exact ⟨h1, fun f j hf => h2 f j (fun b' hb' => hf b' (List.mem_cons_of_mem _ hb'))⟩

theorem clearBits_only (s : State) (bits : List BitsOf) (i v : Nat) :
    s.clearBits bits i v = { s with regs := (s.clearBits bits i v).regs } ∧
      ∀ f j, (∀ b ∈ bits, b.fld = f → (fldInfo f).acc ≠ .w1c) → (s.clearBits bits i v).getI f j = s.getI f j := by
  unfold State.clearBits
  induction bits generalizing s with
  | nil => exact ⟨rfl, fun _ _ _ => rfl⟩
  | cons b t ih =>
    rw [List.foldl_cons]
    by_cases hc : (fldInfo b.fld).acc = .w1c
    · rw [if_pos hc]
      obtain ⟨h1, h2⟩ := ih (s.setI b.fld i (s.getI b.fld i - (s.getI b.fld i &&& bitsOf v b.lo b.w * 2 ^ b.sh)))
      refine ⟨by rw [h1]; rfl, fun f j hf => ?_⟩
      rw [h2 f j (fun b' hb' => hf b' (List.mem_cons_of_mem _ hb'))]
      exact getI_setI_other s _ (fun h => hf b (by simp) h.1 (h.1 ▸ hc))
    · rw [if_neg hc]
      obtain ⟨h1, h2⟩ := ih s
      exact ⟨h1, fun f j hf => h2 f j (fun b' hb' => hf b' (List.mem_cons_of_mem _ hb'))⟩

theorem signalAgain_only (s0 s : State) (bits : List BitsOf) : OnlyMessages s (State.signalAgain s0 s bits) :=
  foldl_only _ _ (fun a k => by split; exacts [message_only _ _ _, .refl _]) s

theorem irqEnAgain_only (s0 s : State) (v : Nat) : OnlyMessages s (State.irqEnAgain s0 s v) :=
  foldl_only _ _ (fun a k => by split; exacts [message_only _ _ _, .refl _]) s

/-- A write to a register after the lock, step by step: the log, the fields that its access types let change, its action, the messages. -/
theorem regWrite_locked {s : State} (hl : s.flag .fjStateLocked = true) {off : Nat} {r : MapRow} {i : Nat} (hr : findRow s off privMap = some (r, i))
    (hs : rowShut s r off i = false) (ha : accepts s r.bits = true) (hm : off ≠ 0xD008) (hvl : ¬ (0x8100 ≤ off ∧ off < 0x8200))
    (hen : off ≠ 0x0204) (v : Nat) (data : Bytes) :
    ∃ s1 s2, LogOnly s s1 ∧ s1 = s.logWrite false 0 off 4 v ∧
      s2 = ((s1.putBits (if 0x5010 ≤ off ∧ off < 0x5040 then [.wo] else rwAccs s1) r.bits i v).clearBits r.bits i v).actOn off v data ∧
      OnlyMessages s2 (s.regWrite off v data) := by
  refine ⟨_, _, logWrite_only s false 0 off 4 v, rfl, rfl, ?_⟩
  unfold State.regWrite
  rw [hr]
  dsimp only
  have h1 : ¬ (rowShut s r off i = true ∨ ¬ accepts s r.bits = true) := by simp [hs, ha]
  rw [if_neg h1, if_neg hm, if_neg hvl, if_neg hen, if_pos hl]
  exact signalAgain_only _ _ _

end Sys2Proof.Machine
end

