-- ==== Sys2Proof/WellFormed.lean ====
section
/-! DEFINITION. Well-formed commands: operands within the widths of the signals, registers and structures that carry them (15 port tables;
00 R17; 13 R350, R361; 14 R386; 18 R492). -/
namespace Sys2Proof

/-- An entry takes 1 to 16 slots of 32 bytes (13 R353). -/
def entryOk (b : Bytes) : Bool := b.length % 32 == 0 && 32 ≤ b.length && b.length ≤ 512

/-- Offsets of the views: 1 MiB and 64 KiB (19 R500). -/
def offOk (tenant : Bool) (off : Nat) : Bool := off < (if tenant then 2 ^ 16 else 2 ^ 20)

/-- A request of any size (00 R17), up to the largest of a PCIe request. -/
def widthOk (size : Nat) : Bool := 1 ≤ size && size ≤ 4096

/-- A write and its value. -/
def wordOk (tenant : Bool) (off size value : Nat) : Bool := offOk tenant off && widthOk size && value < 2 ^ (8 * size)

/-- A waking request of a function: a read, or a write and its value. -/
def requestOk (fn off size : Nat) (wr : Option Nat) : Bool :=
  match wr with
  | some v => wordOk (fn != 0) off size v
  | none => offOk (fn != 0) off && widthOk size

/-- A frame of at most 9,216 bytes, with a 24-bit queue-pair number (12 R326). -/
def frameOk (f : Frame) : Bool :=
  match f with
  | .roce q _ _ n => q < 2 ^ 24 && n ≤ 9216
  | .control b => b.length ≤ 9216
  | .tcp _ b => b.length ≤ 9216
  | .other n => n ≤ 9216

/-- The classes of 17 R475 and the offsets of the privileged view. -/
def ijtagOk (op : IjtagOp) : Bool :=
  match op with
  | .bist bank _ => bank < 4096
  | .patrol c p _ => c < 8 && p < 4096
  | .retire c p => c < 8 && p < 4096
  | .read off size => offOk false off && widthOk size
  | .idcode => true
  | .bypass bits n => bits < 2 ^ n

def Instr.wf (i : Instr) : Bool :=
  match i with
  | .coldReset inst present => inst < 16 && present < 65536
  | .packageReset inst present => inst < 16 && present < 65536
  | .functionReset ofs => ofs < 8000
  | .tenantReset ctx ofs => ctx < 64 && ofs < 8000
  | .engineRst ofs => ofs < 8000
  | .pwrFailN ofs => ofs < 8000
  | .busVStrobe code ofs => code < 4096 && ofs < 8000
  | .busvStaleTimeout => true
  | .sagFastRise level ofs => level < 4 && ofs < 8000
  | .sagStepUp level ofs => level < 4 && ofs < 8000
  | .tickInEdge _ => true
  | .tickBoundary => true
  | .throttleWindowEnd => true
  | .powerFault ofs => ofs < 8000
  | .stepEnd step _ ofs => step < 2 ^ 48 && ofs < 8000
  | .guardWrite lane addr data be _ id _ => lane < 64 && addr < 2 ^ 56 && data.length == 64 && be < 2 ^ 64 && id < 2 ^ 16
  | .rescueIssue _ => true
  | .rescueLanding gran data _ _ => gran < 2 ^ 26 && data.length == 4096
  | .poolDrain => true
  | .guardWriteResponse lane _ id _ => lane < 64 && id < 2 ^ 17
  | .copyReadLanding gran data _ _ => gran < 2 ^ 26 && data.length == 4096
  | .bitmapClearDone => true
  | .fabricReadResponse tag data _ => tag < 10240 && data.length % 64 == 0
  | .fabricWriteAck id _ => id < 4096
  | .groupCloseTimeout ctx ring => ctx < 64 && ring < 4
  | .admissionDecision _ => true
  | .doorbell ctx ring tail ofs => ctx < 64 && ring < 4 && tail < 65536 && ofs < 8000
  | .entryFetch ctx ring bytes => ctx < 64 && ring < 4 && entryOk bytes
  | .ownRecheck ctx ring bytes => ctx < 64 && ring < 4 && entryOk bytes
  | .ringEnable ctx ring cfg ofs => ctx < 64 && ring < 4 && cfg < 2 ^ 32 && ofs < 8000
  | .cringHead ctx ring head ofs => ctx < 64 && ring < 4 && head < 65536 && ofs < 8000
  | .nop ctx ring => ctx < 64 && ring < 4
  | .fence ctx ring => ctx < 64 && ring < 4
  | .copy ctx ring => ctx < 64 && ring < 4
  | .snap ctx ring => ctx < 64 && ring < 4
  | .restore ctx ring _ => ctx < 64 && ring < 4
  | .swapIn ctx ring _ => ctx < 64 && ring < 4
  | .chain ctx ring _ => ctx < 64 && ring < 4
  | .sealJob ctx ring => ctx < 64 && ring < 4
  | .openJob ctx ring => ctx < 64 && ring < 4
  | .digest ctx ring => ctx < 64 && ring < 4
  | .digestFinal ctx ring => ctx < 64 && ring < 4
  | .mouldLoad ctx ring _ => ctx < 64 && ring < 4
  | .permLoad ctx ring _ => ctx < 64 && ring < 4
  | .lattice ctx ring => ctx < 64 && ring < 4
  | .signalSet ctx ring => ctx < 64 && ring < 4
  | .signalAdd ctx ring => ctx < 64 && ring < 4
  | .signalSub ctx ring => ctx < 64 && ring < 4
  | .waitEq ctx ring => ctx < 64 && ring < 4
  | .waitGe ctx ring => ctx < 64 && ring < 4
  | .waitNe ctx ring => ctx < 64 && ring < 4
  | .barrierArriveWait ctx ring => ctx < 64 && ring < 4
  | .barrierArrive ctx ring => ctx < 64 && ring < 4
  | .barrierInit ctx ring => ctx < 64 && ring < 4
  | .resume ctx ring => ctx < 64 && ring < 4
  | .v1Nop ctx ring => ctx < 64 && ring < 4
  | .v1Copy ctx ring => ctx < 64 && ring < 4
  | .v1Snap ctx ring => ctx < 64 && ring < 4
  | .v1Restore ctx ring _ => ctx < 64 && ring < 4
  | .v1Seal ctx ring => ctx < 64 && ring < 4
  | .v1Open ctx ring => ctx < 64 && ring < 4
  | .v1Fence ctx ring => ctx < 64 && ring < 4
  | .syncTimeout ctx ring => ctx < 64 && ring < 4
  | .syncPageSet ctx id value ofs => ctx < 64 && id < 1024 && value < 2 ^ 32 && ofs < 8000
  | .syncPageAdd ctx id value ofs => ctx < 64 && id < 1024 && value < 2 ^ 32 && ofs < 8000
  | .syncMapWrite value ofs => value < 2 ^ 32 && ofs < 8000
  | .tickModeGo request ofs => request < 4 && ofs < 8000
  | .stgCtrlSwap ofs => ofs < 8000
  | .invAll ofs => ofs < 8000
  | .invCtx ctx ofs => ctx < 64 && ofs < 8000
  | .slotFlush ofs => ofs < 8000
  | .grdPeakClr ofs => ofs < 8000
  | .digPeakClr ofs => ofs < 8000
  | .minClr ofs => ofs < 8000
  | .keyLoad value ofs => value < 2 ^ 32 && ofs < 8000
  | .keyUnwrapDone => true
  | .keyErase value ofs => value < 2 ^ 32 && ofs < 8000
  | .ackLost ofs => ofs < 8000
  | .pntInvCtx ctx ofs => ctx < 64 && ofs < 8000
  | .pntVlWrite ctx vl ofs => ctx < 64 && vl < 4 && ofs < 8000
  | .warn ofs => ofs < 8000
  | .abandon ofs => ofs < 8000
  | .adopt role ofs => role < 16 && ofs < 8000
  | .go ofs header => ofs < 8000 && (header.length == 0 || header.length == 256)
  | .retainReq ofs => ofs < 8000
  | .armUpd ofs _ => ofs < 8000
  | .qpReset ofs => ofs < 8000
  | .qpRts ofs => ofs < 8000
  | .retire ofs => ofs < 8000
  | .patEccAdd count ofs => count < 2 ^ 32 && ofs < 8000
  | .close ofs => ofs < 8000
  | .irqEnWrite ctx value ofs => ctx < 64 && value < 2 ^ 32 && ofs < 8000
  | .registerWrite tenant ctx off size value ofs _ => ctx < 64 && wordOk tenant off size value && ofs < 8000
  | .halfSwap => true
  | .mouldBuildDone => true
  | .sealOpenVerdict pipe => pipe < 32
  | .decodeSlotLoadDone slot => slot < 8
  | .fingerprintDone _ _ => true
  | .arrivalDigestDone _ _ => true
  | .tileBoundary ofs => ofs < 8000
  | .atsTranslationResponse tag _ => tag < 1024
  | .atsInvalidation fn => fn < 64
  | .hostReadCompletion tag _ status => tag < 1024 && status < 4
  | .hostLinkDown => true
  | .hostRequestWake fn off size wr => fn < 64 && requestOk fn off size wr
  | .wakeComplete _ _ => true
  | .receiveFrame lane _ frame => lane < 4 && frameOk frame
  | .rdmaWriteRequest qp psn rkey addr _ => qp < 256 && psn < 2 ^ 24 && rkey < 2 ^ 32 && addr < 2 ^ 64
  | .rdmaReadRequest qp psn rkey addr len => qp < 256 && psn < 2 ^ 24 && rkey < 2 ^ 32 && addr < 2 ^ 64 && len < 2 ^ 31
  | .rdmaReadResponse qp psn _ => qp < 256 && psn < 2 ^ 24
  | .fingerprintBatch qp psn bytes => qp < 256 && psn < 2 ^ 24 && bytes.length ≤ 9216
  | .commitNotice qp psn bytes => qp < 256 && psn < 2 ^ 24 && bytes.length ≤ 9216
  | .sendWithInvalidate qp psn key => qp < 256 && psn < 2 ^ 24 && key < 2 ^ 32
  | .rcAck qp psn => qp < 256 && psn < 2 ^ 24
  | .nak qp psn kind => qp < 256 && psn < 2 ^ 24 && kind < 4
  | .cnp qp => qp < 256
  | .cnpRecover qp => qp < 256
  | .ackTimeout qp => qp < 256
  | .remoteOpTimeout _ => true
  | .linkUpFall lane => lane < 4
  | .linkDownTimeout lane => lane < 4
  | .dueTickCongested _ => true
  | .nvmeCompletion tgt cid status _ => tgt < 16 && cid < 65536 && status < 32768
  | .keepAlive tgt => tgt < 16
  | .xchgWaitTimeout _ => true
  | .commitNoticeTimeout => true
  | .arrive src phase => src < 16 && phase < 2
  | .release src phase => src < 16 && phase < 2
  | .holdup src busV ofs => src < 16 && busV < 4096 && ofs < 8000
  | .warnPacket src cause ofs => src < 16 && cause < 256 && ofs < 8000
  | .absent src cause => src < 16 && cause < 256
  | .bootWaitTimeout => true
  | .phase1Timeout => true
  | .startAlone => true
  | .keyPortAck data _ => data < 2 ^ 32
  | .keyPortTimeout => true
  | .nvmReadDone _ => true
  | .nvmProgramDone _ => true
  | .nvmEraseDone => true
  | .signatureVerifyDone => true
  | .watchdogExpiry ofs => ofs < 8000
  | .idleEntry => true
  | .pmWakeTick => true
  | .patrolSlot _ _ _ => true
  | .substitutionDone cls phys ofs => cls < 8 && phys < 4096 && ofs < 8000
  | .eccWindowEnd => true
  | .yeljoHeaderRewrite => true
  | .replayInput rec _ => rec.length == 32
  | .hflrReqFall fn => fn < 64
  | .hcfgMsixMaskClear fn => fn < 64
  | .linkUpRise lane => lane < 4
  | .strapChange inst present => inst < 16 && present < 65536
  | .sbDrop packet => packet < 2 ^ 32
  | .dbgEnFall => true
  | .ijtagAccess op => ijtagOk op
  | .firmwareBack _ _ => true
  | .railRemoved => true

/-- The CLK_REF cycle of the tick that a command carries. -/
def Instr.ofs? (i : Instr) : Option Nat :=
  match i with
  | .coldReset _ _ => none
  | .packageReset _ _ => none
  | .functionReset ofs => some ofs
  | .tenantReset _ ofs => some ofs
  | .engineRst ofs => some ofs
  | .pwrFailN ofs => some ofs
  | .busVStrobe _ ofs => some ofs
  | .busvStaleTimeout => none
  | .sagFastRise _ ofs => some ofs
  | .sagStepUp _ ofs => some ofs
  | .tickInEdge _ => none
  | .tickBoundary => none
  | .throttleWindowEnd => none
  | .powerFault ofs => some ofs
  | .stepEnd _ _ ofs => some ofs
  | .guardWrite _ _ _ _ _ _ _ => none
  | .rescueIssue _ => none
  | .rescueLanding _ _ _ _ => none
  | .poolDrain => none
  | .guardWriteResponse _ _ _ _ => none
  | .copyReadLanding _ _ _ _ => none
  | .bitmapClearDone => none
  | .fabricReadResponse _ _ _ => none
  | .fabricWriteAck _ _ => none
  | .groupCloseTimeout _ _ => none
  | .admissionDecision _ => none
  | .doorbell _ _ _ ofs => some ofs
  | .entryFetch _ _ _ => none
  | .ownRecheck _ _ _ => none
  | .ringEnable _ _ _ ofs => some ofs
  | .cringHead _ _ _ ofs => some ofs
  | .nop _ _ => none
  | .fence _ _ => none
  | .copy _ _ => none
  | .snap _ _ => none
  | .restore _ _ _ => none
  | .swapIn _ _ _ => none
  | .chain _ _ _ => none
  | .sealJob _ _ => none
  | .openJob _ _ => none
  | .digest _ _ => none
  | .digestFinal _ _ => none
  | .mouldLoad _ _ _ => none
  | .permLoad _ _ _ => none
  | .lattice _ _ => none
  | .signalSet _ _ => none
  | .signalAdd _ _ => none
  | .signalSub _ _ => none
  | .waitEq _ _ => none
  | .waitGe _ _ => none
  | .waitNe _ _ => none
  | .barrierArriveWait _ _ => none
  | .barrierArrive _ _ => none
  | .barrierInit _ _ => none
  | .resume _ _ => none
  | .v1Nop _ _ => none
  | .v1Copy _ _ => none
  | .v1Snap _ _ => none
  | .v1Restore _ _ _ => none
  | .v1Seal _ _ => none
  | .v1Open _ _ => none
  | .v1Fence _ _ => none
  | .syncTimeout _ _ => none
  | .syncPageSet _ _ _ ofs => some ofs
  | .syncPageAdd _ _ _ ofs => some ofs
  | .syncMapWrite _ ofs => some ofs
  | .tickModeGo _ ofs => some ofs
  | .stgCtrlSwap ofs => some ofs
  | .invAll ofs => some ofs
  | .invCtx _ ofs => some ofs
  | .slotFlush ofs => some ofs
  | .grdPeakClr ofs => some ofs
  | .digPeakClr ofs => some ofs
  | .minClr ofs => some ofs
  | .keyLoad _ ofs => some ofs
  | .keyUnwrapDone => none
  | .keyErase _ ofs => some ofs
  | .ackLost ofs => some ofs
  | .pntInvCtx _ ofs => some ofs
  | .pntVlWrite _ _ ofs => some ofs
  | .warn ofs => some ofs
  | .abandon ofs => some ofs
  | .adopt _ ofs => some ofs
  | .go ofs _ => some ofs
  | .retainReq ofs => some ofs
  | .armUpd ofs _ => some ofs
  | .qpReset ofs => some ofs
  | .qpRts ofs => some ofs
  | .retire ofs => some ofs
  | .patEccAdd _ ofs => some ofs
  | .close ofs => some ofs
  | .irqEnWrite _ _ ofs => some ofs
  | .registerWrite _ _ _ _ _ ofs _ => some ofs
  | .halfSwap => none
  | .mouldBuildDone => none
  | .sealOpenVerdict _ => none
  | .decodeSlotLoadDone _ => none
  | .fingerprintDone _ _ => none
  | .arrivalDigestDone _ _ => none
  | .tileBoundary ofs => some ofs
  | .atsTranslationResponse _ _ => none
  | .atsInvalidation _ => none
  | .hostReadCompletion _ _ _ => none
  | .hostLinkDown => none
  | .hostRequestWake _ _ _ _ => none
  | .wakeComplete _ _ => none
  | .receiveFrame _ _ _ => none
  | .rdmaWriteRequest _ _ _ _ _ => none
  | .rdmaReadRequest _ _ _ _ _ => none
  | .rdmaReadResponse _ _ _ => none
  | .fingerprintBatch _ _ _ => none
  | .commitNotice _ _ _ => none
  | .sendWithInvalidate _ _ _ => none
  | .rcAck _ _ => none
  | .nak _ _ _ => none
  | .cnp _ => none
  | .cnpRecover _ => none
  | .ackTimeout _ => none
  | .remoteOpTimeout _ => none
  | .linkUpFall _ => none
  | .linkDownTimeout _ => none
  | .dueTickCongested _ => none
  | .nvmeCompletion _ _ _ _ => none
  | .keepAlive _ => none
  | .xchgWaitTimeout _ => none
  | .commitNoticeTimeout => none
  | .arrive _ _ => none
  | .release _ _ => none
  | .holdup _ _ ofs => some ofs
  | .warnPacket _ _ ofs => some ofs
  | .absent _ _ => none
  | .bootWaitTimeout => none
  | .phase1Timeout => none
  | .startAlone => none
  | .keyPortAck _ _ => none
  | .keyPortTimeout => none
  | .nvmReadDone _ => none
  | .nvmProgramDone _ => none
  | .nvmEraseDone => none
  | .signatureVerifyDone => none
  | .watchdogExpiry ofs => some ofs
  | .idleEntry => none
  | .pmWakeTick => none
  | .patrolSlot _ _ _ => none
  | .substitutionDone _ _ ofs => some ofs
  | .eccWindowEnd => none
  | .yeljoHeaderRewrite => none
  | .replayInput _ _ => none
  | .hflrReqFall _ => none
  | .hcfgMsixMaskClear _ => none
  | .linkUpRise _ => none
  | .strapChange _ _ => none
  | .sbDrop _ => none
  | .dbgEnFall => none
  | .ijtagAccess _ => none
  | .firmwareBack _ _ => none
  | .railRemoved => none

/-- The context that a command names. -/
def Instr.ctx? (i : Instr) : Option Nat :=
  match i with
  | .coldReset _ _ => none
  | .packageReset _ _ => none
  | .functionReset _ => none
  | .tenantReset ctx _ => some ctx
  | .engineRst _ => none
  | .pwrFailN _ => none
  | .busVStrobe _ _ => none
  | .busvStaleTimeout => none
  | .sagFastRise _ _ => none
  | .sagStepUp _ _ => none
  | .tickInEdge _ => none
  | .tickBoundary => none
  | .throttleWindowEnd => none
  | .powerFault _ => none
  | .stepEnd _ _ _ => none
  | .guardWrite _ _ _ _ _ _ _ => none
  | .rescueIssue _ => none
  | .rescueLanding _ _ _ _ => none
  | .poolDrain => none
  | .guardWriteResponse _ _ _ _ => none
  | .copyReadLanding _ _ _ _ => none
  | .bitmapClearDone => none
  | .fabricReadResponse _ _ _ => none
  | .fabricWriteAck _ _ => none
  | .groupCloseTimeout ctx _ => some ctx
  | .admissionDecision _ => none
  | .doorbell ctx _ _ _ => some ctx
  | .entryFetch ctx _ _ => some ctx
  | .ownRecheck ctx _ _ => some ctx
  | .ringEnable ctx _ _ _ => some ctx
  | .cringHead ctx _ _ _ => some ctx
  | .nop ctx _ => some ctx
  | .fence ctx _ => some ctx
  | .copy ctx _ => some ctx
  | .snap ctx _ => some ctx
  | .restore ctx _ _ => some ctx
  | .swapIn ctx _ _ => some ctx
  | .chain ctx _ _ => some ctx
  | .sealJob ctx _ => some ctx
  | .openJob ctx _ => some ctx
  | .digest ctx _ => some ctx
  | .digestFinal ctx _ => some ctx
  | .mouldLoad ctx _ _ => some ctx
  | .permLoad ctx _ _ => some ctx
  | .lattice ctx _ => some ctx
  | .signalSet ctx _ => some ctx
  | .signalAdd ctx _ => some ctx
  | .signalSub ctx _ => some ctx
  | .waitEq ctx _ => some ctx
  | .waitGe ctx _ => some ctx
  | .waitNe ctx _ => some ctx
  | .barrierArriveWait ctx _ => some ctx
  | .barrierArrive ctx _ => some ctx
  | .barrierInit ctx _ => some ctx
  | .resume ctx _ => some ctx
  | .v1Nop ctx _ => some ctx
  | .v1Copy ctx _ => some ctx
  | .v1Snap ctx _ => some ctx
  | .v1Restore ctx _ _ => some ctx
  | .v1Seal ctx _ => some ctx
  | .v1Open ctx _ => some ctx
  | .v1Fence ctx _ => some ctx
  | .syncTimeout ctx _ => some ctx
  | .syncPageSet ctx _ _ _ => some ctx
  | .syncPageAdd ctx _ _ _ => some ctx
  | .syncMapWrite _ _ => none
  | .tickModeGo _ _ => none
  | .stgCtrlSwap _ => none
  | .invAll _ => none
  | .invCtx ctx _ => some ctx
  | .slotFlush _ => none
  | .grdPeakClr _ => none
  | .digPeakClr _ => none
  | .minClr _ => none
  | .keyLoad _ _ => none
  | .keyUnwrapDone => none
  | .keyErase _ _ => none
  | .ackLost _ => none
  | .pntInvCtx ctx _ => some ctx
  | .pntVlWrite ctx _ _ => some ctx
  | .warn _ => none
  | .abandon _ => none
  | .adopt _ _ => none
  | .go _ _ => none
  | .retainReq _ => none
  | .armUpd _ _ => none
  | .qpReset _ => none
  | .qpRts _ => none
  | .retire _ => none
  | .patEccAdd _ _ => none
  | .close _ => none
  | .irqEnWrite ctx _ _ => some ctx
  | .registerWrite _ ctx _ _ _ _ _ => some ctx
  | .halfSwap => none
  | .mouldBuildDone => none
  | .sealOpenVerdict _ => none
  | .decodeSlotLoadDone _ => none
  | .fingerprintDone _ _ => none
  | .arrivalDigestDone _ _ => none
  | .tileBoundary _ => none
  | .atsTranslationResponse _ _ => none
  | .atsInvalidation _ => none
  | .hostReadCompletion _ _ _ => none
  | .hostLinkDown => none
  | .hostRequestWake _ _ _ _ => none
  | .wakeComplete _ _ => none
  | .receiveFrame _ _ _ => none
  | .rdmaWriteRequest _ _ _ _ _ => none
  | .rdmaReadRequest _ _ _ _ _ => none
  | .rdmaReadResponse _ _ _ => none
  | .fingerprintBatch _ _ _ => none
  | .commitNotice _ _ _ => none
  | .sendWithInvalidate _ _ _ => none
  | .rcAck _ _ => none
  | .nak _ _ _ => none
  | .cnp _ => none
  | .cnpRecover _ => none
  | .ackTimeout _ => none
  | .remoteOpTimeout _ => none
  | .linkUpFall _ => none
  | .linkDownTimeout _ => none
  | .dueTickCongested _ => none
  | .nvmeCompletion _ _ _ _ => none
  | .keepAlive _ => none
  | .xchgWaitTimeout _ => none
  | .commitNoticeTimeout => none
  | .arrive _ _ => none
  | .release _ _ => none
  | .holdup _ _ _ => none
  | .warnPacket _ _ _ => none
  | .absent _ _ => none
  | .bootWaitTimeout => none
  | .phase1Timeout => none
  | .startAlone => none
  | .keyPortAck _ _ => none
  | .keyPortTimeout => none
  | .nvmReadDone _ => none
  | .nvmProgramDone _ => none
  | .nvmEraseDone => none
  | .signatureVerifyDone => none
  | .watchdogExpiry _ => none
  | .idleEntry => none
  | .pmWakeTick => none
  | .patrolSlot _ _ _ => none
  | .substitutionDone _ _ _ => none
  | .eccWindowEnd => none
  | .yeljoHeaderRewrite => none
  | .replayInput _ _ => none
  | .hflrReqFall _ => none
  | .hcfgMsixMaskClear _ => none
  | .linkUpRise _ => none
  | .strapChange _ _ => none
  | .sbDrop _ => none
  | .dbgEnFall => none
  | .ijtagAccess _ => none
  | .firmwareBack _ _ => none
  | .railRemoved => none

/-- The ring that a command names. -/
def Instr.ring? (i : Instr) : Option Nat :=
  match i with
  | .coldReset _ _ => none
  | .packageReset _ _ => none
  | .functionReset _ => none
  | .tenantReset _ _ => none
  | .engineRst _ => none
  | .pwrFailN _ => none
  | .busVStrobe _ _ => none
  | .busvStaleTimeout => none
  | .sagFastRise _ _ => none
  | .sagStepUp _ _ => none
  | .tickInEdge _ => none
  | .tickBoundary => none
  | .throttleWindowEnd => none
  | .powerFault _ => none
  | .stepEnd _ _ _ => none
  | .guardWrite _ _ _ _ _ _ _ => none
  | .rescueIssue _ => none
  | .rescueLanding _ _ _ _ => none
  | .poolDrain => none
  | .guardWriteResponse _ _ _ _ => none
  | .copyReadLanding _ _ _ _ => none
  | .bitmapClearDone => none
  | .fabricReadResponse _ _ _ => none
  | .fabricWriteAck _ _ => none
  | .groupCloseTimeout _ ring => some ring
  | .admissionDecision _ => none
  | .doorbell _ ring _ _ => some ring
  | .entryFetch _ ring _ => some ring
  | .ownRecheck _ ring _ => some ring
  | .ringEnable _ ring _ _ => some ring
  | .cringHead _ ring _ _ => some ring
  | .nop _ ring => some ring
  | .fence _ ring => some ring
  | .copy _ ring => some ring
  | .snap _ ring => some ring
  | .restore _ ring _ => some ring
  | .swapIn _ ring _ => some ring
  | .chain _ ring _ => some ring
  | .sealJob _ ring => some ring
  | .openJob _ ring => some ring
  | .digest _ ring => some ring
  | .digestFinal _ ring => some ring
  | .mouldLoad _ ring _ => some ring
  | .permLoad _ ring _ => some ring
  | .lattice _ ring => some ring
  | .signalSet _ ring => some ring
  | .signalAdd _ ring => some ring
  | .signalSub _ ring => some ring
  | .waitEq _ ring => some ring
  | .waitGe _ ring => some ring
  | .waitNe _ ring => some ring
  | .barrierArriveWait _ ring => some ring
  | .barrierArrive _ ring => some ring
  | .barrierInit _ ring => some ring
  | .resume _ ring => some ring
  | .v1Nop _ ring => some ring
  | .v1Copy _ ring => some ring
  | .v1Snap _ ring => some ring
  | .v1Restore _ ring _ => some ring
  | .v1Seal _ ring => some ring
  | .v1Open _ ring => some ring
  | .v1Fence _ ring => some ring
  | .syncTimeout _ ring => some ring
  | .syncPageSet _ _ _ _ => none
  | .syncPageAdd _ _ _ _ => none
  | .syncMapWrite _ _ => none
  | .tickModeGo _ _ => none
  | .stgCtrlSwap _ => none
  | .invAll _ => none
  | .invCtx _ _ => none
  | .slotFlush _ => none
  | .grdPeakClr _ => none
  | .digPeakClr _ => none
  | .minClr _ => none
  | .keyLoad _ _ => none
  | .keyUnwrapDone => none
  | .keyErase _ _ => none
  | .ackLost _ => none
  | .pntInvCtx _ _ => none
  | .pntVlWrite _ _ _ => none
  | .warn _ => none
  | .abandon _ => none
  | .adopt _ _ => none
  | .go _ _ => none
  | .retainReq _ => none
  | .armUpd _ _ => none
  | .qpReset _ => none
  | .qpRts _ => none
  | .retire _ => none
  | .patEccAdd _ _ => none
  | .close _ => none
  | .irqEnWrite _ _ _ => none
  | .registerWrite _ _ _ _ _ _ _ => none
  | .halfSwap => none
  | .mouldBuildDone => none
  | .sealOpenVerdict _ => none
  | .decodeSlotLoadDone _ => none
  | .fingerprintDone _ _ => none
  | .arrivalDigestDone _ _ => none
  | .tileBoundary _ => none
  | .atsTranslationResponse _ _ => none
  | .atsInvalidation _ => none
  | .hostReadCompletion _ _ _ => none
  | .hostLinkDown => none
  | .hostRequestWake _ _ _ _ => none
  | .wakeComplete _ _ => none
  | .receiveFrame _ _ _ => none
  | .rdmaWriteRequest _ _ _ _ _ => none
  | .rdmaReadRequest _ _ _ _ _ => none
  | .rdmaReadResponse _ _ _ => none
  | .fingerprintBatch _ _ _ => none
  | .commitNotice _ _ _ => none
  | .sendWithInvalidate _ _ _ => none
  | .rcAck _ _ => none
  | .nak _ _ _ => none
  | .cnp _ => none
  | .cnpRecover _ => none
  | .ackTimeout _ => none
  | .remoteOpTimeout _ => none
  | .linkUpFall _ => none
  | .linkDownTimeout _ => none
  | .dueTickCongested _ => none
  | .nvmeCompletion _ _ _ _ => none
  | .keepAlive _ => none
  | .xchgWaitTimeout _ => none
  | .commitNoticeTimeout => none
  | .arrive _ _ => none
  | .release _ _ => none
  | .holdup _ _ _ => none
  | .warnPacket _ _ _ => none
  | .absent _ _ => none
  | .bootWaitTimeout => none
  | .phase1Timeout => none
  | .startAlone => none
  | .keyPortAck _ _ => none
  | .keyPortTimeout => none
  | .nvmReadDone _ => none
  | .nvmProgramDone _ => none
  | .nvmEraseDone => none
  | .signatureVerifyDone => none
  | .watchdogExpiry _ => none
  | .idleEntry => none
  | .pmWakeTick => none
  | .patrolSlot _ _ _ => none
  | .substitutionDone _ _ _ => none
  | .eccWindowEnd => none
  | .yeljoHeaderRewrite => none
  | .replayInput _ _ => none
  | .hflrReqFall _ => none
  | .hcfgMsixMaskClear _ => none
  | .linkUpRise _ => none
  | .strapChange _ _ => none
  | .sbDrop _ => none
  | .dbgEnFall => none
  | .ijtagAccess _ => none
  | .firmwareBack _ _ => none
  | .railRemoved => none

end Sys2Proof
end

