-- ==== Sys2Proof/Laws/PerInstr.lean ====
section
/-! SUPPORT. Statements made of every command as syntax: one lemma a constructor. -/
namespace Sys2Proof.Laws.WellFormed

set_option Elab.async false

/-- A well-formed command names a context of the 64, a ring of the 4 and a cycle of the longest tick, where it names one (02 R49; 13 R350;
15 R430). -/
def Statement (i : Instr) : Prop :=
  i.wf = true → (∀ o, i.ofs? = some o → o < 8000) ∧ (∀ c, i.ctx? = some c → c < 64) ∧ ∀ r, i.ring? = some r → r < 4

theorem coldReset inst present : Statement (.coldReset inst present) := by
  intro h; simp_all [Instr.wf, Instr.ofs?, Instr.ctx?, Instr.ring?]

theorem packageReset inst present : Statement (.packageReset inst present) := by
  intro h; simp_all [Instr.wf, Instr.ofs?, Instr.ctx?, Instr.ring?]

theorem functionReset ofs : Statement (.functionReset ofs) := by
  intro h; simp_all [Instr.wf, Instr.ofs?, Instr.ctx?, Instr.ring?]

theorem tenantReset ctx ofs : Statement (.tenantReset ctx ofs) := by
  intro h; simp_all [Instr.wf, Instr.ofs?, Instr.ctx?, Instr.ring?]

theorem engineRst ofs : Statement (.engineRst ofs) := by
  intro h; simp_all [Instr.wf, Instr.ofs?, Instr.ctx?, Instr.ring?]

theorem pwrFailN ofs : Statement (.pwrFailN ofs) := by
  intro h; simp_all [Instr.wf, Instr.ofs?, Instr.ctx?, Instr.ring?]

theorem busVStrobe code ofs : Statement (.busVStrobe code ofs) := by
  intro h; simp_all [Instr.wf, Instr.ofs?, Instr.ctx?, Instr.ring?]

theorem busvStaleTimeout : Statement (.busvStaleTimeout) := by
  intro h; simp_all [Instr.wf, Instr.ofs?, Instr.ctx?, Instr.ring?]

theorem sagFastRise level ofs : Statement (.sagFastRise level ofs) := by
  intro h; simp_all [Instr.wf, Instr.ofs?, Instr.ctx?, Instr.ring?]

theorem sagStepUp level ofs : Statement (.sagStepUp level ofs) := by
  intro h; simp_all [Instr.wf, Instr.ofs?, Instr.ctx?, Instr.ring?]

theorem tickInEdge delta : Statement (.tickInEdge delta) := by
  intro h; simp_all [Instr.wf, Instr.ofs?, Instr.ctx?, Instr.ring?]

theorem tickBoundary : Statement (.tickBoundary) := by
  intro h; simp_all [Instr.wf, Instr.ofs?, Instr.ctx?, Instr.ring?]

theorem throttleWindowEnd : Statement (.throttleWindowEnd) := by
  intro h; simp_all [Instr.wf, Instr.ofs?, Instr.ctx?, Instr.ring?]

theorem powerFault ofs : Statement (.powerFault ofs) := by
  intro h; simp_all [Instr.wf, Instr.ofs?, Instr.ctx?, Instr.ring?]

theorem stepEnd step cut ofs : Statement (.stepEnd step cut ofs) := by
  intro h; simp_all [Instr.wf, Instr.ofs?, Instr.ctx?, Instr.ring?]

theorem guardWrite lane addr data be ord id now : Statement (.guardWrite lane addr data be ord id now) := by
  intro h; simp_all [Instr.wf, Instr.ofs?, Instr.ctx?, Instr.ring?]

theorem rescueIssue now : Statement (.rescueIssue now) := by
  intro h; simp_all [Instr.wf, Instr.ofs?, Instr.ctx?, Instr.ring?]

theorem rescueLanding gran data err now : Statement (.rescueLanding gran data err now) := by
  intro h; simp_all [Instr.wf, Instr.ofs?, Instr.ctx?, Instr.ring?]

theorem poolDrain : Statement (.poolDrain) := by
  intro h; simp_all [Instr.wf, Instr.ofs?, Instr.ctx?, Instr.ring?]

theorem guardWriteResponse lane spill id err : Statement (.guardWriteResponse lane spill id err) := by
  intro h; simp_all [Instr.wf, Instr.ofs?, Instr.ctx?, Instr.ring?]

theorem copyReadLanding gran data err now : Statement (.copyReadLanding gran data err now) := by
  intro h; simp_all [Instr.wf, Instr.ofs?, Instr.ctx?, Instr.ring?]

theorem bitmapClearDone : Statement (.bitmapClearDone) := by
  intro h; simp_all [Instr.wf, Instr.ofs?, Instr.ctx?, Instr.ring?]

theorem fabricReadResponse tag data err : Statement (.fabricReadResponse tag data err) := by
  intro h; simp_all [Instr.wf, Instr.ofs?, Instr.ctx?, Instr.ring?]

theorem fabricWriteAck id err : Statement (.fabricWriteAck id err) := by
  intro h; simp_all [Instr.wf, Instr.ofs?, Instr.ctx?, Instr.ring?]

theorem groupCloseTimeout ctx ring : Statement (.groupCloseTimeout ctx ring) := by
  intro h; simp_all [Instr.wf, Instr.ofs?, Instr.ctx?, Instr.ring?]

theorem admissionDecision gid : Statement (.admissionDecision gid) := by
  intro h; simp_all [Instr.wf, Instr.ofs?, Instr.ctx?, Instr.ring?]

theorem doorbell ctx ring tail ofs : Statement (.doorbell ctx ring tail ofs) := by
  intro h; simp_all [Instr.wf, Instr.ofs?, Instr.ctx?, Instr.ring?]

theorem entryFetch ctx ring bytes : Statement (.entryFetch ctx ring bytes) := by
  intro h; simp_all [Instr.wf, Instr.ofs?, Instr.ctx?, Instr.ring?]

theorem ownRecheck ctx ring bytes : Statement (.ownRecheck ctx ring bytes) := by
  intro h; simp_all [Instr.wf, Instr.ofs?, Instr.ctx?, Instr.ring?]

theorem ringEnable ctx ring cfg ofs : Statement (.ringEnable ctx ring cfg ofs) := by
  intro h; simp_all [Instr.wf, Instr.ofs?, Instr.ctx?, Instr.ring?]

theorem cringHead ctx ring head ofs : Statement (.cringHead ctx ring head ofs) := by
  intro h; simp_all [Instr.wf, Instr.ofs?, Instr.ctx?, Instr.ring?]

theorem nop ctx ring : Statement (.nop ctx ring) := by
  intro h; simp_all [Instr.wf, Instr.ofs?, Instr.ctx?, Instr.ring?]

theorem fence ctx ring : Statement (.fence ctx ring) := by
  intro h; simp_all [Instr.wf, Instr.ofs?, Instr.ctx?, Instr.ring?]

theorem copy ctx ring : Statement (.copy ctx ring) := by
  intro h; simp_all [Instr.wf, Instr.ofs?, Instr.ctx?, Instr.ring?]

theorem snap ctx ring : Statement (.snap ctx ring) := by
  intro h; simp_all [Instr.wf, Instr.ofs?, Instr.ctx?, Instr.ring?]

theorem restore ctx ring img : Statement (.restore ctx ring img) := by
  intro h; simp_all [Instr.wf, Instr.ofs?, Instr.ctx?, Instr.ring?]

theorem swapIn ctx ring img : Statement (.swapIn ctx ring img) := by
  intro h; simp_all [Instr.wf, Instr.ofs?, Instr.ctx?, Instr.ring?]

theorem chain ctx ring img : Statement (.chain ctx ring img) := by
  intro h; simp_all [Instr.wf, Instr.ofs?, Instr.ctx?, Instr.ring?]

theorem sealJob ctx ring : Statement (.sealJob ctx ring) := by
  intro h; simp_all [Instr.wf, Instr.ofs?, Instr.ctx?, Instr.ring?]

theorem openJob ctx ring : Statement (.openJob ctx ring) := by
  intro h; simp_all [Instr.wf, Instr.ofs?, Instr.ctx?, Instr.ring?]

theorem digest ctx ring : Statement (.digest ctx ring) := by
  intro h; simp_all [Instr.wf, Instr.ofs?, Instr.ctx?, Instr.ring?]

theorem digestFinal ctx ring : Statement (.digestFinal ctx ring) := by
  intro h; simp_all [Instr.wf, Instr.ofs?, Instr.ctx?, Instr.ring?]

theorem mouldLoad ctx ring data : Statement (.mouldLoad ctx ring data) := by
  intro h; simp_all [Instr.wf, Instr.ofs?, Instr.ctx?, Instr.ring?]

theorem permLoad ctx ring data : Statement (.permLoad ctx ring data) := by
  intro h; simp_all [Instr.wf, Instr.ofs?, Instr.ctx?, Instr.ring?]

theorem lattice ctx ring : Statement (.lattice ctx ring) := by
  intro h; simp_all [Instr.wf, Instr.ofs?, Instr.ctx?, Instr.ring?]

theorem signalSet ctx ring : Statement (.signalSet ctx ring) := by
  intro h; simp_all [Instr.wf, Instr.ofs?, Instr.ctx?, Instr.ring?]

theorem signalAdd ctx ring : Statement (.signalAdd ctx ring) := by
  intro h; simp_all [Instr.wf, Instr.ofs?, Instr.ctx?, Instr.ring?]

theorem signalSub ctx ring : Statement (.signalSub ctx ring) := by
  intro h; simp_all [Instr.wf, Instr.ofs?, Instr.ctx?, Instr.ring?]

theorem waitEq ctx ring : Statement (.waitEq ctx ring) := by
  intro h; simp_all [Instr.wf, Instr.ofs?, Instr.ctx?, Instr.ring?]

theorem waitGe ctx ring : Statement (.waitGe ctx ring) := by
  intro h; simp_all [Instr.wf, Instr.ofs?, Instr.ctx?, Instr.ring?]

theorem waitNe ctx ring : Statement (.waitNe ctx ring) := by
  intro h; simp_all [Instr.wf, Instr.ofs?, Instr.ctx?, Instr.ring?]

theorem barrierArriveWait ctx ring : Statement (.barrierArriveWait ctx ring) := by
  intro h; simp_all [Instr.wf, Instr.ofs?, Instr.ctx?, Instr.ring?]

theorem barrierArrive ctx ring : Statement (.barrierArrive ctx ring) := by
  intro h; simp_all [Instr.wf, Instr.ofs?, Instr.ctx?, Instr.ring?]

theorem barrierInit ctx ring : Statement (.barrierInit ctx ring) := by
  intro h; simp_all [Instr.wf, Instr.ofs?, Instr.ctx?, Instr.ring?]

theorem resume ctx ring : Statement (.resume ctx ring) := by
  intro h; simp_all [Instr.wf, Instr.ofs?, Instr.ctx?, Instr.ring?]

theorem v1Nop ctx ring : Statement (.v1Nop ctx ring) := by
  intro h; simp_all [Instr.wf, Instr.ofs?, Instr.ctx?, Instr.ring?]

theorem v1Copy ctx ring : Statement (.v1Copy ctx ring) := by
  intro h; simp_all [Instr.wf, Instr.ofs?, Instr.ctx?, Instr.ring?]

theorem v1Snap ctx ring : Statement (.v1Snap ctx ring) := by
  intro h; simp_all [Instr.wf, Instr.ofs?, Instr.ctx?, Instr.ring?]

theorem v1Restore ctx ring img : Statement (.v1Restore ctx ring img) := by
  intro h; simp_all [Instr.wf, Instr.ofs?, Instr.ctx?, Instr.ring?]

theorem v1Seal ctx ring : Statement (.v1Seal ctx ring) := by
  intro h; simp_all [Instr.wf, Instr.ofs?, Instr.ctx?, Instr.ring?]

theorem v1Open ctx ring : Statement (.v1Open ctx ring) := by
  intro h; simp_all [Instr.wf, Instr.ofs?, Instr.ctx?, Instr.ring?]

theorem v1Fence ctx ring : Statement (.v1Fence ctx ring) := by
  intro h; simp_all [Instr.wf, Instr.ofs?, Instr.ctx?, Instr.ring?]

theorem syncTimeout ctx ring : Statement (.syncTimeout ctx ring) := by
  intro h; simp_all [Instr.wf, Instr.ofs?, Instr.ctx?, Instr.ring?]

theorem syncPageSet ctx id value ofs : Statement (.syncPageSet ctx id value ofs) := by
  intro h; simp_all [Instr.wf, Instr.ofs?, Instr.ctx?, Instr.ring?]

theorem syncPageAdd ctx id value ofs : Statement (.syncPageAdd ctx id value ofs) := by
  intro h; simp_all [Instr.wf, Instr.ofs?, Instr.ctx?, Instr.ring?]

theorem syncMapWrite value ofs : Statement (.syncMapWrite value ofs) := by
  intro h; simp_all [Instr.wf, Instr.ofs?, Instr.ctx?, Instr.ring?]

theorem tickModeGo request ofs : Statement (.tickModeGo request ofs) := by
  intro h; simp_all [Instr.wf, Instr.ofs?, Instr.ctx?, Instr.ring?]

theorem stgCtrlSwap ofs : Statement (.stgCtrlSwap ofs) := by
  intro h; simp_all [Instr.wf, Instr.ofs?, Instr.ctx?, Instr.ring?]

theorem invAll ofs : Statement (.invAll ofs) := by
  intro h; simp_all [Instr.wf, Instr.ofs?, Instr.ctx?, Instr.ring?]

theorem invCtx ctx ofs : Statement (.invCtx ctx ofs) := by
  intro h; simp_all [Instr.wf, Instr.ofs?, Instr.ctx?, Instr.ring?]

theorem slotFlush ofs : Statement (.slotFlush ofs) := by
  intro h; simp_all [Instr.wf, Instr.ofs?, Instr.ctx?, Instr.ring?]

theorem grdPeakClr ofs : Statement (.grdPeakClr ofs) := by
  intro h; simp_all [Instr.wf, Instr.ofs?, Instr.ctx?, Instr.ring?]

theorem digPeakClr ofs : Statement (.digPeakClr ofs) := by
  intro h; simp_all [Instr.wf, Instr.ofs?, Instr.ctx?, Instr.ring?]

theorem minClr ofs : Statement (.minClr ofs) := by
  intro h; simp_all [Instr.wf, Instr.ofs?, Instr.ctx?, Instr.ring?]

theorem keyLoad value ofs : Statement (.keyLoad value ofs) := by
  intro h; simp_all [Instr.wf, Instr.ofs?, Instr.ctx?, Instr.ring?]

theorem keyUnwrapDone : Statement (.keyUnwrapDone) := by
  intro h; simp_all [Instr.wf, Instr.ofs?, Instr.ctx?, Instr.ring?]

theorem keyErase value ofs : Statement (.keyErase value ofs) := by
  intro h; simp_all [Instr.wf, Instr.ofs?, Instr.ctx?, Instr.ring?]

theorem ackLost ofs : Statement (.ackLost ofs) := by
  intro h; simp_all [Instr.wf, Instr.ofs?, Instr.ctx?, Instr.ring?]

theorem pntInvCtx ctx ofs : Statement (.pntInvCtx ctx ofs) := by
  intro h; simp_all [Instr.wf, Instr.ofs?, Instr.ctx?, Instr.ring?]

theorem pntVlWrite ctx vl ofs : Statement (.pntVlWrite ctx vl ofs) := by
  intro h; simp_all [Instr.wf, Instr.ofs?, Instr.ctx?, Instr.ring?]

theorem warn ofs : Statement (.warn ofs) := by
  intro h; simp_all [Instr.wf, Instr.ofs?, Instr.ctx?, Instr.ring?]

theorem abandon ofs : Statement (.abandon ofs) := by
  intro h; simp_all [Instr.wf, Instr.ofs?, Instr.ctx?, Instr.ring?]

theorem adopt role ofs : Statement (.adopt role ofs) := by
  intro h; simp_all [Instr.wf, Instr.ofs?, Instr.ctx?, Instr.ring?]

theorem go ofs header : Statement (.go ofs header) := by
  intro h; simp_all [Instr.wf, Instr.ofs?, Instr.ctx?, Instr.ring?]

theorem retainReq ofs : Statement (.retainReq ofs) := by
  intro h; simp_all [Instr.wf, Instr.ofs?, Instr.ctx?, Instr.ring?]

theorem armUpd ofs image : Statement (.armUpd ofs image) := by
  intro h; simp_all [Instr.wf, Instr.ofs?, Instr.ctx?, Instr.ring?]

theorem qpReset ofs : Statement (.qpReset ofs) := by
  intro h; simp_all [Instr.wf, Instr.ofs?, Instr.ctx?, Instr.ring?]

theorem qpRts ofs : Statement (.qpRts ofs) := by
  intro h; simp_all [Instr.wf, Instr.ofs?, Instr.ctx?, Instr.ring?]

theorem retire ofs : Statement (.retire ofs) := by
  intro h; simp_all [Instr.wf, Instr.ofs?, Instr.ctx?, Instr.ring?]

theorem patEccAdd count ofs : Statement (.patEccAdd count ofs) := by
  intro h; simp_all [Instr.wf, Instr.ofs?, Instr.ctx?, Instr.ring?]

theorem close ofs : Statement (.close ofs) := by
  intro h; simp_all [Instr.wf, Instr.ofs?, Instr.ctx?, Instr.ring?]

theorem irqEnWrite ctx value ofs : Statement (.irqEnWrite ctx value ofs) := by
  intro h; simp_all [Instr.wf, Instr.ofs?, Instr.ctx?, Instr.ring?]

theorem registerWrite tenant ctx off size value ofs data : Statement (.registerWrite tenant ctx off size value ofs data) := by
  intro h; simp_all [Instr.wf, Instr.ofs?, Instr.ctx?, Instr.ring?]

theorem halfSwap : Statement (.halfSwap) := by
  intro h; simp_all [Instr.wf, Instr.ofs?, Instr.ctx?, Instr.ring?]

theorem mouldBuildDone : Statement (.mouldBuildDone) := by
  intro h; simp_all [Instr.wf, Instr.ofs?, Instr.ctx?, Instr.ring?]

theorem sealOpenVerdict pipe : Statement (.sealOpenVerdict pipe) := by
  intro h; simp_all [Instr.wf, Instr.ofs?, Instr.ctx?, Instr.ring?]

theorem decodeSlotLoadDone slot : Statement (.decodeSlotLoadDone slot) := by
  intro h; simp_all [Instr.wf, Instr.ofs?, Instr.ctx?, Instr.ring?]

theorem fingerprintDone job blk : Statement (.fingerprintDone job blk) := by
  intro h; simp_all [Instr.wf, Instr.ofs?, Instr.ctx?, Instr.ring?]

theorem arrivalDigestDone job blk : Statement (.arrivalDigestDone job blk) := by
  intro h; simp_all [Instr.wf, Instr.ofs?, Instr.ctx?, Instr.ring?]

theorem tileBoundary ofs : Statement (.tileBoundary ofs) := by
  intro h; simp_all [Instr.wf, Instr.ofs?, Instr.ctx?, Instr.ring?]

theorem atsTranslationResponse tag ok : Statement (.atsTranslationResponse tag ok) := by
  intro h; simp_all [Instr.wf, Instr.ofs?, Instr.ctx?, Instr.ring?]

theorem atsInvalidation fn : Statement (.atsInvalidation fn) := by
  intro h; simp_all [Instr.wf, Instr.ofs?, Instr.ctx?, Instr.ring?]

theorem hostReadCompletion tag data status : Statement (.hostReadCompletion tag data status) := by
  intro h; simp_all [Instr.wf, Instr.ofs?, Instr.ctx?, Instr.ring?]

theorem hostLinkDown : Statement (.hostLinkDown) := by
  intro h; simp_all [Instr.wf, Instr.ofs?, Instr.ctx?, Instr.ring?]

theorem hostRequestWake fn off size wr : Statement (.hostRequestWake fn off size wr) := by
  intro h; simp_all [Instr.wf, Instr.ofs?, Instr.ctx?, Instr.ring?]

theorem wakeComplete ticks data : Statement (.wakeComplete ticks data) := by
  intro h; simp_all [Instr.wf, Instr.ofs?, Instr.ctx?, Instr.ring?]

theorem receiveFrame lane err frame : Statement (.receiveFrame lane err frame) := by
  intro h; simp_all [Instr.wf, Instr.ofs?, Instr.ctx?, Instr.ring?]

theorem rdmaWriteRequest qp psn rkey addr data : Statement (.rdmaWriteRequest qp psn rkey addr data) := by
  intro h; simp_all [Instr.wf, Instr.ofs?, Instr.ctx?, Instr.ring?]

theorem rdmaReadRequest qp psn rkey addr len : Statement (.rdmaReadRequest qp psn rkey addr len) := by
  intro h; simp_all [Instr.wf, Instr.ofs?, Instr.ctx?, Instr.ring?]

theorem rdmaReadResponse qp psn data : Statement (.rdmaReadResponse qp psn data) := by
  intro h; simp_all [Instr.wf, Instr.ofs?, Instr.ctx?, Instr.ring?]

theorem fingerprintBatch qp psn bytes : Statement (.fingerprintBatch qp psn bytes) := by
  intro h; simp_all [Instr.wf, Instr.ofs?, Instr.ctx?, Instr.ring?]

theorem commitNotice qp psn bytes : Statement (.commitNotice qp psn bytes) := by
  intro h; simp_all [Instr.wf, Instr.ofs?, Instr.ctx?, Instr.ring?]

theorem sendWithInvalidate qp psn key : Statement (.sendWithInvalidate qp psn key) := by
  intro h; simp_all [Instr.wf, Instr.ofs?, Instr.ctx?, Instr.ring?]

theorem rcAck qp psn : Statement (.rcAck qp psn) := by
  intro h; simp_all [Instr.wf, Instr.ofs?, Instr.ctx?, Instr.ring?]

theorem nak qp psn kind : Statement (.nak qp psn kind) := by
  intro h; simp_all [Instr.wf, Instr.ofs?, Instr.ctx?, Instr.ring?]

theorem cnp qp : Statement (.cnp qp) := by
  intro h; simp_all [Instr.wf, Instr.ofs?, Instr.ctx?, Instr.ring?]

theorem cnpRecover qp : Statement (.cnpRecover qp) := by
  intro h; simp_all [Instr.wf, Instr.ofs?, Instr.ctx?, Instr.ring?]

theorem ackTimeout qp : Statement (.ackTimeout qp) := by
  intro h; simp_all [Instr.wf, Instr.ofs?, Instr.ctx?, Instr.ring?]

theorem remoteOpTimeout tag : Statement (.remoteOpTimeout tag) := by
  intro h; simp_all [Instr.wf, Instr.ofs?, Instr.ctx?, Instr.ring?]

theorem linkUpFall lane : Statement (.linkUpFall lane) := by
  intro h; simp_all [Instr.wf, Instr.ofs?, Instr.ctx?, Instr.ring?]

theorem linkDownTimeout lane : Statement (.linkDownTimeout lane) := by
  intro h; simp_all [Instr.wf, Instr.ofs?, Instr.ctx?, Instr.ring?]

theorem dueTickCongested gid : Statement (.dueTickCongested gid) := by
  intro h; simp_all [Instr.wf, Instr.ofs?, Instr.ctx?, Instr.ring?]

theorem nvmeCompletion tgt cid status data : Statement (.nvmeCompletion tgt cid status data) := by
  intro h; simp_all [Instr.wf, Instr.ofs?, Instr.ctx?, Instr.ring?]

theorem keepAlive tgt : Statement (.keepAlive tgt) := by
  intro h; simp_all [Instr.wf, Instr.ofs?, Instr.ctx?, Instr.ring?]

theorem xchgWaitTimeout seg : Statement (.xchgWaitTimeout seg) := by
  intro h; simp_all [Instr.wf, Instr.ofs?, Instr.ctx?, Instr.ring?]

theorem commitNoticeTimeout : Statement (.commitNoticeTimeout) := by
  intro h; simp_all [Instr.wf, Instr.ofs?, Instr.ctx?, Instr.ring?]

theorem arrive src phase : Statement (.arrive src phase) := by
  intro h; simp_all [Instr.wf, Instr.ofs?, Instr.ctx?, Instr.ring?]

theorem release src phase : Statement (.release src phase) := by
  intro h; simp_all [Instr.wf, Instr.ofs?, Instr.ctx?, Instr.ring?]

theorem holdup src busV ofs : Statement (.holdup src busV ofs) := by
  intro h; simp_all [Instr.wf, Instr.ofs?, Instr.ctx?, Instr.ring?]

theorem warnPacket src cause ofs : Statement (.warnPacket src cause ofs) := by
  intro h; simp_all [Instr.wf, Instr.ofs?, Instr.ctx?, Instr.ring?]

theorem absent src cause : Statement (.absent src cause) := by
  intro h; simp_all [Instr.wf, Instr.ofs?, Instr.ctx?, Instr.ring?]

theorem bootWaitTimeout : Statement (.bootWaitTimeout) := by
  intro h; simp_all [Instr.wf, Instr.ofs?, Instr.ctx?, Instr.ring?]

theorem phase1Timeout : Statement (.phase1Timeout) := by
  intro h; simp_all [Instr.wf, Instr.ofs?, Instr.ctx?, Instr.ring?]

theorem startAlone : Statement (.startAlone) := by
  intro h; simp_all [Instr.wf, Instr.ofs?, Instr.ctx?, Instr.ring?]

theorem keyPortAck data err : Statement (.keyPortAck data err) := by
  intro h; simp_all [Instr.wf, Instr.ofs?, Instr.ctx?, Instr.ring?]

theorem keyPortTimeout : Statement (.keyPortTimeout) := by
  intro h; simp_all [Instr.wf, Instr.ofs?, Instr.ctx?, Instr.ring?]

theorem nvmReadDone data : Statement (.nvmReadDone data) := by
  intro h; simp_all [Instr.wf, Instr.ofs?, Instr.ctx?, Instr.ring?]

theorem nvmProgramDone ok : Statement (.nvmProgramDone ok) := by
  intro h; simp_all [Instr.wf, Instr.ofs?, Instr.ctx?, Instr.ring?]

theorem nvmEraseDone : Statement (.nvmEraseDone) := by
  intro h; simp_all [Instr.wf, Instr.ofs?, Instr.ctx?, Instr.ring?]

theorem signatureVerifyDone : Statement (.signatureVerifyDone) := by
  intro h; simp_all [Instr.wf, Instr.ofs?, Instr.ctx?, Instr.ring?]

theorem watchdogExpiry ofs : Statement (.watchdogExpiry ofs) := by
  intro h; simp_all [Instr.wf, Instr.ofs?, Instr.ctx?, Instr.ring?]

theorem idleEntry : Statement (.idleEntry) := by
  intro h; simp_all [Instr.wf, Instr.ofs?, Instr.ctx?, Instr.ring?]

theorem pmWakeTick : Statement (.pmWakeTick) := by
  intro h; simp_all [Instr.wf, Instr.ofs?, Instr.ctx?, Instr.ring?]

theorem patrolSlot pass1 pass2 corrected : Statement (.patrolSlot pass1 pass2 corrected) := by
  intro h; simp_all [Instr.wf, Instr.ofs?, Instr.ctx?, Instr.ring?]

theorem substitutionDone cls phys ofs : Statement (.substitutionDone cls phys ofs) := by
  intro h; simp_all [Instr.wf, Instr.ofs?, Instr.ctx?, Instr.ring?]

theorem eccWindowEnd : Statement (.eccWindowEnd) := by
  intro h; simp_all [Instr.wf, Instr.ofs?, Instr.ctx?, Instr.ring?]

theorem yeljoHeaderRewrite : Statement (.yeljoHeaderRewrite) := by
  intro h; simp_all [Instr.wf, Instr.ofs?, Instr.ctx?, Instr.ring?]

theorem replayInput rec data : Statement (.replayInput rec data) := by
  intro h; simp_all [Instr.wf, Instr.ofs?, Instr.ctx?, Instr.ring?]

theorem hflrReqFall fn : Statement (.hflrReqFall fn) := by
  intro h; simp_all [Instr.wf, Instr.ofs?, Instr.ctx?, Instr.ring?]

theorem hcfgMsixMaskClear fn : Statement (.hcfgMsixMaskClear fn) := by
  intro h; simp_all [Instr.wf, Instr.ofs?, Instr.ctx?, Instr.ring?]

theorem linkUpRise lane : Statement (.linkUpRise lane) := by
  intro h; simp_all [Instr.wf, Instr.ofs?, Instr.ctx?, Instr.ring?]

theorem strapChange inst present : Statement (.strapChange inst present) := by
  intro h; simp_all [Instr.wf, Instr.ofs?, Instr.ctx?, Instr.ring?]

theorem sbDrop packet : Statement (.sbDrop packet) := by
  intro h; simp_all [Instr.wf, Instr.ofs?, Instr.ctx?, Instr.ring?]

theorem dbgEnFall : Statement (.dbgEnFall) := by
  intro h; simp_all [Instr.wf, Instr.ofs?, Instr.ctx?, Instr.ring?]

theorem ijtagAccess op : Statement (.ijtagAccess op) := by
  intro h; simp_all [Instr.wf, Instr.ofs?, Instr.ctx?, Instr.ring?]

theorem firmwareBack sram nvm : Statement (.firmwareBack sram nvm) := by
  intro h; simp_all [Instr.wf, Instr.ofs?, Instr.ctx?, Instr.ring?]

theorem railRemoved : Statement (.railRemoved) := by
  intro h; simp_all [Instr.wf, Instr.ofs?, Instr.ctx?, Instr.ring?]

end Sys2Proof.Laws.WellFormed
end

