-- ==== Sys2Proof/Tests/Slice0.lean ====
section
/-! SUPPORT. The model's own tests: ill-formed commands are refused by the checks, each statement's hypotheses are met by a concrete state,
and a few single steps give what the spec's rules and worked examples say. -/
set_option Elab.async false

namespace Sys2Proof.Tests

open Sys2Proof.Machine Sys2Proof.Safety

/-! ### Small states -/

/-- ACTIVE and locked, with the given register cells. -/
def tAct (l : List Cell) : State := { State.reset with eng := 2, regs := ⟨.fjStateLocked, 0, 1⟩ :: l }

def tFlags : Flags :=
  ⟨false, false, false, false, false, false, false, false, false, 0, false, 0, false, false, false, false, false, false, false⟩

def tDesc (op arg : Nat) : Desc := ⟨op, 4, tFlags, 7, 0, 0, arg, none, none, none, [], none, none, none, none, [], false⟩

def tEntry (op arg : Nat) : Entry := ⟨5, 1, 0, 3, tDesc op arg, none, .ready, Result.ok, 0⟩

def tGroup : Group := ⟨3, 1, 0, 7, .admitted, 1, 0, 0, 0, false, false, 0, [], 1, false, false, 0, false, 0, 0, 0, [], false⟩

/-- ACTIVE, with one entry of ring 0 of context 1 ready to start. -/
def tRun (op arg : Nat) (l : List Cell) : State := { tAct l with entries := [tEntry op arg], groups := [tGroup], uid := 6 }

/-- What a step leaves, for comparisons. -/
def after (o : Host.Outcome State Fault Refusal) : State := match o with | .next t => t | _ => State.reset

def goesOn (o : Host.Outcome State Fault Refusal) : Bool := match o with | .next _ => true | _ => false

def tSnap : Snap :=
  ⟨7, 0, 0, 16, 3, [], false, false, [], 0, .copying, [], [], 0, 0, false, false, false, false, none, .off, .off, .off, 0, 0, 0, 0, false, []⟩

/-- A job of the entry of `tRun`. -/
def tJob : Job := newJob (tAct []) (tEntry opCopy 0) (tDesc opCopy 0) none

/-- An outstanding operation of that job. -/
def tXfer (kind : XKind) (use : XUse) : Xfer := ⟨kind, 9, 5, use, 0, 64, [(0, 64)], false, 0, 0, none, [], false, 0, 0⟩

/-! ### Witnesses: states and operands that meet the hypotheses of the statements -/

theorem witness_QueueDiscipline : State.reset.pending = [] ∧ goesOn (step State.reset) = true ∧
    goesOn (step { State.reset with pending := [.ackLost 0, .close 0] }) = true := by decide +kernel

theorem witness_StepKeepsRegistersCanonical : Canonical State.reset ∧ Canonical (tAct []) ∧
    goesOn (step { tAct [] with pending := [.minClr 0] }) = true := by decide +kernel

theorem witness_PowerOnAndOff : State.reset.eng ≠ 8 ∧ ({ State.reset with eng := 8 } : State).eng = 8 ∧
    (fldInfo .pwrBusvNowMin).keep ≠ .always ∧ Fld.pwrBusvNowMin ≠ .fjMsixPbaPending := by decide +kernel

/-- The states of `HostOpen`, ACTIVE and IDLE; and one in each power state that a reset finds. -/
theorem witness_WorkResets :
    (∀ e ∈ [2, 3, 4], ∃ s : State, s.eng = e ∧ s.holdup = none ∧ s.replaying = false) ∧ HostOpen (tAct []) ∧
    HostOpen { tAct [] with eng := 3 } ∧ (fldInfo .ringCfgEnable).keep = .ring := by
  refine ⟨?_, by decide +kernel, by decide +kernel, by decide +kernel⟩
  intro e he
  exact ⟨{ tAct [] with eng := e }, rfl, rfl, by revert e; decide +kernel⟩

theorem witness_TenantResets :
    ((tAct []).eng = 2 ∧ (tAct []).holdup = none ∧ (tAct []).replaying = false ∧ 1 % 64 ≠ 0 ∧ 63 % 64 ≠ 0) ∧
    (cellCtx ⟨.ringCfgEnable, 4, 0⟩ = some (1 % 64) ∧ (fldInfo .ringCfgEnable).keep = .ring) ∧
    (cellCtx ⟨.syncMapValid, 1024, 0⟩ = some (1 % 64) ∧ (fldInfo .syncMapValid).keep = .ringCtx) ∧
    (State.reset.eng = 1 ∧ State.reset.holdup = none ∧ State.reset.replaying = false) ∧
    ({ tAct [] with eng := 6 } : State).eng = 6 ∧ ({ tAct [] with eng := 5 } : State).eng = 5 ∧
    ((tAct [⟨.yljStatReplaying, 0, 1⟩]).replaying = true ∧ (tAct [⟨.yljStatReplaying, 0, 1⟩]).holdup = none) := by decide +kernel

theorem witness_ClearingWrites : HostOpen (tAct []) ∧ 63 % 64 ≤ (tAct []).build.numVf ∧
    (let s : State := { tAct [] with build := { Build.default with numVf := 16 } }; HostOpen s ∧ s.build.numVf < 17 % 64) := by
  decide +kernel

theorem witness_KeyCommands : HostOpen (tAct []) ∧ bitOf 0x301 1 = false ∧ (tAct []).keyLoad = none ∧
    (∃ s : State, HostOpen s ∧ s.keyLoad = some ⟨[], false, none⟩) ∧ bitOf 0x302 0 = false ∧ ((tAct []).key 3).key = none ∧
    (let k : KeySlot := { (tAct []).key 3 with key := some [] }
     let s : State := { tAct [⟨.fjCkptCfgKeySlot, 0, 3⟩] with keys := [k] }
     let u : State := { s with ckpt := { s.ckpt with snap := some tSnap } }
     (HostOpen s ∧ (s.key 3).key ≠ none ∧ s.keyUsed 3 = false) ∧ HostOpen u ∧ (u.key 3).key ≠ none ∧ u.keyUsed 3 = true) ∧
    (tAct []).flag .sealStatTableLost = false ∧
    (HostOpen (tAct [⟨.sealStatTableLost, 0, 1⟩]) ∧ (tAct [⟨.sealStatTableLost, 0, 1⟩]).flag .sealStatTableLost = true) := by
  refine ⟨by decide +kernel, by decide +kernel, rfl, ⟨{ tAct [] with keyLoad := some ⟨[], false, none⟩ }, by decide +kernel, rfl⟩, ?_⟩
  decide +kernel

theorem witness_Warnings : HostOpen (tAct [⟨.fjCkptCfgPolicy, 0, 1⟩]) ∧ (tAct [⟨.fjCkptCfgPolicy, 0, 1⟩]).get .fjCkptCfgPolicy = 1 ∧
    (tAct []).replaying = false ∧ State.reset.eng ≠ 2 ∧ State.reset.eng ≠ 3 ∧ (tAct [⟨.yljStatReplaying, 0, 1⟩]).replaying = true := by
  decide +kernel

theorem witness_AbandonAndAdopt :
    (let s : State := { tAct [] with ckpt := { (tAct []).ckpt with snap := some tSnap } }; HostOpen s ∧ s.ckpt.snap ≠ none) ∧
    HostOpen (tAct []) ∧ (tAct []).flag .fjCkptCfgSpare = false ∧ (tAct [⟨.fjCkptStatAdopted, 0, 1⟩]).flag .fjCkptStatAdopted = true ∧
    (let r : ArmRec := ⟨5, zeros 8⟩
     let s0 := tAct [⟨.fjCkptCfgSpare, 0, 1⟩, ⟨.fjCkptNN, 0, 0⟩, ⟨.fjCkptCfgPolicy, 0, 0⟩]
     let u : State := { s0 with arm := { s0.arm with records := [r] } }
     u.flag .fjCkptCfgSpare = true ∧ u.flag .fjCkptStatAdopted = false ∧
     u.arm.records.find? (fun r => r.typ == 5 && fieldAt r.body 0 1 == u.get .fjCkptCtrlRole) = some r ∧
     rolePeersOk (u.applyPairs (r.body.drop 8)) = true) := by decide +kernel

theorem witness_RetireCloseAndSwap : HostOpen (tAct []) ∧
    (let s := tAct [⟨.patClassSelClass, 0, 2⟩, ⟨.patUnitSelUnit, 0, builtCount (tAct []) 2⟩]
     HostOpen s ∧ s.get .patUnitSelUnit < physCount s 2 ∧ (s.unit 2 (s.get .patUnitSelUnit)).failed = false ∧
     (s.unit 2 (s.get .patUnitSelUnit)).logical = none) ∧
    (let s : State := { tAct [] with patina := { Patina.asBuilt with units := [⟨0, 0, true, 1, none⟩] } }
     HostOpen s ∧ (s.unit 0 0).failed = true) ∧
    (let h : Half := { Half.empty with st := .fill, job := 5, blocks := [⟨5, 0, []⟩] }
     let s : State := { tAct [] with jobs := [tJob], halfA := h }
     HostOpen s ∧ s.findJob (s.half s.fillA).job = some tJob ∧ s.half s.fillA = h ∧ h.ctx = 0 ∧ tJob.opcode ≠ opSnap) ∧
    (let s : State := { tAct [] with halfA := { Half.empty with ctx := 1 } }; HostOpen s ∧ (s.half s.fillA).ctx ≠ 0) := by decide +kernel

theorem witness_QueuePairCommands : HostOpen (tAct []) ∧ (tAct []).rts 0 = false ∧ tgtsOf (tAct []) 0 = [] ∧
    HostOpen (tAct [⟨.xptQpStateState, 0, 1⟩]) ∧ (tAct [⟨.xptQpStateState, 0, 1⟩]).rts 0 = true := by decide +kernel

theorem witness_PinEvents : ({ tAct [] with eng := 5 } : State).eng = 5 ∧ ({ tAct [] with eng := 6 } : State).eng = 6 ∧
    (let s := tAct [⟨.fjMsixPbaPending, 63, 2 ^ 63⟩]
     s.eng ≠ 5 ∧ s.eng ≠ 6 ∧ bitOf s.pins.msixEn (63 % 64) = true ∧ bitOf s.pins.bme (63 % 64) = true ∧
     bitOf (s.getI .fjMsixPbaPending (63 % 64)) 63 = true ∧ s.getI .fjMsixCtrlMask (64 * (63 % 64) + 63) = 1) ∧
    (let s := tAct [⟨.fjMsixPbaPending, 1, 1⟩, ⟨.fjMsixCtrlMask, 64, 0⟩]
     bitOf (s.getI .fjMsixPbaPending (1 % 64)) 0 = true ∧ s.getI .fjMsixCtrlMask (64 * (1 % 64) + 0) = 0) := by decide +kernel

theorem witness_HoldupBegins : (tAct []).eng = 2 ∧ (tAct []).holdup = none ∧
    (let s := tAct [⟨.pwrBusvHold, 0, 1000⟩, ⟨.pwrStatPlinthReady, 0, 1⟩]
     s.eng = 2 ∧ s.holdup = none ∧ s.get .pwrBusvHold ≠ 0 ∧ 1000 % 4096 ≤ s.get .pwrBusvHold ∧ s.flag .pwrStatPlinthReady = true) ∧
    (tAct []).flag .pwrStatPlinthReady = false ∧ ({ tAct [] with eng := 5 } : State).holdingUp = true := by decide +kernel

theorem witness_BusAndClock :
    (let s0 := tAct [⟨.pwrBusvHold, 0, 1000⟩, ⟨.pwrBusvWarn, 0, 2000⟩]
     let s : State := { s0 with pins := { s0.pins with busVCode := 2001 } }
     s.holdingUp = false ∧ ¬ (s.get .pwrBusvHold ≠ 0 ∧ 2000 % 4096 ≤ s.get .pwrBusvHold) ∧ 2000 % 4096 ≤ s.get .pwrBusvWarn ∧
     s.get .pwrBusvWarn < s.pins.busVCode ∧ ¬ (1001 % 4096 ≤ s.get .pwrBusvHold) ∧
     ¬ (2001 % 4096 ≤ s.get .pwrBusvWarn ∧ s.get .pwrBusvWarn < s.pins.busVCode)) ∧
    ((tAct []).eng ≠ 4 ∧ (tAct []).eng ≠ 8 ∧ (tAct []).get .tickStatClkStep < stepOf (3 % 4) ∧ (tAct []).get .tickStatClkStep < stepOf (1 % 4)) ∧
    stepOf (1 % 4) < (tAct [⟨.tickStatClkStep, 0, 2⟩]).get .tickStatClkStep ∧
    (let s0 := tAct [⟨.tickStatClkStep, 0, 2⟩, ⟨.tickThrAllowAllow, 0, 5⟩]
     let s : State := { s0 with tick := { s0.tick with running := true } }
     s.tick.running = true ∧ s.holdingUp = false ∧ s.tick.lostTo < 8 ∧ s.get .tickThrUsedUsed ≤ s.get .tickThrAllowAllow ∧
     s.get .tickThrAllowAllow < (s.accrue 8).get .tickThrUsedUsed) := by decide +kernel

/-- ACTIVE, the tick running. -/
def tTick (l : List Cell) : State := { tAct l with tick := { Tick.start with running := true } }

theorem witness_BoundaryTakesTheTick : boundaryDue (tTick []) = true ∧
    (tTick []).now + 1 = 1 ∧ ((tTick []).now + 1) % max 1 ((tTick [⟨.tickThrWinWin, 0, 1⟩]).get .tickThrWinWin) = 0 ∧
    boundaryDue (tTick [⟨.tickThrWinWin, 0, 1⟩]) = true ∧
    boundaryDue { tTick [] with tick := { Tick.start with running := true, pending := some 2 } } = true := by decide +kernel

theorem witness_BoundaryPieces :
    modeFits { tTick [] with tick := { Tick.start with running := true, pending := some 2 } } 2 = true ∧
    (let g : Group := { tGroup with need := List.replicate 15 (2 ^ 60), holds := true }
     modeFits { tTick [] with groups := [g], tick := { Tick.start with running := true, pending := some 1 } } 1 = false) ∧
    16 ≤ ({ tTick [] with tick := { Tick.start with missedRow := 15 } } : State).tick.missedRow + 1 ∧
    (tAct [⟨.yljStatReplaying, 0, 1⟩]).replaying = true ∧ ({ tTick [] with eng := 4 } : State).replaying = false ∧
    ((tTick []).replaying = false ∧ (tTick []).eng ≠ 4 ∧ (tTick []).boot.stage ≠ .phase1 ∧ (tTick []).tick.running = true ∧
      (tTick []).holdingUp = false) := by decide +kernel

theorem witness_PowerStates :
    (let s := tTick [⟨.fjPmIdleTicks, 0, 1⟩]
     let u : State := { s with tick := { s.tick with idle := 1 } }
     u.eng = 2 ∧ u.holdup = none ∧ u.get .fjPmIdleTicks ≠ 0 ∧ u.get .fjPmIdleTicks ≤ u.tick.idle) ∧
    (let s : State := { tAct [⟨.fjPmWakeTick, 0, 9⟩, ⟨.tickNowNow, 0, 9⟩] with eng := 4 }
     s.eng = 4 ∧ s.waking = false ∧ s.get .fjPmWakeTick ≠ 0 ∧ s.get .fjPmWakeTick ≤ s.now) ∧
    ({ tAct [] with eng := 3, waking := true } : State).waking = true := by decide +kernel

/-- A guarded window of 64 KiB at address 0. -/
def tWin : List Cell := [⟨.grdWinSizeSize, 0, 1⟩]

def tGuard (g : Guard) : State := { tAct tWin with guard := g }

def tArmed : Guard := { Guard.empty with armed := true }

def tHeld (gran : Option Nat) (lane : Nat) : GWrite := ⟨0, lane, 0, [], 0, false, 1, gran, .rescue, 0, 0⟩

theorem witness_GuardWrites :
    ((tGuard Guard.empty).eng ≠ 0 ∧ (tGuard Guard.empty).eng ≠ 4 ∧ (tGuard Guard.empty).eng ≠ 8) ∧
    ({ tGuard tArmed with eng := 0 } : State).eng = 0 ∧ ({ tGuard tArmed with eng := 4 } : State).eng = 4 ∧
    ({ tGuard tArmed with eng := 8 } : State).eng = 8 ∧
    ((tGuard Guard.empty).guard.armed = false ∧ (tGuard Guard.empty).granOf 65535 = some 15) ∧
    ((tGuard tArmed).granOf 65536 = none ∧ tArmed.armed = true) ∧
    (tArmed.held.length < 2048 ∧ tArmed.waiting = [] ∧ tArmed.verdict 0 true none = .pass ∧
      tArmed.verdict 0 false (some 15) = .hold .rescue) ∧
    ¬ (({ tArmed with waiting := [tHeld none 0] } : Guard).waiting = []) ∧
    (let g : Guard := { tArmed with held := [tHeld (some 2) 7] }; (∃ w ∈ g.held, w.lane = 7) ∧ (∃ w ∈ g.held, w.gran = some 2) ∧
      ¬ (∃ w ∈ g.held, w.lane = 6) ∧ ∀ w ∈ g.held, w.gran ≠ some 3) ∧
    ({ tArmed with bits0 := [2] } : Guard).has 2 = true ∧
    (tArmed.has 2 = false ∧ ({ tArmed with copyReads := [2] } : Guard).reading 2 = true ∧ tArmed.reading 2 = false) := by decide +kernel

theorem witness_GuardNeverForwardsUncopied : (tGuard tArmed).guard.armed = true ∧ (tGuard tArmed).granOf 0 = some 0 ∧
    (tGuard tArmed).guard.has 0 = false ∧ goesOn (exec (.guardWrite 0 0 [] 0 false 1 ⟨0, []⟩) (tGuard tArmed)) = true ∧
    (Out.guardOut 0 0 [] 0 false 1 ∈ ((tGuard { tArmed with held := [tHeld (some 0) 0], bits0 := [0] }).releaseHeld ⟨0, []⟩).out) := by
  decide +kernel

theorem witness_RescuePoolAndSpill :
    (let g : Guard := { tArmed with rescueQ := [3] }
     g.armed = true ∧ g.rescueQ = 3 :: [] ∧ g.freeSlot = some 0 ∧ (tGuard g).rescueTags = some 0) ∧
    (let r : Rescue := ⟨3, 0, 0, 0, true⟩; let g : Guard := { tArmed with rescues := [r] }
     g.rescues.find? (fun r => r.gran == 3) = some r ∧ r.dead = true) ∧
    (let r : Rescue := ⟨3, 0, 0, 0, false⟩
     let s : State := { tAct (⟨.grdRlatMaxNs, 0, 100⟩ :: tWin) with guard := { tArmed with rescues := [r] } }
     s.guard.rescues.find? (fun r => r.gran == 3) = some r ∧ r.dead = false ∧ s.get .grdRlatMaxNs < (⟨101, []⟩ : GuardClock).ns - r.at_ ∧
     (⟨100, []⟩ : GuardClock).ns - r.at_ ≤ s.get .grdRlatMaxNs) ∧
    (let p : PoolSlot := ⟨0, 3, [], 0⟩
     let s : State := { tAct (⟨.grdSpillSlotsSlots, 0, 1⟩ :: tWin) with guard := { tArmed with pool := [p] } }
     s.guard.drainSlot = some p ∧ s.guard.freeSpill (s.get .grdSpillSlotsSlots) = some 0) := by decide +kernel

theorem witness_GuardResponsesAndCopies :
    (3, 9) ∈ ({ Guard.empty with awaiting := [(3, 9)] } : Guard).awaiting ∧
    ({ Guard.empty with clearing := some (0, 0) } : Guard).clearing = some (0, 0) ∧
    ({ Guard.empty with clearing := some (1, 0) } : Guard).clearing = some (1, 0) ∧
    (let g : Guard := { tArmed with copyTags := [(4, 0, true)] }; g.copyTags.find? (fun c => c.1 == 4 && c.2.2) = some (4, 0, true)) ∧
    (let s : State := tGuard { tArmed with copyReads := [4], copyTags := [(4, 0, false)], taken := List.range 15 }
     s.guard.copyTags.find? (fun c => c.1 == 4 && c.2.2) = none ∧ s.guard.armed = true ∧ 4 ∈ s.guard.copyReads ∧
     (∀ r ∈ s.guard.rescues, r.gran = 4 → r.dead = true) ∧ s.granTotal ≤ s.guard.taken.length + 1) := by decide +kernel

theorem witness_StepEnd : (tAct []).replaying = false ∧ owesStep (tAct []) = true ∧ owesStep { tAct [] with eng := 4 } = false ∧
    (let s : State := { tAct [] with tick := { Tick.start with owedTo := 9 } }
     s.now * s.get .tickPeriodPeriod + 8 < s.tick.owedTo ∧ s.tick.owedTo ≤ s.now * s.get .tickPeriodPeriod + 9) := by decide +kernel

theorem witness_StepEndAnswer : 2 ^ 48 - 1 = noStep ∧ 2 ^ 48 - 1 < 2 ^ 48 ∧
    (let due := fun (s : State) (step : Nat) => snapDue ((s.set .grdArmStepStep step).set .tickStepStep step) step
     let stop := fun (s : State) (step : Nat) => step = noStep ∨ s.holdingUp = true ∨ s.flag .patStatOutOfService = true
     (stop (tGuard Guard.empty) (2 ^ 48 - 1) ∧ stop { tGuard Guard.empty with eng := 5 } 0 ∧ stop (tAct [⟨.patStatOutOfService, 0, 1⟩]) 0) ∧
     (¬ stop (tAct [⟨.fjCkptNN, 0, 0⟩]) 0 ∧ due (tAct [⟨.fjCkptNN, 0, 0⟩]) 0 = false) ∧
     (let s := tAct (⟨.fjCkptStatCommitPending, 0, 1⟩ :: tWin); ¬ stop s 0 ∧ due s 0 = true ∧ heldBack s = true) ∧
     (let s := tGuard tArmed; ¬ stop s 0 ∧ due s 0 = true ∧ heldBack s = false ∧ s.guard.armed = true) ∧
     (let s := tGuard Guard.empty; ¬ stop s 0 ∧ due s 0 = true ∧ heldBack s = false ∧ s.guard.armed = false ∧ windowWriter s = false ∧
       (s.guard.clean0 && s.guard.clean1) = false) ∧
     (let s := tGuard { Guard.empty with clean0 := true, clean1 := true }; ¬ stop s 0 ∧ due s 0 = true ∧ heldBack s = false ∧ s.guard.armed = false ∧
       windowWriter s = false ∧ (s.guard.clean0 && s.guard.clean1) = true)) := by decide +kernel

/-- Ring 0 of context 1 enabled, its tail at the given index. -/
def tRing (tail : Nat) (l : List Cell) : State := tAct ([⟨.ringCfgEnable, 4, 1⟩, ⟨.ringTailTail, 4, tail⟩] ++ l)

theorem witness_RingRegisters : HostOpen (tRing 0 []) ∧ HasView (tRing 0 []) 1 ∧ HasView (tRing 0 []) 63 ∧ HasView (tRing 0 []) 0 ∧
    (tRing 0 []).getI .ringCfgEnable (rix 1 (0 % 4)) = 1 ∧ 63 % 65536 < ringSize (tRing 0 []) (rix 1 0) ∧
    ringSize (tRing 0 []) (rix 1 0) ≤ 64 % 65536 ∧ (tAct []).getI .ringCfgEnable (rix 1 0) = 0 ∧ bitOf 1 0 = true ∧
    cringSize (tRing 0 []) (rix 1 0) ≤ 64 % 65536 ∧ 63 % 65536 < cringSize (tRing 0 []) (rix 1 0) ∧ ((tRing 0 []).ring 1 0).waiting = [] := by
  decide +kernel

theorem witness_EntriesAndGroups : mayFetch (tRing 2 []) 1 0 = true ∧ bitOf (fieldAt [0, 0] 0 1) 7 = false ∧
    bitOf (fieldAt [0x80, 1] 0 1) 7 = true ∧ slotsOf (tRing 2 []) (rix 1 0) [0x80, 1] = 2 ∧ covered (tRing 2 []) (rix 1 0) = 2 ∧
    covered (tRing 1 []) (rix 1 0) < slotsOf (tRing 1 []) (rix 1 0) [0x80, 1] ∧ mayFetch (tRing 1 []) 1 0 = true ∧
    (tRing 2 []).flag .patStatOutOfService = false ∧ ((tRing 2 []).ring 1 0).ownSince = none ∧
    (let r : Ring := ⟨1, 0, none, some 0, []⟩; let s : State := { tRing 2 [] with rings := [r] }
     mayFetch s 1 0 = true ∧ (s.ring 1 0).ownSince ≠ none) ∧
    (let g : Group := { tGroup with stage := .opened }
     let s : State := { tAct [⟨.tickNowNow, 0, 64⟩] with groups := [g], rings := [⟨1, 0, some 3, none, []⟩] }
     (s.ring 1 0).openGid = some 3 ∧ s.findGroup 3 = some g ∧ g.stage = .opened ∧ g.lastFetch + 64 ≤ s.now ∧ s.holdingUp = false) := by
  decide +kernel

/-- A closed group of one fetched entry. -/
def tAsk (op deadline : Nat) (l : List Cell) : State :=
  { tAct l with groups := [{ tGroup with stage := .closed, deadline := deadline }], entries := [{ tEntry op 0 with stage := .fetched }] }

theorem witness_AdmissionDecides :
    (let g : Group := { tGroup with stage := .closed }
     (tAsk opNop 0 []).findGroup 3 = some g ∧ decisionDue (tAsk opNop 0 []) g = true ∧ (tAsk opNop 0 []).awake = true) ∧
    (let g : Group := { tGroup with stage := .closed, deadline := 100 }
     let s := tAsk opNop 100 []
     let es := groupEntries s g.gid
     es.any (fun e => e.bad.isSome || (entryCheck s e.ctx e.desc).isSome) = false ∧ mustHold s g es = false ∧
     (askOf s g es (testDeadline s g)).charge.any (· != 0) = false ∧ (admitTest s (askOf s g es (testDeadline s g))).isOk = true) ∧
    (let g : Group := { tGroup with stage := .closed, deadline := 100 }
     let s := tAsk opNop 100 [⟨.tickStatSuspended, 0, 1⟩]
     let es := groupEntries s g.gid
     es.any (fun e => e.bad.isSome || (entryCheck s e.ctx e.desc).isSome) = false ∧ mustHold s g es = false ∧
     admitTest s (askOf s g es 100) = .error resSuspended ∧ admitTest s (askOf s g es (testDeadline s g)) = .error resSuspended) ∧
    (let g : Group := { tGroup with stage := .closed }
     let s := tAsk opSnap 0 []
     (groupEntries s g.gid).any (fun e => e.bad.isSome || (entryCheck s e.ctx e.desc).isSome) = true) ∧
    (let g : Group := { tGroup with stage := .closed }
     let d : Desc := { tDesc opCopy 0 with src := some ⟨0x100000, 64, [], false⟩, dst := some ⟨0, 64, [], false⟩ }
     let s : State := { tGuard tArmed with groups := [g], entries := [{ tEntry opCopy 0 with stage := .fetched, desc := d }] }
     let es := groupEntries s g.gid
     es.any (fun e => e.bad.isSome || (entryCheck s e.ctx e.desc).isSome) = false ∧ mustHold s g es = true) := by decide +kernel

def tCmpl : Cmpl := ⟨1, 0, 3, opNop, 0, 1, Result.ok, false, false, 0, 0, true⟩

theorem witness_CompletionsPost : (tRing 0 []).getI .cringCfgSpace (rix tCmpl.ctx tCmpl.ring) = 0 ∧
    (tRing 0 [⟨.cringTailTail, 4, 63⟩]).getI .cringTailTail (rix 1 0) < cringSize (tRing 0 []) (rix 1 0) ∧
    canPost (tRing 0 []) 1 0 = true ∧ ((tRing 0 []).ring 1 0).waiting = [] ∧
    canPost (tRing 0 [⟨.cringTailTail, 4, 63⟩]) 1 0 = false := by decide +kernel

/-- ARG of a sync entry on word 0 of context 1. -/
def tArg (sub val : Nat) : Nat := sub * 2 ^ 16 + val * 2 ^ 32

theorem witness_NopAndFence : Starts (tRun opNop 0 []) 1 0 opNop false (tEntry opNop 0) ∧
    Starts (tRun opFence 0 []) 1 0 opFence false (tEntry opFence 0) ∧ fenceDone (tRun opFence 0 []) (tEntry opFence 0) = true ∧
    (let e1 : Entry := { tEntry opNop 0 with uid := 4, stage := .running }
     let s : State := { tRun opFence 0 [] with entries := [e1, tEntry opFence 0] }
     Starts s 1 0 opFence false (tEntry opFence 0) ∧ fenceDone s (tEntry opFence 0) = false) ∧
    (let e : Entry := { tEntry opNop 0 with desc := { tDesc opNop 0 with v1 := true } }
     Starts { tRun opNop 0 [] with entries := [e] } 1 0 opNop true e) ∧
    (let e : Entry := { tEntry opFence 0 with desc := { tDesc opFence 0 with v1 := true } }
     Starts { tRun opFence 0 [] with entries := [e] } 1 0 opFence true e) := by decide +kernel

theorem witness_SyncChecks :
    (∀ x ∈ [(opSignal, 0, Fld.syncMapSigOk), (opSignal, 1, .syncMapSigOk), (opSignal, 2, .syncMapSigOk), (opWait, 0, .syncMapWaitOk),
        (opWait, 1, .syncMapWaitOk), (opWait, 2, .syncMapWaitOk), (opBarrier, 0, .syncMapBarOk), (opBarrier, 1, .syncMapBarOk),
        (opBarrier, 2, .syncMapBarOk)],
      (let s := tRun x.1 (tArg x.2.1 9) [⟨.syncMapValid, 1024, 0⟩]
       let e := tEntry x.1 (tArg x.2.1 9)
       Starts s 1 0 x.1 false e ∧ syncOpOf e.desc.arg = x.2.1 ∧ signalReady s e = true ∧ s.getI .syncMapValid (mapIx e.ctx (syncIdOf e.desc.arg)) ≠ 1) ∧
      (let s := tRun x.1 (tArg x.2.1 9) [⟨x.2.2, 1024, 0⟩]
       let e := tEntry x.1 (tArg x.2.1 9)
       Starts s 1 0 x.1 false e ∧ syncOpOf e.desc.arg = x.2.1 ∧ signalReady s e = true ∧
       s.getI .syncMapValid (mapIx e.ctx (syncIdOf e.desc.arg)) = 1 ∧ s.getI x.2.2 (mapIx e.ctx (syncIdOf e.desc.arg)) ≠ 1)) ∧
    (let s : State := { tAct [] with waiters := [⟨5, 0, 0, 0, 0, .eq, 1, none⟩] }
     HostOpen s ∧ s.get .syncMapSelCtx ≤ s.build.numVf ∧ ∃ w ∈ s.waiters, w.ctx = s.get .syncMapSelCtx ∧ w.syncId = s.get .syncMapSelId) := by
  decide +kernel

/-- Word 0 of context 1 as given, an entry of ring 0 ready for it. -/
def tWord (op arg : Nat) (w : SyncWord) : State := { tRun op arg [] with words := [w] }

def tBar (val parties counted : Nat) : SyncWord := ⟨1024, val, true, false, parties, counted, false, 0, 0⟩

theorem witness_Signals :
    (∀ x ∈ [0, 1, 2],
      (let s := tRun opSignal (tArg x 9) []; let e := tEntry opSignal (tArg x 9)
       signalReady s e = true ∧ StartsSync s 1 0 opSignal x .syncMapSigOk e (.word 1024) ∧ (s.word 1024).barrier = false) ∧
      (let s := tWord opSignal (tArg x 9) (tBar 0 2 1); let e := tEntry opSignal (tArg x 9)
       signalReady s e = true ∧ StartsSync s 1 0 opSignal x .syncMapSigOk e (.word 1024) ∧ (s.word 1024).barrier = true ∧
       ¬ (x = 0 ∧ ownerOf 1024 = e.ctx ∧ (s.word 1024).counted = 0 ∧ ∀ w ∈ s.waiters, w.phys ≠ 1024)) ∧
      (let s := tRun opSignal (tArg x 9) [⟨.syncMapValid, 1024, 0⟩]; let e := tEntry opSignal (tArg x 9)
       StartsSync s 1 0 opSignal x .syncMapSigOk e (.bad stSyncUnmapped))) ∧
    (let s := tWord opSignal (tArg 0 9) (tBar 0 2 0); let e := tEntry opSignal (tArg 0 9)
     StartsSync s 1 0 opSignal 0 .syncMapSigOk e (.word 1024) ∧ ownerOf 1024 = e.ctx ∧ (s.word 1024).counted = 0 ∧
     ∀ w ∈ s.waiters, w.phys ≠ 1024) ∧
    (let s : State := { tRun opSignal (tArg 0 9) [] with waiters := [⟨4, 1, 1, 0, 1024, .eq, 9, none⟩, ⟨3, 1, 2, 0, 1024, .ne, 0, none⟩] }
     let e := tEntry opSignal (tArg 0 9)
     StartsSync s 1 0 opSignal 0 .syncMapSigOk e (.word 1024) ∧ signalReady s e = true ∧ ∃ w ∈ s.waiters, w.uid ≠ e.uid) := by decide +kernel

theorem witness_Waits :
    (∀ x ∈ [(0, WaitFor.eq, 0), (1, .ge, 0), (2, .ne, 9)],
      (let s := tRun opWait (tArg x.1 x.2.2) []; let e := tEntry opWait (tArg x.1 x.2.2)
       StartsSync s 1 0 opWait x.1 .syncMapWaitOk e (.word 1024) ∧ waitHolds x.2.1 (s.word 1024).val (syncValOf e.desc.arg) = true) ∧
      (let s := tWord opWait (tArg x.1 0) (tBar 0 2 0); let e := tEntry opWait (tArg x.1 0)
       StartsSync s 1 0 opWait x.1 .syncMapWaitOk e (.word 1024) ∧ (s.word 1024).barrier = true) ∧
      (let s := tRun opWait (tArg x.1 0) [⟨.syncMapWaitOk, 1024, 0⟩]; let e := tEntry opWait (tArg x.1 0)
       StartsSync s 1 0 opWait x.1 .syncMapWaitOk e (.bad stAccessDenied))) ∧
    (∀ x ∈ [(0, WaitFor.eq, 1), (1, .ge, 1), (2, .ne, 0)],
      let s := tRun opWait (tArg x.1 x.2.2) []
      let e := tEntry opWait (tArg x.1 x.2.2)
      StartsSync s 1 0 opWait x.1 .syncMapWaitOk e (.word 1024) ∧ (s.word 1024).barrier = false ∧
      waitHolds x.2.1 (s.word 1024).val (syncValOf e.desc.arg) = false) ∧
    waitHolds .ge (2 ^ 31) 0 = false ∧ waitHolds .ge (2 ^ 31 - 1) 0 = true ∧ waitHolds .ge 0 (2 ^ 32 - 1) = true := by decide +kernel

theorem witness_BarrierWordsAndSignals :
    (let s := tWord opSignal (tArg 0 9) (tBar 3 2 0); let e := tEntry opSignal (tArg 0 9)
     signalReady s e = true ∧ StartsSync s 1 0 opSignal 0 .syncMapSigOk e (.word 1024) ∧ (s.word 1024).barrier = true ∧ ownerOf 1024 = e.ctx ∧
     (s.word 1024).counted = 0 ∧ ∀ w ∈ s.waiters, w.phys ≠ 1024) ∧
    (∀ x ∈ [0, 1, 2],
      let s := tWord opSignal (tArg x 9) (tBar 3 2 1)
      let e := tEntry opSignal (tArg x 9)
      signalReady s e = true ∧ StartsSync s 1 0 opSignal x .syncMapSigOk e (.word 1024) ∧ (s.word 1024).barrier = true ∧
      ¬ (x = 0 ∧ ownerOf 1024 = e.ctx ∧ (s.word 1024).counted = 0 ∧ ∀ w ∈ s.waiters, w.phys ≠ 1024)) ∧
    (∀ x ∈ [0, 1, 2],
      let s := tWord opWait (tArg x 9) (tBar 3 2 1)
      StartsSync s 1 0 opWait x .syncMapWaitOk (tEntry opWait (tArg x 9)) (.word 1024) ∧ (s.word 1024).barrier = true) ∧
    (let s : State := { tAct [] with words := [tBar 3 2 1, { tBar 5 2 1 with phys := 1023 }] }
     HostOpen s ∧ HasView s 1 ∧ s.mapped 1 0 = some 1024 ∧ (s.word 1024).barrier = true ∧ HasView s 0 ∧ s.mapped 0 1023 = some 1023 ∧
     (s.word 1023).barrier = true) := by decide +kernel

theorem witness_Barriers :
    (∀ x ∈ [(0, true), (1, false)], ∀ v ∈ [3, 4, 5],
      StartsSync (tWord opBarrier (tArg x.1 v) (tBar 3 3 1)) 1 0 opBarrier x.1 .syncMapBarOk (tEntry opBarrier (tArg x.1 v)) (.word 1024) ∧
      StartsSync (tWord opBarrier (tArg x.1 v) (tBar 3 2 1)) 1 0 opBarrier x.1 .syncMapBarOk (tEntry opBarrier (tArg x.1 v)) (.word 1024) ∧
      StartsSync (tRun opBarrier (tArg x.1 v) []) 1 0 opBarrier x.1 .syncMapBarOk (tEntry opBarrier (tArg x.1 v)) (.word 1024) ∧
      StartsSync (tRun opBarrier (tArg x.1 v) [⟨.syncMapBarOk, 1024, 0⟩]) 1 0 opBarrier x.1 .syncMapBarOk (tEntry opBarrier (tArg x.1 v))
        (.bad stAccessDenied) ∧ syncValOf (tEntry opBarrier (tArg x.1 v)).desc.arg = v) := by decide +kernel

theorem witness_Barriers_rounds :
    (let w := tBar 3 3 1; w.barrier = true ∧ w.broken = false ∧ w.val < 2 ^ 32 ∧ w.counted + 1 < w.parties ∧ (tBar 3 2 1).counted + 1 = (tBar 3 2 1).parties) ∧
    4 = ((tBar 3 3 1).val + 1) % 2 ^ 32 ∧ 0 = ((tBar (2 ^ 32 - 1) 3 1).val + 1) % 2 ^ 32 ∧ 5 ≠ ((tBar 3 3 1).val + 1) % 2 ^ 32 ∧
    ({ tBar 3 3 1 with broken := true } : SyncWord).broken = true := by decide +kernel

theorem witness_Barriers_init_and_timeout :
    (let e := tEntry opBarrier (tArg 2 4)
     StartsSync (tRun opBarrier (tArg 2 4) []) 1 0 opBarrier 2 .syncMapBarOk e (.word 1024) ∧ ownerOf 1024 = e.ctx ∧
     StartsSync (tRun opBarrier (tArg 2 4) [⟨.syncMapPhys, 1024, 1023⟩]) 1 0 opBarrier 2 .syncMapBarOk e (.word 1023) ∧ ownerOf 1023 ≠ e.ctx ∧
     StartsSync (tRun opBarrier (tArg 2 4) [⟨.syncMapValid, 1024, 0⟩]) 1 0 opBarrier 2 .syncMapBarOk e (.bad stSyncUnmapped)) ∧
    (∀ what ∈ [WaitFor.round, .eq],
      let w : Waiter := ⟨5, 1, 0, 0, 1024, what, 0, some 4⟩
      let s : State := { tWord opBarrier 0 (tBar 3 3 1) with waiters := [w], regs := [⟨.tickNowNow, 0, 4⟩] }
      s.waiters.find? (fun w => w.ctx == 1 && w.ring == 0) = some w ∧ w.timeout = some 4 ∧ 4 ≤ s.now ∧ s.holdingUp = false) := by decide +kernel

theorem witness_SyncPageAndMap : HostOpen (tAct []) ∧ HasView (tAct []) 63 ∧ pageTarget (tAct []) 63 (1023 % 1024) = some 65535 ∧
    (HostOpen (tAct [⟨.syncMapSigOk, 1024, 0⟩]) ∧ pageTarget (tAct [⟨.syncMapSigOk, 1024, 0⟩]) 1 (0 % 1024) = none) ∧
    (tAct []).get .syncMapSelCtx ≤ (tAct []).build.numVf ∧ (tAct []).waiters = [] ∧
    (let s : State := { tAct [] with waiters := [⟨5, 0, 0, 0, 0, .eq, 1, none⟩] }
     HostOpen s ∧ ∃ w ∈ s.waiters, w.ctx = s.get .syncMapSelCtx ∧ w.syncId = s.get .syncMapSelId) := by decide +kernel

/-- The entry of `tRun` with another descriptor, ready. -/
def tWith (d : Desc) (l : List Cell) : State := { tRun opNop 0 l with entries := [{ tEntry opNop 0 with desc := d }] }

def tOf (d : Desc) : Entry := { tEntry opNop 0 with desc := d }

/-- A far end on path 0 whose queue pairs are down: a peer's reserve. -/
def tPeer : Obj := ⟨0, true, false, 0, 0, 0x10000, 0, 7, 0, 0, 0, 0⟩

/-- The own reserve, shard 0x10000, step 7. -/
def tOwn : Obj := { tPeer with peer := false }

theorem witness_StreamJobsStart :
    (∀ x ∈ [opCopy, opChain, opSeal, opOpen, opDigest, opDigestFinal, opLattice],
      let d := { tDesc x 0 with src := some ⟨0, 64, [], false⟩ }
      let u := { d with obj := some tPeer }
      Starts (tWith d []) 1 0 x false (tOf d) ∧ feedTurn (tWith d []) (tOf d) = true ∧ startBar (started (tWith d []) (tOf d)) (tOf d) d = none ∧
      Starts (tWith u []) 1 0 x false (tOf u) ∧ feedTurn (tWith u []) (tOf u) = true ∧
      startBar (started (tWith u []) (tOf u)) (tOf u) u = some stXptQpDown ∧ (x = opChain → d.inbound = false ∧ u.inbound = false)) ∧
    (∀ x ∈ [opCopy, opSeal, opOpen],
      let d := { tDesc x 0 with v1 := true }
      let u := { d with obj := some tPeer }
      Starts (tWith d []) 1 0 x true (tOf d) ∧ startBar (started (tWith d []) (tOf d)) (tOf d) d = none ∧
      Starts (tWith u []) 1 0 x true (tOf u) ∧ startBar (started (tWith u []) (tOf u)) (tOf u) u = some stXptQpDown) := by decide +kernel

def tSegRec : SegRec := ⟨false, false, false, false, false, 1, 0, 0, 7, 0, 0x10000, 0, 8192, 0, 4096⟩

/-- A step of one reserve frame of one block, and its Maquette. -/
def tStep : StepImage :=
  ⟨slGood, 7, 0,
    some (Maq.bytes ⟨false, false, 7, 0, 0, 0, false, 0, 0, 1, 0, 1, 16, 0, 0, 0, 0, [], [⟨0x10000, 1, false, false, 0, 0, 0, 0, []⟩]⟩ none),
    [⟨[], [⟨0x10000, tSegRec.bytes, [], natLe 4 0 ++ natLe 4 4096 ++ zeros 1016, []⟩]⟩]⟩

/-- The plan of the step's shard is there. -/
def planned (r : Except (Nat × List (Nat × Nat)) SrcPlan) : Bool := match r with | .ok _ => true | .error _ => false

theorem witness_ShardJobsStart_swap :
    (let d := { tDesc opSwapIn 0 with src := some ⟨0, 64, [], true⟩, dst := some ⟨0, 64, [], false⟩ }
     Starts (tWith d []) 1 0 opSwapIn false (tOf d) ∧ feedTurn (tWith d []) (tOf d) = true ∧ d.obj = none ∧
     startBar (started (tWith d []) (tOf d)) (tOf d) d = none) ∧
    (∀ x ∈ [opSwapIn, opChain],
      (let d := { tDesc x 0 with dst := some ⟨0, 4096, [], false⟩, obj := some tPeer }
       Starts (tWith d []) 1 0 x false (tOf d) ∧ feedTurn (tWith d []) (tOf d) = true ∧ d.inbound = true ∧
       farBar (started (tWith d []) (tOf d)) tPeer = some stXptQpDown) ∧
      (let d := { tDesc x 0 with dst := some ⟨0, 4096, [], false⟩, obj := some tOwn }
       Starts (tWith d []) 1 0 x false (tOf d) ∧ feedTurn (tWith d []) (tOf d) = true ∧ d.inbound = true ∧
       farBar (started (tWith d []) (tOf d)) tOwn = none ∧ swapPlan (started (tWith d []) (tOf d)) 1 d tOwn [] = .error (stNoManifest, []) ∧
       planned (swapPlan (started (tWith d []) (tOf d)) 1 d tOwn [tStep]) = true ∧ startBar (started (tWith d []) (tOf d)) (tOf d) d = none)) := by
  decide +kernel

theorem witness_ShardJobsStart_restore :
    ∀ v1 ∈ [true, false],
      (let d := { tDesc opRestore 0 with dst := some ⟨0, 4096, [], false⟩, obj := some tPeer, v1 := v1 }
       Starts (tWith d []) 1 0 opRestore v1 (tOf d) ∧ feedTurn (tWith d []) (tOf d) = true ∧
       farBar (started (tWith d []) (tOf d)) tPeer = some stXptQpDown) ∧
      (let d := { tDesc opRestore 0 with dst := some ⟨0, 4096, [], false⟩, obj := some tOwn, v1 := v1 }
       let s := started (tWith d []) (tOf d)
       let c : Desc := { d with flags := { tFlags with common := true } }
       Starts (tWith d []) 1 0 opRestore v1 (tOf d) ∧ feedTurn (tWith d []) (tOf d) = true ∧ farBar s tOwn = none ∧ d.flags.common = false ∧
       (match phaseAt s 1 7 d tOwn [tStep] with
        | .good m segs => (match planOf s d tOwn tStep m segs with
          | .ok p => p.raw == some 4096 && latLen (d.latCfg (s.get .latStatLanes)) (pointLen d.pnt 4096) == 4096
          | .error _ => false)
        | .fail _ _ => false) = true ∧
       pickImage s 1 7 tOwn [tStep] = some tStep ∧ startBar s (tOf d) d = none ∧ phaseAt s 1 7 d tOwn [] = .fail stNoManifest [] ∧
       stNoManifest ≠ stMouldInvalid ∧ c.flags.common = true ∧
       (match commonFrom s 1 c tOwn [tStep] (stepsIn tOwn.step c.step [tStep]) [] with | .ok n => n == 7 | .error _ => false) = true) := by
  decide +kernel

/-- A Mould of two values, and a permute table of 16 groups of four bytes. -/
def tMould : Mould := buildMould 1 (List.replicate 256 0 |>.set 120 5)

def tPerm : Bytes := [1, 2, 16, 0, 0, 0, 0, 0] ++ (List.range 16).flatMap (natLe 2)

def tLoad (op : Nat) (n : Nat) : Desc := { tDesc op 3 with src := some ⟨0, n, [], true⟩ }

/-- The job of a load whose bytes have come. -/
def tLoaded (d : Desc) (b : Bytes) : Job :=
  { newJob (tAct []) (tOf d) d none with inps := [⟨.extents [], b.length, b, [], b.length⟩] }

theorem witness_SnapsLoadsAndResume :
    (∀ v1 ∈ [true, false], let d := { tDesc opSnap 0 with v1 := v1 }; Starts (tWith d []) 1 0 opSnap v1 (tOf d)) ∧
    (let d := tLoad opMouldLoad tMould.bytes.length
     let u := { d with obj := some tPeer }
     Starts (tWith d []) 1 0 opMouldLoad false (tOf d) ∧ startBar (started (tWith d []) (tOf d)) (tOf d) d = none ∧
     Starts (tWith u []) 1 0 opMouldLoad false (tOf u) ∧ (startBar (started (tWith u []) (tOf u)) (tOf u) u).isSome = true ∧
     (parseMould (tLoaded d tMould.bytes).main).isSome = true ∧ parseMould (tLoaded d []).main = none) ∧
    (∀ n ∈ [0, 2 ^ 32 - 1],
      let d := tLoad opPermLoad tPerm.length
      let s := tWith d [⟨.pntVlVl, 1, 0⟩, ⟨.pntLoadctrCount, 1, n⟩]
      Starts s 1 0 opPermLoad false (tOf d) ∧ startBar (started s (tOf d)) (tOf d) d = none ∧ s.getI .pntLoadctrCount 1 = n ∧
      (∃ p, parsePerm (s.vl 1) (tLoaded d tPerm).main = .table p) ∧ parsePerm (s.vl 0) (tLoaded d tPerm).main = .range ∧
      parsePerm (s.vl 1) (tLoaded d []).main = .malformed) := by
  refine ⟨by decide +kernel, by decide +kernel, ?_⟩
  intro n hn
  refine ⟨?_, ?_, ?_, ⟨_, rfl⟩, ?_, ?_⟩ <;> revert n <;> decide +kernel

/-- A job with statistics, one element of a row of four landed, that ran under 8 lanes. -/
def tLatJob : Job :=
  { tJob with
    lat := some ⟨0, 1, 1, true, 4, 0, 0, 0, [], 0, 0, 0, 8⟩, inps := [⟨.extents [], 16, zeros 4, [], 0⟩] }

def tResume (j : Job) (l : List Cell) : State := { tRun opResume 3 l with saved := [⟨1, 3, tDesc opCopy 0, j, 0⟩] }

theorem witness_SnapsLoadsAndResume_resume :
    (let e := tEntry opResume 3
     Starts (tRun opResume 3 []) 1 0 opResume false e ∧ feedTurn (tRun opResume 3 []) e = true ∧
     (tRun opResume 3 []).savedRec 1 (e.desc.arg % 16) = none ∧
     (let j := { tJob with table := some ⟨0, [], true, true, 1⟩ }
      Starts (tResume j []) 1 0 opResume false e ∧ ((tResume j []).savedRec 1 (e.desc.arg % 16)).isSome = true ∧ tableKept (tResume j []) 1 j = false) ∧
     (Starts (tResume tLatJob []) 1 0 opResume false e ∧ tableKept (tResume tLatJob []) 1 tLatJob = true ∧
      rowOpen tLatJob ((tResume tLatJob []).get .latStatLanes) = true) ∧
     (let s := tResume tJob []
      Starts s 1 0 opResume false e ∧ feedTurn s e = true ∧ tableKept s 1 tJob = true ∧ rowOpen tJob (s.get .latStatLanes) = false ∧
      startBar (started s e) e (tDesc opCopy 0) = none)) := by decide +kernel

/-- A running job of one input of 64 bytes, and an operation of it. -/
def tIn : Job := { tJob with inps := [⟨.extents [], 64, [], [], 64⟩] }

def tPort (x : Xfer) : State := { tAct [] with jobs := [tIn], xfers := [x] }

theorem witness_DataComesAndGoes :
    (let x := tXfer .fabRead (.input 0 0); let s := tPort x
     s.findJob x.job = some tIn ∧ 0 < tIn.inps.length ∧ s.xfers.find? (fun x => x.kind == .fabRead && x.tag == 9) = some x ∧ tIn.srcCut = none ∧
     0 = (tIn.inp 0).data.length ∧ (tIn.inp 0).early = [] ∧ isSnapJob s x.job = false ∧ tIn.stop = none) ∧
    (∀ k ∈ [XKind.hostRead, .hostAck],
      let x := tXfer k (.input 0 0)
      (tPort x).xfers.find? (fun x => (x.kind == .hostRead || x.kind == .hostAck) && x.tag == 9) = some x) ∧
    (let o : OutBlk := ⟨0, 0, 0, 0, 64, 0, [], 0, [], [], [], []⟩
     let j : Job := { tIn with blks := [o] }
     let x := tXfer .fabWrite (.block 1 0)
     let s : State := { tAct [] with jobs := [j], xfers := [x] }
     let s2 : State := { tAct [] with jobs := [j], xfers := [x, { x with tag := 10 }] }
     s.xfers.find? (fun x => x.kind == .fabWrite && x.tag == 9) = some x ∧ pieceLeft (s.dropXfer x) x.job 1 0 = false ∧ s.findJob x.job = some j ∧
     j.verify = false ∧ j.blks.find? (fun o => o.idx == 0) = some o ∧ isSnapJob s x.job = false ∧ j.stop = none ∧
     s2.xfers.find? (fun x => x.kind == .fabWrite && x.tag == 9) = some x ∧ pieceLeft (s2.dropXfer x) x.job 1 0 = true) := by decide +kernel

theorem witness_HostAccess :
    (let x := tXfer .ats (.input 0 0); let e := tEntry opCopy 0
     let s : State := { tPort x with entries := [e] }
     let u : State := { s with pins := { s.pins with priEn := 0 } }
     let v : State := { s with saved := (List.range 16).map (fun n => ⟨1, n, tDesc opCopy 0, tJob, 0⟩) }
     s.xfers.find? (fun x => x.kind == .ats && x.tag == 9) = some x ∧ x.use ≠ .side ∧ x.data = [] ∧ s.replaying = false ∧
     s.findJob x.job = some tIn ∧ s.findEntry tIn.uid = some e ∧ isSnapJob s tIn.uid = false ∧ tIn.stop = none ∧ e.desc.opcode ≠ opResume ∧
     bitOf s.pins.priEn x.via = true ∧ freeSave s tIn.ctx = some 0 ∧ bitOf u.pins.priEn x.via = false ∧ freeSave v tIn.ctx = none) := by decide +kernel

theorem witness_HostAccess_requests :
    (let x := tXfer .hostRead (.input 0 0)
     (tPort x).xfers.filter (fun x => (x.kind == .hostRead || x.kind == .hostAck) && x.via == 0) = [x] ∧
     (tPort x).xfers.filter (fun x => (x.kind == .hostRead || x.kind == .hostAck) && x.via == 1) = [] ∧
     (tPort x).ckpt.snap = none ∧ (tPort x).ckpt.tail = [] ∧ (tPort x).findJob tIn.uid = some tIn ∧ tIn.stop = none ∧
     (tPort x).xfers.any (fun x => isHostOp x.kind && x.job == tIn.uid) = true) := by decide +kernel

/-- A closed half of one raw block of 64 FP32 values. -/
def tHalf : Half := { Half.empty with st := .fill, job := 5, ctx := 1, blocks := [⟨5, 0, zeros 256⟩], closed := true, coded := true, format := 1 }

theorem witness_CodingStages :
    (let s : State := { tAct [] with jobs := [tJob], halfA := tHalf }
     swapDue s = true ∧ s.awake = true ∧ (s.half s.fillA).coded = true ∧ (codedFmt (s.half s.fillA).format).isSome = true ∧
     (match codedFmt (s.half s.fillA).format with
      | some f => (censusOf f ((s.half s.fillA).blocks.map (fun b => b.data))).any (· != 0)
      | none => false) = true) ∧
    building { tAct [] with halfA := { tHalf with st := .drain } } = some true ∧
    slotLoading { tAct [] with
      jobs := [{ tJob with recs := [⟨0, 0, [], none, none, .loading 0, [], [], false, none⟩] }], slots := [⟨some tMould, 1, 1, 0⟩] } 0 = true ∧
    (let r : Rec := ⟨0, 0, [], none, none, .opened, zeros 64, [], false, none⟩
     let j := { tJob with recs := [r] }
     let s : State := { tAct [] with jobs := [j] }
     s.findJob j.uid = some j ∧ j.recs.find? (fun x => x.idx == r.idx) = some r) ∧
    (let h : BlockHdr := ⟨true, false, 0, 0, 7, 0, 0, 0, 4, 4, []⟩
     (match decodeBody h none (zeros 4 ++ natLe 4 (crc32c (zeros 4))) with | .ok raw => raw == zeros 4 | .error _ => false) = true ∧
     (match decodeBody h none (zeros 8) with | .ok _ => 0 | .error c => c) = 1) := by decide +kernel

def tHdr (sealed : Bool) : BlockHdr := ⟨true, sealed, 3, 0, 7, 0, 0, 0, 4, 4, zeros 12⟩

theorem witness_VerdictsAndFingerprints :
    (let rec_ := buildRecord (tHdr false) (zeros 4) none
     let r : Rec := ⟨0, 0, rec_, some (tHdr false), none, .opening 2, [], [], false, none⟩
     let j := { tIn with recs := [r] }
     let s : State := { tAct [] with jobs := [j], pipes := [⟨2, 5, false, 0, 0, []⟩] }
     s.pipes.find? (fun q => q.pipe == 2) = some ⟨2, 5, false, 0, 0, []⟩ ∧ s.findJob 5 = some j ∧
     j.recs.find? (fun r => r.idx == 0) = some r ∧ (j.openRec (tHdr false) (s.key 3).key r.bytes).isSome = true ∧
     j.openRec (tHdr true) (s.key 3).key r.bytes = none ∧ j.uid = 5 ∧ j.stop = none) ∧
    (let good := buildRecord (tHdr false) (zeros 4) none
     let o : OutBlk := ⟨0, 0, 0, 0, 64, 0, [], 0, [], [], [], []⟩
     let j : Job := { tIn with blks := [o] }
     let s : State := { tAct [] with jobs := [j], pipes := [⟨2, 5, true, 0, 0, good⟩] }
     s.findJob 5 = some j ∧ isSnapJob s 5 = false ∧ j.blks.find? (fun o => o.idx == 0) = some o ∧ backVerdict s good = none ∧
     backVerdict s [] = some stTagFail ∧ j.stop = none) := by decide +kernel

theorem witness_VerdictsAndFingerprints_prints :
    (let s : State := { tPort (tXfer .fabRead (.input 0 0)) with printing := [⟨some 0, 5, 0, zeros 4⟩] }
     s.findJob 5 = some tIn ∧ s.printing.find? (fun p => p.job == 5 && p.blk == 0 && p.core.isSome) = some ⟨some 0, 5, 0, zeros 4⟩ ∧ tIn.inbound = false) ∧
    (let j := { tIn with inbound := true }
     let e : Expect := ⟨none, 0, 7, 0, 0, 4, some (zeros 32), false, 0, 4, .fabric⟩
     let k := { j with expects := [e] }
     j.inbound = true ∧ expectedPrint j 0 4 = none ∧ expectedPrint k 0 4 = some (zeros 32, 0) ∧ zeros 32 ≠ sha256 (zeros 4) ∧ k.stop = none ∧
     expectedPrint { k with expects := [{ e with fingerprint := some (sha256 (zeros 4)) }] } 0 4 = some (sha256 (zeros 4), 0)) := by decide +kernel

theorem witness_TilesAndPatina :
    ({ tAct [] with eng := 5 } : State).holdingUp = true ∧ (tAct []).holdingUp = false ∧
    (let s : State := { tAct [] with jobs := [tLatJob] }
     let l : LatCfg := ⟨0, 1, 1, true, 4, 0, 0, 0, [], 0, 0, 0, 8⟩
     let shut : State := { s with patina := { Patina.asBuilt with counts := [(2, 0)] } }
     s.findJob tLatJob.uid = some tLatJob ∧ tLatJob.lat = some l ∧ tLatJob.stop = none ∧ s.logicalOf 2 ≠ 0 ∧ l.lanes ≠ s.get .latStatLanes ∧
     rowOpen tLatJob (s.get .latStatLanes) = true ∧ rowOpen { tLatJob with inps := [] } (s.get .latStatLanes) = false ∧
     l.lanes = (tAct [⟨.latStatLanes, 0, 8⟩]).get .latStatLanes ∧ shut.logicalOf 2 = 0) := by decide +kernel

theorem witness_TilesAndPatina_events :
    (let s := tAct [⟨.patCtrlPatrolEn, 0, 1⟩]
     s.flag .patCtrlPatrolEn = true ∧ s.awake = true ∧ s.now % max 1 (s.get .patPatrolPeriod) = 0 ∧ s.fwDown = false ∧
     ({ s with fwDown := true } : State).fwDown = true ∧ (s.unit (patrolUnit s).1 (patrolUnit s).2).failed = false ∧ (patrolUnit s).1 ≠ 6) ∧
    (let x : Subst := ⟨0, 0, 0, builtCount (tAct []) 0, true⟩
     let s : State := { tAct [] with patina := { Patina.asBuilt with substs := [x] } }
     s.patina.substs.find? (fun x => x.cls == 0 && x.phys == 0) = some x ∧ x.tile = true ∧ s.fwDown = false ∧ s.holdingUp = false ∧ 0 ≠ x.spare) ∧
    ((tAct []).now % 2 ^ (10 + (tAct []).get .patWarnWinLog2) = 0 ∧
     (tAct [⟨.patWarnEccThr, 0, 3⟩]).get .patEccWinCount < (tAct [⟨.patWarnEccThr, 0, 3⟩]).get .patWarnEccThr ∧
     (tAct [⟨.patWarnEccThr, 0, 3⟩, ⟨.patEccWinCount, 0, 3⟩]).get .patWarnEccThr ≤
       (tAct [⟨.patWarnEccThr, 0, 3⟩, ⟨.patEccWinCount, 0, 3⟩]).get .patEccWinCount) := by decide +kernel

/-- Queue pair 0 in RTS on lane 0, with every permission, for the reserve of peer 1 under key 0. -/
def tQp (l : List Cell) : State :=
  tAct ([⟨.xptQpStateState, 0, 1⟩, ⟨.xptQpAttrRes, 0, 1⟩, ⟨.fjPeerResFramesFrames, 0, 1⟩, ⟨.xptQpAttrWrOk, 0, 1⟩, ⟨.xptQpAttrRdOk, 0, 1⟩,
    ⟨.xptQpAttrSendOk, 0, 1⟩, ⟨.xptQpAttrLane, 0, 0⟩] ++ l)

theorem witness_FramesArrive : hears { tQp [] with eng := 6 } 0 = false ∧ hears (tQp []) 0 = true ∧ entryOf (tQp []) 0 1 = none ∧
    entryOf (tQp []) 0 0 = some 0 ∧ 9216 < (zeros 9217).length ∧ (zeros 9216).length ≤ 9216 ∧ ((tQp []).qp 0).cnpAt = none := by decide +kernel

theorem witness_PeerRequests :
    arrival { tQp [] with eng := 6 } 0 0 = .unheard ∧ arrival (tAct []) 0 0 = .refused ∧ arrival (tQp []) 0 1 = .ahead ∧
    arrival (tQp []) 0 0 = .expected ∧ keyOp (tQp []) 0 0 = none ∧ reach (tQp []) 0 1 0 64 true = none ∧
    reach (tQp []) 0 0 0 64 ((tQp []).getI .xptQpAttrWrOk 0 == 1) = some (0, 1, 1) ∧
    reach (tQp []) 0 0 0 64 ((tQp []).getI .xptQpAttrRdOk 0 == 1) = some (0, 1, 1) ∧
    reach (tQp []) 0 0 (reserveSize 1 - 64) 64 true = some (reserveSize 1 - 64, 1, 1) ∧ reach (tQp []) 0 0 (reserveSize 1 - 63) 64 true = none ∧
    (tQp []).getI .xptQpAttrSendOk 0 = 1 ∧ (tQp [⟨.fjTopoQpNextV, 0, 1⟩]).getI .xptQpAttrSendOk 0 = 1 ∧
    (let s : State := { tQp [] with regs := ⟨.xptQpAttrSendOk, 0, 0⟩ :: (tQp []).regs }
     s.getI .xptQpAttrSendOk 0 = 0 ∧ arrival s 0 0 = .expected) := by decide +kernel

theorem witness_PeerRequests_relays :
    (let s : State := tQp [⟨.fjTopoQpNextV, 0, 1⟩, ⟨.fjReplicaRankRank, 0, 1⟩]
     let u : State := { s with xfers := List.replicate 16 (tXfer .rdmaSend (.relay 0)) }
     let n := fun (a : State) => (a.xfers.filter (fun x => x.use == .relay 0)).length + (a.pendOps.filter (fun p => p.use == .relay 0)).length
     arrival s 0 0 = .expected ∧ (zeros 8192).length ≤ 8192 ∧ n s < 16 ∧ 16 ≤ n u ∧ arrival u 0 0 = .expected ∧ isWriter s = false ∧
     nextQp s = some 0 ∧ s.rts 0 = true) ∧
    (let x : Xfer := { tXfer .nvmeRead (.input 0 0) with key := some 3 }
     let s : State := { tQp [] with xfers := [x] }
     arrival s 0 0 = .expected ∧ keyOp s 0 3 = some x) := by decide +kernel

theorem witness_OperationsEnd :
    (let w := tXfer .rdmaWrite .side
     let r := tXfer .rdmaRead (.input 0 0)
     let s : State := { tQp [⟨.xptQpAttrRetry, 0, 3⟩] with jobs := [tIn], xfers := [w] }
     let u : State := { tQp [⟨.xptQpAttrRetry, 0, 0⟩] with jobs := [tIn], xfers := [r] }
     hears s (laneOf s 0) = true ∧ s.rts 0 = true ∧ s.replaying = false ∧ messages s 0 = w :: [] ∧ w.kind ≠ .rdmaRead ∧ upTo 0 w = true ∧
     w.use = .side ∧ upTo (2 ^ 24 - 1) w = false ∧ upTo ((0 + 2 ^ 24 - 1) % 2 ^ 24) w = false ∧ (s.qp 0).retries < s.getI .xptQpAttrRetry 0 ∧
     messages u 0 = r :: [] ∧ (0 + 2 ^ 24 - firstPsn u r) % 2 ^ 24 < packets u 0 r.len ∧ u.findJob r.job = some tIn ∧ 0 < tIn.inps.length ∧
     tIn.srcCut = none ∧ 0 = (tIn.inp 0).data.length ∧ (tIn.inp 0).early = [] ∧ u.getI .xptQpAttrRetry 0 ≤ (u.qp 0).retries ∧
     upTo ((0 + 2 ^ 24 - 1) % 2 ^ 24) r = false) := by decide +kernel

theorem witness_RatesAndLinks : hears (tQp []) (laneOf (tQp []) 0) = true ∧ (tQp []).rts 0 = true ∧ (tQp []).rts 255 = false ∧
    hears (tQp []) (laneOf (tQp []) 255) = true ∧
    (let s : State := { tQp [] with qps := [{ Qp.fresh 0 with rate := 999 }] }
     s.rts 0 = true ∧ (s.qp 0).rate < 1000 ∧ s.holdingUp = false) ∧
    (let s : State := { tQp [] with pins := { (tQp []).pins with linkUp := 14 } }
     laneUp s (0 % 4) = false ∧ s.holdingUp = false ∧ 0 < 256 ∧ s.rts 0 = true ∧ laneOf s 0 = 0 % 4) := by decide +kernel

/-- A snapshot whose segment 0 waits for its batch since tick 0. -/
def tSeg : SnapSeg := ⟨0, 0, 1, 5, 0, some 0, none, false, [], [], some Half.empty⟩

theorem witness_Timeouts :
    (let x := tXfer .rdmaWrite .side
     let s : State := { tQp [⟨.xptQpAttrRetry, 0, 1⟩] with xfers := [x] }
     let u : State := { tQp [⟨.xptQpAttrRetry, 0, 0⟩] with xfers := [x] }
     s.rts 0 = true ∧ s.xfers.any (fun x => onEntry s 0 x) = true ∧ s.holdingUp = false ∧ (s.qp 0).retries < s.getI .xptQpAttrRetry 0 ∧
     u.xfers.any (fun x => onEntry u 0 x) = true ∧ u.getI .xptQpAttrRetry 0 ≤ (u.qp 0).retries) ∧
    (let x : Xfer := { tXfer .rdmaWrite (.block 0 0) with promised := true }
     let s : State := { tPort x with regs := ⟨.tickNowNow, 0, 2 ^ 32⟩ :: (tPort x).regs }
     s.xfers.find? (fun x => isOp x.kind && x.promised && x.job != 0 && opTimedOut s x && (if isNvme x.kind then x.key == some 9 else x.tag == 9)) = some x ∧
     s.findJob x.job = some tIn ∧ isSnapJob s x.job = false ∧ tIn.stop = none) ∧
    (let g : Group := { tGroup with promised := true }
     let s : State := { tPort (tXfer .rdmaWrite (.block 0 0)) with groups := [g], entries := [tEntry opCopy 0] }
     s.findGroup 3 = some g ∧ g.stage = .admitted ∧ g.promised = true ∧ g.void = false ∧ g.dueTick ≤ s.now ∧ s.awake = true ∧
     s.findJob tIn.uid = some tIn ∧ s.entries.any (fun e => e.uid == tIn.uid && e.gid == 3) = true ∧ tIn.stop = none ∧ remoteWork s tIn = true) := by
  decide +kernel

theorem witness_Timeouts_exchange :
    (let x : Snap := { tSnap with segs := [tSeg], phase := .mirror, twoTick := some 0 }
     let s0 := tAct [⟨.fjReplicaRankRank, 0, 1⟩, ⟨.tickNowNow, 0, 2 ^ 40⟩]
     let s : State := { s0 with ckpt := { s0.ckpt with snap := some x } }
     s.ckpt.snap = some x ∧ x.segs.find? (fun g => g.seg == 0) = some tSeg ∧ tSeg.copied = some 0 ∧ 0 + s.get .fjCkptXchgWaitTicks ≤ s.now ∧
     tSeg.settled = false ∧ tSeg.batch = none ∧ tSeg.kept.isSome = true ∧ isWriter s = false ∧ s.awake = true ∧ x.twoTick = some 0 ∧
     x.notice = false ∧ x.phase = .mirror) := by decide +kernel

theorem witness_NvmeCommands :
    (let x : Xfer := { tXfer .nvmeRead (.input 0 0) with key := some 9 }
     let s := tPort x
     nvmeOp s 0 9 = some x ∧ s.holdingUp = false ∧ s.replaying = false ∧ s.findJob x.job = some tIn ∧ x.kind = .nvmeRead ∧ 0 < tIn.inps.length ∧
     tIn.srcCut = none ∧ 0 = (tIn.inp 0).data.length ∧ (tIn.inp 0).early = [] ∧ x.kind ≠ .nvmeAdmin ∧ isSnapJob s x.job = false ∧ tIn.stop = none) ∧
    (let s := tAct [⟨.xptTgtCfgSlots, 0, 2⟩, ⟨.xptTgtStateState, 0, 2⟩]
     tgtUsed s 0 = true ∧ tgtReady s 0 = true ∧ s.fwDown = false ∧ s.holdingUp = false) := by decide +kernel

/-- A small Armature image of no record, signed: its public key (the double of the base point) and its signature, made for this test outside the
model. -/
def tPub : Bytes :=
  natLe 97 0x800e940a701e50612de2394de943fd5f25b46a255f504e903ec46cbc75d875b274ba6dfddfe8bfb7ed3c1b5bfaf1808e61df9552c7a9965bf8640ebe6ee8e04f9e6eb99fd107d251d634f4a659590289f0975bc545002669d9d2a37b0599d90804

def tSig : Bytes :=
  natLe 96 0x62b41d922e5ed2df51956dd3c30c217d7f87c64e16f5bd18d15b6dac1b78defa529b165a61dd656eb2daf6a968a44dd631c80005c7e5d7020d582650aebb08b4a66d56d340f2a4be06cd2d2010399dcb987ddc5f7e3c796414fa6f60d4417a07

def tImage : Bytes :=
  ascii "FJARMAT2" ++ natLe 2 2 ++ zeros 2 ++ natLe 4 328 ++ natLe 4 1 ++ zeros 8 ++ natLe 4 12 ++ sha384 (zeros 12) ++ zeros 48 ++ tPub ++ zeros 7 ++
    tSig

theorem tImage_signed : check7 tImage = true := by decide +kernel

/-- ACTIVE, ready for an update from that image: its key's hash, and a directory that allows it. -/
def tUpdate : State :=
  let s := tAct [⟨.fjArmUpdLenLen, 0, 328⟩]
  { s with arm := { s.arm with keyHash := sha384 tPub }, boot := { s.boot with directory := zeros 16 ++ natLe 4 4096 ++ zeros 8 ++ natLe 4 4096 } }

theorem witness_ControlWrites : HostOpen (tAct []) ∧ (tAct [⟨.fjArmUpdStatState, 0, 1⟩]).get .fjArmUpdStatState = 1 ∧
    HostOpen (tAct [⟨.fjArmUpdStatState, 0, 1⟩]) ∧ (tAct []).get .fjArmUpdStatState ≠ 1 ∧
    check5 (fieldAt (tAct []).boot.directory 0x10 4) (([] : Bytes).take ((tAct []).get .fjArmUpdLenLen)) = false ∧
    (let s := tUpdate
     let img := tImage.take (s.get .fjArmUpdLenLen)
     HostOpen s ∧ img = tImage ∧ s.get .fjArmUpdStatState ≠ 1 ∧ check5 (fieldAt s.boot.directory 0x10 4) img = true ∧
     check6 s.arm.keyHash img = true ∧ (∀ x ∈ s.arm.copySeq, x.2 < imgSeq img)) := by decide +kernel

/-- BOOT, AWAIT_DRIVER set, under a configuration that passes check 10, and under one in which LAT_SAVE meets DIG_SAVE. -/
def tHold (l : List Cell) : State :=
  { State.reset with regs := ⟨.fjStateAwaitDriver, 0, 1⟩ :: ⟨.fjCkptNN, 0, 0⟩ :: l, boot := { Boot.start with stage := .hold } }

theorem witness_ControlWrites_go :
    ∀ l ∈ [[⟨.latSaveBaseBase, 0, 0x100000⟩], []],
      let s := tHold l
      let u := (s.at_ 0).wake
      s.eng = 1 ∧ s.holdup = none ∧ s.waking = false ∧ s.replaying = false ∧ s.flag .fjStateLocked = false ∧
      s.flag .fjStateAwaitDriver = true ∧ s.boot.stuck = false ∧ s.get .yljCfgMode ≠ 2 ∧
      (configBreach u u.arm.records u.arm.pkg).isSome = l.isEmpty := by decide +kernel

/-- Start-up before the barrier is left, one instance of two come. -/
def tBarrier (stage : BootStage) (arrived : List Nat) (l : List Cell) : State :=
  { State.reset with regs := ⟨.fjPosPresent, 0, 3⟩ :: l, boot := { Boot.start with stage := stage, arrived := arrived } }

theorem witness_StartBarrier : booting (tAct []) = booting (tAct []) ∧
    (let s : State := { tAct [] with boot := { Boot.start with stage := .running } }; booting s = false) ∧
    (let s := tBarrier .checks [] []; booting s = true ∧ 0 % 2 = 0 ∧ s.boot.stage ≠ .phase0 ∧ s.boot.stage ≠ .phase1 ∧ 1 % 16 ≠ s.get .fjPosInst) ∧
    (let s := tBarrier .phase0 [0] []
     let b1 := { s.boot with arrived := 1 :: s.boot.arrived.filter (· != 1) }
     s.boot.stage = .phase0 ∧ s.eng = 1 ∧ isCoord s = true ∧ (∃ k ∈ b1.arrived, k ≠ s.get .fjPosInst) ∧
     (∀ k ∈ fitted s, k ∈ b1.arrived ∨ k ∈ s.boot.absent) ∧ s.boot.alone = false ∧ ∀ k ∈ s.boot.arrived, k = s.get .fjPosInst) ∧
    (let s := tBarrier .phase0 [0, 1] []; isCoord s = true ∧ ∃ k ∈ s.boot.arrived, k ≠ s.get .fjPosInst) := by decide +kernel

theorem witness_StartBarrier_phase1 :
    (let s : State := { tBarrier .phase1 [0, 1] [] with boot := { Boot.start with stage := .phase1, arrived := [0, 1], answered := [0] } }
     1 % 2 = 1 ∧ s.boot.stage = .phase1 ∧ s.eng = 1 ∧ isCoord s = true ∧ 1 % 16 ∈ s.boot.arrived ∧
     (∀ k ∈ s.boot.arrived, k = 1 ∨ k ∈ s.boot.answered) ∧ s.boot.ready1 = false) ∧
    (let s := tBarrier .phase0 [] [⟨.fjPosInst, 0, 1⟩]; s.boot.stage = .phase0 ∧ isCoord s = false ∧ booting s = true ∧ 0 ≠ s.get .fjPosInst) ∧
    (let s : State := { tBarrier .phase1 [] [⟨.fjPosInst, 0, 1⟩] with boot := { Boot.start with stage := .phase1, edgeSeen := true } }
     s.boot.stage = .phase1 ∧ isCoord s = false ∧ s.boot.edgeSeen = true) ∧
    (let s : State := { tBarrier .phase0 [0] [] with boot := { Boot.start with stage := .phase0, alone := true } }
     s.boot.stage = .phase0 ∧ s.boot.alone = true) := by decide +kernel

theorem witness_StartChecks :
    (let s : State := { State.reset with boot := { Boot.start with kpWords := List.replicate 18 0 } }
     let u : State := { State.reset with boot := { Boot.start with kpWords := List.replicate 19 0 } }
     s.boot.stage = .checks ∧ s.boot.kpErr = false ∧ s.boot.kpWords.length < 19 ∧ u.boot.kpWords.length = 19 ∧ s.boot.sfdp = []) ∧
    (let s : State := { State.reset with boot := { Boot.start with reading := 4 } }
     s.boot.stage = .checks ∧ s.boot.reading = 4 ∧ copyOrder s = 0 :: [1] ∧ copyCode s 0 = some 0x10 ∧ ∀ n ∈ [1], (copyCode s n).isSome = true) := by
  decide +kernel

theorem witness_StartChecks_choice :
    (let a := tUpdate.arm
     let s : State := { tHold [⟨.latSaveBaseBase, 0, 0x100000⟩] with
       arm := a, boot := { tUpdate.boot with stage := .checks, reading := 4, images := [(0, tImage)], firmware := [(0, zeros 12)] } }
     let rs := appliedRecords (s.get .fjPosInst) tImage
     copyOrder s = 0 :: [1] ∧ copyBytes s.boot.images 0 = tImage ∧ copyCode s 0 = none ∧
     configBreach (s.configured rs) rs (fieldAt tImage 0x14 4) = none) := by decide +kernel

/-- Parameters of a device with a basic and an 8D-8D-8D table (15 R417, R418). -/
def tSfdp : Bytes := ascii "SFDP" ++ [0, 0, 1, 0xFF] ++ [0, 0, 1, 16, 0x18, 0, 0, 0xFF] ++ [5, 0, 1, 0, 0x18, 0, 0, 0xFF] ++ zeros 64

theorem witness_StartChecks_error :
    (let s : State := { State.reset with boot := { Boot.start with sfdp := tSfdp } }
     s.boot.stage = .checks ∧ s.boot.kpErr = false ∧ s.boot.kpWords.length < 20 ∧ s.boot.sfdp ≠ [] ∧ sfdpOk s.boot.sfdp = true) := by
  decide +kernel

/-- ACTIVE, with one operation at the NVM port. -/
def tNvm (o : NvmOp) : State := { tAct [] with nvm := [o] }

/-- In hold-up, with two bytes of record, one attempt made or two. -/
def tHold2 (o : NvmOp) (retried : Bool) : State := { tNvm o with holdup := some ⟨1, 0, 0, 0, [1, 2], 0, 0, retried, false⟩ }

theorem witness_NvmAndFirmware :
    (let s := State.reset
     let o : NvmOp := ⟨.read, 0, 512, [], .sfdp⟩
     s.nvm = o :: [] ∧ o.kind = .read ∧ o.use = .sfdp ∧ s.boot.stage = .checks ∧ 0 < o.len ∧ sfdpOk (sliceZ [] 0 o.len) = false) ∧
    (let o : NvmOp := ⟨.read, 0, 16, [], .reserve⟩
     let s : State := { tNvm o with journal := ⟨[(3, 2 ^ 24)], [], [true, true]⟩ }
     s.nvm = o :: [] ∧ o.kind = .read ∧ lastEntry s = journalEntry 3 1 0 ∧ s.journal.copies = [] ∧ s.journal.queue = (3, 2 ^ 24) :: []) ∧
    (let o : NvmOp := ⟨.read, 0, 2, [], .save⟩
     (tHold2 o false).nvm = o :: [] ∧ sliceZ [1, 2] 0 o.len = [1, 2] ∧ sliceZ [1, 3] 0 o.len ≠ [1, 2] ∧
     (tHold2 o true).holdup = some ⟨1, 0, 0, 0, [1, 2], 0, 0, true, false⟩) ∧
    (let o : NvmOp := ⟨.program, 0, 1, [1], .save⟩
     (tHold2 o false).nvm = [o] ∧ o.kind = .program ∧ 0 + o.len < ([1, 2] : Bytes).length ∧ ([1, 2] : Bytes).length ≤ 0 + 2) ∧
    (let o : NvmOp := ⟨.erase, 0, 4096, [], .eraseRecord 1⟩
     (tNvm o).nvm = o :: [] ∧ o.kind = .erase ∧ o.use = .eraseRecord 1) ∧
    State.reset.flag .fjStateLocked = false ∧ State.reset.eng ≠ 6 ∧ State.reset.holdingUp = false ∧ State.reset.fwDown = false ∧
    (tAct []).flag .fjStateLocked = true ∧ (tAct []).eng ≠ 6 ∧ (tAct []).fwDown = false ∧ ({ tAct [] with fwDown := true } : State).fwDown = true := by
  decide +kernel

/-- A key record for slot 3 that needs no reservation, wrapped for the engine of `tAct`. -/
def tKeyRec : Bytes := zeros 32 ++ [3, 0, 1, 0, 0, 0, 0, 0]

def tKeys (x : KeySlot) (blob : Bytes) : State := { tAct [] with keys := [x], keyLoad := some ⟨blob, false, none⟩ }

theorem witness_CountersAndKeys :
    (let s := tKeys { KeySlot.fresh 3 with ctr := 5, hwm := 2 ^ 24 } []
     s.replaying = false ∧ (match s.drawNonce 1 3 with | .ok c _ => c == 5 | _ => false) = true) ∧
    (let s := tKeys { KeySlot.fresh 3 with ctr := 2 ^ 64 - 1 } []
     s.replaying = false ∧ s.flag .sealStatTableLost = false ∧ 2 ^ 64 - 1 ≤ (s.key 3).ctr ∧
     ((tKeys { KeySlot.fresh 3 with exhausted := true } []).key 3).exhausted = true) ∧
    (let s := tKeys (KeySlot.fresh 3) []
     unwrapBlob s [] = .bad 0 1 ∧ s.holdingUp = false ∧ s.boot.stage ≠ .keys ∧ s.keyLoad = some ⟨[], false, none⟩) := by
  decide +kernel

theorem witness_CountersAndKeys_good :
    (let b := kwpWrap (tAct []).kwk tKeyRec
     let s := tKeys { KeySlot.fresh 3 with ctr := 0, hwm := 2 ^ 24 } b
     unwrapBlob s b = .good tKeyRec ∧ reservedEnough s tKeyRec = true ∧ s.keyLoad = some ⟨b, false, none⟩) := by decide +kernel

theorem witness_EmptyOffsets :
    HostOpen (tAct []) ∧ HasView (tAct []) 0 ∧ HasView { tAct [] with build := { Build.default with numVf := 63 } } 63 ∧
    (∀ off ∈ [0x1FFC, 0x28000, 0xD000 + 0xF00, 0xE0000, 0xFFFFC], NoRegister (tAct []) false off) := by decide +kernel

theorem witness_EmptyOffsets_tenant :
    (∀ off ∈ [0x18, 0x1C, 0x40, 0xFFC, 0x1200, 0x2000, 0x3FFC, 0x6000, 0x8400, 0x9008, 0xFFFC], NoRegister (tAct []) true off) := by decide +kernel

theorem witness_RegisterAccess :
    ({ tAct [] with eng := 0 } : State).eng = 0 ∧ ({ tAct [] with eng := 8 } : State).eng = 8 ∧ ({ tAct [] with eng := 5 } : State).holdingUp = true ∧
    ¬ (1 ≤ 0 ∧ 0 ≤ (tAct []).build.numVf) ∧ ¬ (1 ≤ 64 ∧ 64 ≤ (tAct []).build.numVf) ∧ ¬ (2 = 4 ∧ 8 % 4 = 0 ∨ 2 = 8 ∧ 8 % 8 = 0) ∧
    ¬ (8 = 4 ∧ 4 % 4 = 0 ∨ 8 = 8 ∧ 4 % 8 = 0) ∧ findRow (tAct []) 0x1FFC privMap = none ∧ HostOpen (tAct []) ∧ HasView (tAct []) 1 := by
  decide +kernel

/-- A register of one RW field, one of a locked field, one that only shows, and one whose bits clear. -/
theorem witness_RegisterAccess_fields :
    (∀ a ∈ [Access.rw, .rwl, .ro, .w1c], ∃ x ∈ privMap.filterMap (fun r : MapRow => (findRow (tAct []) r.off privMap).map (fun p => (r.off, p))),
      x.1 < 0x10000 ∧ x.1 % 4 = 0 ∧ rowShut (tAct []) x.2.1 x.1 x.2.2 = false ∧
      x.1 ∉ [0x0044, 0x0110, 0x0204, 0x1010, 0x2004, 0x3004, 0x3080, 0x4004, 0x5004, 0x5040, 0x6004, 0x8004, 0x9034, 0xA004, 0xA010, 0xB010, 0xC008,
        0xD008] ∧ ¬ (0x5010 ≤ x.1 ∧ x.1 < 0x5040) ∧ ¬ (0x8100 ≤ x.1 ∧ x.1 < 0x8200) ∧
      ∃ b ∈ x.2.1.bits, (fldInfo b.fld).acc = a ∧ b.sh = 0 ∧ b.w = fldWidth b.fld ∧ b.fld ∉ Sys2Proof.Safety.hostFlds ∧
        ∀ c ∈ x.2.1.bits, c.fld = b.fld → c = b) := by decide +kernel

theorem witness_LockedFieldsStay : HostOpen (tAct []) ∧ ∀ off ∈ [0, 0x38, 0x48, 0x108, 0x118, 0x2FF8, 0x3008], off / 8 * 8 ∉ [0x0040, 0x0110, 0x3000] := by
  decide +kernel

theorem witness_TenantsAreKeptApart : HostOpen (tAct []) ∧ cellCtx ⟨.fjIrqEnEn, 0, 0⟩ ≠ some 1 := by decide +kernel

theorem witness_DebugAndReplay :
    ({ tAct [] with pins := { Pins.default with dbgEn := false } } : State).pins.dbgEn = false ∧
    (let s : State := { tAct [] with pins := { Pins.default with dbgEn := true } }
     s.pins.dbgEn = true ∧ s.eng ≠ 0 ∧ s.eng ≠ 6 ∧ ({ s with eng := 6 } : State).eng = 6 ∧ 0 < physCount s (1 % 8) ∧
     (s.unit (1 % 8) 0).failed = false ∧ builtCount s (1 % 8) < physCount s (1 % 8) ∧
     ¬ (builtCount s (1 % 8) ≤ 0 ∧ (s.unit (1 % 8) 0).logical.isSome = true)) ∧
    (let s := tAct [⟨.yljStatRecording, 0, 1⟩]; s.recording = true ∧ s.now % 1024 = 0 ∧ s.holdingUp = false) ∧
    (let s : State := { tAct [⟨.yljStatReplaying, 0, 1⟩] with yeljo := { Yeljo.empty with srcHeader := zeros 0x60 ++ natLe 8 1 } }
     ∀ x ∈ [(1, 1), (7, 0), (16, 0), (8, 0)],
       let rec_ : Bytes := natLe 4 x.2 ++ zeros 2 ++ natLe 1 x.1 ++ zeros 1 ++ natLe 8 (if x.1 = 1 then 2 ^ 37 else 6) ++ zeros 16
       recordDue s rec_ = true ∧ fieldAt rec_ 6 1 % 32 = x.1 ∧ (x.1 = 1 → bitOf (fieldAt rec_ 8 8) 37 = true) ∧
         (x.1 = 8 → fieldAt rec_ 8 8 % 16 = 6)) := by decide +kernel

/-! ### Witnesses of `Acts`, and of further clauses -/

/-- Commands of `Acts` that host registers take, in ACTIVE. -/
theorem witness_Acts_host : ∀ c ∈ [Instr.engineRst 0, .doorbell 63 0 0 0, .ringEnable 1 0 0 0, .cringHead 0 0 0 0, .tickModeGo 0 0, .stgCtrlSwap 0,
      .invAll 0, .invCtx 0 0, .slotFlush 0, .grdPeakClr 0, .digPeakClr 0, .minClr 0, .keyLoad 0 0, .keyErase 0 0, .ackLost 0, .pntInvCtx 0 0,
      .pntVlWrite 63 0 0, .warn 0, .abandon 0, .adopt 0 0, .retainReq 0, .armUpd 0 [], .qpReset 0, .qpRts 0, .retire 0, .patEccAdd 0 0, .close 0,
      .irqEnWrite 0 0 0, .registerWrite false 0 4 4 0 0 [], .registerWrite false 0 8 8 0 0 [], .syncPageSet 63 1023 0 0, .syncPageAdd 0 0 0 0,
      .syncMapWrite 0 0], Acts (tAct []) c := by
  intro c hc
  simp only [List.mem_cons, List.not_mem_nil, or_false] at hc
  rcases hc with h | h | h | h | h | h | h | h | h | h | h | h | h | h | h | h | h | h | h | h | h | h | h | h | h | h | h | h | h | h | h | h | h <;>
    subst h <;> unfold Acts <;> decide +kernel

/-- Pins, resets and what comes in from outside, each where its command acts. -/
theorem witness_Acts_pins : ∀ c ∈ [Instr.coldReset 0 0, .packageReset 0 0, .functionReset 0, .tenantReset 1 0, .tenantReset 63 0, .pwrFailN 0, .holdup 0 0 0, .busVStrobe
      0 0, .busvStaleTimeout, .sagFastRise 3 0, .stepEnd 0 false 0, .guardWrite 0 0 [] 0 false 0 ⟨0, []⟩, .guardWriteResponse 0 true 0 false,
      .tileBoundary 0, .atsInvalidation 0, .hostLinkDown, .linkUpFall 0, .linkUpRise 0, .warnPacket 0 0 0, .watchdogExpiry 0, .eccWindowEnd,
      .hflrReqFall 0, .hcfgMsixMaskClear 0, .strapChange 0 0, .sbDrop 0, .dbgEnFall, .ijtagAccess .idcode, .railRemoved],
      Acts (tAct []) c := by
  intro c hc
  simp only [List.mem_cons, List.not_mem_nil, or_false] at hc
  rcases hc with rfl | rfl | rfl | rfl | rfl | rfl | rfl | rfl | rfl | rfl | rfl | rfl | rfl | rfl | rfl | rfl | rfl | rfl | rfl | rfl | rfl | rfl | rfl | rfl | rfl | rfl | rfl | rfl <;> unfold Acts <;> decide +kernel

/-- What peers send, where an entry in RTS takes it. -/
theorem witness_Acts_wire : ∀ c ∈ [Instr.rdmaWriteRequest 0 0 0 0 [], .rdmaReadRequest 256 0 0 0 64, .fingerprintBatch 0 0 [], .commitNotice 0 0 [], .sendWithInvalidate 0
      0 0, .rcAck 0 0, .nak 0 0 0, .cnp 0, .receiveFrame 0 true (.other 0)],
      Acts (tQp []) c := by
  intro c hc
  simp only [List.mem_cons, List.not_mem_nil, or_false] at hc
  rcases hc with rfl | rfl | rfl | rfl | rfl | rfl | rfl | rfl | rfl <;> unfold Acts <;> decide +kernel

/-- Start-up, the clock and firmware, each where its command acts. -/
theorem witness_Acts_start :
    Acts State.reset (.arrive 1 0) ∧ Acts State.reset (.absent 1 0) ∧ Acts State.reset (.keyPortAck 0 false) ∧ Acts State.reset .keyPortTimeout ∧
    Acts (tBarrier .phase0 [] []) .bootWaitTimeout ∧ Acts (tBarrier .phase1 [] []) .phase1Timeout ∧ Acts (tBarrier .phase1 [] []) .startAlone ∧
    Acts { tAct [] with fwDown := true } (.firmwareBack true true) ∧ Acts (tAct [⟨.tickStatClkStep, 0, 2⟩]) (.sagStepUp 1 0) ∧
    Acts (tTick [⟨.tickThrWinWin, 0, 1⟩]) .throttleWindowEnd ∧ Acts (tTick []) (.tickInEdge 9) := by
  refine ⟨?_, ?_, ?_, ?_, ?_, ?_, ?_, ?_, ?_, ?_, ?_⟩ <;> unfold Acts <;> decide +kernel

/-- Front entries of rings, each where its command acts. -/
theorem witness_Acts_entries :
    Acts (tRun opNop 0 []) (.nop 1 0) ∧ Acts (tRun opFence 0 []) (.fence 1 0) ∧ Acts (tWith (tDesc opSnap 0) []) (.snap 1 0) ∧
    Acts (tRun opSignal (tArg 0 9) []) (.signalSet 1 0) ∧ Acts (tRun opWait (tArg 2 9) []) (.waitNe 1 0) ∧
    Acts (tRun opBarrier (tArg 1 0) []) (.barrierArrive 1 0) ∧ Acts (tResume tJob []) (.resume 1 0) ∧ Acts (tRing 2 []) (.entryFetch 1 0 []) := by
  refine ⟨⟨tEntry opNop 0, ?_⟩, ⟨tEntry opFence 0, ?_⟩, ⟨tOf (tDesc opSnap 0), ?_⟩, ⟨tEntry opSignal (tArg 0 9), 1024, ?_⟩,
    ⟨tEntry opWait (tArg 2 9), 1024, ?_⟩, ⟨tEntry opBarrier (tArg 1 0), 1024, ?_⟩, ⟨tEntry opResume 3, ?_⟩, ?_⟩ <;>
    (try unfold Acts) <;> decide +kernel

def tCopy (v1 : Bool) : Desc := { tDesc opCopy 0 with src := some ⟨0, 64, [], false⟩, v1 := v1 }

/-- Streams whose jobs start, in both formats. -/
theorem witness_Acts_jobs : Acts (tWith (tCopy false) []) (.copy 1 0) ∧ Acts (tWith (tCopy true) []) (.v1Copy 1 0) := by
  refine ⟨⟨tOf (tCopy false), ?_⟩, ⟨tOf (tCopy true), ?_⟩⟩ <;> decide +kernel

/-- Images that fail one check each: the signature, the key's hash, the sequence; and a device of MRAM. -/
theorem witness_ControlWrites_checks :
    (let s := tUpdate
     let bad := tImage.take 232 ++ zeros 96
     check5 (fieldAt s.boot.directory 0x10 4) bad = true ∧ check6 s.arm.keyHash bad = true ∧ check7 bad = false ∧
     check6 (zeros 48) tImage = false ∧ imgSeq tImage ≤ 1 ∧ sfdpMram s.boot.sfdp = true ∧ tImage ≠ [] ∧
     sfdpMram (ascii "SFDP" ++ [0, 0, 0, 0xFF] ++ [0, 0, 1, 16, 0x18, 0, 0, 0xFF] ++ zeros 36 ++ [12, 0x20, 0, 0] ++ zeros 28) = false) := by
  decide +kernel

theorem witness_RetireCloseAndSwap_more :
    (let s := tAct [⟨.patUnitSelUnit, 0, builtCount (tAct []) 0⟩]
     let u : State := { s with patina := { Patina.asBuilt with units := [⟨0, builtCount s 0, false, 1, some 3⟩] } }
     HostOpen u ∧ builtCount u 0 ≤ u.get .patUnitSelUnit ∧ (u.unit 0 (u.get .patUnitSelUnit)).logical.isSome = true) ∧
    (tAct []).ckpt.snap = none ∧ bitOf 0x303 0 = true ∧ bitOf 0x303 1 = true := by decide +kernel

theorem witness_BoundaryPieces_retain :
    (let s : State := { tTick [⟨.tickThrWinWin, 0, 2⟩] with eng := 4 }
     let u : State := { tTick [⟨.tickThrWinWin, 0, 1⟩] with eng := 4 }
     s.replaying = false ∧ (s.now + 1) % 2 ^ 64 % max 1 (s.get .tickThrWinWin) ≠ 0 ∧ (u.now + 1) % 2 ^ 64 % max 1 (u.get .tickThrWinWin) = 0) ∧
    ¬ (-8 ≤ (9 : Int) ∧ (9 : Int) ≤ 8) ∧ ¬ (-8 ≤ (-9 : Int)) ∧ (tTick []).tick.missedRow + 1 < 16 ∧
    workless { tTick [⟨.fjPmIdleTicks, 0, 1⟩] with tick := { Tick.start with running := true, idle := 1 } } = true := by decide +kernel

theorem witness_AdmissionDecides_more :
    (let g : Group := { tGroup with stage := .closed }
     let d : Desc := { tDesc opCopy 0 with
       src := some ⟨0x100000, 64, [], false⟩, dst := some ⟨0, 64, [], false⟩, flags := { tFlags with relayout := true },
       xform := some ⟨0, 0, 0, false, false, false, 0, ⟨2, 1, 0, 15, false, 3⟩⟩ }
     let s : State := { tAct [] with groups := [g], entries := [{ tEntry opCopy 0 with stage := .fetched, desc := d }], vlPending := [(1, 1)] }
     vlHolds s g (groupEntries s g.gid) = true) ∧
    (let g : Group := { tGroup with stage := .closed }
     let s : State := { tAsk opNop 0 [] with eng := 3 }
     s.awake = true ∧ decisionDue s g = true ∧ workless (s.decideGroup g) = false) := by decide +kernel

theorem witness_CompletionsPost_fabric : (tRing 0 [⟨.cringCfgSpace, 4, 1⟩]).getI .cringCfgSpace (rix tCmpl.ctx tCmpl.ring) = 1 ∧
    beatsOf ((tRing 0 []).getI .cringBaseBase (rix 1 0)) (tCmpl.bytes (tRing 0 [])) ≠ [] := by decide +kernel

/-- The last arrival, with another that waits on the round. -/
theorem witness_Barriers_last :
    ∀ x ∈ [0, 1],
      let w : Waiter := ⟨4, 1, 1, 0, 1024, .round, 3, none⟩
      let s : State := { tWord opBarrier (tArg x 3) (tBar 3 2 1) with waiters := [w] }
      StartsSync s 1 0 opBarrier x .syncMapBarOk (tEntry opBarrier (tArg x 3)) (.word 1024) ∧
        ∀ y ∈ s.waiters, y.phys = 1024 → y.what = .round ∧ y.uid ≠ (tEntry opBarrier (tArg x 3)).uid := by decide +kernel

/-- A DIGEST whose handle an earlier DIGEST still feeds. -/
theorem witness_StreamJobsStart_turn :
    (let d : Desc := { tDesc opDigest 0 with src := some ⟨0, 64, [], false⟩, dig := some ⟨3, 1, 0, 0, false, 0, 0⟩ }
     let s : State := { tWith d [] with entries := [tOf d, { tOf d with uid := 4, ring := 1, gid := 2, stage := .running }],
                                        groups := [tGroup, { tGroup with gid := 2, ring := 1, order := 0 }] }
     Starts s 1 0 opDigest false (tOf d) ∧ feedTurn s (tOf d) = false) := by decide +kernel

/-- What bars a RESTORE whose steps are there: a length that is not a whole number of vectors, a destination of another length, an unknown
shard, a far end that is down. -/
theorem witness_ShardJobsStart_bars :
    ∀ v1 ∈ [true, false],
      let d := { tDesc opRestore 0 with dst := some ⟨0, 4096, [], false⟩, obj := some tOwn, v1 := v1 }
      let far := { d with obj := some tPeer }
      let short := { d with dst := some ⟨0, 64, [], false⟩ }
      let s := started (tWith d []) (tOf d)
      Starts (tWith short []) 1 0 opRestore v1 (tOf short) ∧
      (match phaseAt s 1 7 d tOwn [tStep] with
        | .good m segs => (match planOf s short tOwn tStep m segs with
          | .ok p => (headerBar s 1 short p).isNone && p.raw == some 4096 &&
              latLen (short.latCfg (s.get .latStatLanes)) (pointLen short.pnt 4096) != 64
          | .error _ => false) &&
          (match planOf s d { tOwn with shardId := 9 } tStep m segs with | .ok _ => false | .error st => st == stCheckFail)
        | .fail _ _ => false) = true ∧
      startBar (started (tWith far []) (tOf far)) (tOf far) far = some stXptQpDown ∧
      headerBar (tAct [⟨.pntVlVl, 1, 1⟩]) 1
        { d with flags := { tFlags with relayout := true }, xform := some ⟨0, 0, 0, false, false, false, 0, ⟨0, 0, 0, 15, false, 3⟩⟩ }
        { expects := [], raw := some 65, ranges := [] } = some stMalformed := by decide +kernel

theorem witness_SnapsLoadsAndResume_ends :
    (tLoaded (tLoad opMouldLoad 4) []).opcode = opMouldLoad ∧ (tLoaded (tLoad opPermLoad 4) []).opcode = opPermLoad ∧
    (let d : Desc := { tDesc opCopy 0 with obj := some tPeer }
     let s : State := { tRun opResume 3 [] with saved := [⟨1, 3, d, tJob, 0⟩] }
     let e := tEntry opResume 3
     Starts s 1 0 opResume false e ∧ feedTurn s e = true ∧ tableKept s 1 tJob = true ∧ rowOpen tJob (s.get .latStatLanes) = false ∧
     (startBar (started s e) e d).isSome = true) := by decide +kernel

theorem witness_DataComesAndGoes_holdup :
    (let x := tXfer .fabRead (.input 0 0)
     let s : State := { tPort x with eng := 5 }
     s.holdingUp = true ∧ s.findJob x.job = some tIn ∧ s.xfers.find? (fun x => x.kind == .fabRead && x.tag == 9) = some x) := by decide +kernel

/-- A translated write behind another; an invalidation that waits for one access, or for two. -/
theorem witness_HostAccess_order :
    (let x : Xfer := { tXfer .ats (.block 0 0) with data := [1] }
     (tPort x).xfers.find? (fun x => x.kind == .ats && x.tag == 9) = some x ∧ x.use ≠ .side ∧ x.data ≠ []) ∧
    (let s : State := { tAct [] with atsInv := [(2, [9]), (3, [9, 8])] }
     (2, [9]) ∈ s.atsInv ∧ (∀ n ∈ [9], n = 9) ∧ (3, [9, 8]) ∈ s.atsInv ∧ ∃ n ∈ [9, 8], n ≠ 9) := by decide +kernel

/-- Segments that close: one that counted a value, and one that did not; a Mould that builds before its swap. -/
theorem witness_CodingStages_close :
    (let h := tHalf
     ∀ f, codedFmt h.format = some f →
       (censusOf f (h.blocks.map (fun b => b.data))).any (· != 0) = true ∧
       (censusOf f (({ h with blocks := [] } : Half).blocks.map (fun b => b.data))).any (· != 0) = false) ∧
    (codedFmt tHalf.format).isSome = true ∧
    building { tAct [] with halfA := tHalf } = some true := by
  refine ⟨?_, by decide +kernel, by decide +kernel⟩
  intro h f hf
  revert f
  decide +kernel

theorem witness_TilesAndPatina_lanes :
    (let j : Job := { tLatJob with srcLen := 16 }
     let l : LatCfg := ⟨0, 1, 1, true, 4, 0, 0, 0, [], 0, 0, 0, 8⟩
     let s : State := { tAct [] with jobs := [j], patina := { Patina.asBuilt with counts := [(2, 0)] } }
     s.findJob j.uid = some j ∧ s.logicalOf 2 = 0 ∧ needsLattice j l = true ∧ needsLattice { j with srcLen := 0 } l = false) := by decide +kernel

theorem witness_PeerRequests_behind :
    arrival (tQp []) 0 (2 ^ 24 - 1) = .behind ∧ ((2 ^ 24 - 1) + packets (tQp []) 0 0 - 1) % 2 ^ 24 ∉ ((tQp []).qp 0).acks := by decide +kernel

theorem witness_NvmeCommands_waits :
    (let x : Xfer := { tXfer .nvmeRead (.input 0 0) with key := some 9 }
     let s : State := { tPort x with fwDown := true, regs := ⟨.xptTgtCfgTcp, 0, 1⟩ :: (tPort x).regs }
     nvmeOp s 0 9 = some x ∧ s.holdingUp = false ∧ s.fwDown = true ∧ s.getI .xptTgtCfgTcp x.via = 1) := by decide +kernel

theorem witness_DebugAndReplay_edge :
    (let s : State := { tAct [⟨.yljStatReplaying, 0, 1⟩] with yeljo := { Yeljo.empty with srcHeader := zeros 0x60 ++ natLe 8 1 } }
     let rec_ : Bytes := natLe 4 1 ++ zeros 2 ++ [1, 0] ++ zeros 24
     recordDue s rec_ = true ∧ fieldAt rec_ 6 1 % 32 = 1 ∧ bitOf (fieldAt rec_ 8 8) 37 = false) := by decide +kernel

/-! ### Ill-formed commands are refused, one for each check -/

theorem test_wellformed : (Instr.guardWrite 63 0 (zeros 64) 0 65535 0 ⟨0, []⟩).wf = true ∧ (Instr.registerWrite true 1 0xFFFC 4 0 0 []).wf = true ∧
    (Instr.entryFetch 1 0 (zeros 32)).wf = true := by decide +kernel

theorem test_illformed_operands :
    (Instr.guardWrite 64 0 (zeros 64) 0 0 0 ⟨0, []⟩).wf = false ∧ (Instr.guardWrite 0 0 (zeros 63) 0 0 0 ⟨0, []⟩).wf = false ∧
    (Instr.coldReset 16 1).wf = false ∧ (Instr.nop 64 0).wf = false ∧ (Instr.nop 0 4).wf = false := by decide +kernel

/-- entryOk, offOk, widthOk, wordOk, requestOk, frameOk and ijtagOk, in that order. -/
theorem test_illformed_parts :
    (Instr.entryFetch 0 0 (zeros 31)).wf = false ∧ (Instr.entryFetch 0 0 []).wf = false ∧ (Instr.entryFetch 0 0 (zeros 544)).wf = false ∧
    offOk true 0x10000 = false ∧ widthOk 0 = false ∧ widthOk 4097 = false ∧ (Instr.registerWrite true 1 0x10000 4 0 0 []).wf = false ∧
    (Instr.registerWrite false 0 0 4 (2 ^ 32) 0 []).wf = false ∧ requestOk 1 0x10000 4 none = false ∧
    frameOk (.roce (2 ^ 24) 0 0 64) = false ∧ (Instr.ijtagAccess (.bist 4096 true)).wf = false := by decide +kernel

/-! ### Worked examples of the spec -/

/-- FIPS 197, the example of AES-256. -/
theorem test_aes : aesEnc (aesKeys ((List.range 32).map (fun n => BitVec.ofNat 8 n))) 0x00112233445566778899aabbccddeeff =
    0x8ea2b7ca516745bfeafc49904b496089 := by decide +kernel

/-- 06, the worked example: header, additional data and length of a sealed record. -/
theorem test_block_header :
    let h : BlockHdr := ⟨false, true, 12, 0x5A3C91E7, 8000, 7, 2, 5, 65536, 40768, nonceOf 0x0A31 0x03000041⟩
    h.bytes = [0x03, 0x02, 0x0C, 0, 0xE7, 0x91, 0x3C, 0x5A, 0x40, 0x1F, 0, 0, 0, 0, 0, 0, 7, 0, 0, 0, 0, 0, 0, 0, 2, 0, 0, 0, 5, 0, 0, 0,
      0, 0, 1, 0, 0x40, 0x9F, 0, 0, 0, 0, 0, 0, 0, 0, 0, 0, 0x31, 0x0A, 0, 0, 0x41, 0, 0, 3, 0, 0, 0, 0, 0, 0, 0, 0] ∧
    h.aad = h.bytes.take 48 ∧ h.recLen = 40852 := by decide +kernel

/-- 05, the worked example: the code lengths of the six exponents and of ESC. -/
theorem test_huffman :
    let m := buildMould 1 ((List.range 256).map (fun e => match e with
      | 0 => 4 | 0x79 => 32764 | 0x7A => 32768 | 0x7B => 131072 | 0x7C => 262144 | 0x7D => 65536 | _ => 0))
    m.entries = [(0, 6), (0x79, 5), (0x7A, 4), (0x7B, 2), (0x7C, 1), (0x7D, 3)] ∧ m.escLen = 6 := by decide +kernel

/-- 08, the worked example: a moving average of one row with statistics. -/
theorem test_ema :
    let l : LatCfg := ⟨1, 1, 1, true, 4, 0x3f600000, 0x3e000000, 0, [], 0, 1, 0, 32⟩
    let row := fun (xs : List Nat) => xs.flatMap (natLe 4)
    let o := latRun l [row [0x41100000, 0x40c00000, 0, 0x7F800000], row [0x3f800000, 0xc0000000, 0x37800000, 0x3f000000]] [] [] 4
    o.out = row [0x40000000, 0xBF800000, 0x37600000, 0x7F800000] ∧ o.nonfinite = 1 ∧
    o.recs = [natLe 4 0 ++ [0, 1, 0, 0] ++ natLe 4 4 ++ natLe 4 1 ++ natLe 4 0x40000000 ++ natLe 4 0x3F800000 ++ natLe 4 0x40A00000 ++ zeros 4] := by
  decide +kernel

/-- 08, the worked example: one block of 32 values exported as MXFP4. -/
theorem test_mxfp4 :
    let l : LatCfg := ⟨0, 1, 10, false, 0, 0, 0, 0, [], 0, 1, 0, 32⟩
    let o := latRun l [([0x3d400000, 0xbdb00000, 0x3e200000, 0x3c000000, 0x3ea00000, 0xbefd0000, 0x0, 0x3e500000] ++ List.replicate 24 0).flatMap (natLe 4)] [] [] 32
    o.out = [0xB2, 0x04, 0xF6, 0x50] ++ zeros 12 ∧ o.scales = [0x7B] ∧ o.sat = 1 ∧ l.macs = 1 := by decide +kernel

/-- 09, the worked example: a fabric layout of 4-bit elements turned into the canonical one. -/
theorem test_pointing :
    pointRun ⟨2, 1, 0, 15, false, 3⟩ none false 64 ([0x24, 0x60] ++ zeros 14 ++ [0xB0, 0xF5] ++ zeros 14) = [0xB2, 0x04, 0xF6, 0x50] ++ zeros 28 := by
  decide +kernel

/-- 13, the worked example: the first 32 bytes of a SWAP_IN. -/
theorem test_descriptor :
    let d := parseV2 ([0x85, 0x0A, 0x1E, 0, 0x47, 1, 0, 0, 0x29, 0x23, 0, 0, 0, 0, 0, 0, 0x70, 0x17, 0, 0, 0xA5, 0, 0, 0, 0, 1, 0, 0, 0x40, 0, 0, 0] ++ zeros 320)
    d.opcode = 5 ∧ d.slots = 11 ∧ d.step = 9001 ∧ d.deadline = 6000 ∧ d.tag = 0xA5 ∧ d.arg = 0x0000004000000100 := by decide +kernel

/-- 18, the worked example: the record of a doorbell write. -/
theorem test_yeljo_record :
    (YRec.bytes ⟨0x10000, 500, 3, 5, 1, 0x745, []⟩ 0x2A) =
      [0, 0, 1, 0, 0xF4, 1, 3, 0x2A, 0x45, 7, 0, 0, 0, 0, 0, 0] ++ zeros 16 := by decide +kernel

/-! ### Single steps -/

/-- With no command waiting, the block idles. -/
theorem test_idle : after (step (tAct [])) = tAct [] ∧ goesOn (step (tAct [])) = true := by decide +kernel

/-- 00 R13, 19 R511: the interrupt mask takes the low 16 bits. -/
theorem test_irq_en : (after (step { tAct [] with pending := [.irqEnWrite 0 0x12345 0] })).get .fjIrqEnEn = 0x2345 := by decide +kernel

/-- 16 R448: a COLD reset starts in BOOT with the straps of the pins. -/
theorem test_cold_reset : let t := after (exec (.coldReset 3 0x00FF) (tAct []))
    t.eng = 1 ∧ t.get .fjPosInst = 3 ∧ t.get .fjPosPresent = 0x00FF ∧ t.flag .fjStateLocked = false := by decide +kernel

/-- 15 R415: a short message fills its frame up to 60 B. -/
theorem test_frame_padded : ∀ o ∈ [Out.rdmaAck 0 0, Out.cnp 0], ∃ l b, framesOf (tQp []) o = [Out.frame l b] ∧ 60 ≤ b.length := by
  intro o ho
  simp only [List.mem_cons, List.not_mem_nil, or_false] at ho
  rcases ho with rfl | rfl <;> exact ⟨_, _, rfl, by decide +kernel⟩

end Sys2Proof.Tests
end

section
/-! Offsets of a view that no register occupies (00 R21): what a read returns and what a write does there. -/
namespace Sys2Proof.Machine

open Safety

/-! ### Which offsets a register occupies does not depend on the state -/

/-- The selectors move the index within a row's fields, never the row's offsets. -/
theorem rowIndex_eq_none_congr (s t : State) (r : MapRow) (off : Nat) : rowIndex s r off = none ↔ rowIndex t r off = none := by
  unfold rowIndex
  dsimp only
  split
  · rfl
  · cases r.sel <;> simp only [ite_eq_right_iff, reduceCtorEq]

theorem findRow_cons_eq_none (s : State) (off : Nat) (r : MapRow) (rows : List MapRow) :
    findRow s off (r :: rows) = none ↔ rowIndex s r off = none ∧ findRow s off rows = none := by
  rw [findRow]
  cases rowIndex s r off <;> simp

theorem findRow_eq_none_congr (s t : State) (off : Nat) (rows : List MapRow) : findRow s off rows = none ↔ findRow t off rows = none := by
  induction rows with
  | nil => rfl
  | cons r rows ih => rw [findRow_cons_eq_none, findRow_cons_eq_none, rowIndex_eq_none_congr s t, ih]

theorem noRegister_congr (s t : State) (tenant : Bool) (off : Nat) : NoRegister s tenant off ↔ NoRegister t tenant off := by
  unfold NoRegister
  rw [findRow_eq_none_congr s t]

/-- Ring blocks repeat every 0x80 bytes (13 R378): `off` counts from the start of a view, `o` from the start of its block. -/
theorem ringRow_eq_none {off : Nat} (h : findIn ringMap (off % 0x80) = none) (n : Nat) {o : Nat} (ho : o % 0x80 = off % 0x80) :
    ringRow n o = none := by
  rw [ringRow, ho, h, Option.map_none]

theorem rowWord_none (s : State) : rowWord s none = 0 := rfl

/-! ### Reads -/

theorem viewWord_privileged {s : State} (h : s.eng = 2 ∨ s.eng = 3) (off : Nat) : s.viewWord 0 off = s.privWord off := by
  rw [State.viewWord, if_neg (by omega), if_pos (.inl rfl)]

theorem viewWord_tenant {s : State} (h : s.eng = 2 ∨ s.eng = 3) {n : Nat} (h0 : n ≠ 0) (hn : HasView s n) (off : Nat) :
    s.viewWord n off = s.tenantWord n off := by
  rw [State.viewWord, if_neg (by omega), if_neg (by omega), if_neg (by omega), if_neg (by omega), if_neg (by omega)]

/-- Two words of the status page are reserved (19 R507). -/
theorem statusWord_reserved (s : State) (n : Nat) {off : Nat} (h : off = 0x18 ∨ off = 0x1C) : s.statusWord n off = 0 := by
  rcases h with rfl | rfl <;> rfl

theorem privWord_of_noRegister {s : State} {off : Nat} (h : NoRegister s false off) : s.privWord off = 0 := by
  rw [NoRegister, if_neg Bool.false_ne_true] at h
  obtain ⟨hid, hring, hsync, hmsix, hpba0, hpba1, hrings, hdebug, haperture, hrow⟩ := h
  unfold State.privWord
  rw [if_neg hid, if_neg hsync, if_neg hmsix, if_neg (not_or.mpr ⟨hpba0, hpba1⟩), if_neg hdebug, if_neg haperture, hrow]
  split
  · next hin => rw [ringRow_eq_none (hring hin.1 hin.2) _ (by omega), rowWord_none]
  · split
    · next hin => rw [ringRow_eq_none (hrings hin.1 hin.2) _ (by omega), rowWord_none]
    · exact rowWord_none s

theorem tenantWord_of_noRegister {s : State} {off : Nat} (h : NoRegister s true off) (n : Nat) : s.tenantWord n off = 0 := by
  rw [NoRegister, if_pos rfl] at h
  obtain ⟨hstatus, hring, hsync, hmsix, hpba0, hpba1⟩ := h
  unfold State.tenantWord
  rw [if_neg hsync, if_neg hmsix, if_neg (not_or.mpr ⟨hpba0, hpba1⟩)]
  split
  · exact statusWord_reserved s n (by omega)
  · split
    · next hin => rw [ringRow_eq_none (hring hin.1 hin.2) _ (by omega), rowWord_none]
    · rfl

/-! ### Writes -/

theorem regWrite_of_findRow_none {s : State} {off : Nat} (h : findRow s off privMap = none) (v : Nat) (data : Bytes) :
    s.regWrite off v data = s := by
  rw [State.regWrite, h]

theorem ringWrite_of_ringRow_none {n off : Nat} (h : ringRow n off = none) (s : State) (tenant : Bool) (v : Nat) :
    s.ringWrite tenant n off v = s := by
  rw [State.ringWrite, h]

theorem wordWrite_of_noRegister {s : State} {tenant : Bool} {off : Nat} (h : NoRegister s tenant off) (n v : Nat) (data : Bytes) :
    s.wordWrite tenant n off v data = s := by
  unfold State.wordWrite
  cases tenant with
  | true =>
    rw [NoRegister, if_pos rfl] at h
    obtain ⟨-, hring, hsync, hmsix, -⟩ := h
    rw [if_pos rfl, if_neg hsync, if_neg hmsix]
    split
    · next hin => exact ringWrite_of_ringRow_none (ringRow_eq_none (hring hin.1 hin.2) n (by omega)) s true v
    · rfl
  | false =>
    rw [NoRegister, if_neg Bool.false_ne_true] at h
    obtain ⟨-, hring, hsync, hmsix, -, -, -, -, -, hrow⟩ := h
    rw [if_neg Bool.false_ne_true, if_neg hsync, if_neg hmsix]
    split
    · next hin => exact ringWrite_of_ringRow_none (ringRow_eq_none (hring hin.1 hin.2) 0 (by omega)) s false v
    · exact regWrite_of_findRow_none hrow v data

/-- The write of an aligned word in ACTIVE or IDLE acts on one word of its view. -/
theorem hostWrite_word {s : State} (h : HostOpen s) {tenant : Bool} {n off : Nat} (hv : viewOk s tenant n = true) (hoff : off % 4 = 0)
    (v ofs : Nat) (data : Bytes) :
    s.hostWrite tenant n off 4 v ofs data = (s.hostTurn ofs).wordWrite tenant n off (v % 2 ^ 32) data := by
  rw [hostWrite_open h hv (by simp [sizeOk, hoff]), State.writeWords, if_neg (by decide), wordAny_active (hostTurn_eng h ofs)]

theorem hostWrite_of_noRegister {s : State} (h : HostOpen s) {tenant : Bool} {n off : Nat} (hv : viewOk s tenant n = true)
    (hoff : off % 4 = 0) (hno : NoRegister s tenant off) (v ofs : Nat) (data : Bytes) :
    s.hostWrite tenant n off 4 v ofs data = s.hostTurn ofs := by
  rw [hostWrite_word h hv hoff, wordWrite_of_noRegister ((noRegister_congr s _ tenant off).mp hno)]

/-! ### A host write that does no more than start -/

theorem keepsRegs_finish_hostTurn (s : State) (ofs : Nat) : KeepsRegs hostFlds s (finishState s (s.hostTurn ofs)) := by
  intro f i hf
  have hpba : f ≠ .fjMsixPbaPending := fun h => hf (h ▸ by decide)
  have hpend : f ≠ .fjStateRetainPend := fun h => hf (h ▸ by decide)
  have hb : (s.hostTurn ofs).build = s.build := by rw [hostTurn_eq]
  rw [getI_finishState hb hpba, getI_hostTurn s ofs hpend]

theorem keepsUnits_finish_hostTurn (s : State) (ofs : Nat) : KeepsUnits s (finishState s (s.hostTurn ofs)) := by
  unfold KeepsUnits
  rw [finishState_eq, hostTurn_eq]

end Sys2Proof.Machine

namespace Sys2Proof.Proofs

open Sys2Proof.Machine Sys2Proof.Safety

/-- Settles O56: outside every table both views fall through to zero and to the unchanged state, so all that a write leaves is the start
that every host write makes. -/
theorem emptyOffsets : Obligations.EmptyOffsets := by
  intro s tenant ctx off value ofs data hopen hview htenant hoff _ hno
  refine ⟨?_, finishState s (s.hostTurn ofs), ?_, keepsRegs_finish_hostTurn s ofs, keepsUnits_finish_hostTurn s ofs⟩
  · cases tenant with
    | true => rw [viewWord_tenant hopen.1 (htenant.mp rfl) hview, tenantWord_of_noRegister hno]
    | false =>
      obtain rfl : ctx = 0 := by simpa using htenant
      rw [viewWord_privileged hopen.1, privWord_of_noRegister hno]
  · have hv : viewOk s tenant ctx = true := by
      cases tenant with
      | true => simp [viewOk, Nat.one_le_iff_ne_zero, htenant.mp rfl, hview.1]
      | false => rfl
    change finish s (s.hostWrite tenant ctx off 4 value ofs data) = _
    rw [hostWrite_of_noRegister hopen hv hoff hno, finish]

end Sys2Proof.Proofs
end

section
/-! The answer to a STEP_END (03 R97, R98, R538, R539): what the answer, the sends of an operation and the arming can change. -/
namespace Sys2Proof.Machine

open Safety

theorem keepsRegs_peak {fs : List Fld} {f : Fld} (hf : f ∈ fs) (s : State) (v : Nat) : KeepsRegs fs s (s.peak f v) := by
  unfold State.peak
  split
  · exact keepsRegs_setI hf s 0 v
  · exact keepsRegs_refl fs s

/-! ### An operation that is sent or waits -/

/-- The registers that an operation's issue writes. -/
def opFlds : List Fld := [.stgTagsPeak, .xptOpsPeak, .xptTxBytesBytes]

/-- Only what the issue of an operation writes changes: the operations in flight and waiting, the entries of the transport and what
is sent. -/
def OpOnly (s t : State) : Prop :=
  t = { s with regs := t.regs, out := t.out, xfers := t.xfers, pendOps := t.pendOps, qps := t.qps, uid := t.uid } ∧ KeepsRegs opFlds s t

theorem OpOnly.refl (s : State) : OpOnly s s := ⟨rfl, keepsRegs_refl _ _⟩

theorem OpOnly.trans {s t u : State} (h : OpOnly s t) (k : OpOnly t u) : OpOnly s u := ⟨by rw [k.1, h.1], keepsRegs_trans h.2 k.2⟩

theorem peak_eq (s : State) (f : Fld) (v : Nat) : s.peak f v = { s with regs := (s.peak f v).regs } := by
  unfold State.peak
  split <;> rfl

theorem opOnly_peak {f : Fld} (hf : f ∈ opFlds) (s : State) (v : Nat) : OpOnly s (s.peak f v) := by
  refine ⟨?_, keepsRegs_peak hf s v⟩
  rw [peak_eq]

theorem opOnly_fabRead {s t : State} {job : Nat} {use : XUse} {addr beats : Nat} {parts : List (Nat × Nat)} {promised : Bool}
    (h : s.fabRead job use addr beats parts promised = some t) : OpOnly s t := by
  unfold State.fabRead at h
  split at h
  · contradiction
  · split at h
    · contradiction
    · cases h
      exact .trans ⟨rfl, fun _ _ _ => rfl⟩ (opOnly_peak (by decide) _ _)

theorem opOnly_asRead {s t : State} {p : PendOp} (h : p.asRead s = some t) : OpOnly s t := by
  unfold PendOp.asRead at h
  split at h
  · exact opOnly_fabRead h
  · cases h
    exact .refl s

theorem issueOp_only (s : State) (p : PendOp) : OpOnly s (s.issueOp p) := by
  unfold State.issueOp
  split
  · cases h : p.asRead s with
    | none => exact .refl s
    | some t => exact opOnly_asRead h
  · extract_lets n nv q y k x tcp s1 s2
    have h1 : OpOnly s s1 := by
      unfold s1
      split <;> exact ⟨rfl, fun _ _ _ => rfl⟩
    have h2 : OpOnly s1 s2 := ⟨rfl, fun _ _ _ => rfl⟩
    exact ((h1.trans h2).trans (opOnly_peak (by decide) _ _)).trans ⟨rfl, keepsRegs_setI (by decide) _ 0 _⟩

theorem offerOp_only (s : State) (p : PendOp) : OpOnly s (s.offerOp p) := by
  unfold State.offerOp
  split
  · exact issueOp_only s p
  · exact ⟨rfl, fun _ _ _ => rfl⟩

theorem foldl_opOnly {α : Type} (l : List α) (g : State → α → State) (h : ∀ s a, OpOnly s (g s a)) (s : State) :
    OpOnly s (l.foldl g s) := by
  induction l generalizing s with
  | nil => exact .refl s
  | cons a l ih => exact (h s a).trans (ih _)

theorem nvmeWrite_only (s : State) (tgt job : Nat) (use : XUse) (addr : Nat) (data : Bytes) (fua promised : Bool) :
    OpOnly s (s.nvmeWrite tgt job use addr data fua promised) := by
  unfold State.nvmeWrite
  exact foldl_opOnly _ _ (fun a _ => offerOp_only a _) s

/-! ### What follows the arm point keeps the guard, the snapshot's step and most registers -/

/-- The registers that the arm point itself writes. -/
def armOwnFlds : List Fld :=
  [.fjCkptStatWarnPending, .grdStatSnapPending, .latSnapStepStep, .latSnapNonfiniteCount, .latSnapFirstValid, .latSnapFirstGranule,
   .grdStatArmed, .grdStatGen, .grdStatClean0, .grdStatClean1, .grdHoldOcc, .grdHoldPeak, .grdStatSpillFull, .grdPoolOcc, .grdPoolPeak,
   .grdSpillOccOcc, .grdSpillPeakPeak, .grdProgressGranules, .digFptUsedUsed, .digFptPeakPeak, .digStatFptFull, .digFptFailsCount]

/-- The registers that an arming writes: those of the operations that it sends, and its own. -/
def armFlds : List Fld := entryFlds ++ opFlds ++ armOwnFlds

/-- The guard, and the step of the snapshot under way, are as before, and so is every register that an arming does not write. -/
def KeepsArmed (s t : State) : Prop :=
  t.guard = s.guard ∧ t.ckpt.snap.map (·.step) = s.ckpt.snap.map (·.step) ∧ KeepsRegs armFlds s t

theorem KeepsArmed.refl (s : State) : KeepsArmed s s := ⟨rfl, rfl, keepsRegs_refl _ _⟩

theorem KeepsArmed.trans {s t u : State} (h : KeepsArmed s t) (k : KeepsArmed t u) : KeepsArmed s u :=
  ⟨k.1.trans h.1, k.2.1.trans h.2.1, keepsRegs_trans h.2.2 k.2.2⟩

theorem KeepsArmed.may {s a b : State} {p : Prop} [Decidable p] (ha : KeepsArmed s a) (hb : KeepsArmed a b) :
    KeepsArmed s (if p then b else a) := by
  split
  · exact ha.trans hb
  · exact ha

theorem EntryOnly.keepsArmed {s t : State} (h : EntryOnly s t) : KeepsArmed s t := by
  obtain ⟨heq, hregs⟩ := h
  exact ⟨by rw [heq], by rw [heq], keepsRegs_mono (by decide) hregs⟩

theorem OpOnly.keepsArmed {s t : State} (h : OpOnly s t) : KeepsArmed s t := by
  obtain ⟨heq, hregs⟩ := h
  exact ⟨by rw [heq], by rw [heq], keepsRegs_mono (by decide) hregs⟩

theorem keepsArmed_set {f : Fld} (hf : f ∈ armFlds) (s : State) (v : Nat) : KeepsArmed s (s.set f v) := ⟨rfl, rfl, keepsRegs_setI hf s 0 v⟩

theorem remoteWrite_only (s : State) (qp job : Nat) (use : XUse) (rkey addr : Nat) (data : Bytes) (promised : Bool) :
    OpOnly s (s.remoteWrite qp job use rkey addr data promised) := by
  unfold State.remoteWrite
  exact offerOp_only s _

theorem keepsArmed_writeHead (s : State) : KeepsArmed s s.writeHead := by
  unfold State.writeHead
  extract_lets h t
  have hown : KeepsArmed s t := (entryOnly_fabWrite _ _ _ _ _ _).keepsArmed
  exact hown.may (remoteWrite_only _ _ _ _ _ _ _ _).keepsArmed

theorem keepsArmed_writeDesc (s : State) (k state step : Nat) : KeepsArmed s (s.writeDesc k state step) := by
  unfold State.writeDesc
  extract_lets t
  have hput (a : State) (r : ResSlot) : KeepsArmed a (a.putSlot k r) := ⟨rfl, rfl, fun _ _ _ => rfl⟩
  have hown : KeepsArmed s t := (entryOnly_fabWrite _ _ _ _ _ _).keepsArmed.trans (hput _ _)
  exact hown.may (remoteWrite_only _ _ _ _ _ _ _ _).keepsArmed

theorem map_step_modSnap (s : State) (job : Nat) {f : Snap → Snap} (hf : ∀ x, (f x).step = x.step) :
    (s.modSnap job f).ckpt.snap.map (·.step) = s.ckpt.snap.map (·.step) := by
  unfold State.modSnap
  cases s.ckpt.snap with
  | none => rfl
  | some x => simp [apply_ite, hf]

theorem keepsArmed_snapDestFail (s : State) (job kind status : Nat) : KeepsArmed s (s.snapDestFail job kind status) := by
  unfold State.snapDestFail
  split
  · exact .refl s
  · exact ⟨rfl, map_step_modSnap s job (fun _ => rfl), fun _ _ _ => rfl⟩

/-! ### The arm point -/

theorem keepsRegs_guardRegs (s : State) : KeepsRegs armFlds s s.guardRegs := by
  have hset {f : Fld} (hf : f ∈ armFlds) (a : State) (v : Nat) : KeepsRegs armFlds a (a.set f v) := keepsRegs_setI hf a 0 v
  have hpeak {f : Fld} (hf : f ∈ armFlds) (a : State) (v : Nat) : KeepsRegs armFlds a (a.peak f v) := keepsRegs_peak hf a v
  unfold State.guardRegs
  extract_lets g s1 s2 s3
  have h1 : KeepsRegs armFlds s s1 :=
    keepsRegs_trans (keepsRegs_trans (keepsRegs_trans (hset (by decide) _ _) (hset (by decide) _ _)) (hset (by decide) _ _))
      (hset (by decide) _ _)
  have h2 : KeepsRegs armFlds s1 s2 :=
    keepsRegs_trans (keepsRegs_trans (hset (by decide) _ _) (hpeak (by decide) _ _)) (hset (by decide) _ _)
  have h3 : KeepsRegs armFlds s2 s3 := keepsRegs_trans (hset (by decide) _ _) (hpeak (by decide) _ _)
  exact keepsRegs_trans (keepsRegs_trans h1 (keepsRegs_trans h2 h3))
    (keepsRegs_trans (keepsRegs_trans (hset (by decide) _ _) (hpeak (by decide) _ _)) (hset (by decide) _ _))

@[simp] theorem peak_guard (s : State) (f : Fld) (v : Nat) : (s.peak f v).guard = s.guard := by rw [peak_eq]

@[simp] theorem guardRegs_guard (s : State) : s.guardRegs.guard = s.guard := by simp [State.guardRegs]

@[simp] theorem allocSet_guard (s : State) (source step n good : Nat) : (s.allocSet source step n good).guard = s.guard := by
  unfold State.allocSet
  extract_lets s1
  have h1 : s1.guard = s.guard := rfl
  split
  · exact (peak_guard _ _ _).trans h1
  · exact h1

theorem keepsRegs_allocSet (s : State) (source step n good : Nat) : KeepsRegs armFlds s (s.allocSet source step n good) := by
  unfold State.allocSet
  extract_lets s1
  have h1 : KeepsRegs armFlds s s1 := keepsRegs_setI (by decide) { s with prints := _ } 0 _
  split
  · exact keepsRegs_trans h1 (keepsRegs_trans (keepsRegs_setI (f := .digFptUsedUsed) (by decide) { s1 with prints := _ } 0 _)
      (keepsRegs_peak (by decide) _ _))
  · exact keepsRegs_trans h1 (keepsRegs_trans (keepsRegs_setI (f := .digStatFptFull) (by decide) { s1 with prints := _ } 0 _)
      (keepsRegs_setI (by decide) _ 0 _))

/-- What an arming leaves: the guard armed in the other generation, and a snapshot of the step under way. -/
theorem armSnap_arms (s : State) (step : Nat) :
    (s.armSnap step).guard.armed = true ∧ (s.armSnap step).guard.gen = 1 - s.guard.gen ∧
      (s.armSnap step).ckpt.snap.map (·.step) = some step ∧ KeepsRegs armFlds s (s.armSnap step) := by
  unfold State.armSnap
  extract_lets file host slot t g old stale g1 s1 s2 full jobs jobs1 jobs2 gid fresh grp buddy x ckpt s3 s4 s5 s6
  have hguard : s3.guard = g1 := by
    have h1 : s1.guard = g1 := guardRegs_guard _
    have h2 : s2.guard = s1.guard := allocSet_guard s1 _ _ _ _
    have h3 : s3.guard = s2.guard := rfl
    rw [h3, h2, h1]
  have hsnap : s3.ckpt.snap.map (·.step) = some step := rfl
  have hregs : KeepsRegs armFlds s s3 := by
    have hset {f : Fld} (hf : f ∈ armFlds) (a : State) (v : Nat) : KeepsRegs armFlds a (a.set f v) := keepsRegs_setI hf a 0 v
    have h1 : KeepsRegs armFlds { s with guard := g1 } s1 :=
      keepsRegs_trans (keepsRegs_trans (keepsRegs_trans (keepsRegs_trans (keepsRegs_trans (keepsRegs_guardRegs _) (hset (by decide) _ _))
        (hset (by decide) _ _)) (hset (by decide) _ _)) (hset (by decide) _ _)) (hset (by decide) _ _)
    have h2 : KeepsRegs armFlds s1 s2 := keepsRegs_allocSet s1 _ _ _ _
    have h3 : KeepsRegs armFlds s2 s3 := keepsRegs_of_regs rfl rfl
    exact keepsRegs_trans h1 (keepsRegs_trans h2 h3)
  have h4 : KeepsArmed s3 s4 := (keepsArmed_writeHead s3).trans (keepsArmed_writeDesc _ _ _ _)
  have h5 : KeepsArmed s3 s5 := h4.may (keepsArmed_set (by decide) _ _)
  have h6 : KeepsArmed s3 s6 := by
    unfold s6
    split
    · exact h5
    · exact h5.trans (keepsArmed_snapDestFail _ _ _ _)
  have harms {u : State} (h : KeepsArmed s3 u) :
      u.guard.armed = true ∧ u.guard.gen = 1 - s.guard.gen ∧ u.ckpt.snap.map (·.step) = some step ∧ KeepsRegs armFlds s u := by
    obtain ⟨hg, hx, hr⟩ := h
    exact ⟨by rw [hg, hguard], by rw [hg, hguard], hx.trans hsnap, keepsRegs_trans hregs hr⟩
  split
  · exact harms h6
  · split
    · exact harms (h6.trans (keepsArmed_snapDestFail _ _ _ _))
    · exact harms (h6.trans (nvmeWrite_only _ _ _ _ _ _ _ _).keepsArmed)

end Sys2Proof.Machine
end

section
/-! The decision of R538: what each answer leaves, and the answer that each STEP_END gets. -/
namespace Sys2Proof.Machine

open Safety

/-! ### Answers -/

theorem get_bump_same (s : State) (f : Fld) (n : Nat) : (s.bump f n).get f = satAdd (fldWidth f) (s.get f) n := by
  have hlt : satAdd (fldWidth f) (s.get f) n < 2 ^ fldWidth f :=
    lt_of_le_of_lt (Nat.min_le_right _ _) (Nat.sub_one_lt (Nat.two_pow_pos _).ne')
  exact (getI_setI_same s f 0 _).trans (Nat.mod_eq_of_lt hlt)

/-- The registers that an answer writes. -/
def answerFlds : List Fld := [.grdArmInfoResult, .grdArmInfoLat, .grdSkippedCount, .grdStatSnapPending, .grdStatUnavailable]

@[simp] theorem answerArm_guard (s : State) (code lat : Nat) : (s.answerArm code lat).guard = s.guard := rfl

@[simp] theorem answerArm_last (s : State) (code lat : Nat) : (s.answerArm code lat).out.getLast? = some (.snapArmed code) :=
  List.getLast?_concat

theorem getI_answerArm (s : State) (code lat : Nat) (f : Fld) (i : Nat) :
    (s.answerArm code lat).getI f i = ((s.set .grdArmInfoResult code).set .grdArmInfoLat lat).getI f i := rfl

theorem answerArm_result (s : State) {code : Nat} (hc : code < 4) (lat : Nat) : (s.answerArm code lat).get .grdArmInfoResult = code := by
  rw [State.get, getI_answerArm, getI_set, if_neg (by decide), getI_set, if_pos (by decide)]
  exact Nat.mod_eq_of_lt hc

theorem keepsRegs_answerArm (s : State) (code lat : Nat) : KeepsRegs [.grdArmInfoResult, .grdArmInfoLat] s (s.answerArm code lat) :=
  keepsRegs_trans (t := (s.set .grdArmInfoResult code).set .grdArmInfoLat lat)
    (keepsRegs_trans (keepsRegs_setI (by decide) s 0 _) (keepsRegs_setI (by decide) _ 0 _)) (fun _ _ _ => rfl)

@[simp] theorem armLater_guard (s : State) (code lat : Nat) (due : Bool) : (s.armLater code lat due).guard = s.guard := by
  unfold State.armLater
  cases due <;> rw [answerArm_guard] <;> split <;> rfl

@[simp] theorem armLater_last (s : State) (code lat : Nat) (due : Bool) :
    (s.armLater code lat due).out.getLast? = some (.snapArmed code) := by
  rw [State.armLater, answerArm_last]

theorem keepsRegs_armLater (s : State) (code lat : Nat) (due : Bool) : KeepsRegs answerFlds s (s.armLater code lat due) := by
  unfold State.armLater
  extract_lets s1
  have h1 : KeepsRegs answerFlds s s1 := by
    unfold s1
    split
    · exact keepsRegs_trans (keepsRegs_setI (by decide) s 0 _) (keepsRegs_setI (by decide) _ 0 _)
    · exact keepsRegs_refl _ s
  refine keepsRegs_trans ?_ (keepsRegs_mono (by decide) (keepsRegs_answerArm _ _ _))
  split
  · exact keepsRegs_trans h1 (keepsRegs_setI (by decide) _ 0 _)
  · exact h1

/-- UNAVAILABLE is flagged. -/
theorem armLater_unavailable (s : State) (lat : Nat) (due : Bool) : (s.armLater 3 lat due).flag .grdStatUnavailable = true := by
  have h (a : State) : ((a.up .grdStatUnavailable).answerArm 3 lat).get .grdStatUnavailable = 1 := by
    rw [State.get, keepsRegs_answerArm _ _ _ _ _ (by decide)]
    exact getI_setI_same a _ 0 1
  rw [State.armLater, if_pos rfl, State.flag, h]
  rfl

/-- A due trigger that is answered BUSY stays pending and is counted. -/
theorem armLater_busy (s : State) (lat : Nat) :
    (s.armLater 2 lat true).flag .grdStatSnapPending = true ∧
      (s.armLater 2 lat true).get .grdSkippedCount = satAdd 32 (s.get .grdSkippedCount) 1 := by
  have heq : s.armLater 2 lat true = ((s.bump .grdSkippedCount 1).up .grdStatSnapPending).answerArm 2 lat := rfl
  constructor
  · have h : (s.armLater 2 lat true).get .grdStatSnapPending = 1 := by
      rw [heq, State.get, keepsRegs_answerArm _ _ _ _ _ (by decide)]
      exact getI_setI_same _ _ 0 1
    rw [State.flag, h]
    rfl
  · rw [heq, State.get, keepsRegs_answerArm _ _ _ _ _ (by decide), State.up, getI_set, if_neg (by decide)]
    exact get_bump_same s .grdSkippedCount 1

/-! ### The state in which the decision is taken -/

/-- A STEP_END that no snapshot can follow: no usable STEP_ID, hold-up, out of service. -/
def stepStops (s : State) (step : Nat) : Prop := step = noStep ∨ s.holdingUp = true ∨ s.flag .patStatOutOfService = true

/-- STEP_ID is noted. -/
def State.stepSeen (s : State) (step : Nat) : State := (s.set .grdArmStepStep step).set .tickStepStep step

/-- The state in which the decision is taken: STEP_ID is noted, and a due trigger is logged. -/
def State.stepNoted (s : State) (step : Nat) : State :=
  if snapDue (s.stepSeen step) step then (s.stepSeen step).logFirmware 1 else s.stepSeen step

/-- The registers written before the decision. -/
def notedFlds : List Fld := logFlds ++ [.grdArmStepStep, .tickStepStep]

/-- A free value is drawn and a record is logged; nothing else changes. -/
theorem logFirmware_only (s : State) (act : Nat) :
    s.logFirmware act = { s with regs := (s.logFirmware act).regs, yeljo := (s.logFirmware act).yeljo, freeCtr := s.freeCtr + 1 } ∧
      KeepsRegs logFlds s (s.logFirmware act) :=
  logRec_only { s with freeCtr := s.freeCtr + 1 } 11 0 0 _ []

theorem stepNoted_only (s : State) (step : Nat) :
    s.stepNoted step =
        { s with regs := (s.stepNoted step).regs, yeljo := (s.stepNoted step).yeljo, freeCtr := (s.stepNoted step).freeCtr } ∧
      KeepsRegs logFlds (s.stepSeen step) (s.stepNoted step) := by
  unfold State.stepNoted
  split
  · obtain ⟨heq, hregs⟩ := logFirmware_only (s.stepSeen step) 1
    refine ⟨?_, hregs⟩
    rw [heq]
    rfl
  · exact ⟨rfl, keepsRegs_refl _ _⟩

theorem keepsRegs_stepNoted (s : State) (step : Nat) : KeepsRegs notedFlds s (s.stepNoted step) :=
  keepsRegs_trans (keepsRegs_trans (keepsRegs_setI (f := .grdArmStepStep) (by decide) s 0 step) (keepsRegs_setI (by decide) _ 0 step))
    (keepsRegs_mono (by decide) (stepNoted_only s step).2)

@[simp] theorem stepNoted_guard (s : State) (step : Nat) : (s.stepNoted step).guard = s.guard := by rw [(stepNoted_only s step).1]

theorem stepNoted_ckpt (s : State) (step : Nat) : (s.stepNoted step).ckpt = s.ckpt := by rw [(stepNoted_only s step).1]

theorem stepNoted_steps (s : State) {step : Nat} (h : step < 2 ^ 48) :
    (s.stepNoted step).get .tickStepStep = step ∧ (s.stepNoted step).get .grdArmStepStep = step := by
  have hregs := (stepNoted_only s step).2
  constructor
  · rw [State.get, hregs _ _ (by decide)]
    exact (getI_setI_same _ _ _ _).trans (Nat.mod_eq_of_lt h)
  · rw [State.get, hregs _ _ (by decide), State.stepSeen, getI_set, if_neg (by decide)]
    exact (getI_setI_same _ _ _ _).trans (Nat.mod_eq_of_lt h)

/-- Being held back depends on no register that is written before the decision. -/
theorem heldBack_stepNoted (s : State) (step : Nat) : heldBack (s.stepNoted step) = heldBack s := by
  have hget {f : Fld} (hf : f ∉ notedFlds) : (s.stepNoted step).get f = s.get f := keepsRegs_stepNoted s step f 0 hf
  have hslot : targetSlot (s.stepNoted step) = targetSlot s := by
    rw [targetSlot, hget (by decide), hget (by decide), targetSlot]
  have hres : (s.stepNoted step).slotOf (targetSlot (s.stepNoted step)) = s.slotOf (targetSlot s) := by
    rw [hslot, State.slotOf, stepNoted_ckpt, State.slotOf]
  have hfloor : floorHolds (s.stepNoted step) = floorHolds s := by
    unfold floorHolds State.flag
    rw [hres, hget (by decide), hget (by decide)]
  simp only [heldBack, hfloor, spareIdle, State.flag, hget (f := .fjCkptStatCommitPending) (by decide),
    hget (f := .fjCkptCfgSpare) (by decide), hget (f := .fjCkptStatAdopted) (by decide)]

/-! ### The decision, branch by branch -/

section
variable {s : State} {step : Nat} {cut : Bool}

theorem stepEnded_of_stops (h : stepStops s step) :
    s.stepEnded step cut = (s.stepNoted step).armLater 3 8 (snapDue (s.stepSeen step) step) := if_pos h

theorem stepEnded_of_not_due (h : ¬ stepStops s step) (hd : snapDue (s.stepSeen step) step = false) :
    s.stepEnded step cut = (s.stepNoted step).answerArm 0 8 :=
  (if_neg h).trans (if_pos (by rw [← State.stepSeen, hd]; decide))

/-- The rest of the decision, for a step whose snapshot is due. -/
theorem stepEnded_of_due (h : ¬ stepStops s step) (hd : snapDue (s.stepSeen step) step = true) :
    s.stepEnded step cut =
      if heldBack (s.stepNoted step) then
        (((s.stepNoted step).bump .fjCkptHeldCount 1).set .fjCkptStatFloorWait (b2n (floorHolds (s.stepNoted step)))).answerArm 0 8
      else if s.guard.armed ∨ windowWriter s then (s.stepNoted step).armLater 2 8 true
      else if ¬ (s.guard.clean0 ∧ s.guard.clean1) then (s.stepNoted step).armLater 3 8 true
      else if cut then
        { (s.stepNoted step).armLater 3 57 true with ckpt := { ((s.stepNoted step).armLater 3 57 true).ckpt with cut := true } }
      else ((((s.stepNoted step).down .fjCkptStatFloorWait).wake).armSnap step).answerArm 1 57 :=
  (if_neg h).trans (if_neg (by rw [← State.stepSeen, hd]; decide))

/-! ### What each answer leaves -/

theorem stepEnded_held (h : ¬ stepStops s step) (hd : snapDue (s.stepSeen step) step = true) (hh : heldBack s = true) :
    (s.stepEnded step cut).out.getLast? = some (.snapArmed 0) ∧
      (s.stepEnded step cut).get .fjCkptHeldCount = satAdd 32 (s.get .fjCkptHeldCount) 1 ∧ (s.stepEnded step cut).guard = s.guard := by
  rw [stepEnded_of_due h hd, if_pos (by rw [heldBack_stepNoted, hh])]
  refine ⟨answerArm_last _ _ _, ?_, by simp⟩
  rw [State.get, keepsRegs_answerArm _ _ _ _ _ (by decide), getI_set, if_neg (by decide), ← State.get, get_bump_same, State.get,
    keepsRegs_stepNoted s step _ _ (by decide)]
  rfl

theorem stepEnded_busy (h : ¬ stepStops s step) (hd : snapDue (s.stepSeen step) step = true) (hh : heldBack s = false)
    (hb : s.guard.armed = true ∨ windowWriter s = true) :
    (s.stepEnded step cut).out.getLast? = some (.snapArmed 2) ∧ (s.stepEnded step cut).flag .grdStatSnapPending = true ∧
      (s.stepEnded step cut).get .grdSkippedCount = satAdd 32 (s.get .grdSkippedCount) 1 ∧ (s.stepEnded step cut).guard = s.guard := by
  rw [stepEnded_of_due h hd, if_neg (by rw [heldBack_stepNoted, hh]; decide), if_pos hb]
  obtain ⟨hpend, hcount⟩ := armLater_busy (s.stepNoted step) 8
  refine ⟨armLater_last _ _ _ _, hpend, ?_, by simp⟩
  rw [hcount, State.get, keepsRegs_stepNoted s step _ _ (by decide)]
  rfl

/-- A snapshot that is due, not held back and not BUSY: UNAVAILABLE or ARMED. -/
theorem stepEnded_of_free (h : ¬ stepStops s step) (hd : snapDue (s.stepSeen step) step = true) (hh : heldBack s = false)
    (ha : s.guard.armed = false) (hw : windowWriter s = false) :
    s.stepEnded step cut =
      if ¬ (s.guard.clean0 ∧ s.guard.clean1) then (s.stepNoted step).armLater 3 8 true
      else if cut then
        { (s.stepNoted step).armLater 3 57 true with ckpt := { ((s.stepNoted step).armLater 3 57 true).ckpt with cut := true } }
      else ((((s.stepNoted step).down .fjCkptStatFloorWait).wake).armSnap step).answerArm 1 57 := by
  rw [stepEnded_of_due h hd, if_neg (by rw [heldBack_stepNoted, hh]; decide), if_neg (by rw [ha, hw]; decide)]

theorem stepEnded_unready (h : ¬ stepStops s step) (hd : snapDue (s.stepSeen step) step = true) (hh : heldBack s = false)
    (ha : s.guard.armed = false) (hw : windowWriter s = false) (hc : (s.guard.clean0 && s.guard.clean1) = false ∨ cut = true) :
    (s.stepEnded step cut).out.getLast? = some (.snapArmed 3) ∧ (s.stepEnded step cut).flag .grdStatUnavailable = true ∧
      (s.stepEnded step cut).guard = s.guard := by
  rw [stepEnded_of_free h hd hh ha hw]
  split
  · exact ⟨armLater_last _ _ _ _, armLater_unavailable _ _ _, by simp⟩
  · next hclean =>
    have hcut : cut = true := hc.resolve_left (by simpa using hclean)
    rw [if_pos hcut]
    exact ⟨armLater_last (s.stepNoted step) 3 57 true, armLater_unavailable (s.stepNoted step) 57 true, by simp⟩

theorem wake_guard (s : State) : s.wake.guard = s.guard := by rw [(wake_only s).1]

theorem stepEnded_armed (h : ¬ stepStops s step) (hd : snapDue (s.stepSeen step) step = true) (hh : heldBack s = false)
    (ha : s.guard.armed = false) (hw : windowWriter s = false) (hc : (s.guard.clean0 && s.guard.clean1) = true) (hcut : cut = false) :
    (s.stepEnded step cut).out.getLast? = some (.snapArmed 1) ∧ (s.stepEnded step cut).guard.armed = true ∧
      (s.stepEnded step cut).guard.gen = 1 - s.guard.gen ∧ (∃ x, (s.stepEnded step cut).ckpt.snap = some x ∧ x.step = step) ∧
      (s.stepEnded step cut).get .grdArmInfoResult = 1 := by
  rw [stepEnded_of_free h hd hh ha hw, if_neg (by simpa using hc), if_neg (by rw [hcut]; decide)]
  obtain ⟨harmed, hgen, hsnap, -⟩ := armSnap_arms ((s.stepNoted step).down .fjCkptStatFloorWait).wake step
  refine ⟨answerArm_last _ _ _, harmed, ?_, Option.map_eq_some_iff.mp hsnap, answerArm_result _ (by decide) _⟩
  rw [answerArm_guard, hgen, wake_guard]
  exact congrArg (1 - Guard.gen ·) (stepNoted_guard s step)

/-- The registers that a STEP_END may write after STEP_ID is noted. -/
def stepEndFlds : List Fld := armFlds ++ answerFlds ++ [.fjCkptHeldCount, .fjCkptStatFloorWait, .fjStateRetainPend]

theorem keepsRegs_stepEnded : KeepsRegs stepEndFlds (s.stepNoted step) (s.stepEnded step cut) := by
  have hlater (code lat : Nat) (due : Bool) : KeepsRegs stepEndFlds (s.stepNoted step) ((s.stepNoted step).armLater code lat due) :=
    keepsRegs_mono (by decide) (keepsRegs_armLater _ _ _ _)
  have hanswer (a : State) (code lat : Nat) : KeepsRegs stepEndFlds a (a.answerArm code lat) :=
    keepsRegs_mono (by decide) (keepsRegs_answerArm _ _ _)
  by_cases h : stepStops s step
  · rw [stepEnded_of_stops h]
    exact hlater _ _ _
  cases hd : snapDue (s.stepSeen step) step with
  | false =>
    rw [stepEnded_of_not_due h hd]
    exact hanswer _ _ _
  | true =>
    rw [stepEnded_of_due h hd]
    split
    · exact keepsRegs_trans (keepsRegs_trans (keepsRegs_setI (by decide) _ 0 _) (keepsRegs_setI (by decide) _ 0 _)) (hanswer _ _ _)
    split
    · exact hlater _ _ _
    split
    · exact hlater _ _ _
    split
    · exact hlater 3 57 true
    · obtain ⟨-, -, -, harm⟩ := armSnap_arms ((s.stepNoted step).down .fjCkptStatFloorWait).wake step
      have hwake := (wake_only ((s.stepNoted step).down .fjCkptStatFloorWait)).2.1
      exact keepsRegs_trans (keepsRegs_trans (keepsRegs_trans (keepsRegs_setI (by decide) _ 0 _) (keepsRegs_mono (by decide) hwake))
        (keepsRegs_mono (by decide) harm)) (hanswer _ _ _)

theorem stepEnded_steps (hstep : step < 2 ^ 48) :
    (s.stepEnded step cut).get .tickStepStep = step ∧ (s.stepEnded step cut).get .grdArmStepStep = step := by
  obtain ⟨htick, harm⟩ := stepNoted_steps s hstep
  exact ⟨(keepsRegs_stepEnded _ _ (by decide)).trans htick, (keepsRegs_stepEnded _ _ (by decide)).trans harm⟩

end

end Sys2Proof.Machine

namespace Sys2Proof.Proofs

open Sys2Proof.Machine Sys2Proof.Safety

/-- Settles O26: the decision is a chain of branches in the order of R538. Noting STEP_ID and logging the trigger change nothing that a later
condition reads, and what the arming sends keeps the guard and the new snapshot's step. -/
theorem stepEndAnswer : Obligations.StepEndAnswer := by
  intro s step cut hstep t due stop
  obtain ⟨htick, harm⟩ := stepEnded_steps (s := s) (cut := cut) hstep
  refine ⟨htick, harm, fun h => ?_, fun h hd => ?_, fun h hd hh => stepEnded_held h hd hh,
    fun h hd hh => ⟨fun hb => ?_, fun ha hw => ⟨?_, ?_⟩⟩⟩
  · have heq : t = _ := stepEnded_of_stops h
    rw [heq]
    exact ⟨armLater_last _ _ _ _, armLater_unavailable _ _ _, by simp⟩
  · have heq : t = _ := stepEnded_of_not_due h hd
    rw [heq]
    exact ⟨answerArm_last _ _ _, answerArm_result _ (by decide) _, by simp⟩
  · exact stepEnded_busy h hd hh hb
  · exact stepEnded_unready h hd hh ha hw
  · exact stepEnded_armed h hd hh ha hw

end Sys2Proof.Proofs
end

section
/-! An ended entry stays ended until it has posted (13 R366, R368, R369), and what the end of a sync entry leaves (14 R385). -/
namespace Sys2Proof.Machine

open Safety

/-! ### Completions leave the entries as they are -/

theorem LogOnly.entries {s t : State} (h : LogOnly s t) : t.entries = s.entries := by rw [h.1]

theorem OnlyMessages.entries {s t : State} (h : OnlyMessages s t) : t.entries = s.entries := by
  have hall := h.1
  unfold KeepsAll at hall
  rw [hall]

theorem foldl_entries {α : Type} (l : List α) (g : State → α → State) (h : ∀ s a, (g s a).entries = s.entries) (s : State) :
    (l.foldl g s).entries = s.entries := by
  induction l generalizing s with
  | nil => rfl
  | cons a t ih => rw [List.foldl_cons, ih, h]

@[simp] theorem fabWrite_entries (s : State) (job : Nat) (use : XUse) (addr : Nat) (data : Bytes) (promised : Bool) :
    (s.fabWrite job use addr data promised).entries = s.entries := by
  refine foldl_entries _ _ (fun a b => ?_) s
  simp only [State.fabOffer]
  split <;> rfl

@[simp] theorem logRec_entries (s : State) (typ ctx ring a : Nat) (b : Bytes) : (s.logRec typ ctx ring a b).entries = s.entries :=
  (logRec_only s typ ctx ring a b).entries

@[simp] theorem message_entries (s : State) (n v : Nat) : (s.message n v).entries = s.entries := (message_only s n v).entries

@[simp] theorem writeCmpl_entries (s : State) (c : Cmpl) : (s.writeCmpl c).entries = s.entries := by
  unfold State.writeCmpl
  extract_lets i n t b a s1 s2 s3 s4
  have h1 : s1.entries = s.entries := by
    unfold s1
    split
    · exact fabWrite_entries s _ _ _ _ _
    · rfl
  have h3 : s3.entries = s.entries := by
    unfold s3
    split <;> exact h1
  have h4 : s4.entries = s.entries := (logRec_entries s3 _ _ _ _ _).trans h3
  split
  · exact (message_entries s4 _ _).trans h4
  · exact h4

@[simp] theorem postCmpl_entries (s : State) (c : Cmpl) : (s.postCmpl c).entries = s.entries := by
  unfold State.postCmpl
  extract_lets r i
  split
  · exact writeCmpl_entries s c
  · rfl

/-! ### Entries found by their number -/

theorem find?_replaceFirst {α : Type} (p q : α → Bool) {f : α → α} (hq : ∀ a, q (f a) = q a) (hpq : ∀ a, p a = true → q a = false)
    (l : List α) : (replaceFirst p f l).find? q = l.find? q := by
  induction l with
  | nil => rfl
  | cons a t ih =>
    rw [replaceFirst]
    cases hp : p a with
    | true => simp [hq, hpq a hp]
    | false => simp [List.find?_cons, ih]

theorem find?_replaceFirst_same {α : Type} (p : α → Bool) {f : α → α} (hp : ∀ a, p (f a) = p a) (l : List α) :
    (replaceFirst p f l).find? p = (l.find? p).map f := by
  induction l with
  | nil => rfl
  | cons a t ih =>
    rw [replaceFirst]
    cases h : p a with
    | true => simp [hp, h]
    | false => simp [h, ih]

theorem findEntry_modEntry_same (s : State) (uid : Nat) {f : Entry → Entry} (hf : ∀ e, (f e).uid = e.uid) :
    (s.modEntry uid f).findEntry uid = (s.findEntry uid).map f :=
  find?_replaceFirst_same _ (fun e => by rw [hf]) s.entries

theorem findEntry_modEntry_other (s : State) {uid u : Nat} (hne : uid ≠ u) {f : Entry → Entry} (hf : ∀ e, (f e).uid = e.uid) :
    (s.modEntry uid f).findEntry u = s.findEntry u :=
  find?_replaceFirst _ _ (fun e => by rw [hf]) (fun e he => by simpa [eq_of_beq he] using hne) s.entries

/-! ### Ended entries -/

theorem ended_of_entries {s t : State} (h : t.entries = s.entries) {u : Nat} (hs : Ended s u) : Ended t u := by
  rw [Ended, State.findEntry, h]
  exact hs

/-- Taking every entry of one number away leaves the others to be found as before. -/
theorem ended_filter {s t : State} {uid u : Nat} (h : t.entries = s.entries.filter (fun x => x.uid != uid)) (hs : Ended s u) : Ended t u := by
  rw [Ended, State.findEntry, h]
  by_cases hu : uid = u
  · have hnone : (s.entries.filter (fun x => x.uid != uid)).find? (fun x => x.uid == u) = none := by
      rw [List.find?_eq_none]
      intro x hx
      simpa [hu] using (List.mem_filter.mp hx).2
    rw [hnone]
    rfl
  · have hsame : (fun x : Entry => decide ((x.uid != uid) = true ∧ (x.uid == u) = true)) = fun x => x.uid == u := by
      funext x
      by_cases hx : x.uid = u <;> simp [hx, Ne.symm hu]
    rw [List.find?_filter, hsame]
    exact hs

theorem ended_modEntry {s : State} {uid u : Nat} {f : Entry → Entry} (huid : ∀ e, (f e).uid = e.uid) (hstage : ∀ e, (f e).stage = .ended)
    (h : uid = u ∨ Ended s u) : Ended (s.modEntry uid f) u := by
  by_cases hu : uid = u
  · rw [Ended, ← hu, findEntry_modEntry_same s uid huid, Option.all_map]
    cases s.findEntry uid with
    | none => rfl
    | some e => simp [hstage]
  · rw [Ended, findEntry_modEntry_other s hu huid]
    exact h.resolve_left hu

theorem ended_settleGroupFuel (n gid : Nat) {s : State} {u : Nat} (h : Ended s u) : Ended (settleGroupFuel n gid s) u := by
  induction n generalizing s with
  | zero => exact h
  | succ n ih =>
    rw [settleGroupFuel]
    split
    · next g e _ _ =>
      split
      · exact h
      · extract_lets rest last s1 s2 s3
        have h2 : s2.entries = rest := by
          unfold s2
          split
          · exact foldl_entries _ _ (fun a c => postCmpl_entries a c) _
          · rfl
        have h3 : s3.entries = rest := by
          unfold s3
          split <;> exact h2
        exact ih (ended_filter h3 h)
    · exact h

theorem ended_settleRing {s : State} {u : Nat} (h : Ended s u) (ctx ring : Nat) : Ended (s.settleRing ctx ring) u :=
  List.foldlRecOn (motive := fun t => Ended t u) _ _ h fun _ ha gid _ => ended_settleGroupFuel _ gid ha

/-- `endOne` ends the entry of its number and undoes no other end. -/
theorem ended_endOne {s : State} {uid u : Nat} (res : Result) (h : uid = u ∨ Ended s u) : Ended (s.endOne uid res) u := by
  unfold State.endOne
  split
  · next hnone =>
    refine h.elim (fun huid => ?_) id
    rw [Ended, ← huid, hnone]
    rfl
  · next e _ =>
    extract_lets s1 s2
    have h1 : Ended s1 u := ended_modEntry (fun _ => rfl) (fun _ => rfl) h
    have h2 : Ended s2 u := by
      unfold s2
      split <;> exact h1
    split
    · exact h2
    · exact ended_settleRing (ended_settleGroupFuel _ _ h2) _ _

theorem ended_wakeFence {s : State} {u : Nat} (h : Ended s u) (ctx ring : Nat) : Ended (s.wakeFence ctx ring) u := by
  unfold State.wakeFence
  split
  · split
    · exact ended_endOne _ (.inr h)
    · exact h
  · exact h

theorem ended_endEntry (s : State) (uid : Nat) (res : Result) : Ended (s.endEntry uid res) uid := by
  unfold State.endEntry
  cases hf : s.findEntry uid with
  | none =>
    rw [Ended, hf]
    rfl
  | some e => exact ended_wakeFence (ended_endOne res (.inl rfl)) _ _

theorem ended_endSync (s : State) (uid status value : Nat) : Ended (s.endSync uid status value) uid := ended_endEntry _ _ _

theorem ended_finishState {s0 s : State} {u : Nat} (h : Ended s u) : Ended (finishState s0 s) u :=
  ended_of_entries (finishState_entries s0 s) h

@[simp] theorem endSync_words (s : State) (uid status value : Nat) : (s.endSync uid status value).words = s.words := by
  unfold State.endSync
  extract_lets step
  rw [(endEntry_only _ _ _).1]
  rfl

end Sys2Proof.Machine
end

section
/-! Sync commands (14 R379 to R398): how one starts, what the checks of R381 and a barrier word answer, and the sync page's reads and map. -/
namespace Sys2Proof.Machine

open Safety

/-! ### Words -/

theorem word_congr {s t : State} (h : t.words = s.words) (p : Nat) : t.word p = s.word p := by
  rw [State.word, h, State.word]

theorem find?_upsert_same {α : Type} {p : α → Bool} {a : α} (ha : p a = true) (l : List α) : (upsert p a l).find? p = some a := by
  induction l with
  | nil => simp [upsert, ha]
  | cons b t ih =>
    rw [upsert]
    cases hb : p b with
    | true => simp [ha]
    | false => simp [hb, ih]

/-- A word reads as it was put, listed or not. -/
theorem word_putWord_same (s : State) (w : SyncWord) : (s.putWord w).word w.phys = w := by
  by_cases hw : w = SyncWord.fresh w.phys
  · have hnone : (s.words.filter (fun x => x.phys != w.phys)).find? (fun x => x.phys == w.phys) = none := by
      rw [List.find?_eq_none]
      intro x hx
      simpa using (List.mem_filter.mp hx).2
    simp only [State.word, State.putWord, if_pos hw, hnone]
    exact hw.symm
  · simp only [State.word, State.putWord, if_neg hw]
    rw [find?_upsert_same (by simp)]

/-! ### The checks (14 R381) -/

theorem syncCheck_unmapped {s : State} {ctx arg : Nat} (h : s.getI .syncMapValid (mapIx ctx (syncIdOf arg)) ≠ 1) (perm : Fld) :
    syncCheck s ctx arg perm = .bad stSyncUnmapped := by
  rw [syncCheck, State.mapped, if_neg h]

theorem syncCheck_denied {s : State} {ctx arg : Nat} {perm : Fld} (hv : s.getI .syncMapValid (mapIx ctx (syncIdOf arg)) = 1)
    (hp : s.getI perm (mapIx ctx (syncIdOf arg)) ≠ 1) : syncCheck s ctx arg perm = .bad stAccessDenied := by
  simp only [syncCheck, State.mapped, if_pos hv, if_neg hp]

section
variable {s : State} {e : Entry}

theorem signal_of_bad {st : Nat} (h : syncCheck s e.ctx e.desc.arg .syncMapSigOk = .bad st) (f : Nat → Nat → Nat) (set : Bool) :
    s.signal e f set = s.endSync e.uid st 0 := by
  rw [State.signal, h]

theorem waitOn_of_bad {st : Nat} (h : syncCheck s e.ctx e.desc.arg .syncMapWaitOk = .bad st) (what : WaitFor) :
    s.waitOn e what = s.endSync e.uid st 0 := by
  rw [State.waitOn, h]

theorem arriveAt_of_bad {st : Nat} (h : syncCheck s e.ctx e.desc.arg .syncMapBarOk = .bad st) (wait : Bool) :
    s.arriveAt e wait = s.endSync e.uid st 0 := by
  rw [State.arriveAt, h]

theorem barrierMake_of_bad {st : Nat} (h : syncCheck s e.ctx e.desc.arg .syncMapBarOk = .bad st) :
    s.barrierMake e = s.endSync e.uid st 0 := by
  rw [State.barrierMake, h]

/-! ### Barrier words (14 R395) -/

/-- The signal turns its barrier word back to PLAIN: a SET by the owner, nothing counted and nobody waiting. -/
def TurnsPlain (s : State) (p : Nat) (e : Entry) (set : Prop) : Prop :=
  set ∧ ownerOf p = e.ctx ∧ (s.word p).counted = 0 ∧ ∀ w ∈ s.waiters, w.phys ≠ p

/-- The word that such a SET leaves. -/
def plainWord (p : Nat) (e : Entry) : SyncWord :=
  { SyncWord.fresh p with val := syncValOf e.desc.arg, lastCtx := e.ctx, lastRing := e.ring }

theorem signal_of_turnsPlain {p : Nat} (hc : syncCheck s e.ctx e.desc.arg .syncMapSigOk = .word p) (hb : (s.word p).barrier = true)
    {set : Bool} (h : TurnsPlain s p e (set = true)) (f : Nat → Nat → Nat) :
    s.signal e f set = ((s.putWord (plainWord p e)).bump .syncSignalsCount 1).endSync e.uid stOk (syncValOf e.desc.arg) := by
  obtain ⟨hset, hown, hcount, hwait⟩ := h
  have hany : ¬ s.waiters.any (fun x => x.phys == p) = true := by simpa using hwait
  rw [State.signal, hc]
  exact (if_pos hb).trans (if_pos ⟨hset, hown, hcount, hany⟩)

theorem signal_of_not_turnsPlain {p : Nat} (hc : syncCheck s e.ctx e.desc.arg .syncMapSigOk = .word p) (hb : (s.word p).barrier = true)
    {set : Bool} (h : ¬ TurnsPlain s p e (set = true)) (f : Nat → Nat → Nat) : s.signal e f set = s.endSync e.uid stSyncKind 0 := by
  rw [State.signal, hc]
  refine (if_pos hb).trans (if_neg fun ⟨hset, hown, hcount, hany⟩ => h ⟨hset, hown, hcount, ?_⟩)
  simpa using hany

theorem waitOn_of_barrier {p : Nat} (hc : syncCheck s e.ctx e.desc.arg .syncMapWaitOk = .word p) (hb : (s.word p).barrier = true)
    (what : WaitFor) : s.waitOn e what = s.endSync e.uid stSyncKind 0 := by
  rw [State.waitOn, hc]
  exact if_pos hb

end

/-! ### How a sync command starts -/

/-- The front entry of its ring, of the command's opcode and SYNC_OP, does the command's work. -/
theorem startSync_of_starts {s : State} {ctx ring op sub : Nat} {e : Entry} (h : Starts s ctx ring op false e)
    (hsub : syncOpOf e.desc.arg = sub) (hready : op = opSignal → signalReady s e = true) (name : String) (body : Entry → State → State) :
    startSync name ctx ring op sub s body = .next (finishState s (body e (started s e))) := by
  obtain ⟨hfront, hop, hv1, hawake⟩ := h
  have hcond : syncOpOf e.desc.arg = sub ∧ (op ≠ opSignal ∨ signalReady s e = true) :=
    ⟨hsub, Classical.or_iff_not_imp_left.mpr fun hne => hready (not_not.mp hne)⟩
  simp only [startSync, startEntry, hfront, if_pos hcond, if_pos (And.intro hop (And.intro hv1 hawake))]
  rfl

/-- Every sync command, with its opcode, its SYNC_OP (14 R383) and the permission that it needs (14 R380). -/
def syncCommands (ctx ring : Nat) : List (Instr × Nat × Nat × Fld) :=
  [(.signalSet ctx ring, opSignal, 0, .syncMapSigOk), (.signalAdd ctx ring, opSignal, 1, .syncMapSigOk),
    (.signalSub ctx ring, opSignal, 2, .syncMapSigOk), (.waitEq ctx ring, opWait, 0, .syncMapWaitOk),
    (.waitGe ctx ring, opWait, 1, .syncMapWaitOk), (.waitNe ctx ring, opWait, 2, .syncMapWaitOk),
    (.barrierArriveWait ctx ring, opBarrier, 0, .syncMapBarOk), (.barrierArrive ctx ring, opBarrier, 1, .syncMapBarOk),
    (.barrierInit ctx ring, opBarrier, 2, .syncMapBarOk)]

/-- Every sync command makes the checks of R381 first. -/
theorem exec_syncCommand (s : State) (ctx ring : Nat) : ∀ x ∈ syncCommands ctx ring, ∃ name body,
    exec x.1 s = startSync name ctx ring x.2.1 x.2.2.1 s body ∧
      ∀ (t : State) (e : Entry) (st : Nat), syncCheck t e.ctx e.desc.arg x.2.2.2 = .bad st → body e t = t.endSync e.uid st 0 := by
  simp only [syncCommands, List.forall_mem_cons, List.not_mem_nil, false_implies, implies_true, and_true]
  refine ⟨⟨_, _, rfl, ?_⟩, ⟨_, _, rfl, ?_⟩, ⟨_, _, rfl, ?_⟩, ⟨_, _, rfl, ?_⟩, ⟨_, _, rfl, ?_⟩, ⟨_, _, rfl, ?_⟩, ⟨_, _, rfl, ?_⟩,
    ⟨_, _, rfl, ?_⟩, ⟨_, _, rfl, ?_⟩⟩
  case refine_1 | refine_2 | refine_3 => exact fun _ _ _ h => signal_of_bad h _ _
  case refine_4 | refine_5 | refine_6 => exact fun _ _ _ h => waitOn_of_bad h _
  case refine_7 | refine_8 => exact fun _ _ _ h => arriveAt_of_bad h _
  case refine_9 => exact fun _ _ _ h => barrierMake_of_bad h

theorem exec_syncCommand_of_bad {s : State} {ctx ring : Nat} {e : Entry} {x : Instr × Nat × Nat × Fld} (hx : x ∈ syncCommands ctx ring)
    (h : Starts s ctx ring x.2.1 false e) (hsub : syncOpOf e.desc.arg = x.2.2.1) (hready : x.2.1 = opSignal → signalReady s e = true)
    {st : Nat} (hbad : syncCheck s e.ctx e.desc.arg x.2.2.2 = .bad st) :
    exec x.1 s = .next (finishState s ((started s e).endSync e.uid st 0)) := by
  obtain ⟨name, body, hexec, hbody⟩ := exec_syncCommand s ctx ring x hx
  have hcheck : syncCheck (started s e) e.ctx e.desc.arg x.2.2.2 = .bad st := hbad
  rw [hexec, startSync_of_starts h hsub hready, hbody _ _ _ hcheck]

theorem exec_signalCommand (s : State) (ctx ring : Nat) :
    ∀ x ∈ [(Instr.signalSet ctx ring, 0), (.signalAdd ctx ring, 1), (.signalSub ctx ring, 2)], ∃ name f,
      exec x.1 s = startSync name ctx ring opSignal x.2 s (fun e t => t.signal e f (x.2 == 0)) := by
  simp only [List.forall_mem_cons, List.not_mem_nil, false_implies, implies_true, and_true]
  exact ⟨⟨_, _, rfl⟩, ⟨_, _, rfl⟩, ⟨_, _, rfl⟩⟩

theorem exec_waitCommand (s : State) (ctx ring : Nat) :
    ∀ x ∈ [(Instr.waitEq ctx ring, 0), (.waitGe ctx ring, 1), (.waitNe ctx ring, 2)], ∃ name what,
      exec x.1 s = startSync name ctx ring opWait x.2 s (fun e t => t.waitOn e what) := by
  simp only [List.forall_mem_cons, List.not_mem_nil, false_implies, implies_true, and_true]
  exact ⟨⟨_, _, rfl⟩, ⟨_, _, rfl⟩, ⟨_, _, rfl⟩⟩

/-! ### The sync page's reads (14 R386) -/

theorem pageRead_of_mapped {s : State} {ctx id p : Nat} (h : s.mapped ctx id = some p) : pageRead s ctx id = (s.word p).val := by
  rw [pageRead, h]

theorem viewWord_syncPage {s : State} (h : s.eng = 2 ∨ s.eng = 3) {ctx : Nat} (hview : HasView s ctx) {id : Nat} (hid : id < 1024) :
    s.viewWord ctx ((if ctx = 0 then 0x14000 else 0x4000) + 4 * id) = pageRead s ctx id := by
  by_cases h0 : ctx = 0
  · subst h0
    rw [if_pos rfl, viewWord_privileged h, State.privWord, if_neg (by omega), if_neg (by omega), if_pos (by omega)]
    congr 1
    omega
  · rw [if_neg h0, viewWord_tenant h h0 hview, State.tenantWord, if_neg (by omega), if_neg (by omega), if_pos (by omega)]
    congr 1
    omega

/-! ### SYNC_MAP (14 R381) -/

/-- The selectors move the index within a row's fields, never which row lies at an offset. -/
theorem findRow_fst_congr (s t : State) (off : Nat) (rows : List MapRow) :
    (findRow s off rows).map (·.1) = (findRow t off rows).map (·.1) := by
  induction rows with
  | nil => rfl
  | cons r rows ih =>
    have hr := rowIndex_eq_none_congr s t r off
    rw [findRow, findRow]
    cases hs : rowIndex s r off with
    | none =>
      rw [hr.mp hs]
      exact ih
    | some i =>
      obtain ⟨j, hj⟩ := Option.ne_none_iff_exists'.mp (mt hr.mpr (hs ▸ Option.some_ne_none i))
      rw [hj]
      rfl

theorem rowIndex_of_findRow {s : State} {off : Nat} {rows : List MapRow} {r : MapRow} {i : Nat} (h : findRow s off rows = some (r, i)) :
    rowIndex s r off = some i := by
  induction rows with
  | nil => simp [findRow] at h
  | cons a rows ih =>
    rw [findRow] at h
    split at h
    · next ha =>
      obtain ⟨rfl, rfl⟩ : a = r ∧ _ = i := by simpa using h
      exact ha
    · exact ih h

/-- The row of SYNC_MAP (19 R505). -/
def syncMapRow : MapRow :=
  ⟨0xD008, 1, 0, 1, .syncMap, [⟨0, 16, .syncMapPhys, 0⟩, ⟨16, 1, .syncMapValid, 0⟩, ⟨17, 1, .syncMapSigOk, 0⟩, ⟨18, 1, .syncMapWaitOk, 0⟩,
    ⟨19, 1, .syncMapBarOk, 0⟩]⟩

/-- SYNC_MAP shows the entry that SYNC_MAP_SEL selects. -/
theorem findRow_syncMap (s : State) :
    findRow s 0xD008 privMap = some (syncMapRow, mapIx (s.get .syncMapSelCtx) (s.get .syncMapSelId)) := by
  have hreset : (findRow State.reset 0xD008 privMap).map (·.1) = some syncMapRow := by decide +kernel
  rw [findRow_fst_congr State.reset s] at hreset
  obtain ⟨⟨r, i⟩, hrow, rfl⟩ := Option.map_eq_some_iff.mp hreset
  have hi : rowIndex s syncMapRow 0xD008 = some i := rowIndex_of_findRow hrow
  rw [hrow, ← Option.some.inj hi]
  rfl

theorem get_syncMapSelId_lt (s : State) : s.get .syncMapSelId < 1024 := by
  rw [State.get, State.getI]
  split
  · exact Nat.mod_lt _ (Nat.two_pow_pos 10)
  · exact Nat.two_pow_pos 10

/-- A write to SYNC_MAP whose selected context exists is logged, and remaps the selected entry. -/
theorem regWrite_syncMap {s : State} (h : s.get .syncMapSelCtx ≤ s.build.numVf) (v : Nat) (data : Bytes) :
    s.regWrite 0xD008 v data = (s.logWrite false 0 0xD008 4 v).remap (s.get .syncMapSelCtx) (s.get .syncMapSelId) v := by
  have hid := get_syncMapSelId_lt s
  have hctx : mapIx (s.get .syncMapSelCtx) (s.get .syncMapSelId) / 1024 = s.get .syncMapSelCtx := by
    rw [mapIx]
    omega
  have hshut : rowShut s syncMapRow 0xD008 (mapIx (s.get .syncMapSelCtx) (s.get .syncMapSelId)) = false := by
    simp [rowShut, syncMapRow, ctxOf, fldInfo, hctx, h]
  have haccepts : accepts s syncMapRow.bits = true := rfl
  rw [State.regWrite, findRow_syncMap]
  exact (if_neg (by simp [hshut, haccepts])).trans (if_pos rfl)

/-- An entry that a waiting entry of its context uses is not remapped. -/
theorem remap_of_waiter {s : State} {ctx id : Nat} (h : ∃ w ∈ s.waiters, w.ctx = ctx ∧ w.syncId = id) (value : Nat) :
    s.remap ctx id value = s.up .syncStatMapBusy := by
  obtain ⟨w, hw, hctx, hid⟩ := h
  exact if_pos (List.any_eq_true.mpr ⟨w, hw, by simp [hctx, hid]⟩)

/-- The state in which a SYNC_MAP write acts: its start is made, and it is logged. -/
def State.mapLogged (s : State) (value ofs : Nat) : State := (s.hostTurn ofs).logWrite false 0 0xD008 4 (value % 2 ^ 32)

theorem mapLogged_keeps (s : State) (value ofs : Nat) : KeepsUnits s (s.mapLogged value ofs) ∧ KeepsRegs hostFlds s (s.mapLogged value ofs) := by
  obtain ⟨hlog, hlogRegs⟩ := logWrite_only (s.hostTurn ofs) false 0 0xD008 4 (value % 2 ^ 32)
  have hturn : KeepsRegs hostFlds s (s.hostTurn ofs) := fun f i hf => getI_hostTurn s ofs (by rintro rfl; exact hf (by decide)) i
  refine ⟨?_, keepsRegs_trans hturn (keepsRegs_mono (by decide) hlogRegs)⟩
  rw [KeepsUnits, State.mapLogged, hlog, hostTurn_eq]

theorem execSyncMapWrite_of_waiter {s : State} (h : HostOpen s) (hctx : s.get .syncMapSelCtx ≤ s.build.numVf)
    (hw : ∃ w ∈ s.waiters, w.ctx = s.get .syncMapSelCtx ∧ w.syncId = s.get .syncMapSelId) (value ofs : Nat) :
    exec (.syncMapWrite value ofs) s = .next (finishState s ((s.mapLogged value ofs).up .syncStatMapBusy)) := by
  have hsel {f : Fld} (hf : f ≠ .fjStateRetainPend) : (s.hostTurn ofs).get f = s.get f := getI_hostTurn s ofs hf 0
  have hbuild : (s.hostTurn ofs).build = s.build := by rw [hostTurn_eq]
  have hwaiters : (s.mapLogged value ofs).waiters = s.waiters := by rw [(mapLogged_keeps s value ofs).1]
  change finish s (s.privReg 0xD008 value ofs) = _
  rw [privReg_open h (by decide) (by decide), regWrite_syncMap (by rwa [hsel (by decide), hbuild]), hsel (by decide), hsel (by decide),
    ← State.mapLogged, remap_of_waiter (by rwa [hwaiters]), finish]

/-- A write that only finds its entry busy leaves MAP_BUSY set, and else what every logged host write leaves. -/
theorem finishState_mapBusy (s : State) (value ofs : Nat) :
    let t := finishState s ((s.mapLogged value ofs).up .syncStatMapBusy)
    t.flag .syncStatMapBusy = true ∧ KeepsRegs (hostFlds ++ [.syncStatMapBusy]) s t ∧ KeepsUnits s t := by
  intro t
  obtain ⟨hunits, hregs⟩ := mapLogged_keeps s value ofs
  have hbuild : ((s.mapLogged value ofs).up .syncStatMapBusy).build = s.build := by rw [State.up, State.set_build, hunits]
  have hset : ((s.mapLogged value ofs).up .syncStatMapBusy).get .syncStatMapBusy = 1 := getI_setI_same _ _ 0 1
  refine ⟨?_, fun f i hf => ?_, ?_⟩
  · rw [State.flag, get_finishState hbuild (by decide), hset]
    rfl
  · rw [getI_finishState hbuild (by rintro rfl; exact hf (by decide))]
    exact keepsRegs_trans (keepsRegs_mono (by decide) hregs) (keepsRegs_setI (by decide) _ 0 1) f i hf
  · unfold t
    rw [KeepsUnits, finishState_eq, State.up, State.set, State.setI, hunits]

end Sys2Proof.Machine

namespace Sys2Proof.Proofs

open Sys2Proof.Machine Sys2Proof.Safety

/-- Settles O32: the checks of R381 come first in every sync command, and a failed one leaves only the end of the entry, which no later
completion or FENCE undoes; a SYNC_MAP write leaves its log, MAP_BUSY and the start of every host write. -/
theorem syncChecks : Obligations.SyncChecks := by
  refine ⟨fun s ctx ring e x hx h hsub hready => ⟨fun hv => ?_, fun hv hp => ?_, fun st => ⟨?_, ?_⟩⟩,
    fun s value ofs hopen hctx hw => ⟨_, execSyncMapWrite_of_waiter hopen hctx hw value ofs, finishState_mapBusy s value ofs⟩⟩
  · exact exec_syncCommand_of_bad hx h hsub hready (syncCheck_unmapped hv _)
  · exact exec_syncCommand_of_bad hx h hsub hready (syncCheck_denied hv hp)
  · rw [finishState_words, endSync_words]
    rfl
  · exact ended_finishState (ended_endSync _ _ _ _)

/-- Settles O35: on a barrier word a SIGNAL has two cases, which exclude each other, and a WAIT has one; a PLAIN word reads as it was put, and
the sync page reads the word's VALUE, which on a barrier is R. -/
theorem barrierWordsAndSignals : Obligations.BarrierWordsAndSignals := by
  refine ⟨fun s ctx ring p e => ⟨fun x hx hready ⟨h, hsub, hcheck⟩ hb => ?_, fun x hx ⟨h, hsub, hcheck⟩ hb => ?_⟩,
    fun s ctx id p hopen hview hid hmap _ => ?_⟩
  · obtain ⟨name, f, hexec⟩ := exec_signalCommand s ctx ring x hx
    have hrun := hexec.trans (startSync_of_starts h hsub (fun _ => hready) _ _)
    have hset : (x.2 == 0) = true ↔ x.2 = 0 := beq_iff_eq
    refine ⟨fun hsub0 hown hcount hwait => ?_, fun hnot => ?_⟩
    · rw [signal_of_turnsPlain (s := started s e) hcheck hb ⟨hset.mpr hsub0, hown, hcount, hwait⟩] at hrun
      have hword : ∀ t : State, t.words = ((started s e).putWord (plainWord p e)).words → t.word p = plainWord p e :=
        fun t ht => (word_congr ht p).trans (word_putWord_same (started s e) (plainWord p e))
      refine ⟨_, hrun, ended_finishState (ended_endSync _ _ _ _), ?_⟩
      rw [hword _ (by rw [finishState_words, endSync_words, State.bump_words])]
      exact ⟨rfl, rfl⟩
    · rw [hrun, signal_of_not_turnsPlain (s := started s e) hcheck hb fun ⟨hsub0, hrest⟩ => hnot ⟨hset.mp hsub0, hrest⟩]
  · obtain ⟨name, what, hexec⟩ := exec_waitCommand s ctx ring x hx
    rw [hexec, startSync_of_starts h hsub (fun hop => absurd hop (by decide)), waitOn_of_barrier (s := started s e) hcheck hb]
  · rw [viewWord_syncPage hopen.1 hview hid, pageRead_of_mapped hmap]

end Sys2Proof.Proofs
end

section
/-! What `finish` leaves of a frame, and the steps of the queue (00 R13, R14). -/
namespace Sys2Proof.Machine

open Safety

theorem keepsAll_finishState {s u : State} (h : KeepsAll s u) : KeepsAll s (finishState s u) := by
  unfold KeepsAll at *
  rw [finishState_eq, h]

theorem keepsUnits_finishState {s u : State} (h : KeepsUnits s u) : KeepsUnits s (finishState s u) := by
  unfold KeepsUnits at *
  rw [finishState_eq, h]

theorem keepsRegs_finishState {fs : List Fld} (hm : .fjMsixPbaPending ∈ fs) {s u : State} (hb : u.build = s.build) (h : KeepsRegs fs s u) :
    KeepsRegs fs s (finishState s u) := fun f i hf => by
  have hpba : f ≠ .fjMsixPbaPending := fun e => hf (e ▸ hm)
  rw [getI_finishState hb hpba, h f i hf]

theorem mem_out_finishState {s u : State} {o : Out} (h : o ∈ u.out) : o ∈ (finishState s u).out := by
  obtain ⟨ms, hout, -⟩ := finishState_out s u
  rw [hout]
  exact List.mem_append_left ms h

/-- What the ports have sent after `finish`: what the meaning left, and interrupt messages. -/
theorem mem_out_of_finishState {s u : State} {o : Out} (h : o ∈ (finishState s u).out) : o ∈ u.out ∨ ∃ n v a d, o = Out.msix n v a d := by
  obtain ⟨ms, hout, hms⟩ := finishState_out s u
  rw [hout] at h
  exact (List.mem_append.mp h).imp_right (hms o)

theorem eq_of_finish {s u t : State} (h : finish s u = .next t) : t = finishState s u := (Host.Outcome.next.inj h).symm

/-- A step does nothing, or it carries out one command, which `finish` ends. -/
theorem step_cases (s : State) : s.pending = [] ∧ step s = .next s ∨
    ∃ c rest, s.pending = c :: rest ∧ step s = exec c { s with pending := rest } := by
  rw [step]
  split
  · next h => exact .inl ⟨h, rfl⟩
  · next c rest h => exact .inr ⟨c, rest, h, rfl⟩

end Sys2Proof.Machine

namespace Sys2Proof.Proofs

open Sys2Proof.Machine Sys2Proof.Safety

/-- Settles O4: a step on an empty queue changes nothing, and `finish` ends every command by putting the register file into its canonical
form. -/
theorem stepKeepsRegistersCanonical : Obligations.StepKeepsRegistersCanonical := by
  intro s t hs hstep
  obtain ⟨-, h⟩ | ⟨c, rest, -, h⟩ := step_cases s
  · obtain rfl : s = t := by simpa [h] using hstep
    exact hs
  · obtain ⟨u, rfl⟩ := exec_ends c _ t (h ▸ hstep)
    exact finishState_canonical _ u

/-- Settles O1: the queue's front is what the step matches on. -/
theorem stepRunsTheFrontCommand : Obligations.StepRunsTheFrontCommand := fun _ _ _ => rfl

/-- Settles O3: the one cell of the file after reset is in range and differs from its reset value. -/
theorem resetIsCanonical : Obligations.ResetIsCanonical := by
  unfold Obligations.ResetIsCanonical
  decide

end Sys2Proof.Proofs
end

section
/-! The guard never forwards a write to a granule that is not copied (03 R103, R104). -/
namespace Sys2Proof.Machine

open Safety

/-- While the guard is armed, row 1 of R103 lets a write to a granule pass only when its bit is set. -/
theorem has_of_verdict_pass {g : Guard} {lane : Nat} {ord : Bool} {x : Nat} (harmed : g.armed = true)
    (h : g.verdict lane ord (some x) = .pass) : g.has x = true := by
  by_contra hx
  rw [Bool.not_eq_true] at hx
  simp only [Guard.verdict, harmed, hx, Option.isNone_some, Bool.not_true, Bool.false_and, Bool.or_false, Bool.false_eq_true, if_false] at h
  split at h
  · cases h
  · split at h
    · cases h
    · split at h <;> cases h

theorem forward_guard (s : State) (w : GWrite) (now : GuardClock) :
    (s.forward w now).guard = { s.guard with awaiting := s.guard.awaiting ++ [(w.lane, w.id)] } := by
  unfold State.forward
  dsimp only
  split <;> simp

theorem peak_out (s : State) (f : Fld) (v : Nat) : (s.peak f v).out = s.out := by rw [peak_eq]

theorem forward_out (s : State) (w : GWrite) (now : GuardClock) :
    (s.forward w now).out = s.out ++ [.guardOut w.lane w.addr w.data w.be false w.id] := by
  unfold State.forward
  dsimp only
  split <;> simp [peak_out]

theorem guardRegs_out (s : State) : s.guardRegs.out = s.out := by simp [State.guardRegs, peak_out]

/-- A write that no row of R103 lets pass is not forwarded. -/
theorem judge_of_hold {s : State} {w : GWrite} (h : s.guard.verdict w.lane w.ord w.gran ≠ .pass) (now : GuardClock) :
    (s.judge w now).guard.awaiting = s.guard.awaiting ∧ (s.judge w now).out = s.out := by
  unfold State.judge
  split
  · next hp => exact absurd hp h
  · exact ⟨rfl, rfl⟩

theorem judge_waiting (s : State) (w : GWrite) (now : GuardClock) : (s.judge w now).guard.waiting = s.guard.waiting := by
  unfold State.judge
  split
  · rw [forward_guard]
  · rfl

/-- What is sent on the way from s to t are writes of the list to granules whose bit is set; the bits and the arming stay. -/
def ForwardsCopied (l : List GWrite) (s t : State) : Prop :=
  t.guard.armed = s.guard.armed ∧ (∀ x, t.guard.has x = s.guard.has x) ∧
    ∀ o ∈ t.out, o ∈ s.out ∨ ∃ w ∈ l, o = .guardOut w.lane w.addr w.data w.be false w.id ∧ ∀ x, w.gran = some x → s.guard.has x = true

theorem ForwardsCopied.refl (l : List GWrite) (s : State) : ForwardsCopied l s s := ⟨rfl, fun _ => rfl, fun _ ho => .inl ho⟩

theorem ForwardsCopied.trans {l : List GWrite} {s t u : State} (h : ForwardsCopied l s t) (k : ForwardsCopied l t u) :
    ForwardsCopied l s u := by
  obtain ⟨harm, hbits, hout⟩ := h
  obtain ⟨karm, kbits, kout⟩ := k
  refine ⟨karm.trans harm, fun x => (kbits x).trans (hbits x), fun o ho => ?_⟩
  obtain hin | ⟨w, hw, he, hx⟩ := kout o ho
  · exact hout o hin
  · exact .inr ⟨w, hw, he, fun x hg => (hbits x).symm.trans (hx x hg)⟩

/-- Changes of the guard that touch neither its arming nor its bitmaps. -/
theorem forwardsCopied_guard (l : List GWrite) (s : State) {g : Guard} (harm : g.armed = s.guard.armed)
    (hbits : ∀ x, g.has x = s.guard.has x) : ForwardsCopied l s { s with guard := g } := ⟨harm, hbits, fun _ ho => .inl ho⟩

theorem forwardsCopied_forward {l : List GWrite} {s : State} {w : GWrite} (hw : w ∈ l)
    (hx : ∀ x, w.gran = some x → s.guard.has x = true) (now : GuardClock) : ForwardsCopied l s (s.forward w now) := by
  refine ⟨by rw [forward_guard], fun x => by rw [forward_guard]; rfl, fun o ho => ?_⟩
  rw [forward_out] at ho
  exact (List.mem_append.mp ho).imp_right fun h => ⟨w, hw, List.mem_singleton.mp h, hx⟩

theorem forwardsCopied_judge {l : List GWrite} {s : State} {w : GWrite} (harm : s.guard.armed = true) (hw : w ∈ l) (now : GuardClock) :
    ForwardsCopied l s (s.judge w now) := by
  unfold State.judge
  split
  · next hp => exact forwardsCopied_forward hw (fun x hx => has_of_verdict_pass harm (hx ▸ hp)) now
  · exact forwardsCopied_guard l s rfl (fun _ => rfl)

theorem forwardsCopied_acceptFuel (l : List GWrite) (n : Nat) (now : GuardClock) (s : State) (harm : s.guard.armed = true)
    (hwait : s.guard.waiting ⊆ l) : ForwardsCopied l s (acceptFuel n now s) := by
  induction n generalizing s with
  | zero => exact .refl l s
  | succ n ih =>
    simp only [acceptFuel]
    split
    · exact .refl l s
    · next w t hw =>
      rw [hw] at hwait
      split
      · let s1 : State := { s with guard := { s.guard with waiting := t } }
        have hdrop : ForwardsCopied l s s1 := forwardsCopied_guard l s rfl (fun _ => rfl)
        have hjudge := hdrop.trans (forwardsCopied_judge (s := s1) (w := w) harm (hwait List.mem_cons_self) now)
        refine hjudge.trans (ih _ (hjudge.1.trans harm) ?_)
        rw [judge_waiting]
        exact List.subset_of_cons_subset hwait
      · exact .refl l s

/-- The held writes are gone through one by one; the waiting ones stay where they are. -/
theorem forwardsCopied_releaseHeldFuel (l : List GWrite) (n : Nat) (now : GuardClock) (s : State) (q : List GWrite)
    (harm : s.guard.armed = true) (hq : q ⊆ l) :
    ForwardsCopied l s (releaseHeldFuel n now s q) ∧ (releaseHeldFuel n now s q).guard.waiting = s.guard.waiting := by
  induction n generalizing s q with
  | zero => exact ⟨.refl l s, rfl⟩
  | succ n ih =>
    cases q with
    | nil => exact ⟨.refl l s, rfl⟩
    | cons w rest =>
      have hrest : rest ⊆ l := List.subset_of_cons_subset hq
      -- the write leaves the hold queue and is forwarded; the rest of the queue follows
      have hgoes (hx : ∀ x, w.gran = some x → s.guard.has x = true) :
          let s1 : State := { s with guard := { s.guard with held := s.guard.held.filter (fun y => y.seq != w.seq) } }
          ForwardsCopied l s (releaseHeldFuel n now (s1.forward w now) rest) ∧
            (releaseHeldFuel n now (s1.forward w now) rest).guard.waiting = s.guard.waiting := by
        intro s1
        have h1 : ForwardsCopied l s (s1.forward w now) :=
          (forwardsCopied_guard l s rfl (fun _ => rfl)).trans (forwardsCopied_forward (s := s1) (hq List.mem_cons_self) hx now)
        obtain ⟨h2, hw⟩ := ih (s1.forward w now) rest (h1.1.trans harm) hrest
        exact ⟨h1.trans h2, by rw [hw, forward_guard]⟩
      simp only [releaseHeldFuel]
      split
      · exact ih s rest harm hrest
      · split
        · next x hx =>
          split
          · next hpass =>
            rw [harm, Bool.not_true, Bool.false_or] at hpass
            exact hgoes fun y hy => by rwa [← Option.some.inj (hx.symm.trans hy)]
          · split
            · exact ih s rest harm hrest
            · obtain ⟨h2, hw⟩ := ih { s with guard := { s.guard with rescueQ := s.guard.rescueQ ++ [x] } } rest harm hrest
              exact ⟨(forwardsCopied_guard l s rfl (fun _ => rfl)).trans h2, hw⟩
        · next hnone => exact hgoes fun y hy => by rw [hnone] at hy; cases hy

theorem forwardsCopied_releaseHeld {s : State} (harm : s.guard.armed = true) (now : GuardClock) :
    ForwardsCopied (s.guard.held ++ s.guard.waiting) s (s.releaseHeld now) := by
  obtain ⟨h, hw⟩ := forwardsCopied_releaseHeldFuel (s.guard.held ++ s.guard.waiting) (s.guard.held.length + 1) now (s.guardAt now)
    s.guard.held harm (List.subset_append_left _ _)
  have h0 : ForwardsCopied (s.guard.held ++ s.guard.waiting) s (s.guardAt now) := forwardsCopied_guard _ s rfl (fun _ => rfl)
  exact (h0.trans h).trans (forwardsCopied_acceptFuel _ _ now _ (h.1.trans harm) (hw ▸ List.subset_append_right _ _))

end Sys2Proof.Machine

namespace Sys2Proof.Proofs

open Sys2Proof.Machine Sys2Proof.Safety

/-- Settles O22: a lane's write to a granule that is not copied waits or is held by each row of R103, and every write that leaves the hold
queue or its lane's queue passes the same test on its granule's bit. -/
theorem guardNeverForwardsUncopied : Obligations.GuardNeverForwardsUncopied := by
  refine ⟨fun s t lane addr data be ord id x now harm hx hbit hexec => ?_, fun s now harm => (forwardsCopied_releaseHeld harm now).2.2⟩
  suffices h : ∃ u : State, t = finishState s u ∧ u.guard.awaiting = s.guard.awaiting ∧ u.out = s.out by
    obtain ⟨u, rfl, hawait, hout⟩ := h
    exact ⟨by rw [finishState_guard, hawait], fun o ho => hout ▸ mem_out_of_finishState ho⟩
  change execGuardWrite lane addr data be ord id now s = .next t at hexec
  unfold execGuardWrite at hexec
  dsimp only at hexec
  split at hexec
  · exact ⟨s, eq_of_finish hexec, rfl, rfl⟩
  rw [if_pos ⟨harm, .inl (by rw [hx]; rfl)⟩] at hexec
  split at hexec
  · refine ⟨_, eq_of_finish hexec, ?_⟩
    rw [guardRegs_guard, guardRegs_out, hx]
    have hhold : ((s.guardAt now).peak .grdHoldPeak (s.guard.held.length + 1)).guard.verdict (lane % 64) ord (some x) ≠ .pass := by
      intro hpass
      have hhas := has_of_verdict_pass (by rw [peak_guard]; exact harm) hpass
      rw [peak_guard] at hhas
      exact Bool.false_ne_true (hbit.symm.trans hhas)
    obtain ⟨hawait, hout⟩ := judge_of_hold (w := GWrite.mk _ _ _ _ _ _ _ (some x) _ _ _) hhold now
    exact ⟨by rw [hawait, peak_guard]; rfl, by rw [hout, peak_out]; rfl⟩
  · exact ⟨_, eq_of_finish hexec, rfl, rfl⟩

end Sys2Proof.Proofs
end

section
/-! Which commands answer a next state (00 R4): none is refused, and one that acts completes. -/
namespace Sys2Proof.Machine

open Safety

/-! ### No command is refused -/

/-- A command's answer: the next state that `finish` makes, or the fault of an event that is not due. -/
def Answers (s : State) (o : Host.Outcome State Fault Refusal) : Prop := (∃ u, o = finish s u) ∨ ∃ w, o = notDue w

theorem answers_finish (s u : State) : Answers s (finish s u) := .inl ⟨u, rfl⟩

theorem answers_notDue (s : State) (w : String) : Answers s (notDue w) := .inr ⟨w, rfl⟩

theorem Answers.not_refused {s : State} {o : Host.Outcome State Fault Refusal} (h : Answers s o) (r : Refusal) : o ≠ .refused r := by
  rintro rfl
  obtain ⟨_, h⟩ | ⟨_, h⟩ := h <;> cases h

theorem answers_startEntry (name : String) (ctx ring op : Nat) (v1 : Bool) (s : State) (body : Entry → State → State) :
    Answers s (startEntry name ctx ring op v1 s body) := by
  unfold startEntry
  split
  · exact answers_notDue s name
  · split
    · exact answers_finish s _
    · exact answers_notDue s name

theorem answers_startFeeder (name : String) (ctx ring op : Nat) (v1 : Bool) (s : State) (body : Entry → State → State) :
    Answers s (startFeeder name ctx ring op v1 s body) := by
  unfold startFeeder
  split
  · split
    · exact answers_startEntry _ _ _ _ _ _ _
    · exact answers_notDue s name
  · exact answers_notDue s name

theorem answers_startSync (name : String) (ctx ring op sub : Nat) (s : State) (body : Entry → State → State) :
    Answers s (startSync name ctx ring op sub s body) := by
  unfold startSync
  split
  · exact answers_notDue s name
  · split
    · exact answers_startEntry _ _ _ _ _ _ _
    · exact answers_notDue s name

/-- Every meaning is a tree of conditions whose leaves are `finish` and `notDue`. -/
theorem exec_answers (c : Instr) (s : State) : Answers s (exec c s) := by
  cases c <;> delta exec <;> dsimp only
  case nop | fence | snap | mouldLoad | permLoad | v1Nop | v1Copy | v1Snap | v1Restore | v1Seal | v1Open | v1Fence =>
    exact answers_startEntry _ _ _ _ _ _ _
  case copy | restore | swapIn | chain | sealJob | openJob | digest | digestFinal | lattice | resume =>
    exact answers_startFeeder _ _ _ _ _ _ _
  case signalSet | signalAdd | signalSub | waitEq | waitGe | waitNe | barrierArriveWait | barrierArrive | barrierInit =>
    exact answers_startSync _ _ _ _ _ _ _
  case coldReset | engineRst | pwrFailN | busvStaleTimeout | doorbell | ringEnable | cringHead | syncPageSet | syncPageAdd | syncMapWrite |
      tickModeGo | stgCtrlSwap | invAll | invCtx | slotFlush | grdPeakClr | digPeakClr | minClr | keyLoad | keyErase | ackLost | pntInvCtx |
      pntVlWrite | warn | abandon | adopt | go | retainReq | armUpd | qpReset | qpRts | retire | patEccAdd | close | irqEnWrite |
      registerWrite | atsInvalidation | hostLinkDown | receiveFrame | rdmaWriteRequest | rdmaReadRequest | rdmaReadResponse |
      fingerprintBatch | commitNotice | sendWithInvalidate | rcAck | nak | linkUpFall | linkUpRise | holdup | hflrReqFall |
      hcfgMsixMaskClear | strapChange | sbDrop | railRemoved =>
    exact answers_finish s _
  all_goals
    dsimp only [execPackageReset, execFunctionReset, execTenantReset, execBusVStrobe, execSagFastRise, execSagStepUp, execTickInEdge,
      execTickBoundary, execThrottleWindowEnd, execPowerFault, execStepEnd, execGuardWrite, execRescueIssue, execRescueLanding, execPoolDrain,
      execGuardWriteResponse, execCopyReadLanding, execBitmapClearDone, execFabricReadResponse, execFabricWriteAck, execGroupCloseTimeout,
      execAdmissionDecision, execEntryFetch, execOwnRecheck, execSyncTimeout, execKeyUnwrapDone, execHalfSwap, execMouldBuildDone,
      execSealOpenVerdict, execDecodeSlotLoadDone, execFingerprintDone, execArrivalDigestDone, execTileBoundary, execAtsTranslationResponse,
      execHostReadCompletion, execHostRequestWake, execWakeComplete, execCnp, execCnpRecover, execAckTimeout, execRemoteOpTimeout,
      execLinkDownTimeout, execDueTickCongested, execNvmeCompletion, execKeepAlive, execXchgWaitTimeout, execCommitNoticeTimeout, execArrive,
      execRelease, execWarnPacket, execAbsent, execBootWaitTimeout, execPhase1Timeout, execStartAlone, execKeyPortAck, execKeyPortTimeout,
      execNvmReadDone, execNvmProgramDone, execNvmEraseDone, execSignatureVerifyDone, execWatchdogExpiry, execIdleEntry, execPmWakeTick,
      execPatrolSlot, execSubstitutionDone, execEccWindowEnd, execYeljoHeaderRewrite, execReplayInput, execDbgEnFall, execIjtagAccess,
      execFirmwareBack]
    repeat' (first | exact answers_finish s _ | exact answers_notDue s _ | split)

/-! ### A command that acts completes -/

/-- The answer is a next state. -/
def Completes (o : Host.Outcome State Fault Refusal) : Prop := ∃ t, o = .next t

theorem completes_finish (s u : State) : Completes (finish s u) := ⟨_, rfl⟩

theorem completes_ite {p : Prop} [Decidable p] {a b : Host.Outcome State Fault Refusal} (ha : Completes a) (hb : Completes b) :
    Completes (if p then a else b) := by split <;> assumption

theorem completes_if {p : Prop} [Decidable p] {a b : Host.Outcome State Fault Refusal} (hp : p) (ha : Completes a) :
    Completes (if p then a else b) := by rwa [if_pos hp]

theorem completes_unless {p : Prop} [Decidable p] {a b : Host.Outcome State Fault Refusal} (hp : ¬ p) (hb : Completes b) :
    Completes (if p then a else b) := by rwa [if_neg hp]

/-- The first of the elements that a test takes, where it takes one. -/
theorem exists_find? {α : Type} {l : List α} {p : α → Bool} (h : ∃ a ∈ l, p a = true) : ∃ a, l.find? p = some a ∧ p a = true := by
  obtain ⟨a, ha⟩ := Option.isSome_iff_exists.mp (List.find?_isSome.mpr h)
  exact ⟨a, ha, List.find?_some ha⟩

/-! #### Entries (13 R364) -/

theorem startEntry_of_starts {s : State} {ctx ring op : Nat} {v1 : Bool} {e : Entry} (h : Starts s ctx ring op v1 e) (name : String)
    (body : Entry → State → State) : startEntry name ctx ring op v1 s body = .next (finishState s (body e (started s e))) := by
  obtain ⟨hfront, hop, hv1, hawake⟩ := h
  simp only [startEntry, hfront, if_pos (And.intro hop (And.intro hv1 hawake))]
  rfl

theorem startFeeder_of_starts {s : State} {ctx ring op : Nat} {v1 : Bool} {e : Entry} (h : Starts s ctx ring op v1 e)
    (hturn : feedTurn s e = true) (name : String) (body : Entry → State → State) :
    startFeeder name ctx ring op v1 s body = .next (finishState s (body e (started s e))) := by
  simp only [startFeeder, h.1, if_pos hturn]
  exact startEntry_of_starts h name body

theorem completes_startEntry {s : State} {ctx ring op : Nat} {v1 : Bool} (h : ∃ e, Starts s ctx ring op v1 e) (name : String)
    (body : Entry → State → State) : Completes (startEntry name ctx ring op v1 s body) := by
  obtain ⟨e, he⟩ := h
  exact ⟨_, startEntry_of_starts he name body⟩

theorem completes_startWork {s : State} {ctx ring op : Nat} (h : StartsWork s ctx ring op false) (name : String)
    (body : Entry → State → State) : Completes (startFeeder name ctx ring op false s body) := by
  obtain ⟨e, he, hturn, -⟩ := h
  exact ⟨_, startFeeder_of_starts he (hturn rfl) name body⟩

theorem completes_startWorkV1 {s : State} {ctx ring op : Nat} {v1 : Bool} (h : StartsWork s ctx ring op v1) (name : String)
    (body : Entry → State → State) : Completes (startEntry name ctx ring op v1 s body) := by
  obtain ⟨e, he, -⟩ := h
  exact ⟨_, startEntry_of_starts he name body⟩

theorem completes_startSync {s : State} {ctx ring op sub : Nat} {perm : Fld} (h : StartsOnWord s ctx ring op sub perm) (name : String)
    (body : Entry → State → State) : Completes (startSync name ctx ring op sub s body) := by
  obtain ⟨e, p, ⟨he, hsub, -⟩, hready⟩ := h
  exact ⟨_, startSync_of_starts he hsub hready name body⟩

/-! #### Events -/

theorem completes_sagStepUp {s : State} {level ofs : Nat} (h : Acts s (.sagStepUp level ofs)) : Completes (execSagStepUp level ofs s) := by
  obtain ⟨hhold, hstep⟩ := h
  exact completes_unless (by rw [hhold]; simpa using hstep) (completes_finish _ _)

theorem completes_rescueIssue {s : State} {now : GuardClock} (h : Acts s (.rescueIssue now)) : Completes (execRescueIssue now s) := by
  obtain ⟨harm, hq, hslot, htags⟩ := h
  obtain ⟨x, t, hq⟩ := List.exists_cons_of_ne_nil hq
  obtain ⟨k, hslot⟩ := Option.isSome_iff_exists.mp hslot
  obtain ⟨q, htags⟩ := Option.isSome_iff_exists.mp htags
  simp only [execRescueIssue, hq, hslot, htags]
  exact completes_if harm (completes_finish _ _)

theorem completes_rescueLanding {s : State} {gran : Nat} {data : Bytes} {err : Bool} {now : GuardClock}
    (h : Acts s (.rescueLanding gran data err now)) : Completes (execRescueLanding gran data err now s) := by
  obtain ⟨r, hr, hgran⟩ := h
  obtain ⟨r', hfind, -⟩ := exists_find? (p := fun r : Rescue => r.gran == gran) ⟨r, hr, by simp [hgran]⟩
  simp only [execRescueLanding, hfind]
  exact completes_ite (completes_finish _ _) (completes_finish _ _)

theorem completes_poolDrain {s : State} (h : Acts s .poolDrain) : Completes (execPoolDrain s) := by
  obtain ⟨hp, hk⟩ := h
  obtain ⟨p, hp⟩ := Option.isSome_iff_exists.mp hp
  obtain ⟨k, hk⟩ := Option.isSome_iff_exists.mp hk
  simp only [execPoolDrain, hp, hk]
  exact completes_finish _ _

theorem completes_guardWriteResponse {s : State} {lane id : Nat} {spill err : Bool} (h : Acts s (.guardWriteResponse lane spill id err)) :
    Completes (execGuardWriteResponse lane spill id err s) := by
  unfold execGuardWriteResponse
  obtain hspill | hawait := h
  · exact completes_if hspill (completes_finish _ _)
  · exact completes_ite (completes_finish _ _) (completes_if (by simpa using hawait) (completes_finish _ _))

theorem completes_copyReadLanding {s : State} {gran : Nat} {data : Bytes} {err : Bool} {now : GuardClock}
    (h : Acts s (.copyReadLanding gran data err now)) : Completes (execCopyReadLanding gran data err now s) := by
  obtain ⟨harm, hread, hres⟩ := h
  have hno : ¬ (¬ s.guard.armed = true ∨ ¬ s.guard.copyReads.contains gran = true ∨
      s.guard.rescues.any (fun r => r.gran == gran && !r.dead) = true) := by
    simp only [harm, not_true_eq_false, List.contains_iff_mem, hread, List.any_eq_true, Bool.and_eq_true, beq_iff_eq, Bool.not_eq_true',
      false_or, not_exists, not_and]
    exact fun r hr hg => by simp [hres r hr hg]
  unfold execCopyReadLanding
  dsimp only
  split
  · exact completes_finish _ _
  · refine completes_unless hno ?_
    split
    · exact completes_finish _ _
    · exact completes_ite (completes_finish _ _) (completes_finish _ _)

theorem completes_bitmapClearDone {s : State} (h : Acts s .bitmapClearDone) : Completes (execBitmapClearDone s) := by
  obtain ⟨⟨k, z⟩, hk⟩ := Option.isSome_iff_exists.mp (show s.guard.clearing.isSome = true from h)
  simp only [execBitmapClearDone, hk]
  exact completes_finish _ _

theorem completes_fabricReadResponse {s : State} {tag : Nat} {data : Bytes} {err : Bool} (h : Acts s (.fabricReadResponse tag data err)) :
    Completes (execFabricReadResponse tag data err s) := by
  obtain ⟨x, hx, hkind, htag⟩ := h
  obtain ⟨y, hfind, -⟩ := exists_find? (p := fun x : Xfer => x.kind == .fabRead && x.tag == tag) ⟨x, hx, by simp [hkind, htag]⟩
  simp only [execFabricReadResponse, hfind]
  exact completes_finish _ _

theorem completes_fabricWriteAck {s : State} {id : Nat} {err : Bool} (h : Acts s (.fabricWriteAck id err)) :
    Completes (execFabricWriteAck id err s) := by
  obtain ⟨x, hx, hkind, htag⟩ := h
  obtain ⟨y, hfind, -⟩ := exists_find? (p := fun x : Xfer => x.kind == .fabWrite && x.tag == id) ⟨x, hx, by simp [hkind, htag]⟩
  simp only [execFabricWriteAck, hfind]
  exact completes_finish _ _

theorem completes_groupCloseTimeout {s : State} {ctx ring : Nat} (h : Acts s (.groupCloseTimeout ctx ring)) :
    Completes (execGroupCloseTimeout ctx ring s) := by
  obtain ⟨gid, g, hopen, hfind, hlast, hhold⟩ := h
  simp only [execGroupCloseTimeout, hopen, hfind]
  exact completes_if ⟨hlast, by simp [hhold]⟩ (completes_finish _ _)

theorem completes_admissionDecision {s : State} {gid : Nat} (h : Acts s (.admissionDecision gid)) :
    Completes (execAdmissionDecision gid s) := by
  obtain ⟨g, hfind, hdue, hawake⟩ := h
  simp only [execAdmissionDecision, hfind]
  exact completes_if ⟨hdue, hawake⟩ (completes_finish _ _)

theorem completes_syncTimeout {s : State} {ctx ring : Nat} (h : Acts s (.syncTimeout ctx ring)) : Completes (execSyncTimeout ctx ring s) := by
  obtain ⟨w, t, hfind, ht, hdue, hhold⟩ := h
  simp only [execSyncTimeout, hfind, ht]
  exact completes_unless (by simp [hhold, hdue]) (completes_finish _ _)

theorem completes_keyUnwrapDone {s : State} (h : Acts s .keyUnwrapDone) : Completes (execKeyUnwrapDone s) := by
  obtain ⟨l, hl, hres, hhold, hfw⟩ := h
  simp only [execKeyUnwrapDone, hl]
  exact completes_unless (by simpa [hres, hhold] using hfw) (completes_finish _ _)

theorem completes_mouldBuildDone {s : State} (h : Acts s .mouldBuildDone) : Completes (execMouldBuildDone s) := by
  obtain ⟨a, ha⟩ := Option.isSome_iff_exists.mp (show (building s).isSome = true from h)
  simp only [execMouldBuildDone, ha]
  exact completes_finish _ _

theorem completes_sealOpenVerdict {s : State} {pipe : Nat} (h : Acts s (.sealOpenVerdict pipe)) : Completes (execSealOpenVerdict pipe s) := by
  obtain ⟨p, hp, hpipe⟩ := h
  obtain ⟨q, hfind, -⟩ := exists_find? (p := fun p : PipeUse => p.pipe == pipe) ⟨p, hp, by simp [hpipe]⟩
  simp only [execSealOpenVerdict, hfind]
  exact completes_finish _ _

theorem completes_fingerprintDone {s : State} {job blk : Nat} (h : Acts s (.fingerprintDone job blk)) :
    Completes (execFingerprintDone job blk s) := by
  obtain ⟨j, hj, hin, hp⟩ := h
  obtain ⟨p, hp⟩ := Option.isSome_iff_exists.mp hp
  simp only [execFingerprintDone, hj, hp, hin]
  exact completes_unless Bool.false_ne_true (completes_finish _ _)

theorem completes_arrivalDigestDone {s : State} {job blk : Nat} (h : Acts s (.arrivalDigestDone job blk)) :
    Completes (execArrivalDigestDone job blk s) := by
  obtain ⟨j, hj, hin, hp⟩ := h
  obtain ⟨p, hp⟩ := Option.isSome_iff_exists.mp hp
  simp only [execArrivalDigestDone, hj, hp]
  exact completes_unless (by simp [hin]) (completes_finish _ _)

theorem completes_atsTranslationResponse {s : State} {tag : Nat} {ok : Bool} (h : Acts s (.atsTranslationResponse tag ok)) :
    Completes (execAtsTranslationResponse tag ok s) := by
  obtain ⟨x, hx, hkind, htag⟩ := h
  obtain ⟨y, hfind, -⟩ := exists_find? (p := fun x : Xfer => x.kind == .ats && x.tag == tag) ⟨x, hx, by simp [hkind, htag]⟩
  simp only [execAtsTranslationResponse, hfind]
  refine completes_ite (completes_finish _ _) (completes_ite ?_ (completes_finish _ _))
  exact completes_ite (completes_finish _ _) (completes_finish _ _)

theorem completes_hostReadCompletion {s : State} {tag status : Nat} {data : Bytes} (h : Acts s (.hostReadCompletion tag data status)) :
    Completes (execHostReadCompletion tag data status s) := by
  obtain ⟨x, hx, hkind, htag⟩ := h
  obtain ⟨y, hfind, -⟩ := exists_find? (p := fun x : Xfer => (x.kind == .hostRead || x.kind == .hostAck) && x.tag == tag)
    ⟨x, hx, by simpa [htag] using hkind⟩
  simp only [execHostReadCompletion, hfind]
  exact completes_finish _ _

theorem completes_ackTimeout {s : State} {qp : Nat} (h : Acts s (.ackTimeout qp)) : Completes (execAckTimeout qp s) := by
  obtain ⟨hrts, hany, hhold⟩ := h
  exact completes_unless (by rw [hrts, hany, hhold]; simp) (completes_finish _ _)

theorem completes_remoteOpTimeout {s : State} {tag : Nat} (h : Acts s (.remoteOpTimeout tag)) : Completes (execRemoteOpTimeout tag s) := by
  obtain ⟨x, hx, hop, hprom, hjob, hlate, htag⟩ := h
  obtain ⟨y, hfind, -⟩ := exists_find? (p := fun x : Xfer => isOp x.kind && x.promised && x.job != 0 && opTimedOut s x &&
    (if isNvme x.kind then x.key == some tag else x.tag == tag)) ⟨x, hx, by
      simp only [hop, hprom, hlate, Bool.true_and, Bool.and_true, Bool.and_eq_true, bne_iff_ne, ne_eq, hjob, not_false_eq_true, true_and]
      split at htag <;> simp [*]⟩
  simp only [execRemoteOpTimeout, hfind]
  exact completes_finish _ _

theorem completes_linkDownTimeout {s : State} {lane : Nat} (h : Acts s (.linkDownTimeout lane)) : Completes (execLinkDownTimeout lane s) := by
  obtain ⟨hlink, hhold, q, hq, hrts, hlane⟩ := h
  refine completes_unless ?_ (completes_finish _ _)
  have hne : ((List.range 256).filter (fun q => s.rts q && laneOf s q == lane % 4)).isEmpty = false := by
    rw [List.isEmpty_eq_false_iff_exists_mem]
    exact ⟨q, by simp [hq, hrts, hlane]⟩
  rw [hlink, hhold, hne]
  simp

theorem completes_dueTickCongested {s : State} {gid : Nat} (h : Acts s (.dueTickCongested gid)) : Completes (execDueTickCongested gid s) := by
  obtain ⟨hawake, ⟨g, hfind, hstage, hprom, hvoid, hdue⟩, j, hj, hstop, hremote, hentry⟩ := h
  simp only [execDueTickCongested, hfind]
  refine completes_if ⟨hstage, hprom, by simp [hvoid], hdue, ?_, hawake⟩ (completes_finish _ _)
  rw [Bool.not_eq_true, List.isEmpty_eq_false_iff_exists_mem]
  exact ⟨j, List.mem_filter.mpr ⟨hj, by simp [hstop, hremote, hentry]⟩⟩

theorem completes_nvmeCompletion {s : State} {tgt cid status : Nat} {data : Bytes} (h : Acts s (.nvmeCompletion tgt cid status data)) :
    Completes (execNvmeCompletion tgt cid status data s) := by
  obtain ⟨hop, hhold⟩ := h
  obtain ⟨x, hx⟩ := Option.isSome_iff_exists.mp hop
  simp only [execNvmeCompletion, hx]
  exact completes_unless (by simp [hhold]) (completes_finish _ _)

theorem completes_xchgWaitTimeout {s : State} {seg : Nat} (h : Acts s (.xchgWaitTimeout seg)) : Completes (execXchgWaitTimeout seg s) := by
  obtain ⟨hwriter, hawake, x, g, t, hsnap, hseg, hcopied, hdue, hsettled, hbatch, hkept⟩ := h
  simp only [execXchgWaitTimeout, hsnap, hseg, hcopied]
  exact completes_if ⟨by simpa using hdue, by simp [hsettled], by simp [hbatch], hkept, by simp [hwriter], hawake⟩ (completes_finish _ _)

theorem completes_commitNoticeTimeout {s : State} (h : Acts s .commitNoticeTimeout) : Completes (execCommitNoticeTimeout s) := by
  obtain ⟨hawake, x, t, hsnap, htick, hdue, hnotice, hphase⟩ := h
  simp only [execCommitNoticeTimeout, hsnap, htick]
  exact completes_if ⟨by simpa using hdue, by simp [hnotice], hphase, hawake⟩ (completes_finish _ _)

theorem completes_startAlone {s : State} (h : Acts s .startAlone) : Completes (execStartAlone s) := by
  refine completes_if ?_ (completes_finish _ _)
  exact h.imp_right fun ⟨hstage, hor⟩ => ⟨hstage, .inr (hor.imp_right fun hc => by simp [hc])⟩

theorem completes_keyPortAck {s : State} {data : Nat} {err : Bool} (h : Acts s (.keyPortAck data err)) :
    Completes (execKeyPortAck data err s) := by
  obtain ⟨hstage, herr, hlen⟩ := h
  refine completes_unless (by simpa [hstage, herr] using hlen) (completes_ite (completes_finish _ _) ?_)
  exact completes_ite (completes_finish _ _) (completes_finish _ _)

theorem completes_keyPortTimeout {s : State} (h : Acts s .keyPortTimeout) : Completes (execKeyPortTimeout s) := by
  obtain ⟨hstage, herr, hlen⟩ := h
  exact completes_unless (by simpa [hstage, herr] using hlen) (completes_finish _ _)

theorem completes_nvmReadDone {s : State} {data : Bytes} (h : Acts s (.nvmReadDone data)) : Completes (execNvmReadDone data s) := by
  obtain ⟨o, l, hnvm, hkind⟩ := h
  simp only [execNvmReadDone, hnvm]
  exact completes_unless (by simp [hkind]) (completes_ite (completes_finish _ _) (completes_finish _ _))

theorem completes_nvmProgramDone {s : State} {ok : Bool} (h : Acts s (.nvmProgramDone ok)) : Completes (execNvmProgramDone ok s) := by
  obtain ⟨o, l, hnvm, hkind⟩ := h
  simp only [execNvmProgramDone, hnvm]
  exact completes_if hkind (completes_finish _ _)

theorem completes_nvmEraseDone {s : State} (h : Acts s .nvmEraseDone) : Completes (execNvmEraseDone s) := by
  obtain ⟨o, l, hnvm, hkind⟩ := h
  simp only [execNvmEraseDone, hnvm]
  refine completes_unless (by simp [hkind]) ?_
  split <;> exact completes_finish _ _

theorem completes_watchdogExpiry {s : State} {ofs : Nat} (h : Acts s (.watchdogExpiry ofs)) : Completes (execWatchdogExpiry ofs s) := by
  obtain ⟨heng, hhold, hfw⟩ := h
  exact completes_unless (by simp [heng, hhold, hfw]) (completes_ite (completes_finish _ _) (completes_finish _ _))

theorem completes_patrolSlot {s : State} {a b : Bool} {n : Nat} (h : Acts s (.patrolSlot a b n)) : Completes (execPatrolSlot a b n s) := by
  obtain ⟨hen, hawake, hperiod, -⟩ := h
  refine completes_unless (by simp [hen, hawake, hperiod]) (completes_ite (completes_finish _ _) ?_)
  exact completes_ite (completes_finish _ _) (completes_ite (completes_finish _ _) (completes_finish _ _))

theorem completes_substitutionDone {s : State} {cls phys ofs : Nat} (h : Acts s (.substitutionDone cls phys ofs)) :
    Completes (execSubstitutionDone cls phys ofs s) := by
  obtain ⟨x, hfind, htile, hfw, hhold⟩ := h
  simp only [execSubstitutionDone, hfind]
  exact completes_unless (by simp [htile, hfw, hhold]) (completes_finish _ _)

theorem completes_firmwareBack {s : State} {sram nvm : Bool} (h : Acts s (.firmwareBack sram nvm)) :
    Completes (execFirmwareBack sram nvm s) :=
  completes_unless (not_not.mpr h) (completes_ite (completes_finish _ _) (completes_finish _ _))

/-- In a state in which it acts, a command answers a next state. -/
theorem completes_of_acts {c : Instr} {s : State} (h : Acts s c) : Completes (exec c s) := by
  cases c <;> delta exec <;> dsimp only
  case nop | fence | snap | mouldLoad | permLoad | v1Nop | v1Snap | v1Fence => exact completes_startEntry h _ _
  case v1Copy | v1Restore | v1Seal | v1Open => exact completes_startWorkV1 h _ _
  case copy | restore | swapIn | chain | sealJob | openJob | digest | digestFinal | lattice => exact completes_startWork h _ _
  case signalSet | signalAdd | signalSub | waitEq | waitGe | waitNe | barrierArriveWait | barrierArrive | barrierInit =>
    exact completes_startSync h _ _
  case resume =>
    obtain ⟨e, he, hturn, -⟩ := h
    exact ⟨_, startFeeder_of_starts he hturn _ _⟩
  case sagStepUp => exact completes_sagStepUp h
  case rescueIssue => exact completes_rescueIssue h
  case rescueLanding => exact completes_rescueLanding h
  case poolDrain => exact completes_poolDrain h
  case guardWriteResponse => exact completes_guardWriteResponse h
  case copyReadLanding => exact completes_copyReadLanding h
  case bitmapClearDone => exact completes_bitmapClearDone h
  case fabricReadResponse => exact completes_fabricReadResponse h
  case fabricWriteAck => exact completes_fabricWriteAck h
  case groupCloseTimeout => exact completes_groupCloseTimeout h
  case admissionDecision => exact completes_admissionDecision h
  case syncTimeout => exact completes_syncTimeout h
  case keyUnwrapDone => exact completes_keyUnwrapDone h
  case mouldBuildDone => exact completes_mouldBuildDone h
  case sealOpenVerdict => exact completes_sealOpenVerdict h
  case fingerprintDone => exact completes_fingerprintDone h
  case arrivalDigestDone => exact completes_arrivalDigestDone h
  case atsTranslationResponse => exact completes_atsTranslationResponse h
  case hostReadCompletion => exact completes_hostReadCompletion h
  case ackTimeout => exact completes_ackTimeout h
  case remoteOpTimeout => exact completes_remoteOpTimeout h
  case linkDownTimeout => exact completes_linkDownTimeout h
  case dueTickCongested => exact completes_dueTickCongested h
  case nvmeCompletion => exact completes_nvmeCompletion h
  case xchgWaitTimeout => exact completes_xchgWaitTimeout h
  case commitNoticeTimeout => exact completes_commitNoticeTimeout h
  case startAlone => exact completes_startAlone h
  case keyPortAck => exact completes_keyPortAck h
  case keyPortTimeout => exact completes_keyPortTimeout h
  case nvmReadDone => exact completes_nvmReadDone h
  case nvmProgramDone => exact completes_nvmProgramDone h
  case nvmEraseDone => exact completes_nvmEraseDone h
  case watchdogExpiry => exact completes_watchdogExpiry h
  case patrolSlot => exact completes_patrolSlot h
  case substitutionDone => exact completes_substitutionDone h
  case firmwareBack => exact completes_firmwareBack h
  case tickBoundary | throttleWindowEnd | powerFault | halfSwap | decodeSlotLoadDone | entryFetch | ownRecheck | hostRequestWake |
      signatureVerifyDone | pmWakeTick =>
    exact completes_if h (completes_finish _ _)
  case bootWaitTimeout =>
    obtain ⟨hstage, hcoord, halone⟩ := h
    exact completes_if ⟨hstage, hcoord, by simp [halone]⟩ (completes_finish _ _)
  case phase1Timeout =>
    obtain ⟨hstage, hcoord, hready⟩ := h
    exact completes_if ⟨hstage, hcoord, by simp [hready]⟩ (completes_finish _ _)
  case idleEntry =>
    obtain ⟨heng, hhold, hrest⟩ := h
    exact completes_if ⟨heng, by simp [hhold], hrest⟩ (completes_finish _ _)
  case yeljoHeaderRewrite =>
    obtain ⟨hrec, hnow, hhold⟩ := h
    exact completes_if ⟨hrec, hnow, by simp [hhold]⟩ (completes_finish _ _)
  case wakeComplete | replayInput | eccWindowEnd => exact completes_unless (not_not.mpr h) (completes_finish _ _)
  case cnpRecover =>
    obtain ⟨hrts, hrate, hhold⟩ := h
    exact completes_unless (by simp only [hrts, hhold]; simpa using hrate) (completes_finish _ _)
  case keepAlive =>
    obtain ⟨hused, hready, hfw, hhold⟩ := h
    exact completes_unless (by simp [hused, hready, hfw, hhold]) (completes_finish _ _)
  case ijtagAccess op =>
    cases op <;> simp only [execIjtagAccess]
    case idcode | bypass => exact completes_finish _ _
    all_goals repeat' (first | exact completes_finish _ _ | apply completes_ite)
  case packageReset | functionReset | tenantReset | busVStrobe | sagFastRise | tickInEdge | stepEnd | guardWrite | tileBoundary | cnp | arrive |
      release | warnPacket | absent | dbgEnFall =>
    simp only [execPackageReset, execFunctionReset, execTenantReset, execBusVStrobe, execSagFastRise, execTickInEdge, execStepEnd,
      execGuardWrite, execTileBoundary, execCnp, execArrive, execRelease, execWarnPacket, execAbsent, execDbgEnFall]
    repeat' (first | exact completes_finish _ _ | apply completes_ite)
  -- what is left ends with `finish` in every state
  all_goals exact completes_finish _ _

end Sys2Proof.Machine

namespace Sys2Proof.Proofs

open Sys2Proof.Machine Sys2Proof.Safety

/-- Settles O2: an empty queue idles by definition; a command's answer is what `finish` makes, which keeps the build and the queue, or a fault,
and where the command acts it is the former. -/
theorem queueDiscipline : Obligations.QueueDiscipline := by
  refine ⟨fun s h => by rw [step, h], fun s => ⟨fun r => ?_, fun t ht => ?_⟩, fun c s h => ?_⟩
  · obtain ⟨-, h⟩ | ⟨c, rest, -, h⟩ := step_cases s
    · rw [h]
      nofun
    · rw [h]
      exact (exec_answers c _).not_refused r
  · obtain ⟨hq, h⟩ | ⟨c, rest, hq, h⟩ := step_cases s
    · obtain rfl : s = t := Host.Outcome.next.inj (h.symm.trans ht)
      exact ⟨rfl, by rw [hq]; rfl⟩
    · obtain ⟨u, rfl⟩ := exec_ends c _ t (h ▸ ht)
      exact ⟨finishState_build _ u, by rw [finishState_pending, hq]; rfl⟩
  · obtain ⟨t, ht⟩ := completes_of_acts h
    obtain ⟨u, rfl⟩ := exec_ends c s t ht
    exact ⟨_, ht, finishState_build s u, finishState_pending s u⟩

end Sys2Proof.Proofs
end

section
/-! Runs that refute: what a command leaves in one written-out state, as the model evaluates it. -/
namespace Sys2Proof.Machine

/-- The outcome goes on, in a state with the given property. -/
def leaves (p : State → Bool) : Host.Outcome State Fault Refusal → Bool
  | .next t => p t
  | _ => false

theorem of_leaves {p : State → Bool} {o : Host.Outcome State Fault Refusal} {t : State} (h : leaves p o = true) (ht : o = .next t) :
    p t = true := by
  rw [ht] at h
  exact h

/-- ACTIVE after the lock, nothing at work. -/
def lockedIdle : State := { State.reset with eng := 2, regs := [⟨.fjStateLocked, 0, 1⟩] }

end Sys2Proof.Machine
end

section
/-! FJ_DIV_HEAD acts when it is written, beside the access types of its fields. -/
namespace Sys2Proof.Machine

open Safety

/-- The divergence ring is full. -/
def divergencesFull : State := { lockedIdle with ckpt := { lockedIdle.ckpt with divFull := true } }

theorem hostOpen_divergencesFull : HostOpen divergencesFull := by decide +kernel

theorem findRow_divHead :
    findRow divergencesFull 0x01A8 privMap = some (⟨0x1A8, 1, 0, 1, .arr, [⟨0, 10, .fjDivHeadHead, 0⟩, ⟨16, 10, .fjDivHeadAck, 0⟩]⟩, 0) := by
  decide +kernel

theorem write_divHead_empties : leaves (fun t => !t.ckpt.divFull) (exec (.registerWrite false 0 0x01A8 4 0 0 []) divergencesFull) = true := by
  decide +kernel

end Sys2Proof.Machine

namespace Sys2Proof.Proofs

open Sys2Proof.Machine Sys2Proof.Safety

/-- Refutes O57: a write to FJ_DIV_HEAD, which the statement does not list among the registers that act, ends the fullness of the
divergence ring (`State.actOn` at 0x01A8); the checkpoint unit of `divergencesFull` is not as it was. -/
theorem not_registerAccess : ¬ Obligations.RegisterAccess := by
  unfold Obligations.RegisterAccess
  rintro ⟨-, hplain, -⟩
  obtain ⟨t, ht, -, hunits, -⟩ := hplain divergencesFull 0x01A8 0 0 _ _ [] hostOpen_divergencesFull (by decide) (by decide) findRow_divHead
    (by decide +kernel) (by decide) (by decide) (by decide)
  have hfull : t.ckpt.divFull = true := by rw [hunits]; rfl
  have hempty := of_leaves write_divHead_empties ht
  rw [hfull] at hempty
  cases hempty

end Sys2Proof.Proofs
end

section
/-! The start-up lock (00 R14): which operations leave every locked field as it is. -/
namespace Sys2Proof.Machine

open Safety

/-- Every field that the start-up lock fixes reads as before, and the lock stays shut. -/
structure KeepsLock (s t : State) : Prop where
  build : t.build = s.build
  fields : ∀ f i, (fldInfo f).acc = .rwl → t.getI f i = s.getI f i
  shut : s.flag .fjStateLocked = true → t.flag .fjStateLocked = true

/-- A list of fields without a locked one, and without the lock. -/
def unlockedFlds (fs : List Fld) : Bool := fs.all (fun f => (fldInfo f).acc != .rwl && f != .fjStateLocked)

theorem not_mem_of_unlockedFlds {fs : List Fld} (h : unlockedFlds fs = true) {f : Fld} (hf : (fldInfo f).acc = .rwl ∨ f = .fjStateLocked) :
    f ∉ fs := by
  intro hm
  have := List.all_eq_true.mp h f hm
  rcases hf with hf | hf <;> simp [hf] at this

theorem KeepsLock.refl (s : State) : KeepsLock s s := ⟨rfl, fun _ _ _ => rfl, id⟩

theorem KeepsLock.trans {s t u : State} (h : KeepsLock s t) (k : KeepsLock t u) : KeepsLock s u :=
  ⟨k.build.trans h.build, fun f i hf => (k.fields f i hf).trans (h.fields f i hf), fun hs => k.shut (h.shut hs)⟩

theorem keepsLock_of_keepsRegs {fs : List Fld} {s t : State} (hb : t.build = s.build) (h : KeepsRegs fs s t)
    (hfs : unlockedFlds fs = true) : KeepsLock s t := by
  refine ⟨hb, fun f i hf => h f i (not_mem_of_unlockedFlds hfs (.inl hf)), fun hs => ?_⟩
  unfold State.flag State.get at *
  rwa [h .fjStateLocked 0 (not_mem_of_unlockedFlds hfs (.inr rfl))]

theorem keepsLock_of_regs {s t : State} (hb : t.build = s.build) (hr : t.regs = s.regs) : KeepsLock s t :=
  keepsLock_of_keepsRegs hb (keepsRegs_of_regs (fs := []) hb hr) rfl

theorem keepsLock_send (s : State) (o : Out) : KeepsLock s (s.send o) := keepsLock_of_regs rfl rfl

theorem keepsLock_transmit (s : State) (o : Out) : KeepsLock s (s.transmit o) := keepsLock_of_regs rfl rfl

theorem keepsLock_putSlot (s : State) (k : Nat) (r : ResSlot) : KeepsLock s (s.putSlot k r) := keepsLock_of_regs rfl rfl

theorem keepsLock_putTgt (s : State) (t : Tgt) : KeepsLock s (s.putTgt t) := keepsLock_of_regs rfl rfl

theorem keepsLock_putQp (s : State) (q : Qp) : KeepsLock s (s.putQp q) := keepsLock_of_regs rfl rfl

theorem keepsLock_modBoot (s : State) (f : Boot → Boot) : KeepsLock s (s.modBoot f) := keepsLock_of_regs rfl rfl

theorem keepsLock_xfers (s : State) (l : List Xfer) : KeepsLock s { s with xfers := l } := keepsLock_of_regs rfl rfl

theorem keepsLock_yeljo (s : State) (y : Yeljo) : KeepsLock s { s with yeljo := y } := keepsLock_of_regs rfl rfl

theorem keepsLock_setI (s : State) (f : Fld) (i v : Nat) (hf : unlockedFlds [f] = true) : KeepsLock s (s.setI f i v) :=
  keepsLock_of_keepsRegs rfl (keepsRegs_setI (List.mem_singleton_self f) s i v) hf

theorem keepsLock_set (s : State) (f : Fld) (v : Nat) (hf : unlockedFlds [f] = true) : KeepsLock s (s.set f v) :=
  keepsLock_setI s f 0 v hf

theorem keepsLock_peak (s : State) (f : Fld) (v : Nat) (hf : unlockedFlds [f] = true) : KeepsLock s (s.peak f v) :=
  keepsLock_of_keepsRegs (by rw [peak_eq]) (keepsRegs_peak (List.mem_singleton_self f) s v) hf

theorem keepsLock_foldl {α : Type} (l : List α) (g : State → α → State) (h : ∀ s a, KeepsLock s (g s a)) (s : State) :
    KeepsLock s (l.foldl g s) := by
  induction l generalizing s with
  | nil => exact .refl s
  | cons a t ih => exact (h s a).trans (ih _)

theorem keepsLock_ite {s a b : State} {p : Prop} [Decidable p] (ha : KeepsLock s a) (hb : KeepsLock s b) :
    KeepsLock s (if p then a else b) := by split <;> assumption

theorem KeepsLock.may {s a b : State} {p : Prop} [Decidable p] (ha : KeepsLock s a) (hb : KeepsLock a b) :
    KeepsLock s (if p then b else a) := keepsLock_ite (ha.trans hb) ha

theorem LogOnly.lock {s t : State} (h : LogOnly s t) : KeepsLock s t := keepsLock_of_keepsRegs (by rw [h.1]) h.2 rfl

theorem EntryOnly.lock {s t : State} (h : EntryOnly s t) : KeepsLock s t := keepsLock_of_keepsRegs (by rw [h.1]) h.2 rfl

theorem OpOnly.lock {s t : State} (h : OpOnly s t) : KeepsLock s t := keepsLock_of_keepsRegs (by rw [h.1]) h.2 rfl

theorem OnlyMessages.lock {s t : State} (h : OnlyMessages s t) : KeepsLock s t := h.entry.lock

theorem keepsLock_logFirmware (s : State) (act : Nat) : KeepsLock s (s.logFirmware act) :=
  keepsLock_of_keepsRegs (by rw [(logFirmware_only s act).1]) (logFirmware_only s act).2 rfl

@[simp] theorem peak_build (s : State) (f : Fld) (v : Nat) : (s.peak f v).build = s.build := by rw [peak_eq]

theorem keepsLock_guardRegs (s : State) : KeepsLock s s.guardRegs := keepsLock_of_keepsRegs (by simp [State.guardRegs]) (keepsRegs_guardRegs s) (by decide)

/-! ### The end of a snapshot -/

theorem keepsLock_forward (s : State) (w : GWrite) (now : GuardClock) : KeepsLock s (s.forward w now) := by
  unfold State.forward
  extract_lets g s1 s2
  have h : KeepsLock s s2 := .trans (t := s1) (keepsLock_of_regs rfl rfl) (keepsLock_peak s1 .grdStallMaxNs _ rfl)
  exact h.may ((keepsLock_set _ .grdOverstallsCount _ rfl).trans (keepsLock_set _ .grdStatOverstall 1 rfl))

theorem keepsLock_guardAbandon (s : State) : KeepsLock s s.guardAbandon := by
  unfold State.guardAbandon
  extract_lets g clk now writes g1 s1
  have h1 : KeepsLock s s1 := keepsLock_of_regs rfl rfl
  have h2 := h1.trans (keepsLock_foldl writes (fun a w => a.forward w now) (fun a w => keepsLock_forward a w now) s1)
  exact (h2.trans (keepsLock_set _ .grdStatAbandoned 1 rfl)).trans (keepsLock_guardRegs _)

theorem keepsLock_endEntries {α : Type} (l : List α) (uid : α → Nat) (r : α → Result) (s : State) :
    KeepsLock s (l.foldl (fun a x => a.endEntry (uid x) (r x)) s) :=
  keepsLock_foldl _ _ (fun _ _ => (endEntry_only _ _ _).lock) s

theorem keepsLock_dropJobs (l : List Nat) (s : State) : KeepsLock s (l.foldl (fun a j => a.dropJob j) s) :=
  keepsLock_foldl _ _ (fun s a => keepsLock_of_regs (t := s.dropJob a) rfl rfl) s

theorem keepsLock_dropSets (s : State) (p : FptSet → Bool) : KeepsLock s (s.dropSets p) :=
  .trans (t := { s with prints := s.prints.filter (fun x => !p x) }) (keepsLock_of_regs rfl rfl) (keepsLock_set _ .digFptUsedUsed _ rfl)

theorem keepsLock_closeSnap (s : State) (x : Snap) (status : Nat) : KeepsLock s (s.closeSnap x status) := by
  unfold State.closeSnap
  extract_lets s1 s2
  have h1 : KeepsLock s s1 := (keepsLock_dropJobs _ s).trans (keepsLock_of_regs rfl rfl)
  have h2 : KeepsLock s s2 := h1.trans (keepsLock_ite (.refl s1) (keepsLock_dropSets s1 _))
  exact (h2.trans (keepsLock_set s2 .grdStatUnpromised 0 rfl)).trans (keepsLock_endEntries _ _ _ _)

theorem keepsLock_endSnap (s : State) (status : Nat) : KeepsLock s (s.endSnap status) := by
  unfold State.endSnap
  split
  · exact .refl s
  · exact .trans (t := { s with ckpt := { s.ckpt with snap := none } }) (keepsLock_of_regs rfl rfl)
      ((keepsLock_closeSnap _ _ status).trans
      (keepsLock_set _ .fjCkptStatCommitPending 0 rfl))

theorem keepsLock_writeDesc (s : State) (k state step : Nat) : KeepsLock s (s.writeDesc k state step) := by
  unfold State.writeDesc
  extract_lets t
  have hown : KeepsLock s t := (entryOnly_fabWrite _ _ _ _ _ _).lock.trans (keepsLock_putSlot _ _ _)
  exact hown.may (remoteWrite_only _ _ _ _ _ _ _ _).lock

theorem keepsLock_snapDestFail (s : State) (job kind status : Nat) : KeepsLock s (s.snapDestFail job kind status) := by
  unfold State.snapDestFail
  split
  · exact .refl s
  · exact keepsLock_of_regs rfl rfl

theorem keepsLock_abandonSnap (s : State) (status : Nat) (slot : Bool) : KeepsLock s (s.abandonSnap status slot) := by
  unfold State.abandonSnap
  split
  · exact .refl s
  · extract_lets s1 s2
    have h1 : KeepsLock s s1 := keepsLock_ite (keepsLock_guardAbandon s) (.refl s)
    have h2 : KeepsLock s1 s2 := keepsLock_ite (keepsLock_writeDesc _ _ _ _) (.refl _)
    exact (h1.trans h2).trans (keepsLock_endSnap _ status)

/-! ### The end of start-up, and FAULT -/

theorem keepsLock_setEng (s : State) (code : Nat) : KeepsLock s (s.setEng code) :=
  keepsLock_ite (.refl s) (keepsLock_of_regs rfl rfl)

theorem keepsLock_faultEntry (s : State) (code : Nat) : KeepsLock s (s.faultEntry code) := by
  unfold State.faultEntry
  extract_lets s1 b s2
  have h1 : KeepsLock s s1 := keepsLock_ite (keepsLock_guardAbandon s) (.refl s)
  have h2 : KeepsLock s1 s2 := keepsLock_of_regs rfl rfl
  have h3 := ((h1.trans h2).trans (keepsLock_set s2 .fjStateFault code rfl)).trans (keepsLock_set _ .fjBootInfoCode code rfl)
  exact ((h3.trans (keepsLock_setEng _ 6)).trans (keepsLock_send _ _)).trans (keepsLock_set _ .fjStateAwaitDriver 0 rfl)

theorem keepsLock_release0 (s : State) : KeepsLock s s.release0 := by
  unfold State.release0
  extract_lets me m s1
  have h1 : KeepsLock s s1 := (keepsLock_set s .fjBarrierMembers m rfl).trans (keepsLock_set _ .fjBarrierMissing _ rfl)
  exact keepsLock_ite (keepsLock_of_regs rfl rfl) (h1.trans (keepsLock_of_regs rfl rfl))

theorem keepsLock_arrive0 (s : State) : KeepsLock s s.arrive0 := by
  have hbarrier (t : State) : KeepsLock t t.barrier0 := keepsLock_ite (keepsLock_release0 t) (.refl t)
  unfold State.arrive0
  extract_lets me s1
  have h1 : KeepsLock s s1 := keepsLock_of_regs rfl rfl
  exact h1.trans (keepsLock_ite (keepsLock_of_regs rfl rfl) (keepsLock_ite ((keepsLock_modBoot _ _).trans (hbarrier _)) (keepsLock_of_regs rfl rfl)))

/-- The lock is set by step 7 of start-up, and no command opens it. -/
theorem keepsLock_up_locked (s : State) : KeepsLock s (s.up .fjStateLocked) := by
  refine ⟨rfl, fun f i hf => getI_setI_other s 1 (fun h => ?_), fun _ => by simp [State.flag, State.get, State.up, State.set, getI_setI_same]; decide⟩
  rw [← h.1] at hf
  revert hf
  decide

theorem keepsLock_step7 (s : State) : KeepsLock s s.step7 := by
  unfold State.step7
  split
  · exact (keepsLock_set s .fjBootInfoField _ rfl).trans (keepsLock_faultEntry _ _)
  · exact ((keepsLock_set s .grdTotalGranules _ rfl).trans (keepsLock_up_locked _)).trans (keepsLock_arrive0 _)

theorem keepsLock_step6Done (s : State) : KeepsLock s s.step6Done := by
  unfold State.step6Done
  exact keepsLock_ite (keepsLock_step7 s) (.refl s)

/-! ### Queue pairs and targets -/

theorem keepsLock_useFailed (s : State) (job : Nat) (u : XUse) (st detail : Nat) : KeepsLock s (s.useFailed job u st detail) := by
  unfold State.useFailed
  split
  · split
    · exact keepsLock_ite (.refl s) (keepsLock_ite (keepsLock_abandonSnap _ _ _) (keepsLock_snapDestFail _ _ _ _))
    · exact .refl s
  · refine keepsLock_ite (keepsLock_ite (keepsLock_abandonSnap _ _ _) (keepsLock_snapDestFail _ _ _ _)) ?_
    split <;> exact keepsLock_of_regs rfl rfl

theorem keepsLock_opEnds (s : State) (x : Xfer) (status : Nat) : KeepsLock s (s.opEnds x status) := by
  unfold State.opEnds
  extract_lets k c d y s1
  have h1 : KeepsLock s s1 := keepsLock_of_regs rfl rfl
  split
  · exact h1.trans (logRec_only _ _ _ _ _ _).lock
  · exact h1

theorem keepsLock_qpError (s : State) (q st : Nat) : KeepsLock s (s.qpError q st) := by
  unfold State.qpError
  refine keepsLock_ite (.refl s) ?_
  extract_lets ts mine theirs waits s1 s2 y s3 s4 s5 s6 s7 s8 s9
  have h1 : KeepsLock s s1 :=
    ((keepsLock_setI s .xptQpStateState q _ rfl).trans (keepsLock_setI _ .xptQpStateLastErr q _ rfl)).trans (keepsLock_set _ .xptStatQpError 1 rfl)
  have h3 : KeepsLock s1 s3 := keepsLock_of_regs rfl rfl
  have h4 : KeepsLock s3 s4 := keepsLock_foldl _ _ (fun a t => (keepsLock_setI a .xptTgtStateState t 1 rfl).trans (keepsLock_putTgt _ _)) s3
  have h5 : KeepsLock s4 s5 := keepsLock_foldl _ _ (fun _ _ => (keepsLock_opEnds _ _ _).trans (keepsLock_useFailed _ _ _ _ _)) s4
  have h6 : KeepsLock s5 s6 := keepsLock_foldl _ _ (fun _ _ => (keepsLock_opEnds _ _ _).trans (keepsLock_useFailed _ _ _ _ _)) s5
  have h7 : KeepsLock s6 s7 := keepsLock_foldl _ _ (fun _ _ => keepsLock_useFailed _ _ _ _ _) s6
  have h8 : KeepsLock s7 s8 :=
    keepsLock_foldl _ _ (fun a j => keepsLock_foldl _ _ (fun _ _ => keepsLock_useFailed _ _ _ _ _) a) s7
  have h9 : KeepsLock s8 s9 := keepsLock_foldl _ _ (fun a x => by
    extract_lets a1
    have ha : KeepsLock a a1 := keepsLock_ite (keepsLock_snapDestFail _ _ _ _) (.refl a)
    exact ha.may (keepsLock_snapDestFail _ _ _ _)) s8
  exact ((((((((h1.trans h3).trans h4).trans h5).trans h6).trans h7).trans h8).trans h9)).trans (keepsLock_step6Done _)

theorem keepsLock_connStep (s : State) (t step : Nat) : KeepsLock s (s.connStep t step) := by
  unfold State.connStep
  extract_lets cid q y x s0 b s1
  have h0 : KeepsLock s s0 := keepsLock_ite (.refl s) (keepsLock_putQp s _)
  exact ((h0.trans (keepsLock_putTgt s0 _)).trans (keepsLock_xfers s1 _)).trans (keepsLock_transmit _ _)

theorem keepsLock_connect (s : State) (t : Nat) : KeepsLock s (s.connect t) := by
  unfold State.connect
  extract_lets s1 s2
  have h2 : KeepsLock s s2 := (keepsLock_setI s .xptTgtStateState t 1 rfl).trans (keepsLock_putTgt s1 _)
  exact keepsLock_ite (.refl s) (keepsLock_ite (h2.may (keepsLock_connStep _ _ _)) (h2.may (keepsLock_connStep _ _ _)))

theorem keepsLock_qpToReset (s : State) (q : Nat) : KeepsLock s (s.qpToReset q) :=
  .trans (t := (s.dropOps q).putQp (Qp.fresh q)) (keepsLock_of_regs rfl rfl) (keepsLock_setI _ .xptQpStateState q qpReset rfl)

theorem keepsLock_qpToRts (s : State) (q : Nat) : KeepsLock s (s.qpToRts q) := by
  unfold State.qpToRts
  extract_lets y s1
  have h1 : KeepsLock s s1 := .trans (keepsLock_putQp s _) (keepsLock_setI _ .xptQpStateState q qpRts rfl)
  exact h1.trans (keepsLock_foldl _ _ (fun _ _ => keepsLock_connect _ _) s1)

theorem keepsLock_qpCommand (s : State) (cmd : Nat) : KeepsLock s (s.qpCommand cmd) := by
  unfold State.qpCommand
  extract_lets q t u
  have hu : KeepsLock s u := ((keepsLock_qpError s q _).trans (keepsLock_set t .xptStatQpError _ rfl)).trans (keepsLock_setI _ .xptQpStateLastErr q _ rfl)
  exact keepsLock_ite (hu.trans (keepsLock_qpToReset _ _)) (keepsLock_ite (keepsLock_qpToRts _ _) (.refl s))

/-! ### Keys, units, the device, the log's session -/

theorem keepsLock_nvmIssue (s : State) (o : NvmOp) : KeepsLock s (s.nvmIssue o) := keepsLock_ite (keepsLock_of_regs rfl rfl) (keepsLock_of_regs rfl rfl)

theorem keepsLock_ackLost (s : State) : KeepsLock s s.ackLost := by
  unfold State.ackLost
  extract_lets s1 s2 s3 s4
  have h2 : KeepsLock s s2 :=
    .trans (t := s1) (keepsLock_of_regs rfl rfl) (((keepsLock_set s1 .sealStatTableLost 0 rfl).trans (keepsLock_set _ .pwrJournalHalf 0 rfl)).trans
      (keepsLock_set _ .pwrJournalNext 1 rfl))
  exact keepsLock_ite (((h2.trans (keepsLock_nvmIssue _ _)).trans (keepsLock_nvmIssue _ _)).trans (keepsLock_nvmIssue _ _)) (.refl s)

theorem keepsLock_keyCommand (s : State) (v : Nat) : KeepsLock s (s.keyCommand v) := by
  have hbegin (b : Bytes) (arm : Bool) : KeepsLock s (s.keyBegin b arm) :=
    keepsLock_ite (.refl s) (.trans (t := { s with keyLoad := some ⟨b, arm, none⟩ }) (keepsLock_of_regs rfl rfl)
      ((keepsLock_set _ .sealKeyResultState 1 rfl).trans (keepsLock_set _ .sealKeyResultCause 0 rfl)))
  have herase (a : State) (k : Nat) : KeepsLock a (a.keyErase k) :=
    keepsLock_ite (.refl a) (keepsLock_ite (keepsLock_of_regs rfl rfl) (.trans (t := a.putKey (a.key k).erase) (keepsLock_of_regs rfl rfl)
      (keepsLock_set _ .fjIrqDoneKey 1 rfl)))
  unfold State.keyCommand
  extract_lets s1
  have h1 : KeepsLock s s1 := keepsLock_ite (hbegin _ _) (.refl s)
  exact h1.may (herase _ _)

theorem keepsLock_powerFaults (s : State) : KeepsLock s s.powerFaults := by
  have hwarned (a : State) (c : Nat) : KeepsLock a (a.raiseWarn c) := by
    unfold State.raiseWarn State.warned
    extract_lets b1 b2
    have h1 : KeepsLock a b1 := keepsLock_set a .fjCkptWarnsCount _ rfl
    have h2 : KeepsLock a b2 := h1.may (keepsLock_set b1 .fjCkptStatWarnPending 1 rfl)
    exact ((h2.trans (keepsLock_set b2 .patLastWarnCause c rfl)).trans (keepsLock_set _ .patStatWarned 1 rfl)).trans (keepsLock_of_regs rfl rfl)
  unfold State.powerFaults
  extract_lets s1 s2
  have h1 : KeepsLock s s1 := (keepsLock_set s .tickStatPowerFault 1 rfl).trans (keepsLock_set _ .tickStatSuspended 1 rfl)
  have h2 : KeepsLock s1 s2 := keepsLock_of_regs rfl rfl
  exact ((h1.trans h2).trans (logRec_only _ _ _ _ _ _).lock).trans (hwarned _ 7)

theorem keepsLock_addLost (s : State) (n : Nat) : KeepsLock s (s.addLost n) := by
  unfold State.addLost
  extract_lets u s1
  exact KeepsLock.may (keepsLock_set s .tickThrUsedUsed _ rfl) (keepsLock_powerFaults s1)

theorem keepsLock_failUnit (s : State) (c p : Nat) : KeepsLock s (s.failUnit c p) := by
  unfold State.failUnit
  extract_lets u s1
  split
  · exact keepsLock_of_regs rfl rfl
  · split
    · extract_lets s2
      have h2 : KeepsLock s s2 := keepsLock_of_regs rfl rfl
      exact (((h2.trans (keepsLock_logFirmware s2 2)).trans (keepsLock_set _ .patStatSubstBusy 1 rfl)).trans (logRec_only _ _ _ _ _ _).lock).trans
        (keepsLock_addLost _ _)
    · exact keepsLock_of_regs rfl rfl

theorem keepsLock_yljHeaderWrite (s : State) (closed : Bool) : KeepsLock s (s.yljHeaderWrite closed) := (entryOnly_fabWrite _ _ _ _ _ _).lock

theorem keepsLock_yDrainOne (s : State) : KeepsLock s s.yDrainOne := by
  unfold State.yDrainOne
  split
  · exact .refl s
  · extract_lets i c s1 y0 y
    exact keepsLock_ite ((keepsLock_yljHeaderWrite s true).trans (keepsLock_set _ .yljStatRecording 0 rfl))
      (.trans (entryOnly_fabWrite _ _ _ _ _ _).lock (keepsLock_yeljo s1 y))

theorem keepsLock_yDrainFuel (n : Nat) (s : State) : KeepsLock s (yDrainFuel n s) := by
  induction n generalizing s with
  | zero => exact .refl s
  | succ n ih => exact keepsLock_ite ((keepsLock_yDrainOne s).trans (ih _)) (.refl s)

theorem keepsLock_yClose (s : State) : KeepsLock s s.yClose := by
  unfold State.yClose
  extract_lets t
  have ht : KeepsLock s t := keepsLock_yDrainFuel _ s
  exact keepsLock_ite (ht.may ((keepsLock_yljHeaderWrite t true).trans (keepsLock_set _ .yljStatRecording 0 rfl))) (.refl s)

end Sys2Proof.Machine
end

section
/-! Host writes after the start-up lock (00 R14; 19 R501, R504). -/
namespace Sys2Proof.Machine

open Safety

/-! ### The pieces of a register write -/

theorem keepsLock_putBits (s : State) {accs : List Access} (hrwl : accs.contains .rwl = false) (hro : accs.contains .ro = false)
    (bits : List BitsOf) (i v : Nat) : KeepsLock s (s.putBits accs bits i v) := by
  obtain ⟨heq, hkeep⟩ := putBits_only s accs bits i v
  refine ⟨by rw [heq], fun f j hf => hkeep f j (fun _ _ _ => by rw [hf, hrwl]), fun hs => ?_⟩
  unfold State.flag State.get at *
  rwa [hkeep .fjStateLocked 0 (fun _ _ _ => hro)]

theorem keepsLock_putRw (s : State) (bits : List BitsOf) (i v : Nat) : KeepsLock s (s.putBits [.rw] bits i v) :=
  keepsLock_putBits s (by decide) (by decide) bits i v

theorem keepsLock_clearBits (s : State) (bits : List BitsOf) (i v : Nat) : KeepsLock s (s.clearBits bits i v) := by
  obtain ⟨heq, hkeep⟩ := clearBits_only s bits i v
  refine ⟨by rw [heq], fun f j hf => hkeep f j (fun _ _ _ => by rw [hf]; decide), fun hs => ?_⟩
  unfold State.flag State.get at *
  rwa [hkeep .fjStateLocked 0 (fun _ _ _ => by decide)]

theorem keepsLock_remap (s : State) (ctx id v : Nat) : KeepsLock s (s.remap ctx id v) := by
  unfold State.remap
  exact keepsLock_ite (keepsLock_set s .syncStatMapBusy 1 rfl)
    (((((keepsLock_setI s .syncMapPhys _ _ rfl).trans (keepsLock_setI _ .syncMapValid _ _ rfl)).trans (keepsLock_setI _ .syncMapSigOk _ _ rfl)).trans
      (keepsLock_setI _ .syncMapWaitOk _ _ rfl)).trans (keepsLock_setI _ .syncMapBarOk _ _ rfl))

theorem keepsLock_guardPeaks (s : State) : KeepsLock s s.guardPeaks :=
  (((keepsLock_set s .grdHoldPeak 0 rfl).trans (keepsLock_set _ .grdPoolPeak 0 rfl)).trans (keepsLock_set _ .grdSpillPeakPeak 0 rfl)).trans
    (keepsLock_set _ .grdStallMaxNs 0 rfl)

theorem keepsLock_retire (s : State) (c p : Nat) : KeepsLock s (s.retire c p) := by
  unfold State.retire
  exact keepsLock_ite (.refl s) (keepsLock_failUnit s c p)

/-- The action of a register, but for FJ_CTRL, FJ_CKPT_CTRL and STG_CTRL, leaves what is locked. -/
theorem keepsLock_actOn (s : State) {off : Nat} (h : off ≠ 0x0044 ∧ off ≠ 0x0110 ∧ off ≠ 0x3004) (v : Nat) (data : Bytes) :
    KeepsLock s (s.actOn off v data) := by
  obtain ⟨hctrl, hckpt, hstg⟩ := h
  unfold State.actOn
  split
  · exact absurd rfl hctrl
  · exact absurd rfl hckpt
  · exact keepsLock_of_regs rfl rfl
  · exact keepsLock_ite (keepsLock_of_regs rfl rfl) (.refl s)
  · exact keepsLock_ite (keepsLock_guardPeaks s) (.refl s)
  · exact absurd rfl hstg
  · unfold State.mcInvalidate
    extract_lets s1
    have h1 : KeepsLock s s1 := keepsLock_ite (keepsLock_of_regs rfl rfl) (.refl s)
    exact h1.may (keepsLock_of_regs rfl rfl)
  · exact keepsLock_ite (keepsLock_of_regs rfl rfl) (.refl s)
  · exact keepsLock_ite (keepsLock_ackLost s) (.refl s)
  · exact keepsLock_keyCommand s v
  · exact keepsLock_ite (keepsLock_set s .digFptPeakPeak 0 rfl) (.refl s)
  · exact keepsLock_ite (keepsLock_of_regs rfl rfl) (.refl s)
  · exact keepsLock_qpCommand s _
  · exact keepsLock_ite (keepsLock_retire s _ _) (.refl s)
  · exact keepsLock_set s .patEccWinCount _ rfl
  · exact keepsLock_ite (keepsLock_set s .pwrBusvNowMin 0xFFF rfl) (.refl s)
  · exact keepsLock_ite (keepsLock_yClose s) (.refl s)
  · exact .refl s

theorem keepsLock_regWrite {s : State} (hl : s.flag .fjStateLocked = true) {off : Nat} (h : off ≠ 0x0044 ∧ off ≠ 0x0110 ∧ off ≠ 0x3004)
    (v : Nat) (data : Bytes) : KeepsLock s (s.regWrite off v data) := by
  unfold State.regWrite
  split
  · exact .refl s
  · next r i _ =>
    refine keepsLock_ite (.refl s) ?_
    extract_lets s0 s1 s2 s3
    have h0 : KeepsLock s s0 := (logWrite_only s false 0 off 4 v).lock
    have h1 : KeepsLock s0 s1 := by
      unfold s1 rwAccs
      rw [if_pos (h0.shut hl)]
      split <;> exact keepsLock_putBits s0 (by decide) (by decide) _ _ _
    have h2 : KeepsLock s1 s2 := by
      unfold s2
      rw [if_pos hl]
      exact keepsLock_clearBits s1 _ _ _
    have h3 : KeepsLock s s3 := ((h0.trans h1).trans h2).trans (keepsLock_actOn s2 h v data)
    refine keepsLock_ite (h0.trans (keepsLock_remap _ _ _ _)) (keepsLock_ite (h0.trans (keepsLock_of_regs rfl rfl)) (keepsLock_ite ?_ ?_))
    · exact h3.trans (irqEnAgain_only _ _ _).lock
    · exact h3.trans (signalAgain_only _ _ _).lock

/-! ### Rings, sync pages, MSI-X tables -/

theorem keepsLock_ringConfigure (s : State) (ctx ring v : Nat) (row : MapRow) : KeepsLock s (s.ringConfigure ctx ring v row) := by
  unfold State.ringConfigure
  extract_lets i s1
  have h1 : KeepsLock s s1 := keepsLock_putRw s _ _ _
  have h2 : KeepsLock s1 ((((s1.setI .ringHeadHead i 0).setI .ringTailTail i 0).setI .cringTailTail i 0).setI .cringTailPhase i 1) :=
    ((keepsLock_setI s1 .ringHeadHead i 0 rfl).trans (keepsLock_setI _ .ringTailTail i 0 rfl)).trans
      ((keepsLock_setI _ .cringTailTail i 0 rfl).trans (keepsLock_setI _ .cringTailPhase i 1 rfl))
  exact h1.may (h2.trans (keepsLock_of_regs rfl rfl))

theorem keepsLock_doorbellAt (s : State) (ctx ring tail : Nat) : KeepsLock s (s.doorbellAt ctx ring tail) := by
  unfold State.doorbellAt
  extract_lets i s1
  have h1 : KeepsLock s s1 := (logRec_only s _ _ _ _ _).lock
  exact h1.trans (keepsLock_ite (keepsLock_setI s1 .ringStatTailErr i 1 rfl) (keepsLock_setI s1 .ringTailTail i tail rfl))

theorem keepsLock_cringHeadAt (s : State) (ctx ring v : Nat) : KeepsLock s (s.cringHeadAt ctx ring v) := by
  unfold State.cringHeadAt
  exact keepsLock_ite (.refl s) ((keepsLock_setI s .cringHeadHead _ _ rfl).trans (drainCmplFuel_only _ _ _ _).lock)

theorem keepsLock_ringWrite (s : State) (tenant : Bool) (n off v : Nat) : KeepsLock s (s.ringWrite tenant n off v) := by
  unfold State.ringWrite
  split
  · exact .refl s
  · extract_lets ring at_ log fixed
    have hlog (a : State) : KeepsLock a (log a) := (logWrite_only a tenant n at_ 4 v).lock
    have hput (bits : List BitsOf) (i : Nat) : KeepsLock s ((log s).putBits [.rw] bits i v) := (hlog s).trans (keepsLock_putRw _ _ _ _)
    split
    · exact keepsLock_ite (.refl s) ((hlog s).trans (keepsLock_ringConfigure _ _ _ _ _))
    · exact keepsLock_doorbellAt s _ _ _
    · exact (hlog s).trans (keepsLock_cringHeadAt _ _ _ _)
    · exact (hlog s).trans (keepsLock_clearBits _ _ _ _)
    · exact (hlog s).trans (keepsLock_clearBits _ _ _ _)
    · exact keepsLock_ite (.refl s) (hput _ _)
    · exact keepsLock_ite (.refl s) (hput _ _)
    · exact keepsLock_ite (.refl s) (hput _ _)
    · exact keepsLock_ite (.refl s) (hput _ _)
    · exact keepsLock_ite (.refl s) (hput _ _)
    · exact .refl s

theorem keepsLock_updateWord (s : State) (phys v : Nat) (sw : Bool) (ctx ring : Nat) : KeepsLock s (s.updateWord phys v sw ctx ring) := by
  have hend (a : State) (w : Waiter) (v : Nat) : KeepsLock a (a.endSync w.uid stOk v) :=
    .trans (t := a.dropWaiter w.uid) (keepsLock_of_regs rfl rfl) (endEntry_only _ _ _).lock
  have hput (w : SyncWord) : KeepsLock s ((s.putWord w).bump .syncSignalsCount 1) :=
    .trans (t := s.putWord w) (keepsLock_of_regs rfl rfl) (keepsLock_set _ .syncSignalsCount _ rfl)
  unfold State.updateWord
  extract_lets w
  exact keepsLock_ite (.refl s) ((hput _).trans (keepsLock_foldl _ _ (fun a w => hend a w _) _))

theorem keepsLock_pageWrite (s : State) (ctx id v : Nat) (add : Bool) : KeepsLock s (s.pageWrite ctx id v add) := by
  unfold State.pageWrite
  split
  · exact .refl s
  · exact (keepsLock_updateWord s _ _ _ _ _).trans (logRec_only _ _ _ _ _ _).lock

theorem keepsLock_sendPending (s : State) (n : Nat) : KeepsLock s (s.sendPending n) := by
  unfold State.sendPending
  refine keepsLock_ite (.refl s) (keepsLock_foldl _ _ (fun a v => ?_) s)
  extract_lets p
  exact keepsLock_ite ((keepsLock_setI a .fjMsixPbaPending n _ rfl).trans (message_only _ _ _).lock) (.refl a)

theorem keepsLock_msixWrite (s : State) (tenant : Bool) (n off v : Nat) : KeepsLock s (s.msixWrite tenant n off v) := by
  unfold State.msixWrite
  split
  · exact .refl s
  · exact ((logWrite_only s _ _ _ _ _).lock.trans (keepsLock_putRw _ _ _ _)).trans (keepsLock_sendPending _ n)

/-! ### A whole write -/

theorem keepsLock_wordWrite {s : State} (hl : s.flag .fjStateLocked = true) (tenant : Bool) (n : Nat) {off : Nat}
    (h : off ≠ 0x0044 ∧ off ≠ 0x0110 ∧ off ≠ 0x3004) (v : Nat) (data : Bytes) : KeepsLock s (s.wordWrite tenant n off v data) := by
  unfold State.wordWrite State.syncWrite
  refine keepsLock_ite (keepsLock_ite (keepsLock_ringWrite _ _ _ _ _) (keepsLock_ite (keepsLock_pageWrite _ _ _ _ _)
    (keepsLock_ite (keepsLock_msixWrite _ _ _ _ _) (.refl s)))) (keepsLock_ite (keepsLock_ringWrite _ _ _ _ _) ?_)
  exact keepsLock_ite (keepsLock_pageWrite _ _ _ _ _) (keepsLock_ite (keepsLock_msixWrite _ _ _ _ _) (keepsLock_regWrite hl h v data))

/-- In FAULT too: an action of the first word may have brought it about before the second word acts. -/
theorem keepsLock_wordAny {s : State} (hl : s.flag .fjStateLocked = true) (tenant : Bool) (n : Nat) {off : Nat}
    (h : off ≠ 0x0044 ∧ off ≠ 0x0110 ∧ off ≠ 0x3004) (v : Nat) (data : Bytes) : KeepsLock s (s.wordAny tenant n off v data) := by
  have hfault : KeepsLock s (s.wordInFault tenant n off v data) := by
    unfold State.wordInFault
    rw [if_neg h.1]
    refine keepsLock_ite (keepsLock_ite (keepsLock_msixWrite _ _ _ _ _) (.refl s)) (keepsLock_ite (keepsLock_msixWrite _ _ _ _ _)
      (keepsLock_ite ?_ (.refl s)))
    split
    · exact keepsLock_putRw s _ _ _
    · exact .refl s
  unfold State.wordAny
  rw [if_neg (c := s.eng = 1 ∧ ¬ s.flag .fjStateLocked = true) (fun hboot => hboot.2 hl)]
  exact keepsLock_ite hfault (keepsLock_wordWrite hl tenant n h v data)

theorem keepsLock_hostTurn (s : State) (ofs : Nat) : KeepsLock s (s.hostTurn ofs) :=
  keepsLock_of_keepsRegs (fs := [.fjStateRetainPend]) (by rw [hostTurn_eq]) (fun f i hf => getI_hostTurn s ofs (by simpa using hf) i) rfl

/-- A host write through no view, or of no size that registers take, does nothing; any other acts word by word (00 R17, 19 R501). -/
theorem hostWrite_taken {s : State} (hopen : HostOpen s) (tenant : Bool) (n off size v ofs : Nat) (data : Bytes) :
    s.hostWrite tenant n off size v ofs data = s ∨
      sizeOk off size = true ∧ s.hostWrite tenant n off size v ofs data = (s.hostTurn ofs).writeWords tenant n off size v data := by
  cases hv : viewOk s tenant n with
  | false => exact .inl (by rw [State.hostWrite, if_pos (by simp [hv])])
  | true =>
    cases hs : sizeOk off size with
    | true => exact .inr ⟨rfl, hostWrite_open hopen hv hs⟩
    | false =>
      obtain ⟨heng, hhold, hwake, -, hreplay⟩ := hopen
      refine .inl ?_
      unfold State.hostWrite
      rw [if_neg (by rcases heng with e | e <;> simp [State.holdingUp, hhold, hv, e]), if_neg (by rcases heng with e | e <;> simp [hwake, e]),
        if_neg (by simp [replayDrops, hreplay]), if_pos (by simp [hs])]

theorem keepsLock_hostWrite {s : State} (hopen : HostOpen s) (tenant : Bool) (n : Nat) {off : Nat}
    (h : off / 8 * 8 ∉ [0x0040, 0x0110, 0x3000]) (size v ofs : Nat) (data : Bytes) :
    KeepsLock s (s.hostWrite tenant n off size v ofs data) := by
  simp only [List.mem_cons, List.not_mem_nil, or_false, not_or] at h
  rcases hostWrite_taken hopen tenant n off size v ofs data with hnot | ⟨hs, hturn⟩
  · rw [hnot]
    exact .refl s
  · rw [hturn]
    have hlock := hostTurn_locked hopen ofs
    have h1 := keepsLock_wordAny hlock tenant n (off := off) (by omega) (v % 2 ^ 32) data
    simp only [sizeOk, Bool.or_eq_true, Bool.and_eq_true, beq_iff_eq] at hs
    unfold State.writeWords
    refine (keepsLock_hostTurn s ofs).trans ?_
    split
    · exact h1.trans (keepsLock_wordAny (h1.shut hlock) tenant n (by omega) _ data)
    · exact h1

end Sys2Proof.Machine

namespace Sys2Proof.Proofs

open Sys2Proof.Machine Sys2Proof.Safety

/-- Settles O58: every word of a host write keeps the locked fields, by cases on what its offset reaches, and the lock stays shut
between the two words of a 64-bit write. -/
theorem lockedFieldsStay : Obligations.LockedFieldsStay := by
  unfold Obligations.LockedFieldsStay
  intro s tenant ctx off size value ofs data hopen hoff
  refine ⟨_, rfl, fun f i hf hhost => ?_⟩
  have hmsg : f ≠ .fjMsixPbaPending := fun h => hhost (h ▸ by decide)
  have hkeep := keepsLock_hostWrite hopen tenant ctx hoff size value ofs data
  rw [getI_finishState hkeep.build hmsg, hkeep.fields f i hf]

end Sys2Proof.Proofs
end

section
/-! What a write through a tenant's view can change (19 R501). -/
namespace Sys2Proof.Machine

open Safety

/-- The registers that a tenant's write may change whatever their context: those of the host access, of completions, and the count of
signals. -/
def tenantFlds : List Fld := hostFlds ++ entryFlds ++ [.syncSignalsCount]

/-- Only what a write through the view of context n may change does: the registers of the context, what its signals release, and the wake
that every host access may bring. -/
def TenantOnly (n : Nat) (s t : State) : Prop :=
  t = { s with
    regs := t.regs, out := t.out, yeljo := t.yeljo, entries := t.entries, groups := t.groups, rings := t.rings, xfers := t.xfers,
    pendWr := t.pendWr, tag := t.tag, words := t.words, waiters := t.waiters, tick := t.tick, eng := t.eng } ∧
  ∀ f i, f ∉ tenantFlds → cellCtx ⟨f, i, 0⟩ ≠ some n → t.getI f i = s.getI f i

theorem TenantOnly.refl (n : Nat) (s : State) : TenantOnly n s s := ⟨rfl, fun _ _ _ _ => rfl⟩

theorem TenantOnly.trans {n : Nat} {s t u : State} (h : TenantOnly n s t) (k : TenantOnly n t u) : TenantOnly n s u :=
  ⟨by rw [k.1, h.1], fun f i hf hc => (k.2 f i hf hc).trans (h.2 f i hf hc)⟩

theorem tenantOnly_ite {n : Nat} {s a b : State} {p : Prop} [Decidable p] (ha : TenantOnly n s a) (hb : TenantOnly n s b) :
    TenantOnly n s (if p then a else b) := by split <;> assumption

theorem tenantOnly_foldl {n : Nat} {α : Type} (l : List α) (g : State → α → State) (h : ∀ s a, TenantOnly n s (g s a)) (s : State) :
    TenantOnly n s (l.foldl g s) := by
  induction l generalizing s with
  | nil => exact .refl n s
  | cons a t ih => exact (h s a).trans (ih _)

theorem EntryOnly.tenant {s t : State} (h : EntryOnly s t) (n : Nat) : TenantOnly n s t := by
  obtain ⟨heq, hregs⟩ := h
  exact ⟨by rw [heq], fun f i hf _ => hregs f i (fun hm => hf (by simp [tenantFlds, hm]))⟩

/-- A register of the context itself. -/
theorem tenantOnly_setOwn {n : Nat} {f : Fld} {i : Nat} (h : cellCtx ⟨f, i, 0⟩ = some n) (s : State) (v : Nat) :
    TenantOnly n s (s.setI f i v) :=
  ⟨rfl, fun _ _ _ hc => getI_setI_other s v (fun e => hc (e.1 ▸ e.2 ▸ h))⟩

theorem tenantOnly_setShared {f : Fld} (h : f ∈ tenantFlds) (n : Nat) (s : State) (i v : Nat) : TenantOnly n s (s.setI f i v) :=
  ⟨rfl, fun _ _ hf _ => getI_setI_other s v (fun e => hf (e.1 ▸ h))⟩

/-- Bits of a register of the context. -/
theorem tenantOnly_putBits {n i : Nat} {bits : List BitsOf} (h : ∀ b ∈ bits, cellCtx ⟨b.fld, i, 0⟩ = some n) (accs : List Access) (v : Nat)
    (s : State) : TenantOnly n s (s.putBits accs bits i v) := by
  unfold State.putBits
  induction bits generalizing s with
  | nil => exact .refl n s
  | cons b t ih =>
    rw [List.foldl_cons]
    exact .trans (tenantOnly_ite (tenantOnly_setOwn (h b (by simp)) s _) (.refl n s)) (ih (fun c hc => h c (List.mem_cons_of_mem b hc)) _)

theorem tenantOnly_clearBits {n i : Nat} {bits : List BitsOf} (h : ∀ b ∈ bits, cellCtx ⟨b.fld, i, 0⟩ = some n) (v : Nat) (s : State) :
    TenantOnly n s (s.clearBits bits i v) := by
  unfold State.clearBits
  induction bits generalizing s with
  | nil => exact .refl n s
  | cons b t ih =>
    rw [List.foldl_cons]
    exact .trans (tenantOnly_ite (tenantOnly_setOwn (h b (by simp)) s _) (.refl n s)) (ih (fun c hc => h c (List.mem_cons_of_mem b hc)) _)

/-! ### Which registers a context's blocks hold -/

theorem cellCtx_ring {f : Fld} (h : (fldInfo f).owner = .ring) {n ring : Nat} (hr : ring < 4) : cellCtx ⟨f, 4 * n + ring, 0⟩ = some n := by
  simp only [cellCtx, h, Option.some.injEq]
  omega

theorem cellCtx_msix {f : Fld} (h : (fldInfo f).owner = .msix) {n k : Nat} (hk : k < 64) : cellCtx ⟨f, 64 * n + k, 0⟩ = some n := by
  simp only [cellCtx, h, Option.some.injEq]
  omega

theorem mem_of_findIn {rows : List MapRow} {off k : Nat} {r : MapRow} (h : findIn rows off = some (r, k)) : r ∈ rows ∧ k < r.n := by
  obtain ⟨r', hr', hsome⟩ := List.exists_of_findSome?_eq_some h
  dsimp only at hsome
  split at hsome
  · cases hsome
  · rw [Option.ite_none_right_eq_some] at hsome
    obtain ⟨⟨hk, -⟩, heq⟩ := hsome
    cases heq
    exact ⟨hr', hk⟩

theorem ringRow_ctx {n off i : Nat} {row : MapRow} (h : ringRow n off = some (row, i)) :
    i = 4 * n + off / 0x80 % 4 ∧ ∀ b ∈ row.bits, cellCtx ⟨b.fld, i, 0⟩ = some n := by
  obtain ⟨⟨r, k⟩, hfind, heq⟩ := Option.map_eq_some_iff.mp h
  obtain ⟨rfl, rfl⟩ := Prod.mk.inj heq
  have hring : ∀ r ∈ ringMap, ∀ b ∈ r.bits, (fldInfo b.fld).owner = .ring := by decide
  exact ⟨rfl, fun b hb => cellCtx_ring (hring r (mem_of_findIn hfind).1 b hb) (by omega)⟩

theorem msixRow_ctx {n off i : Nat} {row : MapRow} (h : msixRow n off = some (row, i)) : ∀ b ∈ row.bits, cellCtx ⟨b.fld, i, 0⟩ = some n := by
  obtain ⟨⟨r, k⟩, hfind, heq⟩ := Option.map_eq_some_iff.mp h
  obtain ⟨rfl, rfl⟩ := Prod.mk.inj heq
  obtain ⟨hmem, hk⟩ := mem_of_findIn hfind
  have hmsix : ∀ r ∈ msixMap, r.n = 64 ∧ ∀ b ∈ r.bits, (fldInfo b.fld).owner = .msix := by decide
  exact fun b hb => cellCtx_msix ((hmsix r hmem).2 b hb) (by have := (hmsix r hmem).1; omega)

/-! ### The writes -/

theorem tenantOnly_doorbellAt (s : State) (n : Nat) {ring : Nat} (hr : ring < 4) (tail : Nat) : TenantOnly n s (s.doorbellAt n ring tail) := by
  unfold State.doorbellAt
  extract_lets i s1
  have h1 : TenantOnly n s s1 := (logRec_only s _ _ _ _ _).entry.tenant n
  exact h1.trans (tenantOnly_ite (tenantOnly_setOwn (f := .ringStatTailErr) (cellCtx_ring rfl hr) s1 1)
    (tenantOnly_setOwn (f := .ringTailTail) (cellCtx_ring rfl hr) s1 tail))

theorem tenantOnly_cringHeadAt (s : State) (n : Nat) {ring : Nat} (hr : ring < 4) (v : Nat) : TenantOnly n s (s.cringHeadAt n ring v) := by
  unfold State.cringHeadAt
  exact tenantOnly_ite (.refl n s) ((tenantOnly_setOwn (f := .cringHeadHead) (cellCtx_ring rfl hr) s _).trans
    ((drainCmplFuel_only _ _ _ _).tenant n))

theorem tenantOnly_ringConfigure (s : State) (n : Nat) {ring : Nat} (hr : ring < 4) (v : Nat) {row : MapRow}
    (hrow : ∀ b ∈ row.bits, cellCtx ⟨b.fld, rix n ring, 0⟩ = some n) : TenantOnly n s (s.ringConfigure n ring v row) := by
  unfold State.ringConfigure
  extract_lets i s1
  have h1 : TenantOnly n s s1 := tenantOnly_putBits hrow _ v s
  have hown {f : Fld} (hf : (fldInfo f).owner = .ring) (a : State) (v : Nat) : TenantOnly n a (a.setI f i v) :=
    tenantOnly_setOwn (cellCtx_ring hf hr) a v
  have h2 := ((hown (f := .ringHeadHead) rfl s1 0).trans (hown (f := .ringTailTail) rfl _ 0)).trans
    ((hown (f := .cringTailTail) rfl _ 0).trans (hown (f := .cringTailPhase) rfl _ 1))
  exact tenantOnly_ite ((h1.trans h2).trans ((entryOnly_putRing _ _).tenant n)) h1

theorem tenantOnly_ringWrite (s : State) (n off v : Nat) : TenantOnly n s (s.ringWrite true n off v) := by
  unfold State.ringWrite
  split
  · exact .refl n s
  · next row i hrow =>
    obtain ⟨hi, hbits⟩ := ringRow_ctx hrow
    extract_lets ring at_ log fixed
    have hr : ring < 4 := Nat.mod_lt _ (by decide)
    have hlog (a : State) : TenantOnly n a (log a) := (logWrite_only a true n at_ 4 v).entry.tenant n
    have hput := (hlog s).trans (tenantOnly_putBits hbits [.rw] v (log s))
    have hclear := (hlog s).trans (tenantOnly_clearBits hbits v (log s))
    have hput' : TenantOnly n s (if fixed then s else (log s).putBits [.rw] row.bits i v) := tenantOnly_ite (.refl n s) hput
    split
    · exact tenantOnly_ite (.refl n s) ((hlog s).trans (tenantOnly_ringConfigure _ n hr v (by rw [hi] at hbits; exact hbits)))
    · exact tenantOnly_doorbellAt s n hr _
    · exact (hlog s).trans (tenantOnly_cringHeadAt _ n hr _)
    · exact hclear
    · exact hclear
    · exact hput'
    · exact hput'
    · exact hput'
    · exact hput'
    · exact hput'
    · exact .refl n s

theorem tenantOnly_updateWord (n : Nat) (s : State) (phys v : Nat) (sw : Bool) (ctx ring : Nat) :
    TenantOnly n s (s.updateWord phys v sw ctx ring) := by
  have hend (a : State) (w : Waiter) (v : Nat) : TenantOnly n a (a.endSync w.uid stOk v) :=
    .trans (t := a.dropWaiter w.uid) ⟨rfl, fun _ _ _ _ => rfl⟩ ((endEntry_only _ _ _).tenant n)
  have hput (w : SyncWord) : TenantOnly n s ((s.putWord w).bump .syncSignalsCount 1) :=
    .trans (t := s.putWord w) ⟨rfl, fun _ _ _ _ => rfl⟩ (tenantOnly_setShared (by decide) n _ 0 _)
  unfold State.updateWord
  extract_lets w
  exact tenantOnly_ite (.refl n s) ((hput _).trans (tenantOnly_foldl _ _ (fun a w => hend a w _) _))

theorem tenantOnly_pageWrite (s : State) (n id v : Nat) (add : Bool) : TenantOnly n s (s.pageWrite n id v add) := by
  unfold State.pageWrite
  split
  · exact .refl n s
  · exact (tenantOnly_updateWord n s _ _ _ _ _).trans ((logRec_only _ _ _ _ _ _).entry.tenant n)

theorem tenantOnly_sendPending (s : State) (n : Nat) : TenantOnly n s (s.sendPending n) := by
  unfold State.sendPending
  refine tenantOnly_ite (.refl n s) (tenantOnly_foldl _ _ (fun a v => ?_) s)
  extract_lets p
  exact tenantOnly_ite ((tenantOnly_setShared (by decide) n a n _).trans ((message_only _ _ _).entry.tenant n)) (.refl n a)

theorem tenantOnly_msixWrite (s : State) (n off v : Nat) : TenantOnly n s (s.msixWrite true n off v) := by
  unfold State.msixWrite
  split
  · exact .refl n s
  · next row i hrow =>
    exact (((logWrite_only s _ _ _ _ _).entry.tenant n).trans (tenantOnly_putBits (msixRow_ctx hrow) _ _ _)).trans (tenantOnly_sendPending _ n)

theorem tenantOnly_wordAny (s : State) (n off v : Nat) (data : Bytes) : TenantOnly n s (s.wordAny true n off v data) := by
  have hmsix : TenantOnly n s (if 0x8000 ≤ off ∧ off < 0x8400 then s.msixWrite true n (off - 0x8000) v else s) :=
    tenantOnly_ite (tenantOnly_msixWrite s n _ v) (.refl n s)
  unfold State.wordAny State.wordInFault State.wordInBoot State.wordWrite State.syncWrite
  rw [if_pos rfl, if_pos rfl, if_pos rfl]
  exact tenantOnly_ite hmsix (tenantOnly_ite hmsix (tenantOnly_ite (tenantOnly_ringWrite s n _ v)
    (tenantOnly_ite (tenantOnly_pageWrite s n _ v _) hmsix)))

theorem tenantOnly_hostTurn (n : Nat) (s : State) (ofs : Nat) : TenantOnly n s (s.hostTurn ofs) := by
  refine ⟨?_, fun f i hf _ => getI_hostTurn s ofs (fun h => absurd (by decide) (h ▸ hf)) i⟩
  rw [hostTurn_eq]

theorem tenantOnly_hostWrite {s : State} (hopen : HostOpen s) (n off size v ofs : Nat) (data : Bytes) :
    TenantOnly n s (s.hostWrite true n off size v ofs data) := by
  rcases hostWrite_taken hopen true n off size v ofs data with hnot | ⟨-, hturn⟩
  · rw [hnot]
    exact .refl n s
  · rw [hturn]
    unfold State.writeWords
    have h1 := (tenantOnly_hostTurn n s ofs).trans (tenantOnly_wordAny (s.hostTurn ofs) n off (v % 2 ^ 32) data)
    exact tenantOnly_ite (h1.trans (tenantOnly_wordAny _ n _ _ data)) h1

end Sys2Proof.Machine

namespace Sys2Proof.Proofs

open Sys2Proof.Machine Sys2Proof.Safety

/-- Settles O59: rings, sync page and message table of the view are the context's own, by cases on what each word reaches; the waiting
entries of others that a signal releases end as `EntryOnly` says. -/
theorem tenantsAreKeptApart : Obligations.TenantsAreKeptApart := by
  unfold Obligations.TenantsAreKeptApart
  intro s ctx off size value ofs data hopen
  refine ⟨_, rfl, ?_⟩
  obtain ⟨hunits, hregs⟩ := tenantOnly_hostWrite hopen ctx off size value ofs data
  simp only [finishState_keys, finishState_qps, finishState_guard, finishState_tables, finishState_store, finishState_jobs, finishState_ckpt]
  refine ⟨by rw [hunits], by rw [hunits], by rw [hunits], by rw [hunits], by rw [hunits], by rw [hunits], by rw [hunits], fun f i hf hc => ?_⟩
  have hmsg : f ≠ .fjMsixPbaPending := fun h => hf (h ▸ by decide)
  rw [getI_finishState (by rw [hunits]) hmsg, hregs f i hf hc]

end Sys2Proof.Proofs
end

section
/-! What the loss of power, and a COLD or PACKAGE reset, leave (16 R448, R451). -/
namespace Sys2Proof.Machine

open Safety

/-- A register whose cells were filtered out reads its reset value. -/
theorem getI_of_filter {t : State} {l : List Cell} {p : Cell → Bool} (hr : t.regs = l.filter p) {f : Fld} {i : Nat}
    (h : ∀ c : Cell, c.fld = f → c.idx = i → p c = false) : t.getI f i = fldReset t.build f i := by
  have hnone : findCell f i (l.filter p) = none := by
    clear hr
    induction l with
    | nil => rfl
    | cons c l ih =>
      rw [List.filter_cons]
      split
      · next hc =>
        rw [findCell, if_neg, ih]
        intro hfound
        simp only [Bool.and_eq_true, beq_iff_eq] at hfound
        rw [h c hfound.1 hfound.2] at hc
        cases hc
      · exact ih
  unfold State.getI
  rw [hr, hnone]

/-- A register whose cells a filter leaves in place reads as before. -/
theorem getI_filter_of_kept {s t : State} {p : Cell → Bool} (hb : t.build = s.build) (hr : t.regs = s.regs.filter p) {f : Fld} {i : Nat}
    (h : ∀ c : Cell, c.fld = f → c.idx = i → p c = true) : t.getI f i = s.getI f i := by
  have hfind : ∀ l : List Cell, findCell f i (l.filter p) = findCell f i l := by
    intro l
    induction l with
    | nil => rfl
    | cons c l ih =>
      rw [List.filter_cons]
      split
      · rw [findCell, findCell, ih]
      · next hc =>
        rw [findCell, if_neg, ih]
        intro hfound
        simp only [Bool.and_eq_true, beq_iff_eq] at hfound
        exact hc (h c hfound.1 hfound.2)
  unfold State.getI
  rw [hr, hfind, hb]

theorem getI_blank (s : State) {f : Fld} (hf : (fldInfo f).keep ≠ .always) (i : Nat) : s.blank.getI f i = fldReset s.build f i :=
  getI_of_filter (t := s.blank) rfl (fun c hc _ => by simp [keepsCold, hc, hf])

theorem getI_coldStart (s : State) (cause inst present : Nat) {f : Fld} (hf : f ∉ [Fld.fjPosInst, .fjPosPresent, .fjStateCause]) (i : Nat) :
    (s.coldStart cause inst present).getI f i = s.blank.getI f i := by
  have hkeeps : KeepsRegs [Fld.fjPosInst, .fjPosPresent, .fjStateCause] s.blank
      (((s.blank.set .fjPosInst inst).set .fjPosPresent present).set .fjStateCause cause) :=
    keepsRegs_trans (keepsRegs_trans (keepsRegs_setI (by decide) s.blank 0 _) (keepsRegs_setI (by decide) _ 0 _))
      (keepsRegs_setI (by decide) _ 0 _)
  exact hkeeps f i hf

theorem coldState_finish (s : State) (cause inst present : Nat) (hcause : cause < 2) :
    ColdState inst present cause s (finishState s (s.coldStart cause inst present)) := by
  have hb : (s.coldStart cause inst present).build = s.build := rfl
  have hget (f : Fld) : (s.coldStart cause inst present).get f =
      (((s.blank.set .fjPosInst inst).set .fjPosPresent present).set .fjStateCause cause).get f := rfl
  have hinst : (s.coldStart cause inst present).get .fjPosInst = inst % 16 := by
    rw [hget, get_set, if_neg (by decide), get_set, if_neg (by decide), get_set, if_pos rfl]
    rfl
  have hpresent : (s.coldStart cause inst present).get .fjPosPresent = present % 65536 := by
    rw [hget, get_set, if_neg (by decide), get_set, if_pos rfl]
    rfl
  have hsays : (s.coldStart cause inst present).get .fjStateCause = cause := by
    rw [hget, get_set, if_pos rfl]
    exact Nat.mod_eq_of_lt (lt_of_lt_of_le hcause (by decide))
  unfold ColdState
  simp only [finishState_eng, finishState_pins, finishState_groups, finishState_rings, finishState_entries, finishState_jobs, finishState_saved,
    finishState_keys, finishState_handles, finishState_tables, finishState_cache, finishState_slots, finishState_store, finishState_words,
    finishState_waiters, finishState_qps, finishState_tgts, finishState_plinth, finishState_holdup, finishState_guard, finishState_arm,
    finishState_boot, finishState_yeljo, finishState_tick, finishState_nvm]
  refine ⟨rfl, by rw [get_finishState hb (by decide), hinst], by rw [get_finishState hb (by decide), hpresent],
    by rw [get_finishState hb (by decide), hsays], rfl, rfl, fun f i hkeep hf => ?_, rfl, rfl, rfl, rfl, rfl, rfl, rfl, rfl, rfl, rfl, rfl,
    rfl, rfl, rfl, rfl, rfl, rfl, rfl, rfl, rfl, rfl, rfl, rfl, rfl, rfl, rfl⟩
  simp only [List.mem_cons, List.not_mem_nil, or_false, not_or] at hf
  obtain ⟨h1, h2, h3, h4⟩ := hf
  rw [getI_finishState hb h4, getI_coldStart s cause inst present (by simp [h1, h2, h3]), getI_blank s hkeep]

end Sys2Proof.Machine

namespace Sys2Proof.Proofs

open Sys2Proof.Machine Sys2Proof.Safety

/-- Settles O5: COLD, PACKAGE and the loss of the supply start from `State.blank`, which keeps the registers that nothing clears. -/
theorem powerOnAndOff : Obligations.PowerOnAndOff := by
  unfold Obligations.PowerOnAndOff
  refine ⟨fun s inst present => ⟨⟨_, rfl, coldState_finish s 0 inst present (by decide)⟩, fun hpower => ?_, fun hoff => ?_⟩, fun s => ?_⟩
  · refine ⟨_, ?_, coldState_finish s 1 inst present (by decide)⟩
    change execPackageReset inst present s = _
    rw [execPackageReset, if_neg hpower, finish]
  · refine ⟨finishState s s, ?_, keepsAll_finishState rfl, fun f i hf => getI_finishState rfl (by simpa [msgFlds] using hf) i⟩
    change execPackageReset inst present s = _
    rw [execPackageReset, if_pos hoff, finish]
  · refine ⟨_, rfl, ?_⟩
    simp only [finishState_eng, finishState_entries, finishState_jobs, finishState_keys, finishState_words, finishState_arm, finishState_guard]
    refine ⟨rfl, rfl, rfl, rfl, rfl, rfl, rfl, fun f i hkeep hf => ?_⟩
    rw [getI_finishState ?_ hf]
    · exact getI_blank s hkeep i
    · rfl

end Sys2Proof.Proofs
end

section
/-! Commands of the privileged view: from a register's row to what the write of one value leaves. -/
namespace Sys2Proof.Machine

open Safety

/-- A row that no selector moves shows the same fields in every state. -/
theorem findRow_of_arr {s : State} {off i : Nat} {r : MapRow} (t : State) (h : findRow s off privMap = some (r, i)) (hr : r.sel = .arr) :
    findRow t off privMap = some (r, i) := by
  have hfst : (findRow t off privMap).map (·.1) = some r := by rw [findRow_fst_congr t s, h, Option.map_some]
  obtain ⟨⟨r', j⟩, ht, rfl⟩ := Option.map_eq_some_iff.mp hfst
  have hs := rowIndex_of_findRow h
  have hj := rowIndex_of_findRow ht
  have hsame : rowIndex t r' off = rowIndex s r' off := by
    have harr : r'.sel = .arr := hr
    unfold rowIndex
    simp only [harr]
  rw [ht, ← Option.some.inj (hs.symm.trans (hsame.symm.trans hj))]

/-- What stands before a privileged write acts: the start of every host write, and the record of the log. -/
structure WriteStarted (s a : State) : Prop where
  units : KeepsUnits s a
  regs : KeepsRegs hostFlds s a
  eng : a.eng = 2
  mode : a.tick.mode = s.tick.mode

theorem WriteStarted.build {s a : State} (h : WriteStarted s a) : a.build = s.build := by rw [h.units]

theorem WriteStarted.get {s a : State} (h : WriteStarted s a) {f : Fld} (hf : f ∉ hostFlds := by decide) : a.get f = s.get f := h.regs f 0 hf

theorem WriteStarted.flag {s a : State} (h : WriteStarted s a) {f : Fld} (hf : f ∉ hostFlds := by decide) : a.flag f = s.flag f := by
  rw [State.flag, State.flag, h.get hf]

theorem hostTurn_mode (s : State) (ofs : Nat) : (s.hostTurn ofs).tick.mode = s.tick.mode := by
  unfold State.hostTurn State.wake
  dsimp only
  split <;> rfl

theorem writeStarted_logged {s : State} (h : HostOpen s) (ofs off v : Nat) :
    WriteStarted s ((s.hostTurn ofs).logWrite false 0 off 4 v) := by
  obtain ⟨hlog, hlogRegs⟩ := logWrite_only (s.hostTurn ofs) false 0 off 4 v
  have hturn : KeepsRegs hostFlds s (s.hostTurn ofs) := fun f i hf => getI_hostTurn s ofs (by rintro rfl; exact hf (by decide)) i
  refine ⟨?_, keepsRegs_trans hturn (keepsRegs_mono (by decide) hlogRegs), ?_, ?_⟩
  · rw [KeepsUnits, hlog, hostTurn_eq]
  · rw [hlog]
    exact hostTurn_eng h ofs
  · rw [hlog]
    exact hostTurn_mode s ofs

/-- The registers with actions of their own, and the tables, that `regWrite` treats apart. -/
abbrev PlainWrite (off : Nat) : Prop := off ≠ 0xD008 ∧ ¬ (0x8100 ≤ off ∧ off < 0x8200) ∧ off ≠ 0x0204 ∧ ¬ (0x5010 ≤ off ∧ off < 0x5040)

/-- An accepted write to a register of the privileged view after the lock: its RW fields take the value, its W1C fields are cleared, and it
acts. -/
theorem hostWrite_row {s : State} (h : HostOpen s) {off i : Nat} {r : MapRow} (hrow : findRow State.reset off privMap = some (r, i))
    (harr : r.sel = .arr) (hoff : off % 4 = 0 ∧ off < 0x10000) (hplain : PlainWrite off) (haccepts : ∀ a : State, accepts a r.bits = true)
    (hshut : ∀ a : State, a.build = s.build → rowShut a r off i = false) (v ofs : Nat) (data : Bytes) :
    ∃ a, WriteStarted s a ∧
      OnlyMessages (((a.putBits [.rw] r.bits i (v % 2 ^ 32)).clearBits r.bits i (v % 2 ^ 32)).actOn off (v % 2 ^ 32) data)
        (s.hostWrite false 0 off 4 v ofs data) := by
  obtain ⟨hm, hvl, hen, hblob⟩ := hplain
  have hb : (s.hostTurn ofs).build = s.build := by rw [hostTurn_eq]
  have hlocked := hostTurn_locked h ofs
  obtain ⟨a, u, -, ha, hu, hmsg⟩ := regWrite_locked hlocked (findRow_of_arr _ hrow harr) (hshut _ hb) (haccepts _) hm hvl hen (v % 2 ^ 32) data
  have hstart : WriteStarted s a := ha ▸ writeStarted_logged h ofs off (v % 2 ^ 32)
  refine ⟨a, hstart, ?_⟩
  have halock : a.flag .fjStateLocked = true := by rw [hstart.flag]; exact h.2.2.2.1
  rw [if_neg hblob, rwAccs, if_pos halock] at hu
  rw [hostWrite_word h (by simp [viewOk]) hoff.1, State.wordWrite, if_neg (by decide), if_neg (by omega), if_neg (by omega),
    if_neg (by omega), ← hu]
  exact hmsg

/-- No bit of a row can be written by the given access types. -/
theorem putBits_none (a : State) (accs : List Access) (bits : List BitsOf) (i v : Nat)
    (h : bits.all (fun b => !accs.contains (fldInfo b.fld).acc) = true) : a.putBits accs bits i v = a := by
  unfold State.putBits
  induction bits with
  | nil => rfl
  | cons b t ih =>
    simp only [List.all_cons, Bool.and_eq_true, Bool.not_eq_true'] at h
    rw [List.foldl_cons, if_neg (by rw [h.1]; decide)]
    exact ih h.2

/-- No bit of a row is cleared by writing it. -/
theorem clearBits_none (a : State) (bits : List BitsOf) (i v : Nat) (h : bits.all (fun b => (fldInfo b.fld).acc != .w1c) = true) :
    a.clearBits bits i v = a := by
  unfold State.clearBits
  induction bits with
  | nil => rfl
  | cons b t ih =>
    simp only [List.all_cons, Bool.and_eq_true, bne_iff_ne] at h
    rw [List.foldl_cons, if_neg h.1]
    exact ih h.2

/-- A command whose register holds nothing but triggers: it only acts. -/
theorem hostWrite_trigger {s : State} (h : HostOpen s) {off : Nat} {r : MapRow} (hrow : findRow State.reset off privMap = some (r, 0))
    (harr : r.sel = .arr) (hoff : off % 4 = 0 ∧ off < 0x903C ∨ off % 4 = 0 ∧ 0x906C ≤ off ∧ off < 0x10000) (hplain : PlainWrite off)
    (hwo : r.bits.all (fun b => (fldInfo b.fld).acc == .wo && (fldInfo b.fld).owner == .none) = true) (hne : r.bits ≠ []) (v ofs : Nat)
    (data : Bytes) :
    ∃ a, WriteStarted s a ∧ OnlyMessages (a.actOn off (v % 2 ^ 32) data) (s.hostWrite false 0 off 4 v ofs data) := by
  have hall : ∀ b ∈ r.bits, (fldInfo b.fld).acc = .wo ∧ (fldInfo b.fld).owner = .none := by simpa using hwo
  obtain ⟨a, ha, hmsg⟩ := hostWrite_row h hrow harr (by omega) hplain
    (fun a => by
      obtain ⟨b, hb⟩ := List.exists_mem_of_ne_nil _ hne
      exact List.any_eq_true.mpr ⟨b, hb, by simp [(hall b hb).1]⟩)
    (fun a _ => by
      unfold rowShut
      rw [Bool.or_eq_false_iff]
      refine ⟨?_, List.any_eq_false.mpr fun b hb => by simp [ctxOf, (hall b hb).2]⟩
      rw [Bool.and_eq_false_imp, Bool.and_eq_true, decide_eq_true_eq, decide_eq_true_eq]
      intro hr
      omega) v ofs data
  rw [putBits_none a [.rw] r.bits 0 _ (List.all_eq_true.mpr fun b hb => by rw [(hall b hb).1]; rfl),
    clearBits_none a r.bits 0 _ (List.all_eq_true.mpr fun b hb => by rw [(hall b hb).1]; rfl)] at hmsg
  exact ⟨a, ha, hmsg⟩

/-! ### What the write leaves after `finish` -/

theorem OnlyMessages.build {s t : State} (h : OnlyMessages s t) : t.build = s.build := by
  have hall := h.1
  unfold KeepsAll at hall
  rw [hall]

theorem get_finish_messages {s u v : State} (hm : OnlyMessages u v) (hb : u.build = s.build) {f : Fld} (hf : f ≠ .fjMsixPbaPending) :
    (finishState s v).get f = u.get f := by
  rw [get_finishState (hm.build.trans hb) hf]
  exact hm.2.2 f 0 hf

theorem keepsUnits_of_messages {s u v : State} (h : KeepsUnits s u) (hm : OnlyMessages u v) : KeepsUnits s (finishState s v) := by
  refine keepsUnits_finishState ?_
  have hall := hm.1
  unfold KeepsAll KeepsUnits at *
  rw [hall, h]

theorem keepsRegs_of_messages {fs : List Fld} (hf : .fjMsixPbaPending ∈ fs) {s u v : State} (hb : u.build = s.build) (h : KeepsRegs fs s u)
    (hm : OnlyMessages u v) : KeepsRegs fs s (finishState s v) :=
  keepsRegs_finishState hf (hm.build.trans hb) (keepsRegs_trans h (fun f i hn => hm.2.2 f i (fun e => hn (e ▸ hf))))

theorem mem_out_of_messages {s u v : State} {o : Out} (h : o ∈ u.out) (hm : OnlyMessages u v) : o ∈ (finishState s v).out := by
  obtain ⟨ms, hout, -⟩ := hm.2.1
  refine mem_out_finishState ?_
  rw [hout]
  exact List.mem_append_left ms h

/-! ### A field that a write replaces whole -/

theorem getI_lt (s : State) (f : Fld) (i : Nat) (h : fldReset s.build f i < 2 ^ fldWidth f) : s.getI f i < 2 ^ fldWidth f := by
  unfold State.getI
  split
  · exact Nat.mod_lt _ (Nat.two_pow_pos _)
  · exact h

theorem mergeBits_whole {old w : Nat} (h : old < 2 ^ w) (v : Nat) : mergeBits old 0 w v = v % 2 ^ w := by
  simp [mergeBits, bitsOf, Nat.mod_eq_of_lt h]

theorem get_set_same (s : State) (f : Fld) {v : Nat} (h : v < 2 ^ fldWidth f) : (s.set f v).get f = v :=
  (getI_setI_same s f 0 v).trans (Nat.mod_eq_of_lt h)

theorem flag_up_same (s : State) (f : Fld) (h : 0 < fldWidth f) : (s.up f).flag f = true := by
  have hone : (s.up f).get f = 1 := get_set_same s f (Nat.one_lt_two_pow (by omega))
  simp [State.flag, hone]

end Sys2Proof.Machine
end

section
/-! Privileged registers without a W1C field: a write to one repeats no message (19 R509), so that it does no more than act. -/
namespace Sys2Proof.Machine

open Safety

/-- No field of the row is cleared by writing it. -/
abbrev NoClear (bits : List BitsOf) : Prop := bits.all (fun b => (fldInfo b.fld).acc != .w1c) = true

theorem signalAgain_none (s0 s : State) {bits : List BitsOf} (h : NoClear bits) : State.signalAgain s0 s bits = s := by
  have hany (k : Nat) : bits.any (fun b => (fldInfo b.fld).acc == .w1c && (irqSources.getD k []).contains b.fld) = false := by
    refine List.any_eq_false.mpr fun b hb => ?_
    have hne : (fldInfo b.fld).acc ≠ .w1c := by simpa using List.all_eq_true.mp h b hb
    simp [hne]
  unfold State.signalAgain
  simp only [hany, Bool.false_eq_true, and_false, if_false]
  exact List.foldl_fixed _

/-- An accepted write to such a register: its RW fields take the value, and it acts. -/
theorem hostWrite_quiet {s : State} (h : HostOpen s) {off i : Nat} {r : MapRow} (hrow : findRow State.reset off privMap = some (r, i))
    (harr : r.sel = .arr) (hoff : off % 4 = 0 ∧ off < 0x10000) (hplain : PlainWrite off) (hclear : NoClear r.bits)
    (haccepts : ∀ a : State, accepts a r.bits = true) (hshut : ∀ a : State, a.build = s.build → rowShut a r off i = false) (v ofs : Nat)
    (data : Bytes) :
    ∃ a, WriteStarted s a ∧ s.hostWrite false 0 off 4 v ofs data = (a.putBits [.rw] r.bits i (v % 2 ^ 32)).actOn off (v % 2 ^ 32) data := by
  obtain ⟨hm, hvl, hen, hblob⟩ := hplain
  have hb : (s.hostTurn ofs).build = s.build := by rw [hostTurn_eq]
  have hstart := writeStarted_logged h ofs off (v % 2 ^ 32)
  refine ⟨_, hstart, ?_⟩
  have hlocked : ((s.hostTurn ofs).logWrite false 0 off 4 (v % 2 ^ 32)).flag .fjStateLocked = true := by
    rw [hstart.flag (by decide)]
    exact h.2.2.2.1
  have htaken : ¬ (rowShut (s.hostTurn ofs) r off i = true ∨ ¬ accepts (s.hostTurn ofs) r.bits = true) := by simp [hshut _ hb, haccepts]
  rw [hostWrite_word h (by simp [viewOk]) hoff.1, State.wordWrite, if_neg (by decide), if_neg (by omega), if_neg (by omega),
    if_neg (by omega), State.regWrite, findRow_of_arr _ hrow harr]
  dsimp only
  rw [if_neg htaken, if_neg hm, if_neg hvl, if_neg hen, if_neg hblob, if_pos (hostTurn_locked h ofs), signalAgain_none _ _ hclear,
    clearBits_none _ _ _ _ hclear, rwAccs, if_pos hlocked]

/-- A register that is one trigger. -/
def triggerRow (off w : Nat) (f : Fld) : MapRow := ⟨off, 1, 0, 1, .arr, [⟨0, w, f, 0⟩]⟩

/-- A write to a trigger does no more than act. -/
theorem hostWrite_command {s : State} (h : HostOpen s) {off w : Nat} {f : Fld}
    (hrow : findRow State.reset off privMap = some (triggerRow off w f, 0)) (hoff : off % 4 = 0 ∧ off < 0x10000)
    (hattr : ¬ (0x903C ≤ off ∧ off < 0x906C)) (hplain : PlainWrite off) (hacc : (fldInfo f).acc = .wo) (howner : (fldInfo f).owner = .none)
    (v ofs : Nat) (data : Bytes) :
    ∃ a, WriteStarted s a ∧ s.hostWrite false 0 off 4 v ofs data = a.actOn off (v % 2 ^ 32) data := by
  have hshut (a : State) : rowShut a (triggerRow off w f) off 0 = false := by
    unfold rowShut
    rw [Bool.or_eq_false_iff]
    refine ⟨?_, by simp [triggerRow, ctxOf, howner]⟩
    rw [Bool.and_eq_false_imp, Bool.and_eq_true, decide_eq_true_eq, decide_eq_true_eq]
    exact fun hr => absurd hr hattr
  obtain ⟨a, ha, heq⟩ := hostWrite_quiet h hrow rfl hoff hplain (by simp [NoClear, triggerRow, hacc]) (fun _ => by simp [accepts, triggerRow, hacc])
    (fun a _ => hshut a) v ofs data
  rw [putBits_none a [.rw] _ 0 _ (by simp [triggerRow, hacc])] at heq
  exact ⟨a, ha, heq⟩

/-! ### What one more register written leaves -/

theorem keepsUnits_setI {s a : State} (h : KeepsUnits s a) (f : Fld) (i v : Nat) : KeepsUnits s (a.setI f i v) := by
  rw [KeepsUnits, State.setI, h]

theorem WriteStarted.keeps_set {s a : State} (h : WriteStarted s a) {fs : List Fld} {f : Fld} (hf : f ∈ fs) (v : Nat) :
    KeepsUnits s (a.set f v) ∧ KeepsRegs (hostFlds ++ fs) s (a.set f v) :=
  ⟨keepsUnits_setI h.units f 0 v,
    keepsRegs_trans (keepsRegs_mono (by simp) h.regs) (keepsRegs_setI (List.mem_append_right _ hf) a 0 v)⟩

theorem build_of_keepsUnits {s u : State} (h : KeepsUnits s u) : u.build = s.build := by rw [h]

theorem get_finish_of_keepsUnits {s u : State} (h : KeepsUnits s u) {f : Fld} (hf : f ≠ .fjMsixPbaPending) :
    (finishState s u).get f = u.get f := get_finishState (build_of_keepsUnits h) hf

/-- What `finish` adds at the end of a write leaves units and registers as they are, but for pending bits. -/
theorem keeps_finish {s u : State} {fs : List Fld} (hf : .fjMsixPbaPending ∈ fs) (hunits : KeepsUnits s u) (hregs : KeepsRegs fs s u) :
    KeepsRegs fs s (finishState s u) ∧ KeepsUnits s (finishState s u) :=
  ⟨keepsRegs_finishState hf (by rw [hunits]) hregs, keepsUnits_finishState hunits⟩

/-- The same for a state that has the registers of another. -/
theorem keepsRegs_finish_same {s b u : State} {fs : List Fld} (hf : .fjMsixPbaPending ∈ fs) (hunits : KeepsUnits s b) (h : KeepsRegs fs s b)
    (hregs : u.regs = b.regs) (hbuild : u.build = b.build) : KeepsRegs fs s (finishState s u) :=
  keepsRegs_finishState hf (hbuild.trans (build_of_keepsUnits hunits)) (keepsRegs_trans h (keepsRegs_of_regs hbuild hregs))

theorem get_finish_same {s b u : State} (hunits : KeepsUnits s b) (hregs : u.regs = b.regs) (hbuild : u.build = b.build) {f : Fld}
    (hf : f ≠ .fjMsixPbaPending) : (finishState s u).get f = b.get f :=
  (get_finishState (hbuild.trans (build_of_keepsUnits hunits)) hf).trans (keepsRegs_of_regs (fs := []) hbuild hregs f 0 List.not_mem_nil)

/-- A field written back as it stands: nothing has changed. -/
theorem getI_set_restored {s a : State} {f g : Fld} {i : Nat} (hg : a.getI g i = s.getI g i) (hreset : fldReset s.build f 0 < 2 ^ fldWidth f) :
    (a.set f (s.get f)).getI g i = s.getI g i := by
  rw [getI_set]
  split
  · next heq =>
    obtain ⟨rfl, rfl⟩ := heq
    exact Nat.mod_eq_of_lt (getI_lt s f 0 hreset)
  · exact hg

end Sys2Proof.Machine
end

section
/-! Warnings (10 R271, 17 R481). -/
namespace Sys2Proof.Machine

open Safety

/-- The fields that a warning writes where it arrives. -/
def warnedFlds : List Fld := [.fjCkptWarnsCount, .patLastWarnCause, .fjCkptStatWarnPending]

/-- A warning that arrives. -/
theorem warned_shows (s : State) {cause : Nat} (hc : cause < 256) :
    s.warned cause = { s with regs := (s.warned cause).regs } ∧ KeepsRegs warnedFlds s (s.warned cause) ∧
      (s.warned cause).get .patLastWarnCause = cause ∧
      (s.warned cause).get .fjCkptWarnsCount = satAdd 32 (s.get .fjCkptWarnsCount) 1 ∧
      (s.get .fjCkptCfgPolicy = 1 → (s.warned cause).flag .fjCkptStatWarnPending = true) := by
  unfold State.warned
  extract_lets s1 s2
  have h1 : KeepsRegs warnedFlds s s1 := keepsRegs_setI (by decide) s 0 _
  have h2 : s2 = { s with regs := s2.regs } ∧ KeepsRegs warnedFlds s s2 ∧ s2.get .fjCkptWarnsCount = s1.get .fjCkptWarnsCount := by
    unfold s2
    split
    · exact ⟨rfl, keepsRegs_trans h1 (keepsRegs_setI (by decide) s1 0 1), getI_setI_other s1 1 (by decide)⟩
    · exact ⟨rfl, h1, rfl⟩
  obtain ⟨heq, hregs, hcount⟩ := h2
  refine ⟨?_, keepsRegs_trans hregs (keepsRegs_setI (by decide) s2 0 cause), get_set_same s2 _ hc, ?_, fun hpolicy => ?_⟩
  · unfold State.set State.setI
    rw [heq]
  · rw [get_set, if_neg (by decide), hcount]
    exact get_bump_same s .fjCkptWarnsCount 1
  · rw [State.flag, get_set, if_neg (by decide)]
    unfold s2
    rw [if_pos hpolicy]
    exact flag_up_same s1 _ (by decide)

def ckptCtrlRow : MapRow :=
  ⟨0x110, 1, 0, 1, .arr, [⟨0, 1, .fjCkptCtrlWarn, 0⟩, ⟨1, 1, .fjCkptCtrlAbandon, 0⟩, ⟨2, 1, .fjCkptCtrlAdopt, 0⟩, ⟨8, 4, .fjCkptCtrlRole, 0⟩]⟩

/-- The triggers of FJ_CKPT_CTRL, in the order in which they act. -/
def State.ckptTriggers (s : State) (triggers : Nat) : State :=
  let s1 := if bitOf triggers 0 then s.raiseWarn 0x10 else s
  let s2 := if bitOf triggers 1 then s1.abandonNow else s1
  if bitOf triggers 2 then s2.adopt else s2

/-- A write to FJ_CKPT_CTRL: ROLE takes its value, and the triggers act. -/
theorem hostWrite_ckptCtrl {s : State} (h : HostOpen s) {triggers role : Nat} (ht : triggers < 8) (hr : role < 16) (ofs : Nat) :
    ∃ a, WriteStarted s a ∧ s.privReg 0x0110 (triggers + role * 2 ^ 8) ofs = (a.set .fjCkptCtrlRole role).ckptTriggers triggers := by
  have hrow : findRow State.reset 0x0110 privMap = some (ckptCtrlRow, 0) := by decide +kernel
  obtain ⟨a, ha, heq⟩ := hostWrite_quiet h hrow rfl (by decide) (by decide) rfl (fun _ => rfl) (fun _ _ => rfl) (triggers + role * 2 ^ 8) ofs []
  have hv : (triggers + role * 2 ^ 8) % 2 ^ 32 = triggers + role * 2 ^ 8 := by omega
  have hbits : bitsOf (triggers + role * 2 ^ 8) 8 4 = role := by unfold bitsOf; omega
  have hbit (k : Nat) (hk : k < 3) : bitOf (triggers + role * 2 ^ 8) k = bitOf triggers k := by
    unfold bitOf
    have : (triggers + role * 2 ^ 8) / 2 ^ k % 2 = triggers / 2 ^ k % 2 := by interval_cases k <;> omega
    rw [this]
  have hput : a.putBits [.rw] ckptCtrlRow.bits 0 (triggers + role * 2 ^ 8) =
      a.set .fjCkptCtrlRole (mergeBits (a.get .fjCkptCtrlRole) 0 4 (bitsOf (triggers + role * 2 ^ 8) 8 4)) := rfl
  have hold : a.get .fjCkptCtrlRole < 2 ^ 4 := getI_lt a .fjCkptCtrlRole 0 (Nat.two_pow_pos 4)
  rw [hv, hput, hbits, mergeBits_whole hold, Nat.mod_eq_of_lt (by exact hr)] at heq
  refine ⟨a, ha, ?_⟩
  unfold State.ckptTriggers
  rw [← hbit 0 (by decide), ← hbit 1 (by decide), ← hbit 2 (by decide)]
  exact heq

/-- ROLE written back as it stands. -/
theorem keeps_roleWritten {s a : State} (ha : WriteStarted s a) :
    KeepsUnits s (a.set .fjCkptCtrlRole (s.get .fjCkptCtrlRole)) ∧ KeepsRegs hostFlds s (a.set .fjCkptCtrlRole (s.get .fjCkptCtrlRole)) := by
  have hrole : s.get .fjCkptCtrlRole < 2 ^ fldWidth .fjCkptCtrlRole := getI_lt s .fjCkptCtrlRole 0 (Nat.two_pow_pos 4)
  refine ⟨by rw [KeepsUnits, State.set, State.setI, ha.units], fun f i hf => ?_⟩
  rw [getI_set]
  split
  · next heq =>
    obtain ⟨rfl, rfl⟩ := heq
    exact Nat.mod_eq_of_lt hrole
  · exact ha.regs f i hf

theorem logPower_only (s : State) (kind cls logical cause : Nat) : LogOnly s (s.logPower kind cls logical cause) := logRec_only _ _ _ _ _ _

theorem role_lt (s : State) : s.get .fjCkptCtrlRole < 16 := getI_lt s .fjCkptCtrlRole 0 (Nat.two_pow_pos 4)

end Sys2Proof.Machine

namespace Sys2Proof.Proofs

open Sys2Proof.Machine Sys2Proof.Safety

/-- Settles O11: both warnings end in `State.warned`; the driver's is relayed, and leaves ROLE as it was written back. -/
theorem warnings : Obligations.Warnings := by
  unfold Obligations.Warnings
  refine ⟨fun s ofs h => ?_, fun s src cause ofs => ⟨fun heng hreplay => ?_, fun hnot => ?_⟩⟩
  · obtain ⟨a, ha, heq⟩ := hostWrite_ckptCtrl h (triggers := 1) (by decide) (role_lt s) ofs
    have hmsg : OnlyMessages ((a.set .fjCkptCtrlRole (s.get .fjCkptCtrlRole)).ckptTriggers 1) (s.privReg 0x0110 (1 + s.get .fjCkptCtrlRole * 2 ^ 8) ofs) :=
      heq ▸ .refl _
    clear heq
    obtain ⟨huUnits, huRegs⟩ := keeps_roleWritten ha
    generalize a.set .fjCkptCtrlRole (s.get .fjCkptCtrlRole) = u at hmsg huUnits huRegs
    have hact : u.ckptTriggers 1 = u.raiseWarn 0x10 := rfl
    rw [hact] at hmsg
    obtain ⟨hwEq, hwRegs, hcause, hcount, hpend⟩ := warned_shows u (cause := 0x10) (by decide)
    have hb : (u.raiseWarn 0x10).build = s.build := by
      rw [State.raiseWarn, State.send_build, State.up, State.set_build, hwEq, huUnits]
    have hget (f : Fld) (hf : f ∉ hostFlds) : u.get f = s.get f := huRegs f 0 hf
    have hafter (f : Fld) (hf : f ≠ .patStatWarned) : (u.raiseWarn 0x10).get f = (u.warned 0x10).get f := by
      rw [State.raiseWarn]
      exact getI_setI_other _ _ (fun e => hf e.1.symm)
    refine ⟨_, rfl, ?_, ?_, ?_, fun hp => ?_, ?_, ?_, ?_⟩
    · rw [get_finish_messages hmsg hb (by decide), hafter _ (by decide), hcause]
    · rw [State.flag, get_finish_messages hmsg hb (by decide)]
      exact flag_up_same (u.warned 0x10) .patStatWarned (by decide)
    · rw [get_finish_messages hmsg hb (by decide), hafter _ (by decide), hcount, hget _ (by decide)]
    · rw [State.flag, get_finish_messages hmsg hb (by decide), hafter _ (by decide)]
      exact hpend (by rw [hget _ (by decide), hp])
    · refine mem_out_of_messages (u := u.raiseWarn 0x10) ?_ hmsg
      rw [State.raiseWarn, State.send_out]
      have hpacket : sbPacket u 3 0 0x10 = sbPacket s 3 0 0x10 := by rw [sbPacket, sbPacket, hget _ (by decide)]
      rw [hpacket]
      exact List.mem_append_right _ (List.mem_singleton_self _)
    · refine keepsRegs_of_messages (by decide) hb ?_ hmsg
      exact keepsRegs_trans (keepsRegs_trans (keepsRegs_mono (by simp) huRegs) (keepsRegs_mono (by decide) hwRegs))
        (keepsRegs_setI (f := .patStatWarned) (by decide) (u.warned 0x10) 0 1)
    · refine keepsUnits_of_messages (u := u.raiseWarn 0x10) ?_ hmsg
      rw [State.raiseWarn, State.send, State.up, State.set, State.setI, hwEq, KeepsUnits, huUnits]
  · obtain ⟨hwEq, hwRegs, hcause, hcount, hpend⟩ := warned_shows (s.at_ ofs) (Nat.mod_lt cause (by decide : 0 < 256))
    obtain ⟨hlogEq, hlogRegs⟩ := logPower_only ((s.at_ ofs).warned (cause % 256)) 6 0 0 (cause % 256)
    refine ⟨finishState s (((s.at_ ofs).warned (cause % 256)).logPower 6 0 0 (cause % 256)), ?_, ?_⟩
    · change execWarnPacket src cause ofs s = _
      rw [execWarnPacket, if_pos ⟨heng, by simp [hreplay]⟩, finish]
    generalize ((s.at_ ofs).warned (cause % 256)).logPower 6 0 0 (cause % 256) = u at hlogEq hlogRegs
    have hb : u.build = s.build := by
      rw [hlogEq, hwEq]
      rfl
    have hget (f : Fld) (hf : f ∉ logFlds) : u.get f = ((s.at_ ofs).warned (cause % 256)).get f := hlogRegs f 0 hf
    refine ⟨?_, ?_, fun hp => ?_, ?_, ?_⟩
    · rw [get_finishState hb (by decide), hget _ (by decide), hcount]
      rfl
    · rw [get_finishState hb (by decide), hget _ (by decide), hcause]
    · rw [State.flag, get_finishState hb (by decide), hget _ (by decide)]
      exact hpend hp
    · refine keepsRegs_finishState (by decide) hb (keepsRegs_trans ?_ (keepsRegs_mono (by decide) hlogRegs))
      exact keepsRegs_mono (by decide) hwRegs
    · rw [finishState_ckpt, hlogEq, hwEq]
      rfl
  · refine ⟨finishState s s, ?_, keepsAll_finishState rfl, fun f i hf => getI_finishState rfl (by simpa [msgFlds] using hf) i⟩
    change execWarnPacket src cause ofs s = _
    rw [execWarnPacket, if_neg, finish]
    rintro ⟨heng, hreplay⟩
    rcases hnot with ⟨h2, h3⟩ | h
    · exact heng.elim h2 h3
    · exact hreplay h

end Sys2Proof.Proofs
end

section
/-! The clears of the host: peaks, caches, decode slots, tables (03 R120, 04 R150, 05 R178, 09 R251, R263). -/
namespace Sys2Proof.Machine

open Safety

theorem guardPeaks_shows {s a : State} (ha : WriteStarted s a) :
    (∀ f ∈ [Fld.grdHoldPeak, .grdPoolPeak, .grdSpillPeakPeak, .grdStallMaxNs], a.guardPeaks.get f = 0) ∧
      KeepsRegs (hostFlds ++ [.grdHoldPeak, .grdPoolPeak, .grdSpillPeakPeak, .grdStallMaxNs]) s a.guardPeaks ∧ KeepsUnits s a.guardPeaks := by
  refine ⟨fun f hf => ?_, fun f i hf => ?_, ?_⟩
  · unfold State.guardPeaks
    rw [get_set, get_set, get_set, get_set]
    simp only [List.mem_cons, List.not_mem_nil, or_false] at hf
    obtain rfl | rfl | rfl | rfl := hf <;> rfl
  · simp only [List.mem_append, List.mem_cons, List.not_mem_nil, or_false, not_or] at hf
    obtain ⟨hhost, h1, h2, h3, h4⟩ := hf
    unfold State.guardPeaks
    rw [getI_set, if_neg (fun e => h4 e.1.symm), getI_set, if_neg (fun e => h3 e.1.symm), getI_set, if_neg (fun e => h2 e.1.symm), getI_set,
      if_neg (fun e => h1 e.1.symm), ha.regs f i hhost]
  · exact keepsUnits_setI (keepsUnits_setI (keepsUnits_setI (keepsUnits_setI ha.units _ _ _) _ _ _) _ _ _) _ _ _

/-! ### The model cache -/

def mcCtrlRow : MapRow :=
  ⟨0x3080, 1, 0, 1, .arr, [⟨0, 1, .stgMcCtrlEnable, 0⟩, ⟨1, 1, .stgMcCtrlInvAll, 0⟩, ⟨2, 1, .stgMcCtrlInvCtx, 0⟩, ⟨8, 6, .stgMcCtrlCtx, 0⟩]⟩

theorem mcEnable_lt (s : State) : s.get .stgMcCtrlEnable < 2 := getI_lt s .stgMcCtrlEnable 0 (Nat.one_lt_two_pow (by decide))

theorem mcCtx_lt (s : State) : s.get .stgMcCtrlCtx < 64 := getI_lt s .stgMcCtrlCtx 0 (Nat.two_pow_pos 6)

/-- A write to STG_MC_CTRL that leaves ENABLE as it is: CTX takes its value, and the triggers act. -/
theorem hostWrite_mcCtrl {s : State} (h : HostOpen s) {triggers ctx : Nat} (ht : triggers < 4) (hc : ctx < 64) (ofs : Nat) :
    ∃ a, WriteStarted s a ∧ s.privReg 0x3080 (s.get .stgMcCtrlEnable + 2 * triggers + ctx * 2 ^ 8) ofs =
      ((a.set .stgMcCtrlEnable (s.get .stgMcCtrlEnable)).set .stgMcCtrlCtx ctx).mcInvalidate
        (s.get .stgMcCtrlEnable + 2 * triggers + ctx * 2 ^ 8) := by
  have hen := mcEnable_lt s
  have hrow : findRow State.reset 0x3080 privMap = some (mcCtrlRow, 0) := by decide +kernel
  obtain ⟨a, ha, heq⟩ := hostWrite_quiet h hrow rfl (by decide) (by decide) rfl (fun _ => rfl) (fun _ _ => rfl)
    (s.get .stgMcCtrlEnable + 2 * triggers + ctx * 2 ^ 8) ofs []
  refine ⟨a, ha, heq.trans ?_⟩
  have hv : (s.get .stgMcCtrlEnable + 2 * triggers + ctx * 2 ^ 8) % 2 ^ 32 = s.get .stgMcCtrlEnable + 2 * triggers + ctx * 2 ^ 8 := by omega
  have hput (v : Nat) : a.putBits [.rw] mcCtrlRow.bits 0 v =
      (a.set .stgMcCtrlEnable (mergeBits (a.get .stgMcCtrlEnable) 0 1 (bitsOf v 0 1))).set .stgMcCtrlCtx
        (mergeBits ((a.set .stgMcCtrlEnable (mergeBits (a.get .stgMcCtrlEnable) 0 1 (bitsOf v 0 1))).get .stgMcCtrlCtx) 0 6 (bitsOf v 8 6)) := rfl
  have hbit0 : bitsOf (s.get .stgMcCtrlEnable + 2 * triggers + ctx * 2 ^ 8) 0 1 % 2 ^ 1 = s.get .stgMcCtrlEnable := by unfold bitsOf; omega
  have hbit8 : bitsOf (s.get .stgMcCtrlEnable + 2 * triggers + ctx * 2 ^ 8) 8 6 % 2 ^ 6 = ctx := by unfold bitsOf; omega
  rw [hv, hput, mergeBits_whole (mcEnable_lt a), mergeBits_whole (mcCtx_lt _), hbit0, hbit8]
  rfl

/-- What stands before the triggers of STG_MC_CTRL act. -/
theorem mcCtrl_written {s a : State} (ha : WriteStarted s a) {ctx : Nat} (hc : ctx < 64) :
    let b := (a.set .stgMcCtrlEnable (s.get .stgMcCtrlEnable)).set .stgMcCtrlCtx ctx
    KeepsUnits s b ∧ (∀ f i, f ∉ hostFlds → b.getI f i = if .stgMcCtrlCtx = f ∧ 0 = i then ctx else s.getI f i) ∧ b.cache = s.cache := by
  refine ⟨keepsUnits_setI (keepsUnits_setI ha.units _ _ _) _ _ _, fun f i hf => ?_, show a.cache = s.cache by rw [ha.units]⟩
  have hw : ctx % 2 ^ fldWidth .stgMcCtrlCtx = ctx := Nat.mod_eq_of_lt hc
  rw [getI_set, hw, getI_set_restored (ha.regs f i hf) (Nat.one_lt_two_pow (by decide))]

/-- A command that acts on the model cache alone. -/
theorem keepsUnits_cache {s b : State} (h : KeepsUnits s b) (l : List McEntry) :
    KeepsUnits s { finishState s { b with cache := l } with cache := s.cache } := by
  rw [KeepsUnits, finishState_eq, h]

theorem keepsUnits_slots {s b : State} (h : KeepsUnits s b) (l : List DecSlot) :
    KeepsUnits s { finishState s { b with slots := l } with slots := s.slots } := by
  rw [KeepsUnits, finishState_eq, h]

theorem keepsUnits_tables {s b : State} (h : KeepsUnits s b) (l : List TableSlot) :
    KeepsUnits s { finishState s { b with tables := l } with tables := s.tables } := by
  rw [KeepsUnits, finishState_eq, h]

theorem keepsUnits_vlPending {s b : State} (h : KeepsUnits s b) (l : List (Nat × Nat)) :
    KeepsUnits s { finishState s { b with vlPending := l } with vlPending := s.vlPending } := by
  rw [KeepsUnits, finishState_eq, h]

/-- The triggers leave registers, and units but for the cache. -/
theorem mcInvalidate_eq (s : State) (v : Nat) : s.mcInvalidate v = { s with cache := (s.mcInvalidate v).cache } := by
  unfold State.mcInvalidate State.cacheDrop
  split <;> split <;> rfl

theorem mem_cacheDrop {s : State} {p : McEntry → Bool} {e : McEntry} (hmark : ∀ x m, p { x with marked := m } = p x) :
    (p e = true → e ∈ (s.cacheDrop p).cache → e.pinned = true ∧ e.marked = true) ∧ (p e = false → (e ∈ (s.cacheDrop p).cache ↔ e ∈ s.cache)) := by
  simp only [State.cacheDrop, List.mem_map, List.mem_filter, Bool.not_eq_true', Bool.and_eq_false_imp]
  refine ⟨fun hp => ?_, fun hp => ⟨?_, fun he => ⟨e, ⟨he, by simp [hp]⟩, by simp [hp]⟩⟩⟩
  · rintro ⟨x, ⟨-, hpin⟩, rfl⟩
    by_cases hx : p x = true
    · rw [if_pos hx]
      have := hpin hx
      simp only [Bool.not_eq_false'] at this
      exact ⟨this, rfl⟩
    · rw [if_neg hx] at hp
      exact absurd hp hx
  · rintro ⟨x, ⟨hx, -⟩, rfl⟩
    by_cases hpx : p x = true
    · rw [if_pos hpx, hmark, hpx] at hp
      exact absurd hp (by decide)
    · rwa [if_neg hpx]

/-! ### Tables -/

def pntCtrlRow : MapRow := ⟨0x8004, 1, 0, 1, .arr, [⟨0, 1, .pntCtrlInvCtx, 0⟩, ⟨8, 6, .pntCtrlCtx, 0⟩]⟩

theorem hostWrite_pntCtrl {s : State} (h : HostOpen s) {ctx : Nat} (hc : ctx < 64) (ofs : Nat) :
    ∃ a, WriteStarted s a ∧ s.privReg 0x8004 (1 + ctx * 2 ^ 8) ofs = (a.set .pntCtrlCtx ctx).pntInvCtx ctx := by
  have hrow : findRow State.reset 0x8004 privMap = some (pntCtrlRow, 0) := by decide +kernel
  obtain ⟨a, ha, heq⟩ := hostWrite_quiet h hrow rfl (by decide) (by decide) rfl (fun _ => rfl) (fun _ _ => rfl) (1 + ctx * 2 ^ 8) ofs []
  refine ⟨a, ha, heq.trans ?_⟩
  have hput (v : Nat) : a.putBits [.rw] pntCtrlRow.bits 0 v = a.set .pntCtrlCtx (mergeBits (a.get .pntCtrlCtx) 0 6 (bitsOf v 8 6)) := rfl
  have hold : a.get .pntCtrlCtx < 2 ^ 6 := getI_lt a .pntCtrlCtx 0 (Nat.two_pow_pos 6)
  have hbits : bitsOf (1 + ctx * 2 ^ 8) 8 6 % 2 ^ 6 = ctx := by unfold bitsOf; omega
  have hv : (1 + ctx * 2 ^ 8) % 2 ^ 32 = 1 + ctx * 2 ^ 8 := by omega
  have hbit : bitOf (1 + ctx * 2 ^ 8) 0 = true := by simp [bitOf]; omega
  rw [hv, hput, mergeBits_whole hold, hbits, State.actOn, if_pos hbit, get_set_same _ _ (show ctx < 2 ^ 6 by omega)]

theorem pntInvCtx_eq (s : State) (ctx : Nat) : s.pntInvCtx ctx = { s with tables := (s.pntInvCtx ctx).tables } := rfl

theorem mem_pntInvCtx {s : State} {ctx : Nat} {x : TableSlot} :
    (x ∈ (s.pntInvCtx ctx).tables → x.ctx = ctx → x.dying = true ∧ tableInUse s x.ctx x.slot = true) ∧
      (x ∈ s.tables → x.ctx ≠ ctx → x.dying = false → x ∈ (s.pntInvCtx ctx).tables) := by
  simp only [State.pntInvCtx, State.settleTables, List.mem_filter, List.mem_map, Bool.not_eq_true', Bool.and_eq_false_imp, Bool.not_eq_false']
  refine ⟨?_, fun hx hne hlive => ⟨⟨x, hx, by rw [if_neg hne]⟩, fun hd => by simp [hlive] at hd⟩⟩
  rintro ⟨⟨y, -, rfl⟩, huse⟩ hctx
  have hy : y.ctx = ctx := by
    by_contra hne
    rw [if_neg hne] at hctx
    exact hne hctx
  rw [if_pos hy] at huse ⊢
  exact ⟨rfl, huse rfl⟩

/-! ### PNT_VL -/

def pntVlRow : MapRow := ⟨0x8100, 64, 4, 1, .arr, [⟨0, 2, .pntVlVl, 0⟩, ⟨8, 1, .pntVlPending, 0⟩]⟩

theorem findRow_pntVl : ∀ n < 64, findRow State.reset (0x8100 + 4 * n) privMap = some (pntVlRow, n) := by decide +kernel

theorem rowShut_pntVl (s : State) (off n : Nat) (hoff : off < 0x903C) : rowShut s pntVlRow off n = decide (s.build.numVf < n) := by
  have hattr : decide (0x903C ≤ off) = false := decide_eq_false (by omega)
  have h1 : ctxOf .pntVlVl n = n := rfl
  have h2 : ctxOf .pntVlPending n = n := rfl
  simp [rowShut, pntVlRow, hattr, h1, h2]

/-- A write to PNT_VL waits for a boundary; a context without a view has no register there. -/
theorem hostWrite_pntVl {s : State} (h : HostOpen s) {n vl : Nat} (hn : n < 64) (hv : vl < 4) (ofs : Nat) :
    ∃ a, WriteStarted s a ∧ (n ≤ s.build.numVf → s.privReg (0x8100 + 4 * n) vl ofs = a.vlWrite n vl) ∧
      (s.build.numVf < n → s.privReg (0x8100 + 4 * n) vl ofs = s.hostTurn ofs) := by
  have hmod : vl % 2 ^ 32 = vl := by omega
  have hb : (s.hostTurn ofs).build = s.build := by rw [hostTurn_eq]
  have hword : s.privReg (0x8100 + 4 * n) vl ofs = (s.hostTurn ofs).regWrite (0x8100 + 4 * n) vl [] := by
    rw [State.privReg, hostWrite_word h (by simp [viewOk]) (by omega), State.wordWrite, if_neg (by decide), if_neg (by omega),
      if_neg (by omega), if_neg (by omega), hmod]
  refine ⟨_, writeStarted_logged h ofs (0x8100 + 4 * n) vl, fun hle => ?_, fun hlt => ?_⟩ <;>
    rw [hword, State.regWrite, findRow_of_arr _ (findRow_pntVl n hn) rfl] <;> dsimp only
  · rw [if_neg, if_neg (by omega), if_pos (by omega), Nat.mod_eq_of_lt hv]
    rintro (hshut | hacc)
    · rw [rowShut_pntVl _ _ _ (by omega), hb, decide_eq_true_eq] at hshut
      omega
    · exact hacc rfl
  · rw [if_pos (.inl ((rowShut_pntVl _ _ _ (by omega)).trans (by rw [hb, decide_eq_true hlt])))]

theorem mem_upsert {α : Type} (p : α → Bool) (a : α) (l : List α) : a ∈ upsert p a l := by
  induction l with
  | nil => exact List.mem_singleton_self a
  | cons b t ih =>
    unfold upsert
    split
    · exact List.mem_cons_self
    · exact List.mem_cons_of_mem b ih

end Sys2Proof.Machine

namespace Sys2Proof.Proofs

open Sys2Proof.Machine Sys2Proof.Safety

/-- Settles O9: each command is a write to one register of the privileged view, whose action is the clear. -/
theorem clearingWrites : Obligations.ClearingWrites := by
  unfold Obligations.ClearingWrites
  refine ⟨fun s ofs count h => ⟨?_, ?_, ?_, ?_⟩, fun s ctx ofs h => ⟨?_, ?_, ?_⟩, fun s ctx vl ofs h => ⟨?_, fun hle => ?_, fun hlt => ?_⟩,
    fun s uid p => ⟨fun e he => ?_, fun x hx hd => ?_⟩⟩
  · obtain ⟨a, ha, heq⟩ : ∃ a, WriteStarted s a ∧ s.privReg 0x2004 1 ofs = a.guardPeaks :=
      hostWrite_command h (w := 1) (f := .grdCtrlPeakClr) (by decide +kernel) (by decide) (by decide) (by decide) rfl rfl 1 ofs []
    obtain ⟨hzero, hregs, hunits⟩ := guardPeaks_shows ha
    have hget (f : Fld) (hf : f ∈ [Fld.grdHoldPeak, .grdPoolPeak, .grdSpillPeakPeak, .grdStallMaxNs]) :
        (finishState s a.guardPeaks).get f = 0 := by
      rw [get_finish_of_keepsUnits hunits (fun e => by subst e; exact absurd hf (by decide)), hzero f hf]
    exact ⟨_, congrArg (finish s) heq, hget _ (by decide), hget _ (by decide), hget _ (by decide), hget _ (by decide),
      keeps_finish (by decide) hunits hregs⟩
  · obtain ⟨a, ha, heq⟩ : ∃ a, WriteStarted s a ∧ s.privReg 0x6004 1 ofs = a.set .digFptPeakPeak 0 :=
      hostWrite_command h (w := 1) (f := .digCtrlPeakClr) (by decide +kernel) (by decide) (by decide) (by decide) rfl rfl 1 ofs []
    obtain ⟨hunits, hregs⟩ := ha.keeps_set (List.mem_singleton_self Fld.digFptPeakPeak) 0
    refine ⟨_, congrArg (finish s) heq, ?_, keeps_finish (by decide) hunits hregs⟩
    rw [get_finish_of_keepsUnits hunits (by decide), get_set_same a _ (by decide)]
  · obtain ⟨a, ha, heq⟩ : ∃ a, WriteStarted s a ∧ s.privReg 0xB010 1 ofs = a.set .pwrBusvNowMin 0xFFF :=
      hostWrite_command h (w := 1) (f := .pwrCtrlMinClr) (by decide +kernel) (by decide) (by decide) (by decide) rfl rfl 1 ofs []
    obtain ⟨hunits, hregs⟩ := ha.keeps_set (List.mem_singleton_self Fld.pwrBusvNowMin) 0xFFF
    refine ⟨_, congrArg (finish s) heq, ?_, keeps_finish (by decide) hunits hregs⟩
    rw [get_finish_of_keepsUnits hunits (by decide), get_set_same a _ (by decide)]
  · obtain ⟨a, ha, heq⟩ : ∃ a, WriteStarted s a ∧ s.privReg 0xA010 count ofs = a.bump .patEccWinCount (count % 2 ^ 32 % 2 ^ 32) :=
      hostWrite_command h (w := 32) (f := .patEccAddCount) (by decide +kernel) (by decide) (by decide) (by decide) rfl rfl count ofs []
    rw [Nat.mod_mod] at heq
    obtain ⟨hunits, hregs⟩ := ha.keeps_set (List.mem_singleton_self Fld.patEccWinCount) (satAdd 32 (a.get .patEccWinCount) (count % 2 ^ 32))
    refine ⟨_, congrArg (finish s) heq, ?_, keeps_finish (by decide) hunits hregs⟩
    rw [← ha.get (f := .patEccWinCount) (by decide)]
    exact (get_finish_of_keepsUnits hunits (by decide)).trans (get_bump_same a .patEccWinCount _)
  · obtain ⟨a, ha, heq⟩ := hostWrite_mcCtrl h (triggers := 1) (by decide) (mcCtx_lt s) ofs
    obtain ⟨hunits, hget, hcache⟩ := mcCtrl_written ha (mcCtx_lt s)
    generalize (a.set .stgMcCtrlEnable (s.get .stgMcCtrlEnable)).set .stgMcCtrlCtx (s.get .stgMcCtrlCtx) = b at heq hunits hget hcache
    have hv := mcEnable_lt s
    have h1 : bitOf (s.get .stgMcCtrlEnable + 2 * 1 + s.get .stgMcCtrlCtx * 2 ^ 8) 1 = true := by simp [bitOf]; omega
    have h2 : bitOf (s.get .stgMcCtrlEnable + 2 * 1 + s.get .stgMcCtrlCtx * 2 ^ 8) 2 = false := by simp [bitOf]; omega
    rw [State.mcInvalidate, h1, h2, if_pos rfl, if_neg (c := false = true) (by decide)] at heq
    refine ⟨_, congrArg (finish s) heq, ?_, ?_, keepsUnits_cache hunits _⟩
    · rw [finishState_cache, ← hcache]
      simp [State.cacheDrop]
    · refine keepsRegs_finish_same (by decide) hunits (fun f i hf => ?_) rfl rfl
      rw [hget f i hf]
      split
      · next heq => rw [← heq.1, ← heq.2]; rfl
      · rfl
  · obtain ⟨a, ha, heq⟩ := hostWrite_mcCtrl h (triggers := 2) (by decide) (Nat.mod_lt ctx (by decide : 0 < 64)) ofs
    obtain ⟨hunits, hget, hcache⟩ := mcCtrl_written ha (Nat.mod_lt ctx (by decide : 0 < 64))
    generalize (a.set .stgMcCtrlEnable (s.get .stgMcCtrlEnable)).set .stgMcCtrlCtx (ctx % 64) = b at heq hunits hget hcache
    have hv := mcEnable_lt s
    have h1 : bitOf (s.get .stgMcCtrlEnable + 2 * 2 + ctx % 64 * 2 ^ 8) 1 = false := by simp [bitOf]; omega
    have h2 : bitOf (s.get .stgMcCtrlEnable + 2 * 2 + ctx % 64 * 2 ^ 8) 2 = true := by simp [bitOf]; omega
    have hctx : b.get .stgMcCtrlCtx = ctx % 64 := (hget .stgMcCtrlCtx 0 (by decide)).trans (if_pos ⟨rfl, rfl⟩)
    rw [State.mcInvalidate, h1, h2, if_neg (c := false = true) (by decide), if_pos rfl] at heq
    rw [hctx] at heq
    have hdrop (e : McEntry) := mem_cacheDrop (s := b) (p := fun x => x.key.ctx == ctx % 64) (e := e) (fun _ _ => rfl)
    refine ⟨_, congrArg (finish s) heq, fun e he hk => ?_, fun e hk => ?_, ?_, ?_, keepsUnits_cache hunits _⟩
    · rw [finishState_cache] at he
      exact (hdrop e).1 (by simp [hk]) he
    · rw [finishState_cache, (hdrop e).2 (by simp [hk]), hcache]
    · exact (get_finish_same (u := b.cacheDrop fun e => e.key.ctx == ctx % 64) hunits rfl rfl (by decide)).trans hctx
    · refine keepsRegs_finish_same (by decide) hunits (fun f i hf => ?_) rfl rfl
      simp only [List.mem_append, List.mem_singleton, not_or] at hf
      rw [hget f i hf.1, if_neg (fun e => hf.2 e.1.symm)]
  · obtain ⟨a, ha, heq⟩ : ∃ a, WriteStarted s a ∧ s.privReg 0x4004 1 ofs = a.slotFlush :=
      hostWrite_command h (w := 1) (f := .cdrCtrlSlotFlush) (by decide +kernel) (by decide) (by decide) (by decide) rfl rfl 1 ofs []
    refine ⟨_, congrArg (finish s) heq, ?_, keepsRegs_finish_same (by decide) ha.units ha.regs rfl rfl, keepsUnits_slots ha.units _⟩
    rw [finishState_slots, State.slotFlush, ha.units]
  · obtain ⟨a, ha, heq⟩ := hostWrite_pntCtrl h (Nat.mod_lt ctx (by decide : 0 < 64)) ofs
    obtain ⟨hunits, hregs⟩ := ha.keeps_set (List.mem_singleton_self Fld.pntCtrlCtx) (ctx % 64)
    have htables : (a.set .pntCtrlCtx (ctx % 64)).tables = s.tables := by rw [hunits]
    have huse (x n : Nat) : tableInUse (a.set .pntCtrlCtx (ctx % 64)) x n = tableInUse s x n := by rw [hunits]; rfl
    have hctx : (a.set .pntCtrlCtx (ctx % 64)).get .pntCtrlCtx = ctx % 64 := get_set_same _ _ (Nat.mod_lt ctx (by decide : 0 < 64))
    generalize a.set .pntCtrlCtx (ctx % 64) = b at heq hunits hregs htables huse hctx
    refine ⟨_, congrArg (finish s) heq, fun x hx hk => ?_, fun x hx hk hlive => ?_, ?_, ?_, keepsUnits_tables hunits _⟩
    · rw [finishState_tables] at hx
      rw [← huse]
      exact mem_pntInvCtx.1 hx hk
    · rw [finishState_tables]
      exact mem_pntInvCtx.2 (htables ▸ hx) hk hlive
    · exact (get_finish_same (u := b.pntInvCtx (ctx % 64)) hunits rfl rfl (by decide)).trans hctx
    · exact keepsRegs_finish_same (by decide) hunits hregs rfl rfl
  · obtain ⟨a, ha, hwaits, -⟩ := hostWrite_pntVl h (Nat.mod_lt ctx (by decide : 0 < 64)) (Nat.mod_lt vl (by decide : 0 < 4)) ofs
    have hregs : KeepsRegs hostFlds s (finishState s (a.vlWrite (ctx % 64) (vl % 4))) :=
      keepsRegs_finish_same (by decide) ha.units ha.regs rfl rfl
    refine ⟨_, congrArg (finish s) (hwaits hle), ?_, ?_, ?_, hregs, keepsUnits_vlPending ha.units _⟩
    · rw [finishState_vlPending]
      exact mem_upsert _ _ _
    · exact hregs _ _ (by decide)
    · have hview : ¬ ((fldInfo .pntVlPending).acc = .wo ∨
          ctxOf .pntVlPending (ctx % 64) > (finishState s (a.vlWrite (ctx % 64) (vl % 4))).build.numVf) := by
        rw [finishState_build]
        exact fun h => h.elim (by decide) (fun h => absurd hle (Nat.not_le.mpr h))
      have hany : (a.vlWrite (ctx % 64) (vl % 4)).vlPending.any (fun p => p.1 == ctx % 64) = true :=
        List.any_eq_true.mpr ⟨_, mem_upsert _ _ _, beq_self_eq_true _⟩
      rw [State.readFld, if_neg hview, State.liveFld, finishState_vlPending, hany]
      rfl
  · obtain ⟨a, ha, -, hnone⟩ := hostWrite_pntVl h (Nat.mod_lt ctx (by decide : 0 < 64)) (Nat.mod_lt vl (by decide : 0 < 4)) ofs
    exact ⟨_, congrArg (finish s) (hnone hlt), keepsRegs_finish_hostTurn s ofs, keepsUnits_finish_hostTurn s ofs⟩
  · simp only [State.cacheUnpin, List.mem_filter, Bool.or_eq_true, Bool.not_eq_true'] at he
    exact he.2
  · simp only [State.settleTables, List.mem_filter, Bool.not_eq_true', Bool.and_eq_false_imp, Bool.not_eq_false'] at hx
    exact hx.2 hd

end Sys2Proof.Proofs
end

section
/-! TICK_MODE.GO and the triggers of FJ_CTRL (02 R64; 16 R441, R451, R454). -/
namespace Sys2Proof.Machine

open Safety

theorem OnlyMessages.tick {s t : State} (h : OnlyMessages s t) : t.tick = s.tick := by
  have hall := h.1
  unfold KeepsAll at hall
  rw [hall]

theorem OnlyMessages.eng {s t : State} (h : OnlyMessages s t) : t.eng = s.eng := by
  have hall := h.1
  unfold KeepsAll at hall
  rw [hall]

theorem armUpd_of_keepsUnits {s u : State} (h : KeepsUnits s u) : u.armUpd = s.armUpd := by rw [h]

/-! ### TICK_MODE -/

def tickModeRow : MapRow :=
  ⟨0x1010, 1, 0, 1, .arr, [⟨0, 2, .tickModeCurrent, 0⟩, ⟨4, 2, .tickModeRequest, 0⟩, ⟨6, 1, .tickModeGo, 0⟩, ⟨7, 1, .tickModeRefused, 0⟩,
    ⟨8, 2, .tickModeArmatureMode, 0⟩]⟩

/-- TICK_MODE written with GO: REQUEST takes its value and is submitted; REFUSED stays. -/
theorem hostWrite_tickMode {s : State} (h : HostOpen s) {request : Nat} (hr : request < 4) (ofs : Nat) :
    ∃ a, WriteStarted s a ∧ OnlyMessages
      ((a.set .tickModeRequest request).set .tickModeRefused ((a.set .tickModeRequest request).get .tickModeRefused)).modeGo
      (s.privReg 0x1010 (request * 2 ^ 4 + 2 ^ 6) ofs) := by
  have hrow : findRow State.reset 0x1010 privMap = some (tickModeRow, 0) := by decide +kernel
  obtain ⟨a, ha, hmsg⟩ := hostWrite_row h hrow rfl (by decide) (by decide) (fun _ => rfl) (fun _ _ => rfl) (request * 2 ^ 4 + 2 ^ 6) ofs []
  refine ⟨a, ha, ?_⟩
  have hv : (request * 2 ^ 4 + 2 ^ 6) % 2 ^ 32 = request * 2 ^ 4 + 2 ^ 6 := by omega
  have hput (v : Nat) : a.putBits [.rw] tickModeRow.bits 0 v = a.set .tickModeRequest (mergeBits (a.get .tickModeRequest) 0 2 (bitsOf v 4 2)) := rfl
  have hclear (b : State) (v : Nat) : b.clearBits tickModeRow.bits 0 v =
      b.set .tickModeRefused (b.get .tickModeRefused - (b.get .tickModeRefused &&& bitsOf v 7 1 * 2 ^ 0)) := rfl
  have hold : a.get .tickModeRequest < 2 ^ 2 := getI_lt a .tickModeRequest 0 (Nat.two_pow_pos 2)
  have hreq : bitsOf (request * 2 ^ 4 + 2 ^ 6) 4 2 % 2 ^ 2 = request := by unfold bitsOf; omega
  have hrefused : bitsOf (request * 2 ^ 4 + 2 ^ 6) 7 1 = 0 := by unfold bitsOf; omega
  have hgo : bitOf (request * 2 ^ 4 + 2 ^ 6) 6 = true := by simp [bitOf]; omega
  rw [hv, hput, hclear, mergeBits_whole hold, hreq, hrefused, Nat.zero_mul, Nat.and_zero, Nat.sub_zero, State.actOn, if_pos hgo] at hmsg
  exact hmsg

/-! ### FJ_CTRL -/

def ctrlRow : MapRow :=
  ⟨0x44, 1, 0, 1, .arr, [⟨0, 1, .fjCtrlGo, 0⟩, ⟨1, 1, .fjCtrlEngineRst, 0⟩, ⟨2, 1, .fjCtrlRetainReq, 0⟩, ⟨3, 1, .fjCtrlArmUpd, 0⟩]⟩

theorem findRow_ctrl (s : State) : findRow s 0x0044 privMap = some (ctrlRow, 0) := by
  have hrow : findRow State.reset 0x0044 privMap = some (ctrlRow, 0) := by decide +kernel
  exact findRow_of_arr s hrow rfl

theorem hostWrite_ctrl {s : State} (h : HostOpen s) (v ofs : Nat) (data : Bytes) :
    ∃ a, WriteStarted s a ∧ s.hostWrite false 0 0x0044 4 v ofs data = a.actOn 0x0044 (v % 2 ^ 32) data := by
  obtain ⟨a, ha, heq⟩ := hostWrite_quiet h (findRow_ctrl _) rfl (by decide) (by decide) rfl (fun _ => rfl) (fun _ _ => rfl) v ofs data
  exact ⟨a, ha, heq⟩

theorem goWrite_started {s : State} (h : s.eng ≠ 1) (b : Bytes) : s.goWrite b = s := if_pos (.inl h)

/-! ### The Armature update -/

theorem armUpdWrite_busy {s : State} (h : s.get .fjArmUpdStatState = 1) (b : Bytes) : s.armUpdWrite b = s := if_pos h

/-- The code with which the first check that fails ends an update (16 R454). -/
def UpdateFails (s : State) (img : Bytes) (code : Nat) : Prop :=
  let c5 := check5 (fieldAt s.boot.directory 0x10 4) img
  c5 = false ∧ code = 0x10 ∨ c5 = true ∧ check6 s.arm.keyHash img = false ∧ code = 0x11 ∨
    c5 = true ∧ check6 s.arm.keyHash img = true ∧ check7 img = false ∧ code = 0x12 ∨
    c5 = true ∧ check6 s.arm.keyHash img = true ∧ check7 img = true ∧ (∃ x ∈ s.arm.copySeq, imgSeq img ≤ x.2) ∧ code = 0x17

theorem armUpdWrite_fails {s : State} (h : s.get .fjArmUpdStatState ≠ 1) {b : Bytes} {code : Nat}
    (hcode : UpdateFails s (b.take (s.get .fjArmUpdLenLen)) code) : s.armUpdWrite b = s.armUpdFail code := by
  unfold State.armUpdWrite
  rw [if_neg h]
  rcases hcode with ⟨h5, rfl⟩ | ⟨h5, h6, rfl⟩ | ⟨h5, h6, h7, rfl⟩ | ⟨h5, h6, h7, ⟨x, hx, hseq⟩, rfl⟩
  · simp only [h5, Bool.false_eq_true, not_false_eq_true, if_true]
  · simp only [h5, h6, Bool.false_eq_true, not_false_eq_true, not_true_eq_false, if_true, if_false]
  · simp only [h5, h6, h7, Bool.false_eq_true, not_false_eq_true, not_true_eq_false, if_true, if_false]
  · have hany : s.arm.copySeq.any (fun x => decide (imgSeq (b.take (s.get .fjArmUpdLenLen)) ≤ x.2)) = true :=
      List.any_eq_true.mpr ⟨x, hx, decide_eq_true hseq⟩
    simp only [h5, h6, h7, hany, not_true_eq_false, if_true, if_false]

theorem nvmIssue_eq (s : State) (o : NvmOp) : s.nvmIssue o = { s with nvm := s.nvm ++ [o], out := (s.nvmIssue o).out } := by
  unfold State.nvmIssue
  split <;> rfl

/-- The state in which an accepted update has begun. -/
def State.updateBegun (s : State) (img : Bytes) : State :=
  (({ s with armUpd := some ⟨img, updateCopy s, 0⟩ } : State).set .fjArmUpdStatState 1).set .fjArmUpdStatCode 0

/-- The first operation of an update on the device. -/
def updateFirst (s : State) (img : Bytes) : NvmOp :=
  let area := fieldAt s.boot.directory (8 + 4 * updateCopy s) 4
  if sfdpMram s.boot.sfdp then
    if 0 < img.length then ⟨.program, area, min 256 img.length, slice img 0 256, .update⟩ else ⟨.read, area, img.length, [], .update⟩
  else ⟨.erase, area, roundUp img.length 4096, [], .update⟩

theorem armUpdWrite_begins {s : State} (h : s.get .fjArmUpdStatState ≠ 1) {b : Bytes}
    (h5 : check5 (fieldAt s.boot.directory 0x10 4) (b.take (s.get .fjArmUpdLenLen)) = true)
    (h6 : check6 s.arm.keyHash (b.take (s.get .fjArmUpdLenLen)) = true) (h7 : check7 (b.take (s.get .fjArmUpdLenLen)) = true)
    (hseq : ∀ x ∈ s.arm.copySeq, x.2 < imgSeq (b.take (s.get .fjArmUpdLenLen))) :
    s.armUpdWrite b = (s.updateBegun (b.take (s.get .fjArmUpdLenLen))).nvmIssue (updateFirst s (b.take (s.get .fjArmUpdLenLen))) := by
  have hany : s.arm.copySeq.any (fun x => decide (imgSeq (b.take (s.get .fjArmUpdLenLen)) ≤ x.2)) = false :=
    List.any_eq_false.mpr fun x hx => by simpa using hseq x hx
  unfold State.armUpdWrite
  rw [if_neg h]
  generalize b.take (s.get .fjArmUpdLenLen) = img at h5 h6 h7 hany
  simp only [h5, h6, h7, hany, not_true_eq_false, if_false, Bool.false_eq_true]
  unfold updateFirst
  by_cases hm : sfdpMram s.boot.sfdp = true
  · rw [if_pos hm]
    refine (if_pos hm).trans ?_
    unfold State.updateNext
    by_cases hl : 0 < img.length
    · rw [if_pos hl, if_pos hl]
      rfl
    · rw [if_neg hl, if_neg hl]
      rfl
  · rw [if_neg hm]
    exact if_neg hm

theorem armUpdFail_shows {s a : State} (ha : WriteStarted s a) {code : Nat} (hc : code < 256) :
    KeepsUnits s (a.armUpdFail code) ∧ (a.armUpdFail code).get .fjArmUpdStatState = 3 ∧ (a.armUpdFail code).get .fjArmUpdStatCode = code ∧
      (a.armUpdFail code).flag .fjIrqDoneArmUpd = true := by
  refine ⟨keepsUnits_setI (keepsUnits_setI (keepsUnits_setI ha.units _ _ _) _ _ _) _ _ _, ?_, ?_, flag_up_same _ _ (by decide)⟩
  · rw [State.armUpdFail, State.up, get_set, get_set, get_set]
    rfl
  · rw [State.armUpdFail, State.up, get_set, get_set]
    exact Nat.mod_eq_of_lt hc

/-! ### GO in BOOT -/

theorem wake_of_notIdle {s : State} (h : s.eng ≠ 3) : s.wake = s.down .fjStateRetainPend := by
  unfold State.wake
  simp only [h, if_false]

theorem hostWrite_goInBoot {s : State} (he : s.eng = 1) (hh : s.holdup = none) (hw : s.waking = false) (hr : s.replaying = false)
    (hl : s.flag .fjStateLocked = false) (ofs : Nat) (b : Bytes) :
    s.hostWrite false 0 0x0044 4 1 ofs b = ((s.at_ ofs).wake).goWrite b := by
  have hwake : (s.at_ ofs).wake = (s.at_ ofs).down .fjStateRetainPend := wake_of_notIdle (show s.eng ≠ 3 by omega)
  have heng : ((s.at_ ofs).wake).eng = 1 := by rw [hwake]; exact he
  have hlock : ((s.at_ ofs).wake).flag .fjStateLocked = false := by
    rw [hwake, State.flag, State.down, get_set, if_neg (by decide)]
    exact hl
  unfold State.hostWrite
  rw [if_neg (by simp [he, State.holdingUp, hh, viewOk]), if_neg (by simp [he, hw]), if_neg (by simp [replayDrops, hr]),
    if_neg (by decide), State.writeWords, if_neg (by decide), State.wordAny, if_neg (by rw [heng]; decide), if_pos (by simp [heng, hlock]),
    State.wordInBoot, if_neg (by decide), if_neg (by decide), findRow_ctrl]
  rfl

/-- Check 10 fails again: the breach is shown, and start-up waits on. -/
theorem goWrite_breach {s : State} (he : s.eng = 1) (haw : s.flag .fjStateAwaitDriver = true) (hst : s.boot.stuck = false) {o : Nat}
    (ho : configBreach s s.arm.records s.arm.pkg = some o) (b : Bytes) :
    s.goWrite b = ((s.set .fjBootInfoField o).set .fjBootInfoCode 0x15).up .fjIrqDoneGo := by
  unfold State.goWrite
  rw [if_neg (by simp [he, haw]), if_neg (by simp [hst]), ho]

/-- Check 10 passes, and no replay is set: start-up goes on with step 4. -/
theorem goWrite_passes {s : State} (he : s.eng = 1) (haw : s.flag .fjStateAwaitDriver = true) (hst : s.boot.stuck = false)
    (hmode : s.get .yljCfgMode ≠ 2) (ho : configBreach s s.arm.records s.arm.pkg = none) (b : Bytes) :
    s.goWrite b = ((s.down .fjStateAwaitDriver).up .fjIrqDoneGo).step4 := by
  unfold State.goWrite
  rw [if_neg (by simp [he, haw]), if_neg (by simp [hst]), ho]
  simp only [hmode, if_false, ne_eq, not_true_eq_false]

/-- The reads of the Plinth areas (16 R441). -/
def plinthReads (s : State) : List NvmOp :=
  [⟨.read, plinthOff s, 0x2000, [], .plinth 0⟩, ⟨.read, plinthOff s + 0x10000, 0x2000, [], .plinth 1⟩,
    ⟨.read, plinthOff s + 0x20000, 0x10000, [], .journal 0⟩, ⟨.read, plinthOff s + 0x30000, 0x10000, [], .journal 1⟩]

theorem step4_eq (s : State) :
    s.step4 = { s with
      boot := { s.boot with stage := .plinth, plinthRecs := [], journals := [] }, nvm := s.nvm ++ plinthReads s, out := s.step4.out } := by
  unfold State.step4
  dsimp only
  rw [nvmIssue_eq, nvmIssue_eq (State.nvmIssue _ _), nvmIssue_eq (State.nvmIssue _ _), nvmIssue_eq (State.modBoot _ _)]
  simp [plinthReads, State.modBoot]

end Sys2Proof.Machine

namespace Sys2Proof.Proofs

open Sys2Proof.Machine Sys2Proof.Safety

/-- Settles O8: a write to TICK_MODE or FJ_CTRL comes down to one action, and the branches of that action are those of the statement. -/
theorem controlWrites : Obligations.ControlWrites := by
  unfold Obligations.ControlWrites
  refine ⟨fun s request ofs h => ?_, fun s ofs b h => ⟨?_, ?_, ?_⟩, fun s ofs b he hh hw hr hl haw hst hmode => ⟨fun o ho => ?_, fun hno => ?_⟩,
    fun s ofs b h hst h5 h6 h7 hseq => ?_⟩
  · obtain ⟨a, ha, hmsg⟩ := hostWrite_tickMode h (Nat.mod_lt request (by decide : 0 < 4)) ofs
    obtain ⟨hunits, hregs⟩ := ha.keeps_set (List.mem_singleton_self Fld.tickModeRequest) (request % 4)
    have hreq : (a.set .tickModeRequest (request % 4)).get .tickModeRequest = request % 4 :=
      get_set_same _ _ (Nat.mod_lt request (by decide : 0 < 4))
    have hmode : (a.set .tickModeRequest (request % 4)).tick.mode = s.tick.mode := ha.mode
    have heng : (a.set .tickModeRequest (request % 4)).eng = 2 := ha.eng
    generalize a.set .tickModeRequest (request % 4) = c at hmsg hunits hregs hreq hmode heng
    have hc : c.set .tickModeRefused (c.get .tickModeRefused) = { c with regs := (c.set .tickModeRefused (c.get .tickModeRefused)).regs } := rfl
    have hsame (f : Fld) (i : Nat) : (c.set .tickModeRefused (c.get .tickModeRefused)).getI f i = c.getI f i :=
      getI_set_restored rfl (Nat.two_pow_pos _)
    generalize c.set .tickModeRefused (c.get .tickModeRefused) = d at hmsg hc hsame
    have hd : KeepsUnits s d := by rw [KeepsUnits, hc, hunits]
    have hgo : KeepsUnits s d.modeGo := by rw [KeepsUnits, State.modeGo, hd]
    have hgoRegs : KeepsRegs (hostFlds ++ [.tickModeRequest]) s d.modeGo :=
      fun f i hf => (hsame f i).trans (hregs f i hf)
    refine ⟨_, rfl, ?_, ?_, ?_, ?_, keepsRegs_of_messages (by decide) (build_of_keepsUnits hgo) hgoRegs hmsg, keepsUnits_of_messages hgo hmsg⟩
    · rw [finishState_tick, hmsg.tick]
      exact congrArg some ((hsame _ 0).trans hreq)
    · rw [get_finish_messages hmsg (build_of_keepsUnits hgo) (by decide)]
      exact (hsame _ 0).trans hreq
    · rw [finishState_tick, hmsg.tick, State.modeGo, hc]
      exact hmode
    · rw [finishState_eng, hmsg.eng, State.modeGo, hc]
      exact heng
  · obtain ⟨a, ha, heq⟩ := hostWrite_ctrl h 1 ofs b
    have hact : a.actOn 0x0044 (1 % 2 ^ 32) b = a := goWrite_started (by rw [ha.eng]; decide) b
    rw [hact] at heq
    exact ⟨_, congrArg (finish s) heq, keeps_finish (by decide) ha.units ha.regs⟩
  · obtain ⟨a, ha, heq⟩ := hostWrite_ctrl h 4 ofs []
    have hact : a.actOn 0x0044 (4 % 2 ^ 32) [] = a.up .fjStateRetainPend := if_pos ⟨rfl, .inl ha.eng⟩
    rw [hact] at heq
    have hunits : KeepsUnits s (a.up .fjStateRetainPend) := keepsUnits_setI ha.units _ _ _
    refine ⟨_, congrArg (finish s) heq, ?_, keeps_finish (by decide) hunits (keepsRegs_trans ha.regs (keepsRegs_setI (by decide) a 0 1))⟩
    rw [State.flag, get_finish_of_keepsUnits hunits (by decide)]
    exact flag_up_same a _ (by decide)
  · obtain ⟨a, ha, heq⟩ := hostWrite_ctrl h 8 ofs b
    have hact : a.actOn 0x0044 (8 % 2 ^ 32) b = a.armUpdWrite b := if_pos ⟨rfl, by rw [ha.eng]; decide⟩
    rw [hact] at heq
    have hstate : a.get .fjArmUpdStatState = s.get .fjArmUpdStatState := ha.get (by decide)
    have hlen : a.get .fjArmUpdLenLen = s.get .fjArmUpdLenLen := ha.get (by decide)
    have hfails {code : Nat} (hfree : s.get .fjArmUpdStatState ≠ 1) (hcode : UpdateFails s (b.take (s.get .fjArmUpdLenLen)) code) :
        a.armUpdWrite b = a.armUpdFail code := by
      refine armUpdWrite_fails (by rwa [hstate]) ?_
      rw [hlen]
      rw [ha.units]
      exact hcode
    refine ⟨_, congrArg (finish s) heq, fun hbusy => ?_, fun hfree code hcode => ?_, fun hne => ?_⟩
    · rw [armUpdWrite_busy (hstate.trans hbusy)]
      exact (keeps_finish (by decide) ha.units ha.regs)
    · have hcode' : code < 256 := by
        rcases hcode with ⟨-, rfl⟩ | ⟨-, -, rfl⟩ | ⟨-, -, -, rfl⟩ | ⟨-, -, -, -, rfl⟩ <;> decide
      obtain ⟨hunits, h3, hc, hirq⟩ := armUpdFail_shows ha hcode'
      rw [hfails hfree hcode, State.flag, get_finish_of_keepsUnits hunits (by decide), get_finish_of_keepsUnits hunits (by decide),
        get_finish_of_keepsUnits hunits (by decide)]
      exact ⟨h3, hc, hirq, keepsUnits_finishState hunits⟩
    · have hkept {code : Nat} : (finishState s (a.armUpdFail code)).armUpd = s.armUpd := by
        rw [finishState_armUpd, ← armUpd_of_keepsUnits ha.units]
        rfl
      have hfree : s.get .fjArmUpdStatState ≠ 1 := fun hbusy => hne (by
        rw [armUpdWrite_busy (hstate.trans hbusy), finishState_armUpd, armUpd_of_keepsUnits ha.units])
      refine ⟨hfree, ?_⟩
      cases h5 : check5 (fieldAt s.boot.directory 0x10 4) (b.take (s.get .fjArmUpdLenLen)) with
      | false => exact absurd (by rw [hfails hfree (.inl ⟨h5, rfl⟩)]; exact hkept) hne
      | true =>
        cases h6 : check6 s.arm.keyHash (b.take (s.get .fjArmUpdLenLen)) with
        | false => exact absurd (by rw [hfails hfree (.inr (.inl ⟨h5, h6, rfl⟩))]; exact hkept) hne
        | true =>
          cases h7 : check7 (b.take (s.get .fjArmUpdLenLen)) with
          | false => exact absurd (by rw [hfails hfree (.inr (.inr (.inl ⟨h5, h6, h7, rfl⟩)))]; exact hkept) hne
          | true => exact ⟨rfl, rfl, rfl⟩
  · have hwake : (s.at_ ofs).wake = (s.at_ ofs).down .fjStateRetainPend := wake_of_notIdle (show s.eng ≠ 3 by omega)
    have heq := hostWrite_goInBoot he hh hw hr hl ofs b
    rw [hwake] at heq ho
    have haw' : ((s.at_ ofs).down .fjStateRetainPend).flag .fjStateAwaitDriver = true := by
      rw [State.flag, State.down, get_set, if_neg (by decide)]
      exact haw
    rw [goWrite_breach (s := (s.at_ ofs).down .fjStateRetainPend) he haw' hst ho] at heq
    have hbuild : (((((s.at_ ofs).down .fjStateRetainPend).set .fjBootInfoField o).set .fjBootInfoCode 0x15).up .fjIrqDoneGo).build = s.build := rfl
    refine ⟨_, congrArg (finish s) heq, ?_, ?_, ?_, ?_, ?_⟩
    · rw [State.flag, get_finishState hbuild (by decide), State.up, get_set, if_neg (by decide), get_set, if_neg (by decide), get_set,
        if_neg (by decide)]
      exact haw'
    · rw [State.flag, get_finishState hbuild (by decide)]
      exact flag_up_same _ _ (by decide)
    · rw [get_finishState hbuild (by decide), State.up, get_set, if_neg (by decide), get_set]
      rfl
    · rw [finishState_boot]
      rfl
    · rw [finishState_nvm]
      rfl
  · have hwake : (s.at_ ofs).wake = (s.at_ ofs).down .fjStateRetainPend := wake_of_notIdle (show s.eng ≠ 3 by omega)
    have heq := hostWrite_goInBoot he hh hw hr hl ofs b
    rw [hwake] at heq hno
    have haw' : ((s.at_ ofs).down .fjStateRetainPend).flag .fjStateAwaitDriver = true := by
      rw [State.flag, State.down, get_set, if_neg (by decide)]
      exact haw
    have hmode' : ((s.at_ ofs).down .fjStateRetainPend).get .yljCfgMode ≠ 2 := by
      rw [State.down, get_set, if_neg (by decide)]
      exact hmode
    rw [goWrite_passes (s := (s.at_ ofs).down .fjStateRetainPend) he haw' hst hmode' hno] at heq
    have hstep := step4_eq ((((s.at_ ofs).down .fjStateRetainPend).down .fjStateAwaitDriver).up .fjIrqDoneGo)
    generalize (((((s.at_ ofs).down .fjStateRetainPend).down .fjStateAwaitDriver).up .fjIrqDoneGo).step4) = u at heq hstep
    have hbuild : u.build = s.build := by rw [hstep]; rfl
    have hget (f : Fld) : u.get f = ((((s.at_ ofs).down .fjStateRetainPend).down .fjStateAwaitDriver).up .fjIrqDoneGo).get f := by
      rw [hstep]; rfl
    refine ⟨_, congrArg (finish s) heq, ?_, ?_, ?_, ?_⟩
    · rw [State.flag, get_finishState hbuild (by decide), hget, State.up, get_set, if_neg (by decide), State.down, get_set]
      rfl
    · rw [State.flag, get_finishState hbuild (by decide), hget]
      exact flag_up_same _ _ (by decide)
    · rw [finishState_boot, hstep]
    · rw [finishState_nvm, hstep]
      rfl
  · obtain ⟨a, ha, heq⟩ := hostWrite_ctrl h 8 ofs b
    have hact : a.actOn 0x0044 (8 % 2 ^ 32) b = a.armUpdWrite b := if_pos ⟨rfl, by rw [ha.eng]; decide⟩
    have hlen : a.get .fjArmUpdLenLen = s.get .fjArmUpdLenLen := ha.get (by decide)
    have hboot : a.boot = s.boot := by rw [ha.units]
    have harm : a.arm = s.arm := by rw [ha.units]
    have hcopy : updateCopy a = updateCopy s := by unfold updateCopy; rw [harm]
    have hfirst : updateFirst a (b.take (s.get .fjArmUpdLenLen)) = updateFirst s (b.take (s.get .fjArmUpdLenLen)) := by
      unfold updateFirst
      rw [hboot, hcopy]
    have hfree : a.get .fjArmUpdStatState ≠ 1 := by rwa [ha.get (f := .fjArmUpdStatState) (by decide)]
    have hbegins := armUpdWrite_begins (s := a) (b := b) hfree
    rw [hlen, hboot, harm, hfirst] at hbegins
    rw [hact, hbegins h5 h6 h7 hseq] at heq
    clear hact hbegins hfirst hlen
    generalize b.take (s.get .fjArmUpdLenLen) = img at heq ⊢
    have hnvm := nvmIssue_eq (a.updateBegun img) (updateFirst s img)
    generalize (a.updateBegun img).nvmIssue (updateFirst s img) = u at heq hnvm
    have hbuild : u.build = s.build := by rw [hnvm, ← ha.build]; rfl
    have hget (f : Fld) : u.get f = (a.updateBegun img).get f := by rw [hnvm]; rfl
    have hlist : u.nvm = s.nvm ++ [updateFirst s img] := by
      rw [hnvm]
      change a.nvm ++ _ = _
      rw [ha.units]
    refine ⟨_, congrArg (finish s) heq, ?_, ?_, ?_, fun hm => ?_, fun hm hne => ?_, ?_, ?_, ?_⟩
    · rw [finishState_armUpd, hnvm, ← hcopy]
      rfl
    · rw [get_finishState hbuild (by decide), hget, State.updateBegun, get_set, if_neg (by decide), get_set]
      rfl
    · rw [get_finishState hbuild (by decide), hget, State.updateBegun, get_set]
      rfl
    · rw [finishState_nvm, hlist, updateFirst, if_neg (by rw [hm]; decide)]
    · rw [finishState_nvm, hlist, updateFirst, if_pos hm, if_pos (List.length_pos_iff.mpr hne)]
    · rw [finishState_entries, hnvm]
      change a.entries = _
      rw [ha.units]
    · rw [finishState_jobs, hnvm]
      change a.jobs = _
      rw [ha.units]
    · rw [finishState_keys, hnvm]
      change a.keys = _
      rw [ha.units]

end Sys2Proof.Proofs
end

section
/-! What a table of the state reads after one of its rows was put (entries of the transport, keys, rings, words). -/
namespace Sys2Proof.Machine

open Safety

theorem find?_upsert_other {α : Type} {p q : α → Bool} {a : α} (hq : q a = false) (hpq : ∀ x, p x = true → q x = false) (l : List α) :
    (upsert p a l).find? q = l.find? q := by
  induction l with
  | nil => simp [upsert, hq]
  | cons b t ih =>
    rw [upsert]
    cases hb : p b with
    | true => simp [hq, hpq b hb]
    | false => simp [List.find?_cons, ih]

/-- The list that holds a row under its key, a row at its default not being listed. -/
def putRow {α : Type} [DecidableEq α] (p : α → Bool) (x d : α) (l : List α) : List α :=
  if x = d then l.filter (fun y => !p y) else upsert p x l

theorem find?_putRow_same {α : Type} [DecidableEq α] {p : α → Bool} {x d : α} (hx : p x = true) (l : List α) :
    ((putRow p x d l).find? p).getD d = x := by
  unfold putRow
  split
  · next h =>
    have hnone : (l.filter (fun y => !p y)).find? p = none := by
      rw [List.find?_eq_none]
      intro y hy
      simpa using (List.mem_filter.mp hy).2
    rw [hnone, h]
    rfl
  · rw [find?_upsert_same hx]
    rfl

theorem find?_putRow_other {α : Type} [DecidableEq α] {p q : α → Bool} {x d : α} (hx : q x = false) (hpq : ∀ y, p y = true → q y = false)
    (l : List α) : (putRow p x d l).find? q = l.find? q := by
  unfold putRow
  split
  · rw [List.find?_filter]
    congr 1
    funext y
    cases hy : q y with
    | false => simp
    | true =>
      cases hp : p y with
      | false => rfl
      | true => rw [hpq y hp] at hy; contradiction
  · exact find?_upsert_other hx hpq l

theorem qp_eq (s : State) (q : Nat) : s.qp q = (s.qps.find? (fun x => x.qp == q)).getD (Qp.fresh q) := by
  unfold State.qp
  cases s.qps.find? _ <;> rfl

theorem qp_putQp_same (s : State) (y : Qp) : (s.putQp y).qp y.qp = y := by
  rw [qp_eq]
  exact find?_putRow_same (p := fun x : Qp => x.qp == y.qp) (beq_self_eq_true y.qp) s.qps

theorem qp_putQp_other (s : State) (y : Qp) {q : Nat} (h : q ≠ y.qp) : (s.putQp y).qp q = s.qp q := by
  rw [qp_eq, qp_eq]
  refine congrArg (Option.getD · (Qp.fresh q)) (find?_putRow_other ?_ (fun x hx => ?_) s.qps)
  · simpa using Ne.symm h
  · simpa [eq_of_beq hx] using Ne.symm h

theorem qp_qp (s : State) (q : Nat) : (s.qp q).qp = q := by
  unfold State.qp
  split
  · next h => exact eq_of_beq (List.find?_some (p := fun x : Qp => x.qp == q) h)
  · rfl

theorem key_eq (s : State) (k : Nat) : s.key k = (s.keys.find? (fun x => x.slot == k)).getD (KeySlot.fresh k) := by
  unfold State.key
  cases s.keys.find? _ <;> rfl

theorem key_putKey_same (s : State) (x : KeySlot) : (s.putKey x).key x.slot = x := by
  rw [key_eq]
  exact find?_putRow_same (p := fun y : KeySlot => y.slot == x.slot) (beq_self_eq_true x.slot) s.keys

theorem key_putKey_other (s : State) (x : KeySlot) {k : Nat} (h : k ≠ x.slot) : (s.putKey x).key k = s.key k := by
  rw [key_eq, key_eq]
  refine congrArg (Option.getD · (KeySlot.fresh k)) (find?_putRow_other ?_ (fun y hy => ?_) s.keys)
  · simpa using Ne.symm h
  · simpa [eq_of_beq hy] using Ne.symm h

theorem key_slot (s : State) (k : Nat) : (s.key k).slot = k := by
  unfold State.key
  split
  · next h => exact eq_of_beq (List.find?_some (p := fun x : KeySlot => x.slot == k) h)
  · rfl

theorem word_eq (s : State) (p : Nat) : s.word p = (s.words.find? (fun x => x.phys == p)).getD (SyncWord.fresh p) := by
  unfold State.word
  cases s.words.find? _ <;> rfl

theorem word_putWord_other (s : State) (w : SyncWord) {p : Nat} (h : p ≠ w.phys) : (s.putWord w).word p = s.word p := by
  rw [word_eq, word_eq]
  refine congrArg (Option.getD · (SyncWord.fresh p)) (find?_putRow_other ?_ (fun y hy => ?_) s.words)
  · simpa using Ne.symm h
  · simpa [eq_of_beq hy] using Ne.symm h

theorem word_phys (s : State) (p : Nat) : (s.word p).phys = p := by
  unfold State.word
  split
  · next h => exact eq_of_beq (List.find?_some (p := fun x : SyncWord => x.phys == p) h)
  · rfl

theorem ring_eq (s : State) (c r : Nat) :
    s.ring c r = (s.rings.find? (fun x => x.ctx == c && x.ring == r)).getD (Ring.empty c r) := by
  unfold State.ring
  cases s.rings.find? _ <;> rfl

theorem ring_putRing_same (s : State) (r : Ring) : (s.putRing r).ring r.ctx r.ring = r := by
  rw [ring_eq]
  exact find?_putRow_same (p := fun x : Ring => x.ctx == r.ctx && x.ring == r.ring) (by simp) s.rings

theorem ring_putRing_other (s : State) (r : Ring) {c n : Nat} (h : ¬ (r.ctx = c ∧ r.ring = n)) : (s.putRing r).ring c n = s.ring c n := by
  rw [ring_eq, ring_eq]
  refine congrArg (Option.getD · (Ring.empty c n)) (find?_putRow_other ?_ (fun y hy => ?_) s.rings)
  · simpa using h
  · simp only [Bool.and_eq_true, beq_iff_eq] at hy
    simpa [hy.1, hy.2] using h

theorem ring_names (s : State) (c r : Nat) : (s.ring c r).ctx = c ∧ (s.ring c r).ring = r := by
  unfold State.ring
  split
  · next h =>
    have := List.find?_some (p := fun x : Ring => x.ctx == c && x.ring == r) h
    simpa using this
  · exact ⟨rfl, rfl⟩

theorem tgt_eq (s : State) (t : Nat) : s.tgt t = (s.tgts.find? (fun x => x.tgt == t)).getD (Tgt.fresh t) := by
  unfold State.tgt
  cases s.tgts.find? _ <;> rfl

theorem unit_putUnit_same (s : State) (u : PUnit) : (s.putUnit u).unit u.cls u.phys = u := by
  have hfind : (upsert (fun x : PUnit => x.cls == u.cls && x.phys == u.phys) u s.patina.units).find?
      (fun x => x.cls == u.cls && x.phys == u.phys) = some u := find?_upsert_same (by simp) _
  unfold State.unit State.putUnit
  dsimp only
  rw [hfind]

theorem unit_putUnit_other (s : State) (u : PUnit) {c p : Nat} (h : ¬ (u.cls = c ∧ u.phys = p)) : (s.putUnit u).unit c p = s.unit c p := by
  have hfind : (upsert (fun x : PUnit => x.cls == u.cls && x.phys == u.phys) u s.patina.units).find?
      (fun x => x.cls == c && x.phys == p) = s.patina.units.find? (fun x => x.cls == c && x.phys == p) := by
    refine find?_upsert_other (by simpa using h) (fun y hy => ?_) _
    simp only [Bool.and_eq_true, beq_iff_eq] at hy
    simpa [hy.1, hy.2] using h
  unfold State.unit State.putUnit
  dsimp only
  rw [hfind]

theorem unit_names (s : State) (c p : Nat) : (s.unit c p).cls = c ∧ (s.unit c p).phys = p := by
  unfold State.unit
  split
  · next h =>
    have := List.find?_some (p := fun x : PUnit => x.cls == c && x.phys == p) h
    simpa using this
  · exact ⟨rfl, rfl⟩

end Sys2Proof.Machine
end

section
/-! Entries of the transport brought to RTS and RESET, and the connections that follow (12 R329). -/
namespace Sys2Proof.Machine

open Safety

/-- What the start of a connection changes: the target's state, its operation and what is sent, and the sequence number of its entry. -/
structure ConnOnly (s t : State) : Prop where
  units : t = { s with regs := t.regs, out := t.out, xfers := t.xfers, qps := t.qps, tgts := t.tgts }
  regs : KeepsRegs [.xptTgtStateState] s t
  recv : ∀ q, (t.qp q).recvPsn = (s.qp q).recvPsn

theorem ConnOnly.refl (s : State) : ConnOnly s s := ⟨rfl, keepsRegs_refl _ _, fun _ => rfl⟩

theorem ConnOnly.trans {s t u : State} (h : ConnOnly s t) (k : ConnOnly t u) : ConnOnly s u :=
  ⟨by rw [k.units, h.units], keepsRegs_trans h.regs k.regs, fun q => (k.recv q).trans (h.recv q)⟩

theorem recvPsn_putQp (s : State) {y : Qp} (hy : y.recvPsn = (s.qp y.qp).recvPsn) (p : Nat) :
    ((s.putQp y).qp p).recvPsn = (s.qp p).recvPsn := by
  by_cases h : p = y.qp
  · rw [h, qp_putQp_same, hy]
  · rw [qp_putQp_other s y h]

theorem connOnly_connStep (s : State) (t step : Nat) : ConnOnly s (s.connStep t step) := by
  unfold State.connStep
  extract_lets cid q y x s0 b s1
  have h0 : ConnOnly s s0 := by
    unfold s0
    split
    · exact .refl s
    · exact ⟨rfl, keepsRegs_of_regs rfl rfl, recvPsn_putQp s (congrArg (fun n => (s.qp n).recvPsn) (qp_qp s q)).symm⟩
  exact h0.trans ⟨rfl, keepsRegs_of_regs rfl rfl, fun _ => rfl⟩

theorem connOnly_connect (s : State) (t : Nat) : ConnOnly s (s.connect t) := by
  unfold State.connect
  extract_lets s1 s2
  have h2 : ConnOnly s s2 := ⟨rfl, keepsRegs_setI (by decide) s t 1, fun _ => rfl⟩
  have hmay {p : Prop} [Decidable p] : ConnOnly s (if p then s2.connStep t 1 else s2) := by
    split
    · exact h2.trans (connOnly_connStep _ _ _)
    · exact h2
  split
  · exact .refl s
  · split <;> exact hmay

theorem connOnly_connects (l : List Nat) (s : State) : ConnOnly s (l.foldl (fun a t => a.connect t) s) := by
  induction l generalizing s with
  | nil => exact .refl s
  | cons t l ih => exact (connOnly_connect s t).trans (ih _)

theorem tgtsOf_congr {s t : State} (h : ∀ f ∈ [Fld.xptTgtCfgSlots, .xptTgtCfgAdminQp, .xptTgtCfgIoQp, .xptQpAttrPathLen], ∀ i, t.getI f i = s.getI f i)
    (q : Nat) : tgtsOf t q = tgtsOf s q := by
  have h1 := h .xptTgtCfgSlots (by decide)
  have h2 := h .xptTgtCfgAdminQp (by decide)
  have h3 := h .xptTgtCfgIoQp (by decide)
  have h4 := h .xptQpAttrPathLen (by decide)
  simp only [tgtsOf, tgtUsed, State.path, h1, h2, h3, h4]

/-- The entry as it stands at RTS, before a connection sends on it. -/
def State.rtsBegun (s : State) (q : Nat) : State :=
  (s.putQp { Qp.fresh q with sendPsn := s.getI .xptQpSpsnPsn q, recvPsn := s.getI .xptQpRpsnPsn q }).setI .xptQpStateState q qpRts

theorem qpToRts_eq (s : State) (q : Nat) : s.qpToRts q = (tgtsOf s q).foldl (fun a t => a.connect t) (s.rtsBegun q) := rfl

theorem qp_rtsBegun (s : State) (q : Nat) :
    (s.rtsBegun q).qp q = { Qp.fresh q with sendPsn := s.getI .xptQpSpsnPsn q, recvPsn := s.getI .xptQpRpsnPsn q } :=
  qp_putQp_same s { Qp.fresh q with sendPsn := s.getI .xptQpSpsnPsn q, recvPsn := s.getI .xptQpRpsnPsn q }

theorem rts_rtsBegun (s : State) (q : Nat) : (s.rtsBegun q).rts q = true := by
  rw [State.rts, State.rtsBegun, getI_setI_same]
  rfl

/-- An entry brought to RTS: nothing but the transport changes. -/
theorem qpToRts_shows (s : State) (q : Nat) :
    s.qpToRts q = { s with
      regs := (s.qpToRts q).regs, out := (s.qpToRts q).out, xfers := (s.qpToRts q).xfers, qps := (s.qpToRts q).qps,
      tgts := (s.qpToRts q).tgts } ∧ (s.qpToRts q).rts q = true ∧ ((s.qpToRts q).qp q).recvPsn = s.getI .xptQpRpsnPsn q := by
  obtain ⟨hunits, hregs, hrecv⟩ := connOnly_connects (tgtsOf s q) (s.rtsBegun q)
  rw [← qpToRts_eq] at hunits hregs hrecv
  refine ⟨?_, ?_, ?_⟩
  · rw [hunits]
    rfl
  · rw [State.rts, hregs _ _ (by decide)]
    exact rts_rtsBegun s q
  · rw [hrecv, qp_rtsBegun]

theorem qp_congr {s t : State} (h : t.qps = s.qps) (q : Nat) : t.qp q = s.qp q := by
  rw [State.qp, h, State.qp]

theorem qpToReset_shows (s : State) (q : Nat) :
    (s.qpToReset q).getI .xptQpStateState q = 0 ∧ (s.qpToReset q).qp q = Qp.fresh q ∧ (s.qpToReset q).jobs = s.jobs ∧
      (s.qpToReset q).entries = s.entries ∧
      ∀ p, p ≠ q → (s.qpToReset q).getI .xptQpStateState p = s.getI .xptQpStateState p :=
  ⟨getI_setI_same _ _ _ _, qp_putQp_same (s.dropOps q) (Qp.fresh q), rfl, rfl, fun _ hp => getI_setI_other _ _ (fun e => hp e.2.symm)⟩

end Sys2Proof.Machine

namespace Sys2Proof.Proofs

open Sys2Proof.Machine Sys2Proof.Safety

/-- Settles O14: XPT_QP_CMD acts on the selected entry alone, and the connections that an RTS starts leave its state and what it
receives next. -/
theorem queuePairCommands : Obligations.QueuePairCommands := by
  unfold Obligations.QueuePairCommands
  intro s ofs h q
  obtain ⟨a, ha, hreset⟩ : ∃ a, WriteStarted s a ∧ s.privReg 0x9034 1 ofs = a.qpCommand 1 :=
    hostWrite_command h (w := 2) (f := .xptQpCmdCmd) (by decide +kernel) (by decide) (by decide) (by decide) rfl rfl 1 ofs []
  obtain ⟨b, hb, hrts⟩ : ∃ a, WriteStarted s a ∧ s.privReg 0x9034 2 ofs = a.qpCommand 2 :=
    hostWrite_command h (w := 2) (f := .xptQpCmdCmd) (by decide +kernel) (by decide) (by decide) (by decide) rfl rfl 2 ofs []
  have hqa : a.get .xptQpSelQp = q := ha.get (by decide)
  have hqb : b.get .xptQpSelQp = q := hb.get (by decide)
  have hra : a.rts q = s.rts q := by rw [State.rts, ha.regs _ _ (by decide), State.rts]
  have hrb : b.rts q = s.rts q := by rw [State.rts, hb.regs _ _ (by decide), State.rts]
  have hresetEq : a.qpCommand 1 = (((a.qpError q stXptQpDown).set .xptStatQpError (a.get .xptStatQpError)).setI .xptQpStateLastErr q
      (a.getI .xptQpStateLastErr q)).qpToReset q := by
    rw [State.qpCommand, if_pos rfl, hqa]
  have hrtsEq : b.qpCommand 2 = if b.rts q = true then b else b.qpToRts q := by
    rw [State.qpCommand, if_neg (by decide), hqb]
    by_cases hr : b.rts q = true
    · rw [if_pos hr, if_neg (fun hn => hn.2 hr)]
    · rw [if_neg hr, if_pos ⟨rfl, hr⟩]
  rw [hresetEq] at hreset
  rw [hrtsEq, hrb] at hrts
  generalize hu : ((a.qpError q stXptQpDown).set .xptStatQpError (a.get .xptStatQpError)).setI .xptQpStateLastErr q
      (a.getI .xptQpStateLastErr q) = u at hreset
  have hbuild : (u.qpToReset q).build = s.build := by
    rw [← hu]
    exact (keepsLock_qpError a q _).build.trans ha.build
  obtain ⟨hstate, hfresh, hjobs, hentries, hothers⟩ := qpToReset_shows u q
  have hgone : (finishState s (u.qpToReset q)).getI .xptQpStateState q = 0 ∧ (finishState s (u.qpToReset q)).qp q = Qp.fresh q :=
    ⟨(getI_finishState hbuild (by decide) q).trans hstate, (qp_congr (finishState_qps s _) q).trans hfresh⟩
  obtain ⟨hunits, hup, hrecv⟩ := qpToRts_shows b q
  have hbuildRts : (b.qpToRts q).build = s.build := by rw [hunits]; exact hb.build
  have hupRts : (finishState s (b.qpToRts q)).rts q = true := by
    rw [State.rts, getI_finishState hbuildRts (by decide)]
    exact hup
  have hentriesRts : (finishState s (b.qpToRts q)).entries = s.entries := by rw [finishState_entries, hunits, hb.units]
  have hrecvRts : ((finishState s (b.qpToRts q)).qp q).recvPsn = s.getI .xptQpRpsnPsn q := by
    rw [qp_congr (finishState_qps s _), hrecv, hb.regs _ _ (by decide)]
  refine ⟨fun hdown => ?_, fun _ => ⟨_, congrArg (finish s) hreset, hgone⟩, fun hrun => ?_, fun hdown => ?_, fun hdown hnone => ?_⟩
  · have herr : a.qpError q stXptQpDown = a := if_pos (by rw [hra, hdown]; decide)
    rw [herr] at hu
    refine ⟨_, congrArg (finish s) hreset, hgone.1, hgone.2, ?_, ?_, fun p hp => ?_⟩
    · rw [finishState_jobs, hjobs, ← hu]
      change a.jobs = _
      rw [ha.units]
    · rw [finishState_entries, hentries, ← hu]
      change a.entries = _
      rw [ha.units]
    · rw [getI_finishState hbuild (by decide), hothers p hp, ← hu, getI_setI_other _ _ (by simp), getI_set, if_neg (by simp),
        ha.regs _ _ (by decide)]
  · rw [if_pos hrun] at hrts
    exact ⟨_, congrArg (finish s) hrts, keeps_finish (by decide) hb.units hb.regs⟩
  · rw [if_neg (by rw [hdown]; decide)] at hrts
    exact ⟨_, congrArg (finish s) hrts, hupRts, hrecvRts, hentriesRts⟩
  · rw [if_neg (by rw [hdown]; decide)] at hrts
    have hnone' : tgtsOf b q = [] := by
      rw [tgtsOf_congr (fun f hf i => hb.regs f i (fun hn => ?_)), hnone]
      revert f
      decide
    refine ⟨_, congrArg (finish s) hrts, hupRts, ?_, hrecvRts, ?_, hentriesRts⟩
    · rw [qp_congr (finishState_qps s _), qpToRts_eq, hnone', List.foldl_nil, qp_rtsBegun, hb.regs _ _ (by decide)]
    · rw [finishState_jobs, hunits, hb.units]

end Sys2Proof.Proofs
end

section
/-! ABANDON and ADOPT (10 R286, R288, R290), RETIRE, CLOSE and SWAP (17 R483, 18 R490, 04 R132). -/
namespace Sys2Proof.Machine

open Safety

/-! ### Only registers -/

/-- Only the register file changes. -/
def RegsOnly (s t : State) : Prop := t = { s with regs := t.regs }

theorem RegsOnly.refl (s : State) : RegsOnly s s := rfl

theorem RegsOnly.trans {s t u : State} (h : RegsOnly s t) (k : RegsOnly t u) : RegsOnly s u := by
  rw [RegsOnly, k, h]

theorem regsOnly_set (s : State) (f : Fld) (v : Nat) : RegsOnly s (s.set f v) := rfl

theorem regsOnly_peak (s : State) (f : Fld) (v : Nat) : RegsOnly s (s.peak f v) := peak_eq s f v

theorem guardRegs_eq (s : State) : s.guardRegs = { s with regs := s.guardRegs.regs } := by
  have h : RegsOnly s s.guardRegs := by
    unfold State.guardRegs
    extract_lets g s1 s2 s3
    have h1 : RegsOnly s s1 := rfl
    have h2 : RegsOnly s1 s2 := ((regsOnly_set s1 _ _).trans (regsOnly_peak _ _ _)).trans (regsOnly_set _ _ _)
    have h3 : RegsOnly s2 s3 := (regsOnly_set s2 _ _).trans (regsOnly_peak _ _ _)
    exact ((h1.trans h2).trans h3).trans (((regsOnly_set s3 _ _).trans (regsOnly_peak _ _ _)).trans (regsOnly_set _ _ _))
  exact h

/-! ### The end of a snapshot -/

/-- The guard and the snapshot under way stay as they are. -/
def KeepsSnap (s t : State) : Prop := t.guard = s.guard ∧ t.ckpt.snap = s.ckpt.snap

theorem KeepsSnap.refl (s : State) : KeepsSnap s s := ⟨rfl, rfl⟩

theorem KeepsSnap.trans {s t u : State} (h : KeepsSnap s t) (k : KeepsSnap t u) : KeepsSnap s u := ⟨k.1.trans h.1, k.2.trans h.2⟩

theorem keepsSnap_foldl {α : Type} (l : List α) (g : State → α → State) (h : ∀ s a, KeepsSnap s (g s a)) (s : State) :
    KeepsSnap s (l.foldl g s) := by
  induction l generalizing s with
  | nil => exact .refl s
  | cons a l ih => exact (h s a).trans (ih _)

theorem keepsSnap_endEntry (s : State) (uid : Nat) (r : Result) : KeepsSnap s (s.endEntry uid r) := by
  rw [KeepsSnap, (endEntry_only s uid r).1]
  exact ⟨rfl, rfl⟩

theorem keepsSnap_closeSnap (s : State) (x : Snap) (status : Nat) : KeepsSnap s (s.closeSnap x status) := by
  unfold State.closeSnap
  extract_lets s1 s2
  have h1 : KeepsSnap s s1 := (keepsSnap_foldl _ _ (fun a j => (⟨rfl, rfl⟩ : KeepsSnap a (a.dropJob j))) s).trans ⟨rfl, rfl⟩
  have h2 : KeepsSnap s1 s2 := by
    unfold s2
    split
    · exact .refl s1
    · exact ⟨rfl, rfl⟩
  have h3 : KeepsSnap s2 (s2.down .grdStatUnpromised) := ⟨rfl, rfl⟩
  exact ((h1.trans h2).trans h3).trans (keepsSnap_foldl _ _ (fun _ _ => keepsSnap_endEntry _ _ _) _)

theorem endSnap_ends {s : State} (h : s.ckpt.snap ≠ none) (status : Nat) :
    (s.endSnap status).guard = s.guard ∧ (s.endSnap status).ckpt.snap = none ∧ (s.endSnap status).flag .fjCkptStatCommitPending = false := by
  unfold State.endSnap
  split
  · next hnone => exact absurd hnone h
  · next x _ =>
    obtain ⟨hguard, hsnap⟩ := keepsSnap_closeSnap { s with ckpt := { s.ckpt with snap := none } } x status
    exact ⟨hguard, hsnap, by rw [State.flag, State.down, get_set]; rfl⟩

theorem forwards_armed (l : List GWrite) (now : GuardClock) (s : State) :
    (l.foldl (fun a w => a.forward w now) s).guard.armed = s.guard.armed ∧ (l.foldl (fun a w => a.forward w now) s).ckpt = s.ckpt := by
  induction l generalizing s with
  | nil => exact ⟨rfl, rfl⟩
  | cons w l ih =>
    have hone : (s.forward w now).guard.armed = s.guard.armed ∧ (s.forward w now).ckpt = s.ckpt := by
      refine ⟨by rw [forward_guard], ?_⟩
      unfold State.forward
      dsimp only
      split
      · rw [State.up, State.set_ckpt, peak_eq]
        rfl
      · rw [peak_eq]
    exact ⟨(ih _).1.trans hone.1, (ih _).2.trans hone.2⟩

theorem guardAbandon_disarms (s : State) : s.guardAbandon.guard.armed = false ∧ s.guardAbandon.ckpt = s.ckpt := by
  unfold State.guardAbandon
  extract_lets g clk now writes g1 s1
  obtain ⟨harmed, hckpt⟩ := forwards_armed writes now s1
  rw [guardRegs_guard, guardRegs_eq]
  exact ⟨harmed, hckpt⟩

/-- The end of a snapshot: the guard is disarmed, and nothing is armed or committing. -/
theorem abandonSnap_ends {s : State} (h : s.ckpt.snap ≠ none) (status : Nat) (slot : Bool) :
    (s.abandonSnap status slot).guard.armed = false ∧ (s.abandonSnap status slot).ckpt.snap = none ∧
      (s.abandonSnap status slot).flag .fjCkptStatCommitPending = false := by
  unfold State.abandonSnap
  split
  · next hnone => exact absurd hnone h
  · extract_lets s1 s2
    have h1 : s1.guard.armed = false ∧ s1.ckpt = s.ckpt := by
      unfold s1
      split
      · exact guardAbandon_disarms s
      · next harm => exact ⟨by simpa using harm, rfl⟩
    have h2 : KeepsArmed s1 s2 := by
      unfold s2
      split
      · exact keepsArmed_writeDesc _ _ _ _
      · exact .refl s1
    obtain ⟨hguard, hstep, -⟩ := h2
    have hsnap : s2.ckpt.snap ≠ none := by
      intro hnone
      rw [hnone, h1.2, Option.map_none, eq_comm, Option.map_eq_none_iff] at hstep
      exact h hstep
    obtain ⟨hends, hnone, hpending⟩ := endSnap_ends hsnap status
    exact ⟨by rw [hends, hguard, h1.1], hnone, hpending⟩

/-! ### ADOPT -/

theorem keeps_qpToRts (s : State) (q : Nat) :
    (s.qpToRts q).guard = s.guard ∧ (s.qpToRts q).ckpt = s.ckpt := by
  rw [(qpToRts_shows s q).1]
  exact ⟨rfl, rfl⟩

theorem keeps_rtsAll (l : List Nat) (s : State) :
    (l.foldl (fun (a : State) (q : Nat) => if a.rts q then a else a.qpToRts q) s).guard = s.guard ∧
      (l.foldl (fun (a : State) (q : Nat) => if a.rts q then a else a.qpToRts q) s).ckpt = s.ckpt := by
  induction l generalizing s with
  | nil => exact ⟨rfl, rfl⟩
  | cons q l ih =>
    rw [List.foldl_cons, (ih _).1, (ih _).2]
    split
    · exact ⟨rfl, rfl⟩
    · exact keeps_qpToRts s q

/-- A role adopted (10 R288, R290; 16 R436). -/
theorem adopt_shows {u : State} {r : ArmRec} (hspare : u.flag .fjCkptCfgSpare = true) (hfree : u.flag .fjCkptStatAdopted = false)
    (hr : u.arm.records.find? (fun r => r.typ == 5 && fieldAt r.body 0 1 == u.get .fjCkptCtrlRole) = some r)
    (hok : rolePeersOk (u.applyPairs (r.body.drop 8)) = true) :
    u.adopt.flag .fjCkptStatAdopted = true ∧ u.adopt.flag .fjIrqDoneAdopt = true ∧ u.adopt.guard.clean0 = false ∧
      u.adopt.guard.clean1 = false ∧ u.adopt.ckpt.slots = [⟨0, 0, 0⟩, ⟨0, 0, 0⟩] ∧ u.adopt.ckpt.peers = [] := by
  unfold State.adopt
  rw [if_neg (by simp [hspare, hfree]), hr]
  dsimp only
  rw [if_neg (by simp [hok])]
  generalize roleEntries _ = l
  generalize hs2 : ({ u.applyPairs (r.body.drop 8) with
    guard := (u.applyPairs (r.body.drop 8)).guard.clearBoth,
    ckpt := { (u.applyPairs (r.body.drop 8)).ckpt with slots := [⟨0, 0, 0⟩, ⟨0, 0, 0⟩], peers := [] } } : State) = s2
  obtain ⟨hguard, hckpt⟩ := keeps_rtsAll l s2.guardRegs
  rw [guardRegs_guard] at hguard
  have hshown : s2.guardRegs.ckpt = s2.ckpt := by rw [guardRegs_eq]
  rw [hshown] at hckpt
  generalize l.foldl (fun (a : State) (q : Nat) => if a.rts q then a else a.qpToRts q) s2.guardRegs = s3 at hguard hckpt
  have hg : ((s3.up .fjCkptStatAdopted).up .fjIrqDoneAdopt).guard = s2.guard := hguard
  have hc : ((s3.up .fjCkptStatAdopted).up .fjIrqDoneAdopt).ckpt = s2.ckpt := hckpt
  rw [hg, hc, ← hs2]
  refine ⟨?_, flag_up_same _ _ (by decide), rfl, rfl, rfl, rfl⟩
  rw [State.flag, State.up, get_set, if_neg (by decide)]
  exact flag_up_same _ _ (by decide)

end Sys2Proof.Machine

namespace Sys2Proof.Proofs

open Sys2Proof.Machine Sys2Proof.Safety

/-- Settles O12: ABANDON and ADOPT are what the write to FJ_CKPT_CTRL does after ROLE has taken its value. -/
theorem abandonAndAdopt : Obligations.AbandonAndAdopt := by
  unfold Obligations.AbandonAndAdopt
  refine ⟨fun s ofs h hsnap => ?_, fun s ofs h hsnap => ?_, fun s role ofs h => ?_, fun u hno => ?_, fun u r h1 h2 hr hok => adopt_shows h1 h2 hr hok⟩
  · obtain ⟨a, ha, heq⟩ := hostWrite_ckptCtrl h (triggers := 2) (by decide) (role_lt s) ofs
    have hckpt : (a.set .fjCkptCtrlRole (s.get .fjCkptCtrlRole)).ckpt.snap ≠ none := by
      change a.ckpt.snap ≠ none
      rwa [ha.units]
    exact ⟨_, congrArg (finish s) heq, abandonSnap_ends hckpt _ _⟩
  · obtain ⟨a, ha, heq⟩ := hostWrite_ckptCtrl h (triggers := 2) (by decide) (role_lt s) ofs
    obtain ⟨hunits, hregs⟩ := keeps_roleWritten ha
    generalize a.set .fjCkptCtrlRole (s.get .fjCkptCtrlRole) = u at heq hunits hregs
    have hnone : u.ckpt.snap = none := by rw [hunits]; exact hsnap
    have hact : u.ckptTriggers 2 = (u.abandonSnap stResetAbort (!u.guard.armed)).work := rfl
    have hsame : u.abandonSnap stResetAbort (!u.guard.armed) = u := by
      unfold State.abandonSnap
      rw [hnone]
    rw [hact, hsame] at heq
    exact ⟨u, congrArg (finish s) heq, hregs, hunits⟩
  · obtain ⟨a, ha, heq⟩ := hostWrite_ckptCtrl h (triggers := 4) (by decide) (Nat.mod_lt role (by decide : 0 < 16)) ofs
    obtain ⟨hunits, hregs⟩ := ha.keeps_set (List.mem_singleton_self Fld.fjCkptCtrlRole) (role % 16)
    exact ⟨_, congrArg (finish s) heq, get_set_same _ _ (Nat.mod_lt role (by decide : 0 < 16)), hregs, hunits⟩
  · unfold State.adopt
    rw [if_pos]
    rcases hno with h | h <;> simp [h]

end Sys2Proof.Proofs
end

section
/-! RETIRE, CLOSE and SWAP (17 R483, 18 R490, 04 R132). -/
namespace Sys2Proof.Machine

open Safety

/-! ### Writes to fabric memory -/

/-- What a write to fabric memory changes: its beats are in flight or wait. -/
def BeatsOnly (s t : State) : Prop := t = { s with xfers := t.xfers, pendWr := t.pendWr, tag := t.tag, out := t.out }

theorem BeatsOnly.trans {s t u : State} (h : BeatsOnly s t) (k : BeatsOnly t u) : BeatsOnly s u := by
  rw [BeatsOnly, k, h]

theorem beatsOnly_fabOffer (s : State) (w : PendWr) : BeatsOnly s (s.fabOffer w) := by
  unfold State.fabOffer
  split <;> rfl

theorem beatsOnly_fabWrite (s : State) (job : Nat) (use : XUse) (addr : Nat) (data : Bytes) (promised : Bool) :
    BeatsOnly s (s.fabWrite job use addr data promised) := by
  unfold State.fabWrite
  generalize beatsOf addr data = l
  induction l generalizing s with
  | nil => rfl
  | cons b l ih => exact (beatsOnly_fabOffer s _).trans (ih _)

/-! ### The log's end -/

/-- What the drain of the log changes. -/
def DrainOnly (s t : State) : Prop :=
  t = { s with regs := t.regs, xfers := t.xfers, pendWr := t.pendWr, tag := t.tag, out := t.out, yeljo := t.yeljo }

theorem DrainOnly.refl (s : State) : DrainOnly s s := rfl

theorem DrainOnly.trans {s t u : State} (h : DrainOnly s t) (k : DrainOnly t u) : DrainOnly s u := by
  rw [DrainOnly, k, h]

theorem BeatsOnly.drain {s t : State} (h : BeatsOnly s t) : DrainOnly s t := by rw [DrainOnly, h]

theorem drainOnly_yDrainOne (s : State) : DrainOnly s s.yDrainOne := by
  unfold State.yDrainOne
  split
  · exact .refl s
  · extract_lets i c s1 y0 y
    split
    · exact (beatsOnly_fabWrite _ _ _ _ _ _).drain.trans rfl
    · exact (beatsOnly_fabWrite _ _ _ _ _ _).drain.trans rfl

theorem drainOnly_yDrainFuel (n : Nat) (s : State) : DrainOnly s (yDrainFuel n s) := by
  induction n generalizing s with
  | zero => exact .refl s
  | succ n ih =>
    unfold yDrainFuel
    split
    · exact (drainOnly_yDrainOne s).trans (ih _)
    · exact .refl s

/-- CLOSE ends the recording, whatever the drain finds. -/
theorem yClose_ends (s : State) : DrainOnly s s.yClose ∧ s.yClose.flag .yljStatRecording = false := by
  unfold State.yClose
  split
  · extract_lets t
    have ht : DrainOnly s t := drainOnly_yDrainFuel _ s
    split
    · exact ⟨(ht.trans (beatsOnly_fabWrite _ _ _ _ _ _).drain).trans rfl, by rw [State.flag, State.down, get_set]; rfl⟩
    · next hrec => exact ⟨ht, by simpa [State.recording] using hrec⟩
  · next hrec => exact ⟨.refl s, by simpa [State.recording] using hrec⟩

/-! ### A unit that fails -/

theorem unit_congr {s t : State} (hp : t.patina = s.patina) (hb : t.build = s.build) (c p : Nat) : t.unit c p = s.unit c p := by
  rw [State.unit, hp, hb, State.unit]

theorem warned_regsOnly (s : State) (cause : Nat) : RegsOnly s (s.warned cause) := by
  unfold State.warned
  extract_lets s1 s2
  have h1 : RegsOnly s s1 := rfl
  have h2 : RegsOnly s s2 := by
    unfold s2
    split
    · exact h1.trans rfl
    · exact h1
  exact h2.trans rfl

theorem powerFaults_eq (s : State) :
    s.powerFaults = { s with
      regs := s.powerFaults.regs, yeljo := s.powerFaults.yeljo, out := s.powerFaults.out, groups := s.groups.map Group.voided } := by
  unfold State.powerFaults
  extract_lets s1 s2
  have hwarn (a : State) : a.raiseWarn 7 = { a with regs := (a.raiseWarn 7).regs, out := (a.raiseWarn 7).out } := by
    rw [State.raiseWarn, State.up, State.set, State.setI, State.send, warned_regsOnly a 7]
  rw [hwarn, (logPower_only s2 1 0 0 7).1]
  rfl

theorem addLost_keeps (s : State) (n : Nat) : (s.addLost n).patina = s.patina ∧ (s.addLost n).build = s.build := by
  unfold State.addLost
  extract_lets u s1
  split
  · rw [powerFaults_eq]
    exact ⟨rfl, rfl⟩
  · exact ⟨rfl, rfl⟩

theorem failUnit_fails (s : State) (c p : Nat) : ((s.failUnit c p).unit c p).failed = true := by
  have hnames := unit_names s c p
  have hput (a : State) (u : PUnit) (hc : u.cls = c) (hp : u.phys = p) : (a.putUnit u).unit c p = u := by
    rw [← hc, ← hp]
    exact unit_putUnit_same a u
  unfold State.failUnit
  extract_lets u s1
  have h1 : s1.unit c p = { u with failed := true, wear := min (u.wear + 1) (wearMax c) } := hput s _ hnames.1 hnames.2
  split
  · rw [h1]
  · split
    · extract_lets s2
      have h2 : s2.unit c p = s1.unit c p := rfl
      have hpower (a : State) (n : Nat) : (a.logPower 3 c n 0).patina = a.patina ∧ (a.logPower 3 c n 0).build = a.build := by
        rw [(logPower_only a 3 c n 0).1]
        exact ⟨rfl, rfl⟩
      have hlog : ((s2.logFirmware 2).up .patStatSubstBusy).patina = s2.patina ∧ ((s2.logFirmware 2).up .patStatSubstBusy).build = s2.build := by
        rw [State.up, State.set, State.setI, (logFirmware_only s2 2).1]
        exact ⟨rfl, rfl⟩
      rw [unit_congr (addLost_keeps _ _).1 (addLost_keeps _ _).2, unit_congr (hpower _ _).1 (hpower _ _).2, unit_congr hlog.1 hlog.2, h2, h1]
    · exact congrArg PUnit.failed
        (hput s1 { u with failed := true, wear := min (u.wear + 1) (wearMax c), logical := none } hnames.1 hnames.2)

/-! ### The segment of context 0 -/

theorem setHalf_same (s : State) (a : Bool) (h : Half) : (s.setHalf a h).half a = h := by cases a <;> rfl

theorem setHalf_other (s : State) (a : Bool) (h : Half) : (s.setHalf a h).half (!a) = s.half (!a) := by cases a <;> rfl

theorem closeFill_eq (s : State) : s.closeFill false = if (s.half s.fillA).st ≠ .fill ∨ (s.half s.fillA).closed = true then s
    else if (s.half s.fillA).blocks.isEmpty = true then s.setHalf s.fillA Half.empty
    else (s.setHalf s.fillA (s.half s.fillA).close).modJob (s.half s.fillA).job (fun j => { j with segIdx := (s.half s.fillA).seg + 1 }) := by
  unfold State.closeFill
  dsimp only
  rw [if_neg (c := false = true ∧ _) (by simp)]

/-- SWAP closes an open segment of context 0 that is no snapshot's, and does nothing else. -/
theorem swapNow_closes {s : State} {j : Job} (hj : s.findJob (s.half s.fillA).job = some j) (hst : (s.half s.fillA).st = .fill)
    (hopen : (s.half s.fillA).closed = false) (hctx : (s.half s.fillA).ctx = 0) (hop : j.opcode ≠ opSnap) (hne : (s.half s.fillA).blocks ≠ []) :
    s.swapNow = (s.setHalf s.fillA (s.half s.fillA).close).modJob (s.half s.fillA).job (fun j => { j with segIdx := (s.half s.fillA).seg + 1 }) := by
  unfold State.swapNow
  dsimp only
  rw [hj]
  dsimp only
  rw [if_pos (by simp [hst, hopen, hctx, hop, hne]), closeFill_eq, if_neg (by simp [hst, hopen]), if_neg (by simp [hne])]

theorem swapNow_other {s : State} (hctx : (s.half s.fillA).ctx ≠ 0) : s.swapNow = s := by
  unfold State.swapNow
  dsimp only
  split
  · rw [if_neg (fun h => hctx h.2.2.1)]
  · rfl

theorem swapNow_regs (s : State) : s.swapNow.regs = s.regs ∧ s.swapNow.build = s.build := by
  have hset (a : Bool) (h : Half) : (s.setHalf a h).regs = s.regs ∧ (s.setHalf a h).build = s.build := by cases a <;> exact ⟨rfl, rfl⟩
  unfold State.swapNow
  dsimp only
  split
  · split
    · rw [closeFill_eq]
      split
      · exact ⟨rfl, rfl⟩
      · split <;> exact hset _ _
    · exact ⟨rfl, rfl⟩
  · exact ⟨rfl, rfl⟩

/-! ### PAT_CTRL -/

def patCtrlRow : MapRow := ⟨0xA004, 1, 0, 1, .arr, [⟨0, 1, .patCtrlPatrolEn, 0⟩, ⟨1, 1, .patCtrlRetire, 0⟩]⟩

/-- PAT_CTRL with RETIRE, PATROL_EN as it stands. -/
theorem hostWrite_patCtrl {s : State} (h : HostOpen s) (ofs : Nat) :
    ∃ a, WriteStarted s a ∧ s.privReg 0xA004 (s.get .patCtrlPatrolEn + 2) ofs =
      (a.set .patCtrlPatrolEn (s.get .patCtrlPatrolEn)).retire (a.get .patClassSelClass) (a.get .patUnitSelUnit) := by
  have hrow : findRow State.reset 0xA004 privMap = some (patCtrlRow, 0) := by decide +kernel
  have hlt (b : State) : b.get .patCtrlPatrolEn < 2 ^ 1 := getI_lt b .patCtrlPatrolEn 0 (Nat.one_lt_two_pow (by decide))
  obtain ⟨a, ha, heq⟩ := hostWrite_quiet h hrow rfl (by decide) (by decide) rfl (fun _ => rfl) (fun _ _ => rfl) (s.get .patCtrlPatrolEn + 2) ofs []
  refine ⟨a, ha, heq.trans ?_⟩
  have hs := hlt s
  have hv : (s.get .patCtrlPatrolEn + 2) % 2 ^ 32 = s.get .patCtrlPatrolEn + 2 := by omega
  have hput (v : Nat) : a.putBits [.rw] patCtrlRow.bits 0 v = a.set .patCtrlPatrolEn (mergeBits (a.get .patCtrlPatrolEn) 0 1 (bitsOf v 0 1)) := rfl
  have hbits : bitsOf (s.get .patCtrlPatrolEn + 2) 0 1 % 2 ^ 1 = s.get .patCtrlPatrolEn := by unfold bitsOf; omega
  have hbit : bitOf (s.get .patCtrlPatrolEn + 2) 1 = true := by simp [bitOf]; omega
  rw [hv, hput, mergeBits_whole (hlt a), hbits, State.actOn, if_pos hbit, get_set, if_neg (by decide), get_set, if_neg (by decide)]

end Sys2Proof.Machine

namespace Sys2Proof.Proofs

open Sys2Proof.Machine Sys2Proof.Safety

/-- Settles O13: what each trigger does to its unit, to the log and to the open segment, after the start that every host write makes. -/
theorem retireCloseAndSwap : Obligations.RetireCloseAndSwap := by
  unfold Obligations.RetireCloseAndSwap
  intro s ofs h
  refine ⟨?_, ?_, ?_⟩
  · obtain ⟨a, ha, heq⟩ := hostWrite_patCtrl h ofs
    have hunits : KeepsUnits s (a.set .patCtrlPatrolEn (s.get .patCtrlPatrolEn)) := keepsUnits_setI ha.units _ _ _
    rw [ha.get (f := .patClassSelClass) (by decide), ha.get (f := .patUnitSelUnit) (by decide)] at heq
    generalize a.set .patCtrlPatrolEn (s.get .patCtrlPatrolEn) = b at heq hunits
    have hpat : b.patina = s.patina := by rw [hunits]
    have hb : b.build = s.build := build_of_keepsUnits hunits
    have hcount (c : Nat) : physCount b c = physCount s c ∧ builtCount b c = builtCount s c := by
      rw [physCount, builtCount, hb]
      exact ⟨rfl, rfl⟩
    refine ⟨_, congrArg (finish s) heq, fun hc hp hlive hspare => ?_, fun hno => ?_⟩
    · have hfails : b.retire (s.get .patClassSelClass) (s.get .patUnitSelUnit) = b.failUnit (s.get .patClassSelClass) (s.get .patUnitSelUnit) := by
        unfold State.retire
        rw [unit_congr hpat hb, (hcount _).1, (hcount _).2, if_neg]
        rintro (hc' | hp' | hf | hs)
        · omega
        · omega
        · rw [hlive] at hf
          contradiction
        · exact hspare hs
      have hfailed := failUnit_fails b (s.get .patClassSelClass) (s.get .patUnitSelUnit)
      rw [← hfails] at hfailed
      have hbuild := (keepsLock_retire b (s.get .patClassSelClass) (s.get .patUnitSelUnit)).build.trans hb
      rw [unit_congr (finishState_patina s _) (by rw [finishState_build, hbuild])]
      exact hfailed
    · have hsame : b.retire (s.get .patClassSelClass) (s.get .patUnitSelUnit) = b := by
        unfold State.retire
        rw [unit_congr hpat hb, (hcount _).1, (hcount _).2, if_pos]
        rcases hno with hf | hc | hp | hs
        · exact .inr (.inr (.inl hf))
        · exact .inl hc
        · exact .inr (.inl hp)
        · exact .inr (.inr (.inr hs))
      rw [hsame, finishState_patina, hpat]
  · obtain ⟨a, ha, heq⟩ : ∃ a, WriteStarted s a ∧ s.privReg 0xC008 1 ofs = a.yClose :=
      hostWrite_command h (w := 1) (f := .yljCtrlClose) (by decide +kernel) (by decide) (by decide) (by decide) rfl rfl 1 ofs []
    obtain ⟨hdrain, hend⟩ := yClose_ends a
    generalize a.yClose = u at heq hdrain hend
    have hu : u.build = s.build ∧ u.jobs = s.jobs ∧ u.entries = s.entries ∧ u.groups = s.groups := by
      rw [hdrain, ha.units]
      exact ⟨rfl, rfl, rfl, rfl⟩
    obtain ⟨hbuild, hjobs, hentries, hgroups⟩ := hu
    refine ⟨_, congrArg (finish s) heq, ?_, ?_, ?_, ?_⟩
    · rw [State.flag, get_finishState hbuild (by decide)]
      exact hend
    · rw [finishState_jobs, hjobs]
    · rw [finishState_entries, hentries]
    · rw [finishState_groups, hgroups]
  · obtain ⟨a, ha, heq⟩ : ∃ a, WriteStarted s a ∧ s.privReg 0x3004 1 ofs = a.swapNow.goOn :=
      hostWrite_command h (w := 1) (f := .stgCtrlSwap) (by decide +kernel) (by decide) (by decide) (by decide) rfl rfl 1 ofs []
    obtain ⟨hregs, hbuild⟩ := swapNow_regs a
    have hhalf (x : Bool) : a.half x = s.half x := by rw [ha.units]; rfl
    have hfill : a.fillA = s.fillA := by rw [ha.units]
    have hopen : a.half a.fillA = s.half s.fillA := by rw [hfill, hhalf]
    have hfind (n : Nat) : a.findJob n = s.findJob n := by rw [ha.units]; rfl
    refine ⟨a.swapNow, congrArg (finish s) heq, keepsRegs_trans ha.regs (keepsRegs_of_regs hbuild hregs), fun j hj hst hcl hctx hop hne => ?_,
      fun hctx => ?_⟩
    · rw [← hopen] at hj hst hcl hctx hne ⊢
      rw [← hfind] at hj
      rw [swapNow_closes hj hst hcl hctx hop hne]
      have hsame (b : State) (n : Nat) (f : Job → Job) (x : Bool) : (b.modJob n f).half x = b.half x := by cases x <;> rfl
      have hfilled (n : Nat) (f : Job → Job) (x : Half) : ((a.setHalf a.fillA x).modJob n f).fillA = a.fillA := by
        unfold State.setHalf
        split <;> rfl
      rw [hsame, hsame, hfilled, setHalf_same, setHalf_other, hfill]
      exact ⟨rfl, hhalf _⟩
    · rw [swapNow_other (by rwa [hopen])]
      exact ha.units

end Sys2Proof.Proofs
end

section
/-! Bits of pins and of pending words, and steps that raise no interrupt. -/
namespace Sys2Proof.Machine

open Safety

theorem bitOf_eq_testBit (v i : Nat) : bitOf v i = v.testBit i := by
  rw [bitOf, Nat.testBit_eq_decide_div_mod_eq]
  rfl

/-- A bit that is set, taken away: it alone goes. -/
theorem bitOf_sub_two_pow {p v : Nat} (h : bitOf p v = true) (k : Nat) : bitOf (p - 2 ^ v) k = (bitOf p k && k != v) := by
  have hone : p / 2 ^ v % 2 = 1 := by simpa [bitOf] using h
  have hle : 2 ^ v ≤ p := by
    by_contra hlt
    rw [Nat.div_eq_of_lt (Nat.not_le.mp hlt)] at hone
    omega
  obtain ⟨a, rfl⟩ := Nat.exists_eq_add_of_le hle
  rw [Nat.add_sub_cancel_left]
  have hzero : a.testBit v = false := by
    have := Nat.testBit_two_pow_add_eq a v
    rw [← bitOf_eq_testBit, h] at this
    simpa using this.symm
  rw [bitOf_eq_testBit, bitOf_eq_testBit]
  rcases Nat.lt_trichotomy k v with hlt | rfl | hgt
  · rw [Nat.testBit_two_pow_add_gt hlt, bne_iff_ne.mpr hlt.ne, Bool.and_true]
  · simp [hzero]
  · have hshift : (2 ^ v + a) / 2 ^ (v + 1) = a / 2 ^ (v + 1) := by
      have hmod : a / 2 ^ v % 2 = 0 := by
        rw [Nat.testBit_eq_decide_div_mod_eq, decide_eq_false_iff_not] at hzero
        omega
      rw [pow_succ, ← Nat.div_div_eq_div_mul, ← Nat.div_div_eq_div_mul, Nat.add_div_left _ (Nat.two_pow_pos v)]
      omega
    have hbit (x : Nat) : x.testBit k = (x / 2 ^ (v + 1)).testBit (k - (v + 1)) := by
      rw [Nat.testBit_div_two_pow]
      congr 1
      omega
    rw [hbit, hbit (2 ^ v + a), hshift, bne_iff_ne.mpr hgt.ne', Bool.and_true]

/-- The bit of a pin taken away where it is set. -/
theorem bitOf_cleared (p v k : Nat) : bitOf (if bitOf p v = true then p - 2 ^ v else p) k = (bitOf p k && k != v) := by
  split
  · next h => exact bitOf_sub_two_pow h k
  · next h =>
    by_cases hk : k = v
    · subst hk
      simpa using h
    · simp [hk]

/-! ### Steps that raise no interrupt -/

/-- Nothing that an interrupt reports has changed (19 R508, 20 R522). -/
structure QuietStep (s u : State) : Prop where
  build : u.build = s.build
  regs : KeepsRegs msgFlds s u
  vl : u.vlPending = s.vlPending
  mode : u.tick.mode = s.tick.mode

theorem foldl_const {α β : Type} (l : List β) (g : α → β → α) (a : α) (h : ∀ b ∈ l, g a b = a) : l.foldl g a = a := by
  induction l with
  | nil => rfl
  | cons b l ih =>
    rw [List.foldl_cons, h b List.mem_cons_self]
    exact ih fun c hc => h c (List.mem_cons_of_mem b hc)

/-- The end of such a step sends nothing and changes no register. -/
theorem finish_of_quiet {s u : State} (h : QuietStep s u) :
    (finishState s u).out = u.out ∧ ∀ f i, (finishState s u).getI f i = u.getI f i := by
  have hget (f : Fld) (hf : f ≠ .fjMsixPbaPending) : u.get f = s.get f := h.regs f 0 (by simpa [msgFlds] using hf)
  have hsource : ∀ l ∈ irqSources, ∀ f ∈ l, f ≠ .fjMsixPbaPending := by decide
  have hbit (k : Nat) : u.irqBit k = s.irqBit k := by
    unfold State.irqBit
    rw [Bool.eq_iff_iff, List.any_eq_true, List.any_eq_true]
    refine exists_congr fun f => and_congr_right fun hf => ?_
    have hmem : irqSources.getD k [] ∈ irqSources ∨ irqSources.getD k [] = [] := by
      rw [List.getD_eq_getElem?_getD]
      cases hk : irqSources[k]? with
      | none => exact .inr rfl
      | some l => exact .inl (List.mem_of_getElem? hk)
    rcases hmem with hmem | hnil
    · rw [State.flag, State.flag, hget f (hsource _ hmem f hf)]
    · rw [hnil] at hf
      contradiction
  have hrise : irqRise s u = u := by
    refine foldl_const _ _ _ fun k _ => ?_
    have hon : u.irqOn k = s.irqOn k := by rw [State.irqOn, State.irqOn, hbit, hget _ (by decide)]
    rw [hon]
    cases s.irqOn k <;> rfl
  have hmode : u.mode = s.mode := by
    unfold State.mode
    rw [h.mode, hget _ (by decide)]
  have htenant : tenantMessages s u = u := by
    refine foldl_const _ _ _ fun k _ => ?_
    have hnews : tenantNews s u (k + 1) = false := by
      rw [tenantNews, State.flag, State.flag, State.flag, State.flag, hget _ (by decide), hget _ (by decide), h.vl, hmode]
      simp
    rw [hnews]
    rfl
  have hend : finishState s u = { u with regs := canonRegs s.build u.regs, build := s.build, pending := s.pending } := by
    unfold finishState
    rw [hrise, htenant]
  refine ⟨by rw [hend], fun f i => ?_⟩
  rw [hend]
  rw [getI_eq, getI_eq u, h.build]
  exact readCell_canonRegs _ _ _ _

/-! ### Pending messages that go out when a mask clears (19 R511) -/

theorem sendPending_only (s : State) (n : Nat) : OnlyMessages s (s.sendPending n) := by
  unfold State.sendPending
  split
  · exact .refl s
  · refine foldl_only _ _ (fun a v => ?_) s
    dsimp only
    split
    · have hset : OnlyMessages a (a.setI .fjMsixPbaPending n (a.getI .fjMsixPbaPending n - 2 ^ v)) :=
        ⟨rfl, ⟨[], by simp⟩, fun f i hf => getI_setI_other a _ (fun e => hf e.1.symm)⟩
      exact hset.trans (message_only _ _ _)
    · exact .refl a

/-- The message of a vector, as its row of the table gives it. -/
def vectorMessage (s : State) (n v : Nat) : Out :=
  .msix n v (s.getI .fjMsixAddrHiAddr (64 * n + v) * 2 ^ 32 + s.getI .fjMsixAddrLoAddr (64 * n + v) * 4) (s.getI .fjMsixDataData (64 * n + v))

theorem message_sent {s : State} {n v : Nat} (heng : s.eng ≠ 5 ∧ s.eng ≠ 6) (hen : bitOf s.pins.msixEn n = true)
    (hbme : bitOf s.pins.bme n = true) (hmask : bitOf s.pins.msixMask n = false) (hown : s.getI .fjMsixCtrlMask (64 * n + v) = 0) :
    s.message n v = s.send (vectorMessage s n v) := by
  unfold State.message
  rw [if_neg (by simp [heng, hen, hbme]), if_neg (by simp [hown, hmask])]
  rfl

/-- One vector's turn. -/
def State.sendVector (s : State) (n v : Nat) : State :=
  if bitOf (s.getI .fjMsixPbaPending n) v = true ∧ s.getI .fjMsixCtrlMask (64 * n + v) = 0 ∧ ¬ bitOf s.pins.msixMask n = true then
    (s.setI .fjMsixPbaPending n (s.getI .fjMsixPbaPending n - 2 ^ v)).message n v
  else s

/-- The first m vectors of a function have had their turn. -/
structure Sent (s : State) (n m : Nat) (t : State) : Prop where
  pins : t.pins = s.pins
  eng : t.eng = s.eng
  regs : ∀ f i, ¬ (f = .fjMsixPbaPending ∧ i = n) → t.getI f i = s.getI f i
  bits : ∀ v, bitOf (t.getI .fjMsixPbaPending n) v =
    (bitOf (s.getI .fjMsixPbaPending n) v && !(decide (v < m) && decide (s.getI .fjMsixCtrlMask (64 * n + v) = 0)))
  out : ∀ v < m, bitOf (s.getI .fjMsixPbaPending n) v = true → s.getI .fjMsixCtrlMask (64 * n + v) = 0 → vectorMessage s n v ∈ t.out

theorem sent_sendVector {s t : State} {n m : Nat} (h : Sent s n m t) (heng : s.eng ≠ 5 ∧ s.eng ≠ 6) (hen : bitOf s.pins.msixEn n = true)
    (hbme : bitOf s.pins.bme n = true) (hmask : bitOf s.pins.msixMask n = false) : Sent s n (m + 1) (t.sendVector n m) := by
  obtain ⟨hpins, hteng, hregs, hbits, hout⟩ := h
  have hown : t.getI .fjMsixCtrlMask (64 * n + m) = s.getI .fjMsixCtrlMask (64 * n + m) := hregs _ _ (by simp)
  have hset : bitOf (t.getI .fjMsixPbaPending n) m = bitOf (s.getI .fjMsixPbaPending n) m := by rw [hbits]; simp
  unfold State.sendVector
  rw [hset, hown, hpins, hmask]
  split
  · next hgo =>
    obtain ⟨hbit, hclear, -⟩ := hgo
    have hlt : t.getI .fjMsixPbaPending n < 2 ^ 64 := getI_lt t .fjMsixPbaPending n (Nat.two_pow_pos 64)
    have hmod : (t.getI .fjMsixPbaPending n - 2 ^ m) % 2 ^ fldWidth .fjMsixPbaPending = t.getI .fjMsixPbaPending n - 2 ^ m :=
      Nat.mod_eq_of_lt (lt_of_le_of_lt (Nat.sub_le _ _) hlt)
    have hkept (f : Fld) (i : Nat) (hf : ¬ (f = .fjMsixPbaPending ∧ i = n)) :
        (t.setI .fjMsixPbaPending n (t.getI .fjMsixPbaPending n - 2 ^ m)).getI f i = s.getI f i := by
      rw [getI_setI_other _ _ (fun e => hf ⟨e.1.symm, e.2.symm⟩), hregs f i hf]
    have hmsg : vectorMessage (t.setI .fjMsixPbaPending n (t.getI .fjMsixPbaPending n - 2 ^ m)) n m = vectorMessage s n m := by
      rw [vectorMessage, hkept _ _ (by simp), hkept _ _ (by simp), hkept _ _ (by simp), vectorMessage]
    rw [message_sent (by rw [State.setI_eng, hteng]; exact heng) (by rw [State.setI_pins, hpins]; exact hen)
      (by rw [State.setI_pins, hpins]; exact hbme) (by rw [State.setI_pins, hpins]; exact hmask)
      ((hkept _ _ (by simp)).trans hclear), hmsg]
    refine ⟨hpins, hteng, fun f i hf => hkept f i hf, fun v => ?_, fun v hv hb hc => ?_⟩
    · rw [State.getI_send, getI_setI_same, hmod, bitOf_sub_two_pow (hset.trans hbit), hbits]
      by_cases hvm : v = m
      · subst hvm
        simp [hclear]
      · have : (v < m + 1) ↔ v < m := by omega
        simp [hvm, this]
    · rw [State.send_out, List.mem_append, List.mem_singleton]
      rcases Nat.lt_succ_iff_lt_or_eq.mp hv with hlt | rfl
      · exact .inl (hout v hlt hb hc)
      · exact .inr rfl
  · next hno =>
    have hno' : bitOf (s.getI .fjMsixPbaPending n) m = true → s.getI .fjMsixCtrlMask (64 * n + m) ≠ 0 :=
      fun hb hc => hno ⟨hb, hc, by simp⟩
    refine ⟨hpins, hteng, hregs, fun v => ?_, fun v hv hb hc => ?_⟩
    · rw [hbits]
      by_cases hvm : v = m
      · subst hvm
        cases hb : bitOf (s.getI .fjMsixPbaPending n) v with
        | false => rfl
        | true => simp [hno' hb]
      · have : (v < m + 1) ↔ v < m := by omega
        simp [this]
    · rcases Nat.lt_succ_iff_lt_or_eq.mp hv with hlt | rfl
      · exact hout v hlt hb hc
      · exact absurd hc (hno' hb)

theorem sent_sendPending {s : State} {n : Nat} (heng : s.eng ≠ 5 ∧ s.eng ≠ 6) (hen : bitOf s.pins.msixEn n = true)
    (hbme : bitOf s.pins.bme n = true) (hmask : bitOf s.pins.msixMask n = false) : Sent s n 64 (s.sendPending n) := by
  have hfold : ∀ m, Sent s n m ((List.range m).foldl (fun a v => a.sendVector n v) s) := by
    intro m
    induction m with
    | zero => exact ⟨rfl, rfl, fun _ _ _ => rfl, fun v => by simp, fun v hv => absurd hv (Nat.not_lt_zero v)⟩
    | succ m ih =>
      rw [List.range_succ, List.foldl_append]
      exact sent_sendVector ih heng hen hbme hmask
  unfold State.sendPending
  rw [if_neg (by simp [heng])]
  exact hfold 64

/-! ### Commands whose meaning starts from a state with the registers of the command's -/

theorem keepsAll_finish_from {s b u : State} (hb : b.build = s.build) (hp : b.pending = s.pending) (h : KeepsAll b u) :
    KeepsAll b (finishState s u) := by
  unfold KeepsAll at *
  rw [finishState_eq, h, ← hb, ← hp]

theorem build_of_keepsAll {s t : State} (h : KeepsAll s t) : t.build = s.build := by rw [h]

theorem get_finish_from {s b u : State} (hb : b.build = s.build) (h : KeepsAll b u) {f : Fld} (hf : f ≠ .fjMsixPbaPending) :
    (finishState s u).get f = u.get f :=
  get_finishState ((build_of_keepsAll h).trans hb) hf

theorem flag_finish_from {s b u : State} (hb : b.build = s.build) (h : KeepsAll b u) {f : Fld} (hf : f ≠ .fjMsixPbaPending) :
    (finishState s u).flag f = u.flag f := by rw [State.flag, get_finish_from hb h hf, State.flag]

theorem keepsRegs_finish_from {s b u : State} {fs : List Fld} (hm : .fjMsixPbaPending ∈ fs) (hb : b.build = s.build) (hr : b.regs = s.regs)
    (hu : KeepsAll b u) (h : KeepsRegs fs b u) : KeepsRegs fs s (finishState s u) :=
  keepsRegs_finishState hm ((build_of_keepsAll hu).trans hb) (keepsRegs_trans (keepsRegs_of_regs hb hr) h)

theorem keepsRegs_up (s : State) {fs : List Fld} {f : Fld} (hf : f ∈ fs) : KeepsRegs fs s (s.up f) := keepsRegs_setI hf s 0 1

theorem get_up_other (s : State) {f g : Fld} (h : g ≠ f) : (s.up g).get f = s.get f := getI_setI_other s 1 (fun e => h e.1)

theorem flag_bump_other (s : State) {f g : Fld} (n : Nat) (h : g ≠ f) : (s.bump g n).flag f = s.flag f := by
  rw [State.flag, State.flag, State.get, State.get, State.bump, State.bumpI, getI_setI_other _ _ (fun e => h e.1)]

end Sys2Proof.Machine

namespace Sys2Proof.Proofs

open Sys2Proof.Machine Sys2Proof.Safety

/-- Settles O15: a pin shows in its own field; the messages that a cleared mask releases are those of `sendPending`, and raise no interrupt. -/
theorem pinEvents : Obligations.PinEvents := by
  unfold Obligations.PinEvents
  refine ⟨fun s inst present packet fn => ⟨?_, ?_, ?_, ?_, ?_⟩, fun s fn => ?_⟩
  · let p : State := { s with pins := { s.pins with posInst := inst % 16, posPresent := present % 65536 } }
    have hall : KeepsAll p (p.up .fjPortStatStrapChg) := rfl
    refine ⟨finishState s (p.up .fjPortStatStrapChg), rfl, ?_, ?_, ?_, ?_⟩
    · rw [flag_finish_from (s := s) (b := p) rfl hall (by decide)]
      exact flag_up_same p _ (by decide)
    · rw [get_finish_from (s := s) (b := p) rfl hall (by decide), get_up_other _ (by decide)]
      exact keepsRegs_of_regs (s := s) (t := p) (fs := []) rfl rfl _ 0 List.not_mem_nil
    · exact keepsRegs_finish_from (b := p) (by decide) rfl rfl hall (keepsRegs_up p (by decide))
    · exact keepsAll_finish_from rfl rfl hall
  · have hall : KeepsAll s ((s.up .fjPortStatSbDrop).bump .fjSbDropsCount 1) := rfl
    refine ⟨finishState s _, rfl, ?_, ?_, ?_, ?_⟩
    · rw [flag_finish_from (s := s) (b := s) rfl hall (by decide), flag_bump_other _ _ (by decide)]
      exact flag_up_same s _ (by decide)
    · rw [get_finish_from (s := s) (b := s) rfl hall (by decide), get_bump_same, get_up_other _ (by decide)]
      rfl
    · exact keepsRegs_finish_from (by decide) rfl rfl hall
        (keepsRegs_trans (keepsRegs_up s (by decide)) (keepsRegs_setI (by decide) _ 0 _))
    · exact keepsAll_finishState hall
  · let p : State := { s with pins := { s.pins with
      hflrReq := if bitOf s.pins.hflrReq (fn % 64) then s.pins.hflrReq - 2 ^ (fn % 64) else s.pins.hflrReq } }
    have hall : KeepsAll p (p.send (.hflrDone (fn % 64) false)) := rfl
    have hpins : (finishState s (p.send (.hflrDone (fn % 64) false))).pins = p.pins := finishState_pins _ _
    refine ⟨finishState s (p.send (.hflrDone (fn % 64) false)), rfl, ?_, ?_, ?_, ?_⟩
    · exact mem_out_finishState (by simp)
    · exact keepsRegs_finish_from (b := p) (by decide) rfl rfl hall (fun _ _ _ => rfl)
    · intro k
      rw [hpins]
      exact bitOf_cleared _ _ k
    · rw [hpins]
      exact keepsAll_finish_from (b := p) rfl rfl hall
  · have hall : KeepsAll s (s.up .fjPortStatBusvStale) := rfl
    refine ⟨finishState s _, rfl, ?_, ?_, ?_⟩
    · rw [flag_finish_from (s := s) (b := s) rfl hall (by decide)]
      exact flag_up_same s _ (by decide)
    · exact keepsRegs_finish_from (by decide) rfl rfl hall (keepsRegs_up s (by decide))
    · exact keepsAll_finishState hall
  · show ∃ t, execDbgEnFall s = .next t ∧ _
    unfold execDbgEnFall
    dsimp only
    split
    · refine ⟨finishState s _, rfl, by simp, by simp, ?_, by simp, by simp, by simp, by simp, by simp⟩
      exact keepsRegs_finishState (by decide) rfl (keepsRegs_of_regs rfl rfl)
    · refine ⟨finishState s _, rfl, by simp, by simp, ?_, by simp, by simp, by simp, by simp, by simp⟩
      exact keepsRegs_finishState (by decide) rfl (keepsRegs_of_regs rfl rfl)
  · let n := fn % 64
    let p : State := { s with pins := { s.pins with msixMask := if bitOf s.pins.msixMask n then s.pins.msixMask - 2 ^ n else s.pins.msixMask } }
    have hmasked : bitOf p.pins.msixMask n = false := (bitOf_cleared _ _ n).trans (by simp)
    have honly : OnlyMessages p (p.sendPending n) := sendPending_only p n
    obtain ⟨hall, -, hregs⟩ := honly
    have hread (f : Fld) (i : Nat) : p.getI f i = s.getI f i := keepsRegs_of_regs (s := s) (t := p) (fs := []) rfl rfl f i List.not_mem_nil
    have hpins : (finishState s (p.sendPending n)).pins = p.pins := (finishState_pins _ _).trans (by rw [hall])
    have hkept : KeepsRegs msgFlds p (p.sendPending n) := fun f i hf => hregs f i (by simpa [msgFlds] using hf)
    have hquiet : QuietStep s (p.sendPending n) :=
      ⟨(build_of_keepsAll hall : (p.sendPending n).build = p.build), keepsRegs_trans (keepsRegs_of_regs rfl rfl) hkept, by rw [hall], by rw [hall]⟩
    obtain ⟨hout, hget⟩ := finish_of_quiet hquiet
    refine ⟨finishState s (p.sendPending n), rfl, by rw [hpins]; exact hmasked, ?_, ?_, fun heng => ?_, fun h5 h6 hen hbme v hv hpend => ?_⟩
    · exact keepsRegs_finish_from (b := p) (by decide) rfl rfl hall hkept
    · rw [hpins]
      exact keepsAll_finish_from (b := p) rfl rfl hall
    · have hsame : p.sendPending n = p := if_pos heng
      exact ⟨by rw [hout, hsame], fun i => by rw [hget, hsame]; exact hread _ _⟩
    · obtain ⟨-, -, -, hbits, hmsgs⟩ := sent_sendPending (s := p) (n := n) ⟨h5, h6⟩ hen hbme hmasked
      rw [hout, hget, hbits v, hread, hread]
      refine ⟨fun hclear => ⟨by simp [n, hclear, hv], ?_⟩, fun hmask => by simp [n, hmask, hpend]⟩
      have := hmsgs v hv (by rw [hread]; exact hpend) (by rw [hread]; exact hclear)
      rw [vectorMessage, hread, hread, hread] at this
      exact this

end Sys2Proof.Proofs
end

section
/-! What the ports have sent only grows, and most operations leave the power state alone (17 R464). -/
namespace Sys2Proof.Machine

open Safety

/-- The power state and the pins are as before, and what was sent is sent. -/
structure Steady (s t : State) : Prop where
  build : t.build = s.build
  eng : t.eng = s.eng
  holdup : t.holdup = s.holdup
  pins : t.pins = s.pins
  out : s.out <+: t.out

theorem Steady.refl (s : State) : Steady s s := ⟨rfl, rfl, rfl, rfl, List.prefix_rfl⟩

theorem Steady.trans {s t u : State} (h : Steady s t) (k : Steady t u) : Steady s u :=
  ⟨k.build.trans h.build, k.eng.trans h.eng, k.holdup.trans h.holdup, k.pins.trans h.pins, h.out.trans k.out⟩

theorem steady_ite {s a b : State} {p : Prop} [Decidable p] (ha : Steady s a) (hb : Steady s b) : Steady s (if p then a else b) := by
  split <;> assumption

theorem Steady.may {s a b : State} {p : Prop} [Decidable p] (ha : Steady s a) (hb : Steady a b) : Steady s (if p then b else a) :=
  steady_ite (ha.trans hb) ha

theorem steady_foldl {α : Type} (l : List α) (g : State → α → State) (h : ∀ s a, Steady s (g s a)) (s : State) : Steady s (l.foldl g s) := by
  induction l generalizing s with
  | nil => exact .refl s
  | cons a l ih => exact (h s a).trans (ih _)

/-- A state that differs elsewhere only. -/
theorem steady_of_out {s t : State} (hb : t.build = s.build) (he : t.eng = s.eng) (hh : t.holdup = s.holdup) (hp : t.pins = s.pins)
    (ho : t.out = s.out) : Steady s t :=
  ⟨hb, he, hh, hp, by rw [ho]⟩

theorem Steady.mem {s t : State} (h : Steady s t) {o : Out} (ho : o ∈ s.out) : o ∈ t.out := h.out.subset ho

theorem steady_setI (s : State) (f : Fld) (i v : Nat) : Steady s (s.setI f i v) := steady_of_out rfl rfl rfl rfl rfl

theorem steady_set (s : State) (f : Fld) (v : Nat) : Steady s (s.set f v) := steady_setI s f 0 v

theorem steady_send (s : State) (o : Out) : Steady s (s.send o) := ⟨rfl, rfl, rfl, rfl, List.prefix_append _ _⟩

theorem steady_transmit (s : State) (o : Out) : Steady s (s.transmit o) := ⟨rfl, rfl, rfl, rfl, List.prefix_append _ _⟩

theorem RegsOnly.steady {s t : State} (h : RegsOnly s t) : Steady s t := by
  rw [h]
  exact steady_of_out rfl rfl rfl rfl rfl

theorem steady_peak (s : State) (f : Fld) (v : Nat) : Steady s (s.peak f v) := (regsOnly_peak s f v).steady

theorem LogOnly.steady {s t : State} (h : LogOnly s t) : Steady s t := by
  rw [h.1]
  exact steady_of_out rfl rfl rfl rfl rfl

theorem OnlyMessages.steady {s t : State} (h : OnlyMessages s t) : Steady s t := by
  obtain ⟨hall, ⟨ms, hout, -⟩, -⟩ := h
  have hprefix : s.out <+: t.out := hout ▸ List.prefix_append _ _
  rw [KeepsAll] at hall
  exact ⟨by rw [hall], by rw [hall], by rw [hall], by rw [hall], hprefix⟩

/-! ### The fabric, completions and the ends of entries -/

theorem steady_fabBeat (s : State) (w : PendWr) : Steady s (s.fabBeat w) := ⟨rfl, rfl, rfl, rfl, List.prefix_append _ _⟩

theorem steady_fabOffer (s : State) (w : PendWr) : Steady s (s.fabOffer w) :=
  steady_ite (steady_fabBeat s w) (steady_of_out rfl rfl rfl rfl rfl)

theorem steady_fabWrite (s : State) (job : Nat) (use : XUse) (addr : Nat) (data : Bytes) (promised : Bool) :
    Steady s (s.fabWrite job use addr data promised) :=
  steady_foldl _ _ (fun a _ => steady_fabOffer a _) s

theorem steady_writeCmpl (s : State) (c : Cmpl) : Steady s (s.writeCmpl c) := by
  unfold State.writeCmpl
  dsimp only
  refine Steady.may ?_ (message_only _ _ _).steady
  refine .trans ?_ (logRec_only _ _ _ _ _ _).steady
  refine Steady.may ?_ (steady_setI _ _ _ _)
  exact .trans (steady_ite (steady_fabWrite _ _ _ _ _ _) (steady_send _ _)) (steady_setI _ _ _ _)

theorem steady_putRing (s : State) (r : Ring) : Steady s (s.putRing r) := steady_of_out rfl rfl rfl rfl rfl

theorem steady_modGroup (s : State) (gid : Nat) (f : Group → Group) : Steady s (s.modGroup gid f) := steady_of_out rfl rfl rfl rfl rfl

theorem steady_modEntry (s : State) (uid : Nat) (f : Entry → Entry) : Steady s (s.modEntry uid f) := steady_of_out rfl rfl rfl rfl rfl

theorem steady_postCmpl (s : State) (c : Cmpl) : Steady s (s.postCmpl c) := by
  unfold State.postCmpl
  dsimp only
  split
  · exact steady_writeCmpl s c
  · exact (((steady_putRing _ _).trans (steady_setI _ _ _ _)).trans (steady_setI _ _ _ _)).trans (steady_setI _ _ _ _)

theorem steady_drainCmplFuel (n ctx ring : Nat) (s : State) : Steady s (drainCmplFuel n ctx ring s) := by
  induction n generalizing s with
  | zero => exact .refl s
  | succ n ih =>
    rw [drainCmplFuel]
    split
    · exact (steady_setI _ _ _ _).trans (steady_setI _ _ _ _)
    · split
      · exact ((steady_putRing _ _).trans (steady_writeCmpl _ _)).trans (ih _)
      · exact .refl s

theorem steady_entries (s : State) (l : List Entry) : Steady s { s with entries := l } := steady_of_out rfl rfl rfl rfl rfl

theorem steady_settleGroupFuel (n gid : Nat) (s : State) : Steady s (settleGroupFuel n gid s) := by
  induction n generalizing s with
  | zero => exact .refl s
  | succ n ih =>
    rw [settleGroupFuel]
    split
    · split
      · exact .refl s
      · extract_lets rest last s1 s2 s3
        have h1 : Steady s s1 := steady_entries s rest
        have h2 : Steady s1 s2 :=
          steady_ite ((steady_modGroup _ _ _).trans (steady_foldl _ _ (fun a c => steady_postCmpl a c) _)) (steady_modGroup _ _ _)
        have h3 : Steady s2 s3 := Steady.may (.refl s2) (steady_modGroup _ _ _)
        exact ((h1.trans h2).trans h3).trans (ih _)
    · exact .refl s

theorem steady_settleGroup (s : State) (gid : Nat) : Steady s (s.settleGroup gid) := steady_settleGroupFuel _ gid s

theorem steady_settleRing (s : State) (ctx ring : Nat) : Steady s (s.settleRing ctx ring) :=
  steady_foldl _ _ (fun a g => steady_settleGroup a g) s

theorem steady_endOne (s : State) (uid : Nat) (r : Result) : Steady s (s.endOne uid r) := by
  unfold State.endOne
  split
  · exact .refl s
  · extract_lets s1 s2
    have h2 : Steady s s2 := Steady.may (steady_modEntry _ _ _) (steady_setI _ _ _ _)
    exact steady_ite h2 (h2.trans ((steady_settleGroup _ _).trans (steady_settleRing _ _ _)))

theorem steady_wakeFence (s : State) (ctx ring : Nat) : Steady s (s.wakeFence ctx ring) := by
  unfold State.wakeFence
  split
  · exact steady_ite (steady_endOne _ _ _) (.refl s)
  · exact .refl s

theorem steady_endEntry (s : State) (uid : Nat) (r : Result) : Steady s (s.endEntry uid r) := by
  unfold State.endEntry
  split
  · exact .refl s
  · exact (steady_endOne _ _ _).trans (steady_wakeFence _ _ _)

/-! ### Operations of the transport -/

theorem steady_tagPeak (s : State) : Steady s s.tagPeak := steady_peak _ _ _

theorem steady_fabRead {s t : State} {job : Nat} {use : XUse} {addr beats : Nat} {parts : List (Nat × Nat)} {promised : Bool}
    (h : s.fabRead job use addr beats parts promised = some t) : Steady s t := by
  unfold State.fabRead at h
  split at h
  · contradiction
  · split at h
    · contradiction
    · cases h
      refine .trans ?_ (steady_tagPeak _)
      exact ⟨rfl, rfl, rfl, rfl, List.prefix_append _ _⟩

theorem steady_asRead {s t : State} {p : PendOp} (h : p.asRead s = some t) : Steady s t := by
  unfold PendOp.asRead at h
  split at h
  · exact steady_fabRead h
  · cases h
    exact .refl s

theorem steady_issueOp (s : State) (p : PendOp) : Steady s (s.issueOp p) := by
  unfold State.issueOp
  split
  · cases h : p.asRead s with
    | none => exact .refl s
    | some t => exact steady_asRead h
  · extract_lets n nv q y k x tcp s1 s2
    have h1 : Steady s s1 := steady_ite (steady_of_out rfl rfl rfl rfl rfl) (steady_of_out rfl rfl rfl rfl rfl)
    have h2 : Steady s1 s2 := .trans (t := { s1 with xfers := s1.xfers ++ [x] }) (steady_of_out rfl rfl rfl rfl rfl) (steady_transmit _ _)
    exact ((h1.trans h2).trans (steady_peak _ _ _)).trans (steady_set _ _ _)

theorem steady_offerOp (s : State) (p : PendOp) : Steady s (s.offerOp p) :=
  steady_ite (steady_issueOp s p) (steady_of_out rfl rfl rfl rfl rfl)

theorem steady_remoteWrite (s : State) (qp job : Nat) (use : XUse) (rkey addr : Nat) (data : Bytes) (promised : Bool) :
    Steady s (s.remoteWrite qp job use rkey addr data promised) := by
  unfold State.remoteWrite
  exact steady_offerOp s _

theorem steady_qpKill (s : State) (q : Nat) : Steady s (s.qpKill q) :=
  .trans (t := s.dropOps q) (steady_of_out rfl rfl rfl rfl rfl) (steady_setI _ _ _ _)

theorem steady_ops (s : State) (xs : List Xfer) (ops : List PendOp) : Steady s { s with xfers := xs, pendOps := ops } :=
  steady_of_out rfl rfl rfl rfl rfl

theorem steady_putTgt (s : State) (t : Tgt) : Steady s (s.putTgt t) := steady_of_out rfl rfl rfl rfl rfl

theorem steady_killAllQps (s : State) : Steady s s.killAllQps := by
  unfold State.killAllQps
  extract_lets s1 s2
  have h1 : Steady s s1 := steady_foldl _ _ (fun a q => steady_qpKill a q) s
  have h2 : Steady s1 s2 := steady_foldl _ _ (fun a t => Steady.may (.refl a)
    ((steady_setI a .xptTgtStateState t 1).trans (steady_putTgt _ _))) s1
  exact (h1.trans h2).trans (steady_ops s2 _ _)

theorem steady_nvmIssue (s : State) (o : NvmOp) : Steady s (s.nvmIssue o) := by
  unfold State.nvmIssue
  extract_lets t
  have ht : Steady s t := steady_of_out rfl rfl rfl rfl rfl
  exact ht.may (steady_send _ _)

/-! ### The end of a snapshot -/

theorem steady_guardRegs (s : State) : Steady s s.guardRegs := RegsOnly.steady (guardRegs_eq s)

theorem steady_forward (s : State) (w : GWrite) (now : GuardClock) : Steady s (s.forward w now) := by
  unfold State.forward
  extract_lets g s1 s2
  have h1 : Steady s s1 := ⟨rfl, rfl, rfl, rfl, List.prefix_append _ _⟩
  have h2 : Steady s1 s2 := steady_peak _ _ _
  exact (h1.trans h2).may ((steady_set _ _ _).trans (steady_set _ _ _))

theorem steady_guardAbandon (s : State) : Steady s s.guardAbandon := by
  unfold State.guardAbandon
  extract_lets g clk now writes g1 s1
  have h1 : Steady s s1 := steady_of_out rfl rfl rfl rfl rfl
  exact ((h1.trans (steady_foldl _ _ (fun a w => steady_forward a w now) _)).trans (steady_set _ _ _)).trans (steady_guardRegs _)

theorem steady_writeDesc (s : State) (k state step : Nat) : Steady s (s.writeDesc k state step) := by
  unfold State.writeDesc
  extract_lets t
  have hown : Steady s t := (steady_fabWrite _ _ _ _ _ _).trans (steady_of_out rfl rfl rfl rfl rfl)
  exact hown.may (steady_remoteWrite _ _ _ _ _ _ _ _)

theorem steady_dropSets (s : State) (p : FptSet → Bool) : Steady s (s.dropSets p) := steady_of_out rfl rfl rfl rfl rfl

theorem steady_closeSnap (s : State) (x : Snap) (status : Nat) : Steady s (s.closeSnap x status) := by
  unfold State.closeSnap
  extract_lets s1 s2
  have h1 : Steady s s1 := (steady_foldl _ _ (fun a j => (steady_of_out rfl rfl rfl rfl rfl : Steady a (a.dropJob j))) s).trans
    (steady_modGroup _ _ _)
  have h2 : Steady s1 s2 := steady_ite (.refl _) (steady_dropSets _ _)
  exact ((h1.trans h2).trans (steady_set _ _ _)).trans (steady_foldl _ _ (fun _ _ => steady_endEntry _ _ _) _)

theorem steady_endSnap (s : State) (status : Nat) : Steady s (s.endSnap status) := by
  unfold State.endSnap
  split
  · exact .refl s
  · exact .trans (t := { s with ckpt := { s.ckpt with snap := none } }) (steady_of_out rfl rfl rfl rfl rfl)
      ((steady_closeSnap _ _ status).trans (steady_set _ _ _))

theorem steady_abandonSnap (s : State) (status : Nat) (slot : Bool) : Steady s (s.abandonSnap status slot) := by
  unfold State.abandonSnap
  split
  · exact .refl s
  · extract_lets s1 s2
    have h1 : Steady s s1 := steady_ite (steady_guardAbandon s) (.refl s)
    have h2 : Steady s1 s2 := Steady.may (.refl s1) (steady_writeDesc _ _ _ _)
    exact (h1.trans h2).trans (steady_endSnap _ status)

/-! ### Lost cycles (02 R72, R76) -/

theorem steady_raiseWarn (s : State) (cause : Nat) : Steady s (s.raiseWarn cause) := by
  have hwarned : Steady s (s.warned cause) := (warned_regsOnly s cause).steady
  exact (hwarned.trans (steady_set _ _ _)).trans (steady_send _ _)

theorem steady_logPower (s : State) (kind cls logical cause : Nat) : Steady s (s.logPower kind cls logical cause) :=
  (logPower_only s kind cls logical cause).steady

theorem steady_powerFaults (s : State) : Steady s s.powerFaults := by
  unfold State.powerFaults
  extract_lets s1 s2
  have h2 : Steady s s2 := steady_of_out rfl rfl rfl rfl rfl
  exact (h2.trans (steady_logPower _ _ _ _ _)).trans (steady_raiseWarn _ _)

theorem steady_addLost (s : State) (n : Nat) : Steady s (s.addLost n) := by
  unfold State.addLost
  extract_lets u s1
  have h1 : Steady s s1 := steady_setI _ _ _ _
  exact h1.may (steady_powerFaults _)

theorem steady_accrue (s : State) (ofs : Nat) : Steady s (s.accrue ofs) := by
  unfold State.accrue
  extract_lets t k t1
  have ht : Steady s t := steady_of_out rfl rfl rfl rfl rfl
  have h1 : Steady s t1 := steady_of_out rfl rfl rfl rfl rfl
  exact steady_ite ht (h1.trans (steady_addLost _ _))

end Sys2Proof.Machine
end

section
/-! Hold-up without a valid Plinth keeps the exhausted flags of the key slots. -/
namespace Sys2Proof.Machine

/-- ACTIVE, the Plinth not ready, a key slot that has used up its counters. -/
def exhaustedKey : State := { lockedIdle with keys := [{ KeySlot.fresh 0 with exhausted := true }] }

theorem pwrFailN_keeps_exhaustedKey : leaves (fun t => !t.keys.isEmpty) (exec (.pwrFailN 0) exhaustedKey) = true := by decide +kernel

end Sys2Proof.Machine

namespace Sys2Proof.Proofs

open Sys2Proof.Machine Sys2Proof.Safety

/-- Refutes O16: `HoldupBegun` says that no key slot is left where no record is written, but `State.halt` keeps the slot of `exhaustedKey`,
empty and marked exhausted. -/
theorem not_holdupBegins : ¬ Obligations.HoldupBegins := by
  unfold Obligations.HoldupBegins
  rintro ⟨hbegin, -⟩
  obtain ⟨⟨t, ht, -, -, -, h, -, -, -, -, -, hgone⟩, -⟩ := hbegin exhaustedKey 0 0 0 0 (.inl rfl) rfl
  have hready : exhaustedKey.flag .pwrStatPlinthReady = false := by decide +kernel
  obtain ⟨-, -, -, hkeys⟩ := hgone hready
  have hkept := of_leaves pwrFailN_keeps_exhaustedKey ht
  rw [hkeys] at hkept
  cases hkept

end Sys2Proof.Proofs
end

section
/-! BUS_V, the clock steps and lost cycles (17 R460 to R463, 02 R72, R76). -/
namespace Sys2Proof.Machine

open Safety

/-- The registers that a power fault writes (02 R76, R77; 17 R481). -/
def faultFlds : List Fld :=
  logFlds ++ [.tickStatPowerFault, .tickStatSuspended, .fjCkptWarnsCount, .fjCkptStatWarnPending, .patLastWarnCause, .patStatWarned]

theorem keepsRegs_set {fs : List Fld} {f : Fld} (hf : f ∈ fs) (s : State) (v : Nat) : KeepsRegs fs s (s.set f v) := keepsRegs_setI hf s 0 v

theorem keepsRegs_ite {fs : List Fld} {s a b : State} {p : Prop} [Decidable p] (ha : KeepsRegs fs s a) (hb : KeepsRegs fs s b) :
    KeepsRegs fs s (if p then a else b) := by split <;> assumption

theorem keepsRegs_raiseWarn (s : State) (cause : Nat) :
    KeepsRegs [.fjCkptWarnsCount, .fjCkptStatWarnPending, .patLastWarnCause, .patStatWarned] s (s.raiseWarn cause) := by
  unfold State.raiseWarn State.warned
  extract_lets s1 s2
  have h1 := keepsRegs_set (fs := [.fjCkptWarnsCount, .fjCkptStatWarnPending, .patLastWarnCause, .patStatWarned]) (f := .fjCkptWarnsCount)
    (by decide) s (satAdd (fldWidth .fjCkptWarnsCount) (s.getI .fjCkptWarnsCount 0) 1)
  have h2 : KeepsRegs [.fjCkptWarnsCount, .fjCkptStatWarnPending, .patLastWarnCause, .patStatWarned] s s2 :=
    keepsRegs_ite (keepsRegs_trans h1 (keepsRegs_up s1 (by decide))) h1
  exact keepsRegs_trans (keepsRegs_trans h2 (keepsRegs_set (by decide) _ _)) (keepsRegs_up _ (by decide))

theorem keepsRegs_powerFaults (s : State) : KeepsRegs faultFlds s s.powerFaults := by
  unfold State.powerFaults
  extract_lets s1 s2
  have h1 : KeepsRegs faultFlds s s1 := keepsRegs_trans (keepsRegs_up s (by decide)) (keepsRegs_up _ (by decide))
  have h2 : KeepsRegs faultFlds s s2 := h1
  exact keepsRegs_trans (keepsRegs_trans h2 (keepsRegs_mono (by decide) (logPower_only s2 1 0 0 7).2))
    (keepsRegs_mono (by decide) (keepsRegs_raiseWarn _ 7))

/-- What the count of lost cycles can change (02 R72, R76). -/
theorem accrue_only (s : State) (ofs : Nat) :
    s.accrue ofs = { s with
      regs := (s.accrue ofs).regs, yeljo := (s.accrue ofs).yeljo, out := (s.accrue ofs).out, groups := (s.accrue ofs).groups,
      tick := (s.accrue ofs).tick } ∧ KeepsRegs (.tickThrUsedUsed :: faultFlds) s (s.accrue ofs) := by
  unfold State.accrue
  extract_lets t k t1
  split
  · exact ⟨rfl, fun _ _ _ => rfl⟩
  · unfold State.addLost
    extract_lets u s1
    have h1 : KeepsRegs (.tickThrUsedUsed :: faultFlds) s s1 := keepsRegs_trans (t := t1) (fun _ _ _ => rfl) (keepsRegs_set (by decide) _ _)
    split
    · refine ⟨?_, keepsRegs_trans h1 (keepsRegs_mono (by decide) (keepsRegs_powerFaults s1))⟩
      rw [powerFaults_eq]
      rfl
    · exact ⟨rfl, h1⟩

theorem keepsAll_raiseWarn (s : State) (cause : Nat) : KeepsAll s (s.raiseWarn cause) := by
  rw [KeepsAll, State.raiseWarn, State.up, State.set, State.setI, State.send, warned_regsOnly]

theorem raiseWarn_shows (s : State) {cause : Nat} (hc : cause < 256) :
    (s.raiseWarn cause).get .patLastWarnCause = cause ∧ Out.sideband (sbPacket s 3 0 cause) ∈ (s.raiseWarn cause).out := by
  refine ⟨?_, List.mem_append_right _ (List.mem_singleton_self _)⟩
  have hup : (s.raiseWarn cause).get .patLastWarnCause = (s.warned cause).get .patLastWarnCause :=
    get_up_other (s.warned cause) (f := .patLastWarnCause) (g := .patStatWarned) (by decide)
  rw [hup]
  exact (warned_shows s hc).2.2.1

theorem get_of_keepsRegs {fs : List Fld} {s t : State} (h : KeepsRegs fs s t) {f : Fld} (hf : f ∉ fs) : t.get f = s.get f := h f 0 hf

theorem flag_of_keepsRegs {fs : List Fld} {s t : State} (h : KeepsRegs fs s t) {f : Fld} (hf : f ∉ fs) : t.flag f = s.flag f := by
  rw [State.flag, get_of_keepsRegs h hf, State.flag]

theorem powerFaults_shows (s : State) :
    s.powerFaults.flag .tickStatPowerFault = true ∧ s.powerFaults.flag .tickStatSuspended = true ∧
      s.powerFaults.groups = s.groups.map Group.voided ∧ s.powerFaults.get .patLastWarnCause = 7 := by
  unfold State.powerFaults
  extract_lets s1 s2
  have hlog : KeepsRegs logFlds s2 (s2.logPower 1 0 0 7) := (logPower_only s2 1 0 0 7).2
  have hgroups : ((s2.logPower 1 0 0 7).raiseWarn 7).groups = s2.groups := by
    have hwarned : ((s2.logPower 1 0 0 7).warned 7).groups = (s2.logPower 1 0 0 7).groups := by rw [warned_regsOnly]
    exact hwarned.trans (by rw [(logPower_only s2 1 0 0 7).1])
  have hfault : s2.flag .tickStatPowerFault = true := by
    rw [show s2.flag .tickStatPowerFault = s1.flag .tickStatPowerFault from rfl, State.flag, get_up_other _ (by decide)]
    exact flag_up_same s _ (by decide)
  refine ⟨?_, ?_, hgroups, ?_⟩
  · rw [flag_of_keepsRegs (keepsRegs_raiseWarn _ 7) (by decide), flag_of_keepsRegs hlog (by decide), hfault]
  · rw [flag_of_keepsRegs (keepsRegs_raiseWarn _ 7) (by decide), flag_of_keepsRegs hlog (by decide)]
    exact flag_up_same (s.up .tickStatPowerFault) .tickStatSuspended (by decide)
  · exact (raiseWarn_shows _ (by decide)).1

theorem divisor_pos (s : State) : 0 < s.divisor := by
  unfold State.divisor
  split
  · decide
  · split <;> decide

theorem addLost_used (s : State) (n : Nat) : (s.addLost n).get .tickThrUsedUsed = satAdd 32 (s.get .tickThrUsedUsed) n := by
  unfold State.addLost
  extract_lets u s1
  have h1 : s1.get .tickThrUsedUsed = satAdd 32 (s.get .tickThrUsedUsed) n := get_bump_same s _ n
  split
  · rw [get_of_keepsRegs (keepsRegs_powerFaults s1) (by decide), h1]
  · exact h1

theorem addLost_tick (s : State) (n : Nat) : (s.addLost n).tick = s.tick := by
  unfold State.addLost
  extract_lets u s1
  split
  · rw [powerFaults_eq]
    rfl
  · rfl

/-- The cycles of the core, counted (02 R72). -/
theorem accrue_counts {s : State} (hrun : s.tick.running = true) (hup : s.holdingUp = false) {ofs : Nat} (hofs : s.tick.lostTo < ofs) :
    (s.accrue ofs).get .tickThrUsedUsed = satAdd 32 (s.get .tickThrUsedUsed) (coreCycles s ofs * (s.divisor - 1)) ∧
      (s.accrue ofs).tick.lostTo = s.tick.lostTo + coreCycles s ofs * s.divisor ∧ ofs < (s.accrue ofs).tick.lostTo + s.divisor := by
  have heq : s.accrue ofs = State.addLost { s.at_ ofs with
      tick := { (s.at_ ofs).tick with lostTo := s.tick.lostTo + coreCycles s ofs * s.divisor } } (coreCycles s ofs * (s.divisor - 1)) := by
    unfold State.accrue
    rw [if_neg (by simp [hrun, hup]; omega)]
  have hlost : (s.accrue ofs).tick.lostTo = s.tick.lostTo + coreCycles s ofs * s.divisor := by rw [heq, addLost_tick]
  refine ⟨by rw [heq, addLost_used]; rfl, hlost, ?_⟩
  rw [hlost]
  have hdiv := Nat.lt_div_mul_add (a := ofs - s.tick.lostTo) (divisor_pos s)
  have hcycles : coreCycles s ofs = (ofs - s.tick.lostTo) / s.divisor := rfl
  rw [← hcycles] at hdiv
  omega

/-- The cycle that exceeds the allowance (02 R76, R77). -/
theorem accrue_faults {s : State} {ofs : Nat} (hle : s.get .tickThrUsedUsed ≤ s.get .tickThrAllowAllow)
    (hlt : s.get .tickThrAllowAllow < (s.accrue ofs).get .tickThrUsedUsed) :
    (s.accrue ofs).flag .tickStatPowerFault = true ∧ (s.accrue ofs).flag .tickStatSuspended = true ∧
      (s.accrue ofs).groups = s.groups.map Group.voided ∧ (s.accrue ofs).get .patLastWarnCause = 7 := by
  revert hlt
  unfold State.accrue
  extract_lets t clk t1
  split
  · intro hlt
    exact absurd (lt_of_lt_of_le hlt hle) (lt_irrefl _)
  · rw [addLost_used]
    intro hlt
    unfold State.addLost
    extract_lets u s1
    have hs1 : s1.get .tickThrUsedUsed = satAdd 32 (s.get .tickThrUsedUsed) (coreCycles s ofs * (s.divisor - 1)) := get_bump_same _ _ _
    rw [if_pos ⟨hle, by rw [hs1]; exact hlt⟩]
    exact powerFaults_shows s1

/-- What the clock's steps and the lost cycles can change. -/
def ClockOnly (s t : State) : Prop :=
  t = { s with regs := t.regs, yeljo := t.yeljo, out := t.out, groups := t.groups, tick := t.tick }

theorem ClockOnly.refl (s : State) : ClockOnly s s := rfl

theorem ClockOnly.trans {s t u : State} (h : ClockOnly s t) (k : ClockOnly t u) : ClockOnly s u := by rw [ClockOnly, k, h]

theorem clockOnly_set (s : State) (f : Fld) (v : Nat) : ClockOnly s (s.set f v) := rfl

theorem LogOnly.clock {s t : State} (h : LogOnly s t) : ClockOnly s t := by rw [ClockOnly, h.1]

/-- A step of the clock that another one is in force at. -/
def State.stepped (s : State) (step ofs : Nat) : State :=
  let s1 := s.accrue ofs
  let s2 := (s1.set .tickStatClkStep step).recount s1.divisor ofs
  if s1.get .tickStatClkStep < step then (if step = 1 then s2.bump .pwrStepsS1Count 1 else s2.bump .pwrStepsS2Count 1) else s2

/-- What the replay of the log makes of a step. -/
def State.stepReplayed (s : State) (step : Nat) : State :=
  if s.replaying ∧ ¬ s.yeljo.stopped then
    if s.tick.replayClock = some step then { s with tick := { s.tick with replayClock := none } } else s.diverge s.yeljo.pos 7 8
  else s

/-- The code that the clock port is driven with at a step (15 R421). -/
def clockCode (step : Nat) : Nat :=
  match step with
  | 1 => 2
  | 2 => 4
  | _ => 1

theorem clockOnly_accrue (s : State) (ofs : Nat) : ClockOnly s (s.accrue ofs) := by rw [ClockOnly, (accrue_only s ofs).1]

theorem stepped_shows (s : State) {step : Nat} (hstep : step ≤ 2) (ofs : Nat) :
    ClockOnly s (s.stepped step ofs) ∧ (s.stepped step ofs).get .tickStatClkStep = step ∧
      KeepsRegs (.tickThrUsedUsed :: .tickStatClkStep :: .pwrStepsS1Count :: .pwrStepsS2Count :: faultFlds) s (s.stepped step ofs) ∧
      (s.get .tickStatClkStep < step →
        (s.stepped step ofs).get .pwrStepsS1Count = satAdd 32 (s.get .pwrStepsS1Count) (b2n (step == 1)) ∧
        (s.stepped step ofs).get .pwrStepsS2Count = satAdd 32 (s.get .pwrStepsS2Count) (b2n (step == 2))) := by
  obtain ⟨-, hregs⟩ := accrue_only s ofs
  have hread (f : Fld) (hf : f ∉ .tickThrUsedUsed :: faultFlds) : (s.accrue ofs).get f = s.get f := hregs f 0 hf
  have hlt : step < 2 ^ fldWidth .tickStatClkStep := lt_of_le_of_lt hstep (by decide)
  unfold State.stepped
  extract_lets s1 s2
  have h2 : ClockOnly s s2 := (clockOnly_accrue s ofs).trans rfl
  have hstep2 : s2.get .tickStatClkStep = step := get_set_same s1 _ hlt
  have hkeep2 : KeepsRegs (.tickThrUsedUsed :: .tickStatClkStep :: .pwrStepsS1Count :: .pwrStepsS2Count :: faultFlds) s s2 :=
    keepsRegs_trans (keepsRegs_mono (by decide) hregs) (keepsRegs_set (f := .tickStatClkStep) (by decide) s1 step)
  have hcount (f : Fld) (hf : f = .pwrStepsS1Count ∨ f = .pwrStepsS2Count) : s2.get f = s.get f := by
    rcases hf with rfl | rfl <;> exact (getI_setI_other s1 _ (by decide)).trans (hread _ (by decide))
  have hsame (f : Fld) (hlt : s.get f < 2 ^ 32) : s.get f = satAdd 32 (s.get f) 0 := by
    rw [satAdd]
    omega
  rw [hread _ (by decide)]
  split
  · next hup =>
    split
    · next h1 =>
      refine ⟨h2.trans rfl, (getI_setI_other s2 _ (by decide)).trans hstep2, keepsRegs_trans hkeep2 (keepsRegs_setI (by decide) _ _ _), fun _ => ⟨?_, ?_⟩⟩
      · rw [get_bump_same, hcount _ (.inl rfl), h1]
        rfl
      · rw [h1]
        exact ((getI_setI_other s2 _ (by decide)).trans (hcount _ (.inr rfl))).trans
          (hsame _ (getI_lt s .pwrStepsS2Count 0 (Nat.two_pow_pos 32)))
    · next h1 =>
      have hstep : step = 2 := by omega
      refine ⟨h2.trans rfl, (getI_setI_other s2 _ (by decide)).trans hstep2, keepsRegs_trans hkeep2 (keepsRegs_setI (by decide) _ _ _), fun _ => ⟨?_, ?_⟩⟩
      · rw [hstep]
        exact ((getI_setI_other s2 _ (by decide)).trans (hcount _ (.inl rfl))).trans
          (hsame _ (getI_lt s .pwrStepsS1Count 0 (Nat.two_pow_pos 32)))
      · rw [get_bump_same, hcount _ (.inr rfl), hstep]
        rfl
  · next hup => exact ⟨h2, hstep2, hkeep2, fun h => absurd h hup⟩

theorem stepReplayed_only (s : State) (step : Nat) :
    ClockOnly s (s.stepReplayed step) ∧ KeepsRegs logFlds s (s.stepReplayed step) ∧ (s.stepReplayed step).out = s.out := by
  unfold State.stepReplayed
  split
  · split
    · exact ⟨rfl, fun _ _ _ => rfl, rfl⟩
    · exact ⟨rfl, (logOnly_diverge s _ _ _).2, rfl⟩
  · exact ⟨rfl, fun _ _ _ => rfl, rfl⟩

theorem clockStep_eq {s : State} {step ofs : Nat} (hstep : step ≤ 2) (hne : s.get .tickStatClkStep ≠ step) :
    s.clockStep step ofs = (((s.stepped step ofs).send (.clock (clockCode step))).logRec 7 0 0
      (step + 4 * s.pins.sagFast) []).stepReplayed step := by
  have hold : (s.accrue ofs).get .tickStatClkStep ≠ step := by rwa [get_of_keepsRegs (accrue_only s ofs).2 (by decide)]
  have hpins : (s.stepped step ofs).pins = s.pins := by rw [(stepped_shows s hstep ofs).1]
  unfold State.clockStep
  rw [if_neg hold, ← hpins]
  rfl

/-- A step of the clock (17 R460, R461). -/
theorem clockStep_shows {s : State} {step : Nat} (hstep : step ≤ 2) (hne : s.get .tickStatClkStep ≠ step) (ofs : Nat) :
    ClockOnly s (s.clockStep step ofs) ∧
      KeepsRegs (.tickThrUsedUsed :: .tickStatClkStep :: .pwrStepsS1Count :: .pwrStepsS2Count :: faultFlds) s (s.clockStep step ofs) ∧
      (s.clockStep step ofs).get .tickStatClkStep = step ∧ Out.clock (clockCode step) ∈ (s.clockStep step ofs).out ∧
      (s.get .tickStatClkStep < step →
        (s.clockStep step ofs).get .pwrStepsS1Count = satAdd 32 (s.get .pwrStepsS1Count) (b2n (step == 1)) ∧
        (s.clockStep step ofs).get .pwrStepsS2Count = satAdd 32 (s.get .pwrStepsS2Count) (b2n (step == 2))) := by
  obtain ⟨honly, hnew, hregs, hcounts⟩ := stepped_shows s hstep ofs
  rw [clockStep_eq hstep hne]
  generalize s.stepped step ofs = a at honly hnew hregs hcounts
  have hlog := logRec_only (a.send (.clock (clockCode step))) 7 0 0 (step + 4 * s.pins.sagFast) []
  generalize hb : (a.send (.clock (clockCode step))).logRec 7 0 0 (step + 4 * s.pins.sagFast) [] = b at hlog
  obtain ⟨hclock, hkeep, hout⟩ := stepReplayed_only b step
  have hkept : KeepsRegs logFlds a (b.stepReplayed step) := keepsRegs_trans (t := b) hlog.2 hkeep
  refine ⟨(honly.trans (t := a) (.trans (t := a.send _) rfl hlog.clock)).trans hclock, keepsRegs_trans hregs (keepsRegs_mono (by decide) hkept),
    (get_of_keepsRegs hkept (by decide)).trans hnew, ?_, fun hlt => ?_⟩
  · rw [hout, hlog.1]
    simp
  · rw [get_of_keepsRegs hkept (by decide), get_of_keepsRegs hkept (by decide)]
    exact hcounts hlt

theorem get_set_other (s : State) {f g : Fld} (v : Nat) (h : f ≠ g) : (s.set f v).get g = s.get g := getI_setI_other s v (fun e => h e.1)

theorem flag_set_other (s : State) {f g : Fld} (v : Nat) (h : f ≠ g) : (s.set f v).flag g = s.flag g := by
  rw [State.flag, get_set_other s v h, State.flag]

theorem get_down_other (s : State) {f g : Fld} (h : f ≠ g) : (s.down f).get g = s.get g := get_set_other s 0 h

theorem flag_down_other (s : State) {f g : Fld} (h : f ≠ g) : (s.down f).flag g = s.flag g := flag_set_other s 0 h

theorem flag_down_same (s : State) (f : Fld) : (s.down f).flag f = false := by
  rw [State.flag, State.down, get_set_same s f (Nat.two_pow_pos _)]
  rfl

theorem flag_set_b2n (s : State) (f : Fld) (b : Bool) (h : 0 < fldWidth f) : (s.set f (b2n b)).flag f = b := by
  cases b with
  | false => exact flag_down_same s f
  | true => exact flag_up_same s f h

theorem keepsAll_set {b s : State} (h : KeepsAll b s) (f : Fld) (v : Nat) : KeepsAll b (s.set f v) := by
  rw [KeepsAll, State.set, State.setI, h]

/-! ### SAG_FAST (17 R458) -/

theorem clockCode_eq (step : Nat) : clockCode step = if step = 1 then 2 else if step = 2 then 4 else 1 := by
  unfold clockCode
  split
  · rfl
  · rfl
  · next h1 h2 => rw [if_neg h1, if_neg h2]

theorem stepOf_le (level : Nat) : stepOf level ≤ 2 := Nat.min_le_right _ _

theorem clockCode_rise {level old : Nat} (h : stepOf level > old) : clockCode (stepOf level) = if stepOf level = 1 then 2 else 4 := by
  have := stepOf_le level
  rw [clockCode_eq]
  split
  · rfl
  · rw [if_pos (by omega)]

/-- The level of SAG_FAST, shown. -/
def State.sagged (s : State) (level : Nat) : State :=
  ({ s with pins := { s.pins with sagFast := level % 4 } }).set .pwrStatSag (b2n (level % 4 != 0))

theorem sagged_shows (s : State) (level : Nat) :
    (s.sagged level).get .tickStatClkStep = s.get .tickStatClkStep ∧
      (s.sagged level).get .pwrStepsS1Count = s.get .pwrStepsS1Count ∧
      (s.sagged level).get .pwrStepsS2Count = s.get .pwrStepsS2Count ∧ (s.sagged level).flag .pwrStatSag = decide (level % 4 ≠ 0) := by
  have hread (f : Fld) (hf : Fld.pwrStatSag ≠ f) : (s.sagged level).get f = s.get f := get_set_other _ _ hf
  refine ⟨hread _ (by decide), hread _ (by decide), hread _ (by decide), (flag_set_b2n _ _ _ (by decide)).trans ?_⟩
  by_cases h : level % 4 = 0 <;> simp [h]

/-- What a change of SAG_FAST leaves. -/
theorem sagged_end {s u : State} {level : Nat} (h : ClockOnly (s.sagged level) u) :
    u.pins.sagFast = level % 4 ∧ (finishState s u).entries = s.entries ∧ (finishState s u).jobs = s.jobs ∧
      (finishState s u).guard = s.guard ∧ (finishState s u).eng = s.eng ∧ u.build = s.build := by
  rw [finishState_entries, finishState_jobs, finishState_guard, finishState_eng, h]
  exact ⟨rfl, rfl, rfl, rfl, rfl, rfl⟩

theorem flag_finishState {s u : State} (hb : u.build = s.build) {f : Fld} (hf : f ≠ .fjMsixPbaPending) : (finishState s u).flag f = u.flag f := by
  rw [State.flag, get_finishState hb hf, State.flag]

/-- SAG_FAST at work (17 R458, R460, R461). -/
theorem sagFastRise_shows {s : State} {level : Nat} (hup : s.holdingUp = false) (h4 : s.eng ≠ 4) (h8 : s.eng ≠ 8) (ofs : Nat) :
    ∃ t, exec (.sagFastRise level ofs) s = .next t ∧
      t.get .tickStatClkStep = max (s.get .tickStatClkStep) (stepOf (level % 4)) ∧ t.pins.sagFast = level % 4 ∧
      t.flag .pwrStatSag = decide (level % 4 ≠ 0) ∧
      (s.get .tickStatClkStep < stepOf (level % 4) →
        Out.clock (if stepOf (level % 4) = 1 then 2 else 4) ∈ t.out ∧
        t.get .pwrStepsS1Count = satAdd 32 (s.get .pwrStepsS1Count) (b2n (stepOf (level % 4) == 1)) ∧
        t.get .pwrStepsS2Count = satAdd 32 (s.get .pwrStepsS2Count) (b2n (stepOf (level % 4) == 2))) ∧
      t.entries = s.entries ∧ t.jobs = s.jobs ∧ t.guard = s.guard ∧ t.eng = s.eng := by
  have hexec : exec (.sagFastRise level ofs) s = finish s
      (if stepOf (level % 4) > s.get .tickStatClkStep then (s.sagged level).clockStep (stepOf (level % 4)) ofs else (s.sagged level).accrue ofs) :=
    if_neg (by simp [hup, h4, h8])
  obtain ⟨hstep, hcount1, hcount2, hsag⟩ := sagged_shows s level
  rw [hexec]
  split
  · next hrise =>
    obtain ⟨honly, hkeep, hnew, hout, hcounts⟩ :=
      clockStep_shows (s := s.sagged level) (stepOf_le (level % 4)) (by rw [hstep]; exact Nat.ne_of_lt hrise) ofs
    rw [hstep, hcount1, hcount2] at hcounts
    generalize (s.sagged level).clockStep (stepOf (level % 4)) ofs = u at honly hkeep hnew hout hcounts
    obtain ⟨hpins, hentries, hjobs, hguard, heng, hbuild⟩ := sagged_end honly
    refine ⟨finishState s u, rfl, ?_, by rw [finishState_pins, hpins], ?_, fun hlt => ⟨?_, ?_, ?_⟩, hentries, hjobs, hguard, heng⟩
    · rw [get_finishState hbuild (by decide), hnew]
      omega
    · rw [flag_finishState hbuild (by decide), flag_of_keepsRegs hkeep (by decide), hsag]
    · rw [← clockCode_rise hrise]
      exact mem_out_finishState hout
    · rw [get_finishState hbuild (by decide), (hcounts hlt).1]
    · rw [get_finishState hbuild (by decide), (hcounts hlt).2]
  · next hflat =>
    obtain ⟨-, hkeep⟩ := accrue_only (s.sagged level) ofs
    have honly := clockOnly_accrue (s.sagged level) ofs
    generalize (s.sagged level).accrue ofs = u at hkeep honly
    obtain ⟨hpins, hentries, hjobs, hguard, heng, hbuild⟩ := sagged_end honly
    refine ⟨finishState s u, rfl, ?_, by rw [finishState_pins, hpins], ?_, fun hlt => absurd hlt hflat, hentries, hjobs, hguard, heng⟩
    · rw [get_finishState hbuild (by decide), get_of_keepsRegs hkeep (by decide), hstep]
      omega
    · rw [flag_finishState hbuild (by decide), flag_of_keepsRegs hkeep (by decide), hsag]

theorem sagStepUp_shows {s : State} {level : Nat} (hup : s.holdingUp = false) (hlt : stepOf (level % 4) < s.get .tickStatClkStep) (ofs : Nat) :
    ∃ t, exec (.sagStepUp level ofs) s = .next t ∧ t.get .tickStatClkStep = s.get .tickStatClkStep - 1 ∧
      Out.clock (if s.get .tickStatClkStep - 1 = 1 then 2 else if s.get .tickStatClkStep - 1 = 2 then 4 else 1) ∈ t.out ∧
      t.entries = s.entries ∧ t.jobs = s.jobs ∧ t.guard = s.guard ∧ t.eng = s.eng := by
  have hexec : exec (.sagStepUp level ofs) s = finish s ((s.sagged level).clockStep (s.get .tickStatClkStep - 1) ofs) :=
    if_neg (by simp [hup]; omega)
  obtain ⟨hstep, -, -, -⟩ := sagged_shows s level
  have hfour : s.get .tickStatClkStep < 4 := getI_lt s .tickStatClkStep 0 (Nat.two_pow_pos 2)
  obtain ⟨honly, -, hnew, hout, -⟩ := clockStep_shows (s := s.sagged level) (step := s.get .tickStatClkStep - 1) (by omega)
    (by rw [hstep]; omega) ofs
  generalize (s.sagged level).clockStep (s.get .tickStatClkStep - 1) ofs = u at honly hnew hout hexec
  obtain ⟨-, hentries, hjobs, hguard, heng, hbuild⟩ := sagged_end honly
  refine ⟨finishState s u, hexec, ?_, ?_, hentries, hjobs, hguard, heng⟩
  · rw [get_finishState hbuild (by decide), hnew]
  · rw [← clockCode_eq]
    exact mem_out_finishState hout

/-! ### BUS_V (17 R462) -/

/-- A code of BUS_V, recorded. -/
def State.busCoded (s : State) (c : Nat) : State :=
  let s1 := ((({ s with pins := { s.pins with busVCode := c } }).set .pwrBusvNowCode c).set .pwrStatBusLow
    (b2n (c ≤ s.get .pwrBusvWarn))).down .fjPortStatBusvStale
  if c < s1.get .pwrBusvNowMin then s1.set .pwrBusvNowMin c else s1

theorem busCoded_shows (s : State) {c : Nat} (hc : c < 4096) :
    KeepsAll { s with pins := { s.pins with busVCode := c } } (s.busCoded c) ∧
      KeepsRegs [.pwrBusvNowCode, .pwrStatBusLow, .pwrBusvNowMin, .fjPortStatBusvStale] { s with pins := { s.pins with busVCode := c } } (s.busCoded c) ∧
      (s.busCoded c).get .pwrBusvNowCode = c ∧ (s.busCoded c).flag .pwrStatBusLow = decide (c ≤ s.get .pwrBusvWarn) ∧
      (s.busCoded c).get .pwrBusvNowMin = min (s.get .pwrBusvNowMin) c ∧ (s.busCoded c).flag .fjPortStatBusvStale = false := by
  unfold State.busCoded
  generalize hp : ({ s with pins := { s.pins with busVCode := c } } : State) = p
  have hmin0 : p.get .pwrBusvNowMin = s.get .pwrBusvNowMin := by rw [← hp]; rfl
  extract_lets s1
  have hall : KeepsAll p s1 := rfl
  have hregs : KeepsRegs [.pwrBusvNowCode, .pwrStatBusLow, .pwrBusvNowMin, .fjPortStatBusvStale] p s1 :=
    keepsRegs_trans (keepsRegs_trans (keepsRegs_set (by decide) _ _) (keepsRegs_set (by decide) _ _)) (keepsRegs_set (by decide) _ _)
  have hcode : s1.get .pwrBusvNowCode = c :=
    (get_down_other _ (by decide)).trans ((get_set_other _ _ (by decide)).trans (get_set_same p _ hc))
  have hlow : s1.flag .pwrStatBusLow = decide (c ≤ s.get .pwrBusvWarn) :=
    (flag_down_other _ (by decide)).trans (flag_set_b2n _ _ _ (by decide))
  have hmin : s1.get .pwrBusvNowMin = s.get .pwrBusvNowMin :=
    (get_down_other _ (by decide)).trans ((get_set_other _ _ (by decide)).trans ((get_set_other p _ (by decide)).trans hmin0))
  have hstale : s1.flag .fjPortStatBusvStale = false := flag_down_same _ _
  rw [hmin]
  split
  · next hlt =>
    refine ⟨keepsAll_set hall _ _, keepsRegs_trans hregs (keepsRegs_set (by decide) _ _), (get_set_other _ _ (by decide)).trans hcode,
      (flag_set_other _ _ (by decide)).trans hlow, ?_, (flag_set_other _ _ (by decide)).trans hstale⟩
    rw [get_set_same _ _ hc]
    omega
  · next hge => exact ⟨hall, hregs, hcode, hlow, by rw [hmin]; omega, hstale⟩

end Sys2Proof.Machine

namespace Sys2Proof.Proofs

open Sys2Proof.Machine Sys2Proof.Safety

/-- Settles O17: the strobe, the steps of the clock and the count of lost cycles each by what they leave. -/
theorem busAndClock : Obligations.BusAndClock := by
  unfold Obligations.BusAndClock
  refine ⟨fun s code ofs hup hhold => ?_, fun s level ofs hup => ⟨fun h4 h8 => ?_, fun hlt => ?_⟩,
    fun s ofs hrun hup hofs => accrue_counts hrun hup hofs, fun s => ?_, fun s ofs hle hlt => ?_⟩
  · have hc : code % 4096 < 4096 := Nat.mod_lt _ (by decide)
    obtain ⟨hall, hregs, hcode, hlow, hmin, hstale⟩ := busCoded_shows s hc
    have hexec : exec (.busVStrobe code ofs) s = if code % 4096 ≤ s.get .pwrBusvWarn ∧ s.pins.busVCode > s.get .pwrBusvWarn then
        finish s (((s.busCoded (code % 4096)).up .pwrStatBusWarn).raiseWarn 6) else finish s (s.busCoded (code % 4096)) := by
      show execBusVStrobe code ofs s = _
      unfold execBusVStrobe
      rw [if_neg (by simp [hup]), if_neg hhold]
      rfl
    have hcopied : KeepsRegs [] s { s with pins := { s.pins with busVCode := code % 4096 } } := keepsRegs_of_regs rfl rfl
    generalize hp : ({ s with pins := { s.pins with busVCode := code % 4096 } } : State) = p at hall hregs hcopied ⊢
    have hb : p.build = s.build := by rw [← hp]
    have hpend : p.pending = s.pending := by rw [← hp]
    have hreads : p.regs = s.regs := by rw [← hp]
    have hpin : p.pins.busVCode = code % 4096 := by rw [← hp]
    generalize s.busCoded (code % 4096) = u at hall hregs hcode hlow hmin hstale hexec
    rw [hexec]
    split
    · next hwarn =>
      obtain ⟨hcause, hsent⟩ := raiseWarn_shows (u.up .pwrStatBusWarn) (cause := 6) (by decide)
      have hpacket : sbPacket (u.up .pwrStatBusWarn) 3 0 6 = sbPacket s 3 0 6 := by
        have hinst : (u.up .pwrStatBusWarn).get .fjPosInst = s.get .fjPosInst :=
          (get_up_other u (by decide)).trans ((get_of_keepsRegs hregs (by decide)).trans (get_of_keepsRegs hcopied (by decide)))
        rw [sbPacket, hinst, sbPacket]
      rw [hpacket] at hsent
      have hwarned : KeepsAll p ((u.up .pwrStatBusWarn).raiseWarn 6) := by
        rw [KeepsAll, keepsAll_raiseWarn, State.up, State.set, State.setI, hall]
      have hkeep : KeepsRegs (.pwrStatBusWarn :: [.fjCkptWarnsCount, .fjCkptStatWarnPending, .patLastWarnCause, .patStatWarned]) u
          ((u.up .pwrStatBusWarn).raiseWarn 6) :=
        keepsRegs_trans (keepsRegs_up u (by decide)) (keepsRegs_mono (by decide) (keepsRegs_raiseWarn _ 6))
      have hraised : ((u.up .pwrStatBusWarn).raiseWarn 6).flag .pwrStatBusWarn = true :=
        (flag_of_keepsRegs (keepsRegs_raiseWarn _ 6) (by decide)).trans (flag_up_same u _ (by decide))
      generalize (u.up .pwrStatBusWarn).raiseWarn 6 = w at hcause hsent hwarned hkeep hraised
      have hflag (f : Fld) (hf : f ∉ Fld.pwrStatBusWarn :: [.fjCkptWarnsCount, .fjCkptStatWarnPending, .patLastWarnCause, .patStatWarned])
          (hpba : f ≠ .fjMsixPbaPending) : (finishState s w).flag f = u.flag f :=
        (flag_finish_from hb hwarned hpba).trans (flag_of_keepsRegs hkeep hf)
      have hget (f : Fld) (hf : f ∉ Fld.pwrStatBusWarn :: [.fjCkptWarnsCount, .fjCkptStatWarnPending, .patLastWarnCause, .patStatWarned])
          (hpba : f ≠ .fjMsixPbaPending) : (finishState s w).get f = u.get f :=
        (get_finish_from hb hwarned hpba).trans (get_of_keepsRegs hkeep hf)
      refine ⟨finishState s w, rfl, ?_, (hget _ (by decide) (by decide)).trans hcode, (hflag _ (by decide) (by decide)).trans hlow,
        (hget _ (by decide) (by decide)).trans hmin, (hflag _ (by decide) (by decide)).trans hstale, fun _ _ => ⟨?_, ?_, ?_⟩,
        fun hno => absurd hwarn hno, keepsAll_finish_from hb hpend hwarned⟩
      · rw [finishState_pins, hwarned, hpin]
      · exact (flag_finish_from hb hwarned (by decide)).trans hraised
      · exact (get_finish_from hb hwarned (by decide)).trans hcause
      · exact mem_out_finishState hsent
    · next hquiet =>
      refine ⟨finishState s u, rfl, ?_, (get_finish_from hb hall (by decide)).trans hcode, (flag_finish_from hb hall (by decide)).trans hlow,
        (get_finish_from hb hall (by decide)).trans hmin, (flag_finish_from hb hall (by decide)).trans hstale,
        fun h1 h2 => absurd ⟨h1, h2⟩ hquiet, fun _ => keepsRegs_finish_from (by decide) hb hreads hall (keepsRegs_mono (by decide) hregs),
        keepsAll_finish_from hb hpend hall⟩
      rw [finishState_pins, hall, hpin]
  · exact sagFastRise_shows hup h4 h8 ofs
  · exact sagStepUp_shows hup hlt ofs
  · have hall : KeepsAll s (s.up .fjPortStatBusvStale) := rfl
    refine ⟨finishState s _, rfl, ?_, ?_, ?_, keepsAll_finishState hall⟩
    · rw [flag_finish_from (s := s) (b := s) rfl hall (by decide)]
      exact flag_up_same s _ (by decide)
    · rw [get_finish_from (s := s) (b := s) rfl hall (by decide), get_up_other _ (by decide)]
    · exact keepsRegs_finish_from (by decide) rfl rfl hall (keepsRegs_up s (by decide))
  · obtain ⟨hfault, hsuspended, hgroups, hcause⟩ := accrue_faults hle hlt
    have honly := (accrue_only s ofs).1
    have hb : (s.accrue ofs).build = s.build := by rw [honly]
    refine ⟨finishState s (s.accrue ofs), if_pos ⟨hle, hlt⟩, ?_, ?_, ?_, ?_, ?_, ?_⟩
    · rw [State.flag, get_finishState hb (by decide), ← State.flag, hfault]
    · rw [State.flag, get_finishState hb (by decide), ← State.flag, hsuspended]
    · rw [finishState_groups, hgroups]
    · rw [get_finishState hb (by decide), hcause]
    · rw [finishState_entries, honly]
    · rw [finishState_jobs, honly]

end Sys2Proof.Proofs
end

section
/-! A boundary and its pieces (02 R51 to R55, R64, R71, R72, R77). -/
namespace Sys2Proof.Machine

open Safety

/-- What a boundary has settled stays: the tick's own fields, the groups, TICK_NOW, TICK_THR_USED and IRQ_DONE.MODE. -/
structure KeepsTick (s t : State) : Prop where
  ofs : t.tick.ofs = s.tick.ofs
  edge : t.tick.edge = s.tick.edge
  pending : t.tick.pending = s.tick.pending
  groups : t.groups = s.groups
  regs : ∀ f ∈ [Fld.tickNowNow, .tickThrUsedUsed, .fjIrqDoneMode], t.get f = s.get f

theorem KeepsTick.refl (s : State) : KeepsTick s s := ⟨rfl, rfl, rfl, rfl, fun _ _ => rfl⟩

theorem KeepsTick.trans {s t u : State} (h : KeepsTick s t) (k : KeepsTick t u) : KeepsTick s u :=
  ⟨k.ofs.trans h.ofs, k.edge.trans h.edge, k.pending.trans h.pending, k.groups.trans h.groups, fun f hf => (k.regs f hf).trans (h.regs f hf)⟩

theorem keepsTick_ite {s a b : State} {p : Prop} [Decidable p] (ha : KeepsTick s a) (hb : KeepsTick s b) : KeepsTick s (if p then a else b) := by
  split <;> assumption

theorem KeepsTick.may {s a b : State} {p : Prop} [Decidable p] (ha : KeepsTick s a) (hb : KeepsTick a b) : KeepsTick s (if p then b else a) :=
  keepsTick_ite (ha.trans hb) ha

theorem keepsTick_foldl {α : Type} (l : List α) (g : State → α → State) (h : ∀ s a, KeepsTick s (g s a)) (s : State) :
    KeepsTick s (l.foldl g s) := by
  induction l generalizing s with
  | nil => exact .refl s
  | cons a l ih => exact (h s a).trans (ih _)

theorem keepsTick_of_regs {s t : State} (ht : t.tick = s.tick) (hg : t.groups = s.groups) (hb : t.build = s.build) (hr : t.regs = s.regs) :
    KeepsTick s t :=
  ⟨by rw [ht], by rw [ht], by rw [ht], hg, fun f _ => keepsRegs_of_regs (fs := []) hb hr f 0 List.not_mem_nil⟩

theorem keepsTick_setI (s : State) {f : Fld} (hf : ∀ g ∈ [Fld.tickNowNow, .tickThrUsedUsed, .fjIrqDoneMode], f ≠ g) (i v : Nat) :
    KeepsTick s (s.setI f i v) :=
  ⟨rfl, rfl, rfl, rfl, fun g hg => getI_setI_other s v (fun e => hf g hg e.1)⟩

theorem keepsTick_set (s : State) {f : Fld} (hf : ∀ g ∈ [Fld.tickNowNow, .tickThrUsedUsed, .fjIrqDoneMode], f ≠ g) (v : Nat) :
    KeepsTick s (s.set f v) := keepsTick_setI s hf 0 v

theorem keepsTick_of_keepsRegs {fs : List Fld} {s t : State} (ht : t.tick = s.tick) (hg : t.groups = s.groups) (h : KeepsRegs fs s t)
    (hfs : ∀ f ∈ [Fld.tickNowNow, .tickThrUsedUsed, .fjIrqDoneMode], f ∉ fs) : KeepsTick s t :=
  ⟨by rw [ht], by rw [ht], by rw [ht], hg, fun f hf => h f 0 (hfs f hf)⟩

theorem LogOnly.keepsTick {s t : State} (h : LogOnly s t) : KeepsTick s t :=
  keepsTick_of_keepsRegs (by rw [h.1]) (by rw [h.1]) h.2 (by decide)

theorem OpOnly.keepsTick {s t : State} (h : OpOnly s t) : KeepsTick s t :=
  keepsTick_of_keepsRegs (by rw [h.1]) (by rw [h.1]) h.2 (by decide)

theorem BeatsOnly.keepsTick {s t : State} (h : BeatsOnly s t) : KeepsTick s t :=
  keepsTick_of_regs (by rw [h]) (by rw [h]) (by rw [h]) (by rw [h])

/-! ### The pieces that follow the reservations -/

theorem keepsTick_applyVl (s : State) (ctx code : Nat) : KeepsTick s (s.applyVl ctx code) :=
  .trans (t := s.setI .pntVlVl ctx code) (keepsTick_setI s (by decide) _ _) (keepsTick_of_regs rfl rfl rfl rfl)

theorem keepsTick_vlTurn (s : State) : KeepsTick s s.vlTurn :=
  keepsTick_foldl _ _ (fun a _ => keepsTick_ite (.refl a) (keepsTick_applyVl a _ _)) s

theorem keepsTick_settleTables (s : State) : KeepsTick s s.settleTables := keepsTick_of_regs rfl rfl rfl rfl

theorem keepsTick_settleErases (s : State) : KeepsTick s s.settleErases := by
  unfold State.settleErases
  extract_lets due
  exact keepsTick_ite (.trans (t := { s with keys := s.keys.map (fun x => if due x then x.erase else x) }) (keepsTick_of_regs rfl rfl rfl rfl)
    (keepsTick_set _ (by decide) 1)) (.refl s)

theorem keepsTick_guard (s : State) (g : Guard) : KeepsTick s { s with guard := g } := keepsTick_of_regs rfl rfl rfl rfl

theorem keepsTick_copyAsk (s : State) (gran : Nat) : KeepsTick s (s.copyAsk gran) := by
  unfold State.copyAsk
  extract_lets g s1
  have h1 : KeepsTick s s1 := keepsTick_of_regs rfl rfl rfl rfl
  refine keepsTick_ite h1 ?_
  split
  · exact .refl s
  · next t _ =>
    extract_lets s2 reads
    have h2 : KeepsTick s (s2.sendAll reads) := keepsTick_of_regs rfl rfl rfl rfl
    have hpeak := opOnly_peak (f := .stgTagsPeak) (by decide) (s2.sendAll reads)
    exact h2.trans (hpeak _).keepsTick

theorem keepsTick_copyIssueFuel (n : Nat) (s : State) : KeepsTick s (copyIssueFuel n s) := by
  induction n generalizing s with
  | zero => exact .refl s
  | succ n ih =>
    rw [copyIssueFuel]
    refine keepsTick_ite (.refl s) ?_
    split
    · exact keepsTick_ite ((keepsTick_guard s _).trans (ih _)) (.refl s)
    · exact (keepsTick_copyAsk s _).trans (ih _)

theorem keepsTick_copyStart (s : State) : KeepsTick s s.copyStart := by
  unfold State.copyStart
  split
  · exact keepsTick_ite ((keepsTick_guard s _).trans (keepsTick_copyIssueFuel 18 _)) (.refl s)
  · exact .refl s

theorem fabReadAll_only (s : State) (job : Nat) (use : Nat → XUse) (addr len : Nat) (promised : Bool) :
    OpOnly s (s.fabReadAll job use addr len promised) := by
  have hfold (l : List (Nat × Nat × List (Nat × Nat))) (x : State × Nat) : OpOnly x.1 (l.foldl (fun (x : State × Nat) r =>
      let n := (r.2.2.map (·.2)).sum
      (x.1.offerOp ⟨.fabRead, job, use x.2, 256, 0, addr + x.2, n, [], false, promised⟩, x.2 + n)) x).1 := by
    induction l generalizing x with
    | nil => exact .refl x.1
    | cons r l ih => exact (offerOp_only x.1 _).trans (ih _)
  exact hfold _ (s, 0)

theorem loadLattice_only (s : State) (j : Job) (r : Nat) : OpOnly s (s.loadLattice j r) := by
  unfold State.loadLattice
  split
  · exact fabReadAll_only _ _ _ _ _ _
  · exact .refl s

theorem keepsTick_unpark (s : State) : KeepsTick s s.unpark := by
  unfold State.unpark
  extract_lets waits back
  refine .trans (t := { s with parked := s.parked.filter (fun p => !back.contains p.1) }) (keepsTick_of_regs rfl rfl rfl rfl) ?_
  refine keepsTick_foldl _ _ (fun a c => ?_) _
  split
  · exact (loadLattice_only a _ 0).keepsTick
  · exact .refl a

theorem keepsTick_ringTicks (s : State) : KeepsTick s s.ringTicks := by
  refine keepsTick_foldl _ _ (fun a r => ?_) s
  extract_lets i a1
  have h1 : KeepsTick a a1 := keepsTick_ite (.refl a) (keepsTick_setI a (by decide) _ _)
  split
  · exact h1.may (keepsTick_setI a1 (by decide) _ _)
  · exact h1

theorem keepsTick_setEng (s : State) (code : Nat) : KeepsTick s (s.setEng code) :=
  keepsTick_ite (keepsTick_of_regs rfl rfl rfl rfl) (keepsTick_of_regs rfl rfl rfl rfl)

theorem keepsTick_activeTurn (s : State) : KeepsTick s s.activeTurn := by
  unfold State.activeTurn
  extract_lets n
  refine keepsTick_ite (keepsTick_ite ?_ (keepsTick_of_regs rfl rfl rfl rfl)) (.refl s)
  exact .trans (t := s.modBoot _) (keepsTick_of_regs rfl rfl rfl rfl) (keepsTick_setEng _ 2)

theorem keepsTick_yljHeaderWrite (s : State) (closed : Bool) : KeepsTick s (s.yljHeaderWrite closed) := (beatsOnly_fabWrite _ _ _ _ _ _).keepsTick

theorem keepsTick_yDrainOne (s : State) : KeepsTick s s.yDrainOne := by
  unfold State.yDrainOne
  split
  · exact .refl s
  · extract_lets i c s1 y0 y
    exact keepsTick_ite ((keepsTick_yljHeaderWrite s true).trans (keepsTick_set _ (by decide) 0))
      (.trans (t := s1) (beatsOnly_fabWrite _ _ _ _ _ _).keepsTick (keepsTick_of_regs rfl rfl rfl rfl))

theorem keepsTick_yDrainFuel (n : Nat) (s : State) : KeepsTick s (yDrainFuel n s) := by
  induction n generalizing s with
  | zero => exact .refl s
  | succ n ih => exact keepsTick_ite ((keepsTick_yDrainOne s).trans (ih _)) (.refl s)

theorem keepsTick_yClose (s : State) : KeepsTick s s.yClose := by
  unfold State.yClose
  extract_lets t
  have ht : KeepsTick s t := keepsTick_yDrainFuel _ s
  exact keepsTick_ite (ht.may ((keepsTick_yljHeaderWrite t true).trans (keepsTick_set _ (by decide) 0))) (.refl s)

theorem keepsTick_yDrain (s : State) : KeepsTick s s.yDrain := by
  unfold State.yDrain State.yLost
  refine (keepsTick_yDrainFuel (s.get .yljRsvBytes / 32) s).trans ?_
  generalize yDrainFuel (s.get .yljRsvBytes / 32) s = a
  extract_lets n
  exact keepsTick_ite (.trans (t := { a with yeljo := { a.yeljo with dropped := 0 } }) (keepsTick_of_regs rfl rfl rfl rfl)
    (logRec_only _ _ _ _ _ _).keepsTick) (.refl a)

theorem keepsTick_retainTurn (s : State) : KeepsTick s s.retainTurn :=
  keepsTick_ite (((keepsTick_yClose s).trans (keepsTick_set _ (by decide) 0)).trans (keepsTick_setEng _ 4)) (.refl s)

theorem keepsTick_replayLate (s : State) : KeepsTick s s.replayLate := by
  unfold State.replayLate
  split
  · extract_lets late
    refine keepsTick_ite ?_ (.refl s)
    exact .trans (t := s.drawFree.2) (keepsTick_of_regs rfl rfl rfl rfl) (logOnly_diverge _ _ _ _).keepsTick
  · exact .refl s

theorem keepsTick_replayDone (s : State) : KeepsTick s s.replayDone := keepsTick_ite (keepsTick_set s (by decide) 1) (.refl s)

theorem keepsTick_wake (s : State) : KeepsTick s s.wake := by
  unfold State.wake
  extract_lets tick t
  have ht : KeepsTick s t := by
    unfold t
    split
    · exact ⟨rfl, rfl, rfl, rfl, fun _ _ => rfl⟩
    · exact .refl s
  have hsent : KeepsTick s (if s.eng = 3 then t.send (.engState 2) else t) := ht.may (keepsTick_of_regs rfl rfl rfl rfl)
  exact hsent.trans (keepsTick_set _ (f := .fjStateRetainPend) (by decide) 0)

theorem keepsTick_idleTick (s : State) : KeepsTick s s.idleTick := by
  unfold State.idleTick
  refine keepsTick_ite ⟨rfl, rfl, rfl, rfl, fun _ _ => rfl⟩ ?_
  extract_lets tick t
  have ht : KeepsTick s t := ⟨rfl, rfl, rfl, rfl, fun _ _ => rfl⟩
  exact ht.may (keepsTick_wake t)

/-! ### The pieces up to the reservations -/

theorem get_tickNow (s : State) (n : Nat) : (s.set .tickNowNow n).now = n % 2 ^ 64 := getI_setI_same s .tickNowNow 0 n

theorem windowEnd_shows (s : State) :
    s.windowEnd.get .tickThrUsedUsed = 0 ∧
      s.windowEnd.flag .tickStatSuspended = (s.flag .tickStatSuspended && decide (s.get .tickThrAllowAllow < s.get .tickThrUsedUsed)) := by
  unfold State.windowEnd
  extract_lets s1
  refine ⟨get_set_same s1 _ (Nat.two_pow_pos _), (flag_set_other s1 _ (by decide)).trans ?_⟩
  unfold s1
  split
  · next h =>
    rw [flag_of_keepsRegs (logPower_only _ 2 0 0 0).2 (by decide), flag_down_same, h.1]
    simpa using h.2
  · next h =>
    cases hflag : s.flag .tickStatSuspended with
    | false => rfl
    | true => simpa [hflag] using h

theorem windowEnd_only (s : State) :
    s.windowEnd = { s with regs := s.windowEnd.regs, yeljo := s.windowEnd.yeljo } ∧
      KeepsRegs (.tickThrUsedUsed :: .tickStatSuspended :: logFlds) s s.windowEnd := by
  unfold State.windowEnd
  extract_lets s1
  have h1 : s1 = { s with regs := s1.regs, yeljo := s1.yeljo } ∧ KeepsRegs (.tickThrUsedUsed :: .tickStatSuspended :: logFlds) s s1 := by
    unfold s1
    split
    · have hlog := logPower_only (s.down .tickStatSuspended) 2 0 0 0
      exact ⟨by rw [hlog.1]; rfl, keepsRegs_trans (keepsRegs_set (f := .tickStatSuspended) (by decide) s 0) (keepsRegs_mono (by decide) hlog.2)⟩
    · exact ⟨rfl, fun _ _ _ => rfl⟩
  exact ⟨by rw [State.set, State.setI, h1.1], keepsRegs_trans h1.2 (keepsRegs_set (by decide) _ _)⟩

theorem windowTurn_only (s : State) :
    s.windowTurn = { s with regs := s.windowTurn.regs, yeljo := s.windowTurn.yeljo } ∧
      KeepsRegs (.tickThrUsedUsed :: .tickStatSuspended :: logFlds) s s.windowTurn := by
  unfold State.windowTurn
  split
  · exact windowEnd_only s
  · exact ⟨rfl, fun _ _ _ => rfl⟩

/-- A mode request, taken. -/
def State.modeAsked (s : State) : State := ({ s with tick := { s.tick with pending := none } }).up .fjIrqDoneMode

theorem applyMode_fits {s : State} {m : Nat} (h : s.tick.pending = some m) (hfit : modeFits s m = true) :
    s.applyMode = { s.modeAsked with tick := { s.modeAsked.tick with mode := some m } } := by
  rw [State.applyMode, h]
  exact if_pos hfit

theorem applyMode_refused {s : State} {m : Nat} (h : s.tick.pending = some m) (hfit : ¬ modeFits s m = true) :
    s.applyMode = s.modeAsked.up .tickModeRefused := by
  rw [State.applyMode, h]
  exact if_neg hfit

theorem keepsRegs_modeAsked (s : State) : KeepsRegs [.fjIrqDoneMode] s s.modeAsked :=
  keepsRegs_up { s with tick := { s.tick with pending := none } } (List.mem_singleton_self _)

theorem applyMode_shows {s : State} {m : Nat} (h : s.tick.pending = some m) :
    s.applyMode.tick.pending = none ∧ s.applyMode.flag .fjIrqDoneMode = true ∧
      (modeFits s m = true → s.applyMode.mode = m ∧ s.applyMode.get .tickModeRefused = s.get .tickModeRefused) ∧
      (modeFits s m = false → s.applyMode.mode = s.mode ∧ s.applyMode.flag .tickModeRefused = true) ∧ s.applyMode.groups = s.groups := by
  have hkeep := keepsRegs_modeAsked s
  have hdone : s.modeAsked.flag .fjIrqDoneMode = true := flag_up_same _ _ (by decide)
  by_cases hfit : modeFits s m = true
  · rw [applyMode_fits h hfit]
    exact ⟨rfl, hdone, fun _ => ⟨rfl, get_of_keepsRegs hkeep (by decide)⟩, fun hno => by simp [hfit] at hno, rfl⟩
  · rw [applyMode_refused h hfit]
    refine ⟨rfl, (flag_set_other _ 1 (by decide)).trans hdone, fun hyes => absurd hyes hfit, fun _ => ⟨?_, flag_up_same _ _ (by decide)⟩, rfl⟩
    have harm : (s.modeAsked.up .tickModeRefused).get .tickModeArmatureMode = s.get .tickModeArmatureMode :=
      (get_up_other _ (by decide)).trans (get_of_keepsRegs hkeep (by decide))
    rw [State.mode, harm]
    rfl

/-- What a mode request leaves alone. -/
theorem applyMode_keeps (s : State) :
    s.applyMode.tick.ofs = s.tick.ofs ∧ s.applyMode.tick.edge = s.tick.edge ∧ s.applyMode.tick.pending = none ∧
      (s.tick.pending ≠ none → s.applyMode.flag .fjIrqDoneMode = true) ∧ KeepsRegs [.fjIrqDoneMode, .tickModeRefused] s s.applyMode := by
  cases h : s.tick.pending with
  | none =>
    have hsame : s.applyMode = s := by rw [State.applyMode, h]
    rw [hsame]
    exact ⟨rfl, rfl, h, fun hno => absurd rfl hno, fun _ _ _ => rfl⟩
  | some m =>
    obtain ⟨hpending, hdone, -⟩ := applyMode_shows h
    have hkeep : KeepsRegs [.fjIrqDoneMode, .tickModeRefused] s s.modeAsked := keepsRegs_mono (by decide) (keepsRegs_modeAsked s)
    by_cases hfit : modeFits s m = true
    · rw [applyMode_fits h hfit] at hpending hdone ⊢
      exact ⟨rfl, rfl, hpending, fun _ => hdone, hkeep⟩
    · rw [applyMode_refused h hfit] at hpending hdone ⊢
      exact ⟨rfl, rfl, hpending, fun _ => hdone, keepsRegs_trans hkeep (keepsRegs_up _ (by decide))⟩

theorem missEdge_shows (s : State) :
    s.missEdge.get .tickStatMissed = satAdd 16 (s.get .tickStatMissed) 1 ∧ s.missEdge.flag .tickStatTickFault = true ∧
      s.missEdge.tick = { s.tick with missedRow := s.tick.missedRow + 1 } ∧
      (16 ≤ s.tick.missedRow + 1 → s.missEdge.flag .tickStatFreeRun = true) ∧
      (s.tick.missedRow + 1 < 16 → s.missEdge.flag .tickStatFreeRun = s.flag .tickStatFreeRun) ∧
      KeepsAll { s with tick := s.missEdge.tick } s.missEdge ∧ KeepsRegs [.tickStatMissed, .tickStatTickFault, .tickStatFreeRun] s s.missEdge := by
  unfold State.missEdge
  extract_lets n tick s1 s2
  have hmissed : s2.get .tickStatMissed = satAdd 16 (s.get .tickStatMissed) 1 := (get_up_other _ (by decide)).trans (get_bump_same s1 .tickStatMissed 1)
  have hfault : s2.flag .tickStatTickFault = true := flag_up_same _ _ (by decide)
  have hregs : KeepsRegs [.tickStatMissed, .tickStatTickFault, .tickStatFreeRun] s s2 :=
    keepsRegs_trans (keepsRegs_setI (f := .tickStatMissed) (by decide) s1 0 _) (keepsRegs_up _ (by decide))
  split
  · next h16 =>
    exact ⟨(get_up_other s2 (by decide)).trans hmissed, (flag_set_other s2 1 (by decide)).trans hfault, rfl, fun _ => flag_up_same s2 _ (by decide),
      fun hlt => absurd h16 (Nat.not_le.mpr hlt), rfl, keepsRegs_trans hregs (keepsRegs_up s2 (by decide))⟩
  · next h16 =>
    exact ⟨hmissed, hfault, rfl, fun h => absurd h h16,
      fun _ => flag_of_keepsRegs (keepsRegs_trans (keepsRegs_setI (f := .tickStatMissed) (fs := [.tickStatMissed, .tickStatTickFault]) (by decide) s1 0 _)
        (keepsRegs_up (f := .tickStatTickFault) _ (by decide))) (by decide), rfl, hregs⟩

theorem logTick_only (s : State) (shift : Int) (missed : Bool) : LogOnly s (s.logTick shift missed) := logRec_only _ _ _ _ _ _

theorem edgeMissed_shows (s : State) :
    s.edgeMissed.get .tickStatMissed = satAdd 16 (s.get .tickStatMissed) 1 ∧ s.edgeMissed.flag .tickStatTickFault = true ∧
      s.edgeMissed.tick = { s.tick with missedRow := s.tick.missedRow + 1 } ∧
      s.edgeMissed = { s with regs := s.edgeMissed.regs, yeljo := s.edgeMissed.yeljo, tick := s.edgeMissed.tick, out := s.edgeMissed.out } ∧
      KeepsRegs ([.tickStatMissed, .tickStatTickFault, .tickStatFreeRun] ++ logFlds) s s.edgeMissed := by
  obtain ⟨hmissed, hfault, htick, -, -, hall, hregs⟩ := missEdge_shows s
  have hlog := logTick_only s.missEdge 0 true
  unfold State.edgeMissed
  generalize s.missEdge.logTick 0 true = b at hlog
  generalize s.missEdge = a at *
  refine ⟨(get_of_keepsRegs hlog.2 (by decide)).trans hmissed, (flag_of_keepsRegs hlog.2 (by decide)).trans hfault, by rw [hlog.1, htick], ?_,
    keepsRegs_trans (keepsRegs_mono (by decide) hregs) (keepsRegs_mono (by decide) hlog.2)⟩
  rw [hlog.1, hall]

/-- What an edge, or its lack, leaves alone (02 R51). -/
theorem edgeTaken_keeps (s : State) (e : EdgeSt) :
    (s.edgeTaken e).tick.ofs = s.tick.ofs ∧ (s.edgeTaken e).tick.edge = s.tick.edge ∧ (s.edgeTaken e).tick.pending = s.tick.pending ∧
      KeepsRegs ([.tickStatMissed, .tickStatTickFault, .tickStatFreeRun] ++ logFlds) s (s.edgeTaken e) := by
  have hlog (a : State) (shift : Int) (missed : Bool) : (a.logTick shift missed).tick = a.tick ∧ KeepsRegs logFlds a (a.logTick shift missed) :=
    ⟨by rw [(logTick_only a shift missed).1], (logTick_only a shift missed).2⟩
  cases e with
  | inWindow d =>
    have hdown : KeepsRegs ([.tickStatMissed, .tickStatTickFault, .tickStatFreeRun] ++ logFlds) s
        (({ s with tick := { s.tick with missedRow := 0 } } : State).down .tickStatFreeRun) := keepsRegs_set (by decide) { s with tick := _ } 0
    unfold State.edgeTaken
    dsimp only
    split
    · exact ⟨rfl, rfl, rfl, hdown⟩
    · rw [(hlog _ d false).1]
      exact ⟨rfl, rfl, rfl, keepsRegs_trans hdown (keepsRegs_mono (by decide) (hlog _ d false).2)⟩
  | outside =>
    have h := hlog s 0 true
    exact ⟨congrArg Tick.ofs h.1, congrArg Tick.edge h.1, congrArg Tick.pending h.1, keepsRegs_mono (by decide) h.2⟩
  | none =>
    unfold State.edgeTaken
    dsimp only
    split
    · exact ⟨rfl, rfl, rfl, fun _ _ _ => rfl⟩
    · obtain ⟨-, -, htick, -, hregs⟩ := edgeMissed_shows s
      rw [htick]
      exact ⟨rfl, rfl, rfl, hregs⟩

end Sys2Proof.Machine
end

section
/-! A boundary takes the tick (02 R53). -/
namespace Sys2Proof.Machine

open Safety

/-- Up to the mode request. -/
def State.tickTaken (s : State) : State :=
  let s1 := ((s.countWaits.accrue (tickLength s)).heldTick)
  let s2 : State := { s1 with tick := { s1.tick with ofs := 0, lostTo := 0, edge := .none } }
  ((s2.set .tickNowNow (s2.now + 1)).edgeTaken s.tick.edge).applyMode

/-- From the reservations that are given up to the end of the boundary. -/
def State.tickSettled (s : State) : State :=
  (((((((((s.releaseDone.issueBudget.vlTurn).settleTables).settleErases).copyStart).unpark).ringTicks).activeTurn).retainTurn).yDrain).replayLate.replayDone

theorem boundary_eq (s : State) :
    s.boundary = if s.tickTaken.windowTurn.idleTick.tickSettled.awake then s.tickTaken.windowTurn.idleTick.tickSettled.goOn
      else s.tickTaken.windowTurn.idleTick.tickSettled := rfl

/-- The groups that are left, and what the boundary has settled, stay to its end. -/
theorem tickSettled_keeps (s : State) : KeepsTick s.releaseDone.issueBudget s.tickSettled :=
  ((((((((((keepsTick_vlTurn _).trans (keepsTick_settleTables _)).trans (keepsTick_settleErases _)).trans (keepsTick_copyStart _)).trans
    (keepsTick_unpark _)).trans (keepsTick_ringTicks _)).trans (keepsTick_activeTurn _)).trans (keepsTick_retainTurn _)).trans
    (keepsTick_yDrain _)).trans (keepsTick_replayLate _)).trans (keepsTick_replayDone _)

theorem issueBudget_groups (s : State) : ∀ g ∈ s.releaseDone.issueBudget.groups, g.stage ≠ .done := by
  intro g hg
  obtain ⟨g0, hmem, rfl⟩ := List.mem_map.mp hg
  have hstage : (g0.stage != .done) = true := (List.mem_filter.mp hmem).2
  simpa using hstage

theorem keepsRegs_bumpI {fs : List Fld} {f : Fld} (hf : f ∈ fs) (s : State) (i n : Nat) : KeepsRegs fs s (s.bumpI f i n) := keepsRegs_setI hf s i _

theorem keepsRegs_foldl {α : Type} {fs : List Fld} (l : List α) (g : State → α → State) (h : ∀ s a, KeepsRegs fs s (g s a)) (s : State) :
    KeepsRegs fs s (l.foldl g s) := by
  induction l generalizing s with
  | nil => exact keepsRegs_refl _ _
  | cons a l ih => exact keepsRegs_trans (h s a) (ih _)

theorem foldl_keeps {α β : Type} (p : State → β) (l : List α) (g : State → α → State) (h : ∀ s a, p (g s a) = p s) (s : State) :
    p (l.foldl g s) = p s := by
  induction l generalizing s with
  | nil => rfl
  | cons a l ih => exact (ih _).trans (h s a)

theorem countWaits_keeps (s : State) :
    s.countWaits.tick = s.tick ∧ KeepsRegs [.sealReserveWaitsCount, .cdrSlotWaitsCount] s s.countWaits := by
  unfold State.countWaits
  extract_lets s1
  have h1 : s1.tick = s.tick ∧ KeepsRegs [.sealReserveWaitsCount, .cdrSlotWaitsCount] s s1 := by
    unfold s1
    split
    · exact ⟨rfl, keepsRegs_bumpI (by decide) _ _ _⟩
    · exact ⟨rfl, fun _ _ _ => rfl⟩
  split
  · exact ⟨h1.1, keepsRegs_trans h1.2 (keepsRegs_bumpI (by decide) _ _ _)⟩
  · exact h1

theorem accrue_pending (s : State) (ofs : Nat) : (s.accrue ofs).tick.pending = s.tick.pending := by
  unfold State.accrue
  extract_lets t k t1
  split
  · rfl
  · rw [addLost_tick]
    rfl

theorem heldTick_keeps (s : State) : s.heldTick.tick = s.tick ∧ KeepsRegs [.tickAcctHeldTicks] s s.heldTick :=
  ⟨foldl_keeps State.tick _ (fun a c => a.bumpI .tickAcctHeldTicks c 1) (fun _ _ => rfl) s, keepsRegs_foldl _ _ (fun _ _ => keepsRegs_bumpI (by decide) _ _ _) s⟩

/-- The tick has gone on, and the mode request is taken. -/
theorem tickTaken_shows (s : State) :
    s.tickTaken.tick.ofs = 0 ∧ s.tickTaken.tick.edge = .none ∧ s.tickTaken.tick.pending = none ∧
      (s.tick.pending ≠ none → s.tickTaken.flag .fjIrqDoneMode = true) ∧ s.tickTaken.now = (s.now + 1) % 2 ^ 64 ∧
      s.tickTaken.get .tickThrWinWin = s.get .tickThrWinWin := by
  obtain ⟨hwait, hwaitRegs⟩ := countWaits_keeps s
  have hcount := (accrue_only s.countWaits (tickLength s)).2
  have hpend := accrue_pending s.countWaits (tickLength s)
  unfold State.tickTaken
  generalize s.countWaits = a0 at hwait hwaitRegs hcount hpend
  generalize a0.accrue (tickLength s) = a at hcount hpend
  obtain ⟨hheld, hheldRegs⟩ := heldTick_keeps a
  generalize a.heldTick = b at hheld hheldRegs
  extract_lets s1 tick s2
  have h2 (f : Fld) (hf : f ∈ [Fld.tickNowNow, .tickThrWinWin]) : s2.get f = s.get f := by
    have hregs : KeepsRegs (.sealReserveWaitsCount :: .cdrSlotWaitsCount :: .tickThrUsedUsed :: .tickAcctHeldTicks :: faultFlds) s s2 :=
      keepsRegs_trans (keepsRegs_trans (keepsRegs_trans (keepsRegs_mono (by decide) hwaitRegs) (keepsRegs_mono (by decide) hcount))
        (keepsRegs_mono (by decide) hheldRegs)) (fun _ _ _ => rfl)
    refine get_of_keepsRegs hregs ?_
    revert f
    decide
  have hpend2 : s2.tick.pending = s.tick.pending := by
    have hb : s2.tick.pending = b.tick.pending := rfl
    rw [hb, hheld, hpend, hwait]
  have hnow : (s2.set .tickNowNow (s2.now + 1)).now = (s.now + 1) % 2 ^ 64 := by
    rw [get_tickNow, State.now, h2 _ (by decide), State.now]
  have hwin : (s2.set .tickNowNow (s2.now + 1)).get .tickThrWinWin = s.get .tickThrWinWin :=
    (get_set_other s2 _ (by decide)).trans (h2 _ (by decide))
  obtain ⟨heofs, heedge, hepend, heregs⟩ := edgeTaken_keeps (s2.set .tickNowNow (s2.now + 1)) s.tick.edge
  obtain ⟨hmofs, hmedge, hmpend, hmdone, hmregs⟩ := applyMode_keeps ((s2.set .tickNowNow (s2.now + 1)).edgeTaken s.tick.edge)
  refine ⟨hmofs.trans heofs, hmedge.trans heedge, hmpend, fun hp => hmdone (by rw [hepend]; exact fun h => hp (hpend2.symm.trans h)), ?_, ?_⟩
  · exact (get_of_keepsRegs hmregs (by decide)).trans ((get_of_keepsRegs heregs (by decide)).trans hnow)
  · exact (get_of_keepsRegs hmregs (by decide)).trans ((get_of_keepsRegs heregs (by decide)).trans hwin)

end Sys2Proof.Machine

namespace Sys2Proof.Proofs

open Sys2Proof.Machine Sys2Proof.Safety

/-- Settles O18: after the reservations that are given up no piece of the boundary touches what it has settled. -/
theorem boundaryTakesTheTick : Obligations.BoundaryTakesTheTick := by
  intro s hdue
  obtain ⟨hofs, hedge, hpend, hdone, hnow, hwin⟩ := tickTaken_shows s
  obtain ⟨honly, hwregs⟩ := windowTurn_only s.tickTaken
  have hidle := keepsTick_idleTick s.tickTaken.windowTurn
  have hend := tickSettled_keeps s.tickTaken.windowTurn.idleTick
  have hgroups := issueBudget_groups s.tickTaken.windowTurn.idleTick
  have hrun := boundary_eq s
  have hwindow : (s.now + 1) % 2 ^ 64 % max 1 (s.get .tickThrWinWin) = 0 → s.tickTaken.windowTurn.get .tickThrUsedUsed = 0 := fun h => by
    rw [State.windowTurn, if_pos (by rw [hnow, hwin]; exact h)]
    exact (windowEnd_shows _).1
  have hbudget (a : State) : a.releaseDone.issueBudget.tick.ofs = a.tick.ofs ∧ a.releaseDone.issueBudget.tick.edge = a.tick.edge ∧
      a.releaseDone.issueBudget.tick.pending = a.tick.pending ∧ ∀ f, a.releaseDone.issueBudget.get f = a.get f := ⟨rfl, rfl, rfl, fun _ => rfl⟩
  obtain ⟨hbofs, hbedge, hbpend, hbget⟩ := hbudget s.tickTaken.windowTurn.idleTick
  generalize s.tickTaken.windowTurn.idleTick.tickSettled = u at hend hrun
  generalize s.tickTaken.windowTurn.idleTick.releaseDone.issueBudget = v at hend hgroups hbofs hbedge hbpend hbget
  generalize s.tickTaken.windowTurn.idleTick = w at hidle hbofs hbedge hbpend hbget
  have hget (f : Fld) (hf : f ∈ [Fld.tickNowNow, .tickThrUsedUsed, .fjIrqDoneMode]) : u.get f = s.tickTaken.windowTurn.get f :=
    (hend.regs f hf).trans ((hbget f).trans (hidle.regs f hf))
  refine ⟨u, ?_, ?_, ?_, ?_, ?_, fun hp => ?_, fun h => (hget _ (by decide)).trans (hwindow h), ?_, fun h => ?_⟩
  · exact (hget _ (by decide)).trans ((get_of_keepsRegs hwregs (by decide)).trans hnow)
  · rw [hend.ofs, hbofs, hidle.ofs, honly, hofs]
  · rw [hend.edge, hbedge, hidle.edge, honly, hedge]
  · rw [hend.pending, hbpend, hidle.pending, honly, hpend]
  · rw [hend.groups]
    exact hgroups
  · rw [State.flag, hget _ (by decide), get_of_keepsRegs hwregs (by decide)]
    exact hdone hp
  · rw [← hrun]
    exact if_pos hdue
  · rw [← hrun]
    exact if_pos ⟨hdue, h⟩

end Sys2Proof.Proofs
end

section
/-! Edges of TICK_IN (02 R51, 15 R420, 18 R495), IDLE and RETAIN (16 R451 to R453). -/
namespace Sys2Proof.Machine

open Safety

theorem edgeTaken_missing (s : State) :
    (s.replaying = true → s.edgeTaken .none = s) ∧ (s.replaying = false → s.edgeTaken .none = s.edgeMissed) :=
  ⟨fun h => if_pos h, fun h => if_neg (by simp [h])⟩

theorem edgeTaken_inWindow (s : State) (d : Int) :
    (s.edgeTaken (.inWindow d)).tick.missedRow = 0 ∧ (s.edgeTaken (.inWindow d)).flag .tickStatFreeRun = false := by
  unfold State.edgeTaken
  dsimp only
  split
  · exact ⟨rfl, flag_down_same _ _⟩
  · have hlog := logTick_only (({ s with tick := { s.tick with missedRow := 0 } } : State).down .tickStatFreeRun) d false
    refine ⟨by rw [hlog.1]; rfl, (flag_of_keepsRegs hlog.2 (by decide)).trans (flag_down_same _ _)⟩

/-- An edge in the window. -/
def State.edgeSeen (s : State) (d : Int) : State := { s with tick := { s.tick with edge := .inWindow d } }

/-- An edge outside the window. -/
def State.edgeOutside (s : State) : State :=
  if s.tick.edge = .none then { s.missEdge with tick := { s.missEdge.tick with edge := .outside } } else s.missEdge

theorem edgeOutside_shows (s : State) :
    s.edgeOutside.get .tickStatMissed = satAdd 16 (s.get .tickStatMissed) 1 ∧ s.edgeOutside.flag .tickStatTickFault = true ∧
      s.edgeOutside.tick = { s.tick with missedRow := s.tick.missedRow + 1, edge := if s.tick.edge = .none then .outside else s.tick.edge } ∧
      KeepsAll { s with tick := s.edgeOutside.tick } s.edgeOutside ∧
      KeepsRegs [.tickStatMissed, .tickStatTickFault, .tickStatFreeRun] s s.edgeOutside := by
  obtain ⟨hmissed, hfault, htick, -, -, hall, hregs⟩ := missEdge_shows s
  unfold State.edgeOutside
  generalize s.missEdge = a at *
  split
  · refine ⟨hmissed, hfault, by rw [htick], ?_, hregs⟩
    rw [KeepsAll, hall]
  · exact ⟨hmissed, hfault, htick, hall, hregs⟩

/-- What goes on from a state that differs in its tick alone. -/
theorem keepsAll_tick {s u : State} (h : KeepsAll { s with tick := u.tick } u) :
    KeepsAll { s with tick := (finishState s u).tick } (finishState s u) := by
  rw [finishState_tick]
  exact keepsAll_finish_from rfl rfl h

theorem retainTick_shows (s : State) :
    (s.set .tickNowNow (s.now + 1)).windowTurn.now = (s.now + 1) % 2 ^ 64 ∧
      ((s.now + 1) % 2 ^ 64 % max 1 (s.get .tickThrWinWin) = 0 → (s.set .tickNowNow (s.now + 1)).windowTurn.get .tickThrUsedUsed = 0) ∧
      ((s.now + 1) % 2 ^ 64 % max 1 (s.get .tickThrWinWin) ≠ 0 →
        (s.set .tickNowNow (s.now + 1)).windowTurn = s.set .tickNowNow (s.now + 1)) := by
  have hnow := get_tickNow s (s.now + 1)
  have hwin : (s.set .tickNowNow (s.now + 1)).get .tickThrWinWin = s.get .tickThrWinWin := get_set_other s _ (by decide)
  refine ⟨(get_of_keepsRegs (windowTurn_only _).2 (by decide)).trans hnow, fun h => ?_, fun h => ?_⟩
  · rw [State.windowTurn, if_pos (by rw [hnow, hwin]; exact h)]
    exact (windowEnd_shows _).1
  · rw [State.windowTurn, if_neg (by rw [hnow, hwin]; exact h)]

end Sys2Proof.Machine

namespace Sys2Proof.Proofs

open Sys2Proof.Machine Sys2Proof.Safety

/-- Settles O19: each piece by the lemma about it; the edges of TICK_IN by where they come. -/
theorem boundaryPieces : Obligations.BoundaryPieces := by
  unfold Obligations.BoundaryPieces
  refine ⟨⟨fun s m h => applyMode_shows h, fun s => windowEnd_shows s, fun s => ?_, fun s d => edgeTaken_inWindow s d⟩,
    fun s d => ⟨fun hreplay => ?_, fun hlive heng => ?_, fun hlive heng hstage hrun hup => ⟨fun hin => ?_, fun hout => ?_⟩⟩⟩
  · obtain ⟨hmissed, hfault, htick, hrow, hless, -, -⟩ := missEdge_shows s
    obtain ⟨hreplay, hlive⟩ := edgeTaken_missing s
    obtain ⟨hemissed, hefault, hetick, -, -⟩ := edgeMissed_shows s
    refine ⟨hmissed, hfault, by rw [htick], hrow, hless, hreplay, fun h => ?_⟩
    rw [hlive h, hetick]
    exact ⟨hemissed, rfl, hefault⟩
  · refine ⟨finishState s s, if_pos hreplay, keepsRegs_finishState (by decide) rfl (keepsRegs_refl _ _), keepsAll_finishState rfl⟩
  · have hexec : exec (.tickInEdge d) s = finish s (s.set .tickNowNow (s.now + 1)).windowTurn :=
      (if_neg (by simp [hlive])).trans (if_pos heng)
    obtain ⟨hnow, hzero, hsame⟩ := retainTick_shows s
    have honly := (windowTurn_only (s.set .tickNowNow (s.now + 1))).1
    generalize (s.set .tickNowNow (s.now + 1)).windowTurn = u at hexec hnow hzero hsame honly
    have hbuild : u.build = s.build := by rw [honly]; rfl
    refine ⟨finishState s u, hexec, (get_finishState hbuild (by decide)).trans hnow, ?_, ?_, ?_,
      fun h => (get_finishState hbuild (by decide)).trans (hzero h), fun h => ?_⟩
    · rw [finishState_entries, honly]
      rfl
    · rw [finishState_jobs, honly]
      rfl
    · rw [finishState_eng, honly]
      rfl
    · rw [hsame h]
      exact ⟨keepsRegs_finishState (by decide) rfl (keepsRegs_set (by decide) s _), keepsAll_finishState rfl⟩
  · have hexec : exec (.tickInEdge d) s = finish s (s.edgeSeen d) :=
      (if_neg (by simp [hlive])).trans ((if_neg heng).trans ((if_neg hstage).trans ((if_pos ⟨hrun, by simp [hup]⟩).trans (if_pos hin))))
    refine ⟨finishState s (s.edgeSeen d), hexec, finishState_tick _ _, ?_, keepsAll_tick rfl⟩
    exact keepsRegs_finishState (by decide) rfl (keepsRegs_of_regs rfl rfl)
  · have hexec : exec (.tickInEdge d) s = finish s s.edgeOutside :=
      (if_neg (by simp [hlive])).trans ((if_neg heng).trans ((if_neg hstage).trans ((if_pos ⟨hrun, by simp [hup]⟩).trans (if_neg hout))))
    obtain ⟨hmissed, hfault, htick, hall, hregs⟩ := edgeOutside_shows s
    have hbuild : s.edgeOutside.build = s.build := by rw [hall]
    refine ⟨finishState s s.edgeOutside, hexec, (get_finishState hbuild (by decide)).trans hmissed, (flag_finishState hbuild (by decide)).trans hfault,
      (finishState_tick _ _).trans htick, keepsAll_tick hall, keepsRegs_finishState (by decide) hbuild (keepsRegs_mono (by decide) hregs)⟩

end Sys2Proof.Proofs
end

section
/-! IDLE and RETAIN (16 R451 to R453). -/
namespace Sys2Proof.Machine

open Safety

/-- Only the registers, the log, the tick and what is sent change. -/
def TickOnly (s t : State) : Prop := t = { s with regs := t.regs, yeljo := t.yeljo, tick := t.tick, out := t.out }

theorem TickOnly.trans {s t u : State} (h : TickOnly s t) (k : TickOnly t u) : TickOnly s u := by rw [TickOnly, k, h]

/-- A period of RETAIN that is made good when it ends. -/
def State.missOne (s : State) : State := ((s.set .tickNowNow (s.now + 1)).edgeMissed).windowTurn

theorem missOne_shows (s : State) :
    TickOnly s s.missOne ∧ s.missOne.now = (s.now + 1) % 2 ^ 64 ∧ s.missOne.tick.missedRow = s.tick.missedRow + 1 ∧
      s.missOne.flag .tickStatTickFault = true := by
  obtain ⟨-, hfault, htick, honly, hregs⟩ := edgeMissed_shows (s.set .tickNowNow (s.now + 1))
  have hnow : (s.set .tickNowNow (s.now + 1)).edgeMissed.now = (s.now + 1) % 2 ^ 64 := (get_of_keepsRegs hregs (by decide)).trans (get_tickNow s _)
  unfold State.missOne
  generalize (s.set .tickNowNow (s.now + 1)).edgeMissed = a at hfault htick honly hnow
  obtain ⟨hwindow, hwregs⟩ := windowTurn_only a
  have ha : TickOnly s a := TickOnly.trans (t := s.set .tickNowNow (s.now + 1)) rfl (by rw [TickOnly, honly])
  refine ⟨ha.trans (by rw [TickOnly, hwindow]), (get_of_keepsRegs hwregs (by decide)).trans hnow, ?_, (flag_of_keepsRegs hwregs (by decide)).trans hfault⟩
  rw [hwindow]
  exact congrArg Tick.missedRow htick

theorem missFuel_shows (n : Nat) (s : State) :
    TickOnly s (missFuel n s) ∧ (missFuel n s).now = (s.now + n) % 2 ^ 64 ∧ (missFuel n s).tick.missedRow = s.tick.missedRow + n ∧
      ((missFuel n s).flag .tickStatTickFault = true ∨ n = 0 ∧ (missFuel n s).flag .tickStatTickFault = s.flag .tickStatTickFault) := by
  induction n generalizing s with
  | zero => exact ⟨rfl, (Nat.mod_eq_of_lt (getI_lt s .tickNowNow 0 (Nat.two_pow_pos 64))).symm, rfl, .inr ⟨rfl, rfl⟩⟩
  | succ n ih =>
    obtain ⟨honly, hnow, hrow, hfault⟩ := missOne_shows s
    obtain ⟨ihonly, ihnow, ihrow, ihfault⟩ := ih s.missOne
    refine ⟨honly.trans ihonly, ?_, ?_, .inl ?_⟩
    · refine ihnow.trans ?_
      rw [hnow, Nat.mod_add_mod]
      congr 1
      omega
    · refine ihrow.trans ?_
      rw [hrow]
      omega
    · rcases ihfault with h | ⟨-, h⟩
      · exact h
      · exact h.trans hfault

/-! ### Wakes -/

theorem setEng_eq (s : State) (code : Nat) : s.setEng code = { s with eng := code, out := (s.setEng code).out } := by
  unfold State.setEng
  extract_lets t
  split
  · next h =>
    subst h
    rfl
  · rfl

/-- What a reset of every entry of the transport can change. -/
def QpsOnly (s t : State) : Prop :=
  t = { s with regs := t.regs, xfers := t.xfers, pendOps := t.pendOps, qps := t.qps, tgts := t.tgts } ∧
    KeepsRegs [.xptQpStateState, .xptTgtStateState] s t

theorem QpsOnly.refl (s : State) : QpsOnly s s := ⟨rfl, keepsRegs_refl _ _⟩

theorem QpsOnly.trans {s t u : State} (h : QpsOnly s t) (k : QpsOnly t u) : QpsOnly s u := ⟨by rw [k.1, h.1], keepsRegs_trans h.2 k.2⟩

theorem qpsOnly_foldl {α : Type} (l : List α) (g : State → α → State) (h : ∀ s a, QpsOnly s (g s a)) (s : State) : QpsOnly s (l.foldl g s) := by
  induction l generalizing s with
  | nil => exact .refl s
  | cons a l ih => exact (h s a).trans (ih _)

theorem resetAllQps_only (s : State) : QpsOnly s s.resetAllQps := by
  unfold State.resetAllQps
  extract_lets s1
  have hqp (a : State) (q : Nat) : QpsOnly a (a.qpToReset q) :=
    ⟨rfl, keepsRegs_setI (f := .xptQpStateState) (by decide) ((a.dropOps q).putQp (Qp.fresh q)) q qpReset⟩
  have htgt (a : State) (t : Nat) : QpsOnly a (if tgtUsed a t then (a.setI .xptTgtStateState t 1).putTgt (Tgt.fresh t) else a) := by
    split
    · exact ⟨rfl, keepsRegs_setI (f := .xptTgtStateState) (by decide) a t 1⟩
    · exact .refl a
  exact (qpsOnly_foldl _ _ hqp s).trans (qpsOnly_foldl _ _ htgt _)

theorem wakeRetain_shows {s : State} (heng : s.eng = 4) (hwait : s.waking = false) :
    s.wakeRetain.waking = true ∧ s.wakeRetain.eng = 3 ∧ Out.engState 3 ∈ s.wakeRetain.out ∧ s.wakeRetain.now = s.now ∧
      s.wakeRetain.keys = s.keys ∧ s.wakeRetain.build = s.build := by
  have hwake : s.wakeRetain = (({ s with waking := true } : State).resetAllQps).setEng 3 := if_pos ⟨heng, by simp [hwait]⟩
  obtain ⟨honly, hregs⟩ := resetAllQps_only { s with waking := true }
  rw [hwake]
  generalize ({ s with waking := true } : State).resetAllQps = a at honly hregs
  have ha : a.eng = 4 := by rw [honly]; exact heng
  have hset : a.setEng 3 = ({ a with eng := 3 } : State).send (.engState 3) := if_neg (by rw [ha]; decide)
  rw [hset]
  refine ⟨?_, rfl, by simp, get_of_keepsRegs hregs (by decide), ?_, ?_⟩
  · show a.waking = true
    rw [honly]
  · show a.keys = s.keys
    rw [honly]
  · show a.build = s.build
    rw [honly]

end Sys2Proof.Machine

namespace Sys2Proof.Proofs

open Sys2Proof.Machine Sys2Proof.Safety

/-- Settles O20: IDLE and RETAIN by what `setEng`, `wakeRetain` and the periods that passed leave. -/
theorem powerStates : Obligations.PowerStates := by
  unfold Obligations.PowerStates
  refine ⟨fun s fn off size wr => ⟨fun heng hup hwork hticks hidle => ?_, fun heng hwait htick hdue => ?_, fun heng => ?_⟩, fun s ticks data hwaking => ?_⟩
  · have hset : s.setEng 3 = ({ s with eng := 3 } : State).send (.engState 3) := if_neg (by rw [heng]; decide)
    have hexec : exec .idleEntry s = finish s (({ s with eng := 3 } : State).send (.engState 3)) := by
      rw [← hset]
      exact if_pos ⟨heng, by rw [hup]; rfl, hwork, hticks, hidle⟩
    have hall : KeepsAll { s with eng := 3 } (({ s with eng := 3 } : State).send (.engState 3)) := rfl
    refine ⟨finishState s _, hexec, finishState_eng _ _, mem_out_finishState (by simp),
      keepsRegs_finish_from (b := { s with eng := 3 }) (by decide) rfl rfl hall (fun _ _ _ => rfl), keepsAll_finish_from rfl rfl hall⟩
  · obtain ⟨hwake, hidle, hsent, hnow, hkeys, hbuild⟩ := wakeRetain_shows heng hwait
    generalize hu : s.wakeRetain = u at hwake hidle hsent hnow hkeys hbuild
    refine ⟨finishState s u, hu ▸ if_pos ⟨heng, htick, hdue⟩, ?_, ?_, mem_out_finishState hsent, (get_finishState hbuild (by decide)).trans hnow, ?_⟩
    · rw [finishState_waking, hwake]
    · rw [finishState_eng, hidle]
    · rw [finishState_keys, hkeys]
  · refine ⟨finishState s { s.wakeRetain with hcqWait := s.hcqWait ++ [(fn, off, size, wr)] }, if_pos (.inl heng), finishState_hcqWait _ _, fun hwait => ?_⟩
    obtain ⟨hwake, hidle, hsent, -⟩ := wakeRetain_shows heng hwait
    exact ⟨(finishState_waking _ _).trans hwake, (finishState_eng _ _).trans hidle, mem_out_finishState hsent⟩
  · let s1 : State := { s with
      waking := false, hcqWait := [], tick := { s.tick with idle := 0, ofs := 0, lostTo := 0, edge := .none, short := 0, spent := [] } }
    obtain ⟨honly, hnow, hrow, hfault⟩ := missFuel_shows ticks s1
    have hexec : exec (.wakeComplete ticks data) s =
        .next (finishState s ((s.hcqWait.foldl (fun a r => a.serveWaiting r data) ((missFuel ticks s1).setEng 2)).goOn)) :=
      if_neg (by simp [hwaking])
    generalize missFuel ticks s1 = a at honly hnow hrow hfault hexec
    have hset := setEng_eq a 2
    generalize a.setEng 2 = u at hset hexec
    have hget (f : Fld) : u.get f = a.get f := keepsRegs_of_regs (fs := []) (by rw [hset]) (by rw [hset]) f 0 List.not_mem_nil
    refine ⟨u, hexec, ?_, ?_, ?_, (hget _).trans hnow, ?_, ?_, ?_, ?_⟩
    · rw [hset]
    · rw [hset, honly]
    · rw [hset, honly]
    · rw [hset]
      exact hrow
    · rw [State.flag, hget]
      exact hfault
    · rw [hset, honly]
    · rw [hset, honly]

end Sys2Proof.Proofs
end

section
/-! A reset of the function leaves a guard armed that no snapshot has armed. -/
namespace Sys2Proof.Machine

/-- ACTIVE, the guard armed, no snapshot under way. -/
def armedAlone : State := { lockedIdle with guard := { lockedIdle.guard with armed := true } }

theorem functionReset_keeps_armed : leaves (fun t => t.guard.armed) (exec (.functionReset 0) armedAlone) = true := by decide +kernel

end Sys2Proof.Machine

namespace Sys2Proof.Proofs

open Sys2Proof.Machine Sys2Proof.Safety

/-- Refutes O6: the reset disarms the guard with the snapshot that it ends (`State.abandonSnap`); in `armedAlone` none is under way, and the
guard stays armed. -/
theorem not_workResets : ¬ Obligations.WorkResets := by
  unfold Obligations.WorkResets
  rintro ⟨hfunction, -⟩
  obtain ⟨t, ht, -, -, -, -, -, -, -, -, -, -, -, -, -, -, -, -, -, harmed, -⟩ := hfunction armedAlone 0 (.inl rfl) rfl (by decide +kernel)
  have hkept := of_leaves functionReset_keeps_armed ht
  rw [harmed] at hkept
  cases hkept

end Sys2Proof.Proofs
end

section
/-! A reset of a tenant (16 R448, R455). -/
namespace Sys2Proof.Machine

open Safety

/-- What the end of a context's jobs and waits can change. -/
def StopOnly (s t : State) : Prop :=
  t = { s with
    jobs := t.jobs, halfA := t.halfA, halfB := t.halfB, pendWr := t.pendWr, pendOps := t.pendOps, pendHost := t.pendHost, pipes := t.pipes,
    printing := t.printing, xfers := t.xfers, waiters := t.waiters, words := t.words }

theorem StopOnly.trans {s t u : State} (h : StopOnly s t) (k : StopOnly t u) : StopOnly s u := by rw [StopOnly, k, h]

theorem stopOnly_foldl {α : Type} (l : List α) (g : State → α → State) (h : ∀ s a, StopOnly s (g s a)) (s : State) : StopOnly s (l.foldl g s) := by
  induction l generalizing s with
  | nil => rfl
  | cons a l ih => exact (h s a).trans (ih _)

theorem stopOnly_withdraw (s : State) (w : Waiter) : StopOnly s (s.withdraw w) := by
  unfold State.withdraw
  extract_lets b s1
  have h1 : StopOnly s s1 := by
    unfold s1
    split <;> rfl
  exact h1.trans rfl

/-- The jobs and the waits of a context, ended. -/
def State.stopJobs (s : State) (n : Nat) : State :=
  let s1 := (s.jobs.filter (fun j => j.ctx == n)).foldl (fun a j => a.dropJob j.uid) s
  (s1.waiters.filter (fun w => w.ctx == n)).foldl (fun a w => a.withdraw w) s1

theorem stopOnly_stopJobs (s : State) (n : Nat) : StopOnly s (s.stopJobs n) :=
  (stopOnly_foldl _ (fun (a : State) (j : Job) => a.dropJob j.uid) (fun _ _ => rfl) s).trans (stopOnly_foldl _ _ stopOnly_withdraw _)

theorem stopCtx_eq (s : State) (n : Nat) :
    s.stopCtx n = { s.stopJobs n with
      entries := s.entries.filter (fun e => e.ctx != n), groups := s.groups.filter (fun g => g.ctx != n),
      rings := s.rings.filter (fun r => r.ctx != n), saved := s.saved.filter (fun x => x.ctx != n),
      parked := s.parked.filter (fun p => p.1 != n) } := by
  have h := stopOnly_stopJobs s n
  have hentries : (s.stopJobs n).entries = s.entries := by rw [h]
  have hgroups : (s.stopJobs n).groups = s.groups := by rw [h]
  have hrings : (s.stopJobs n).rings = s.rings := by rw [h]
  have hsaved : (s.stopJobs n).saved = s.saved := by rw [h]
  have hparked : (s.stopJobs n).parked = s.parked := by rw [h]
  rw [← hentries, ← hgroups, ← hrings, ← hsaved, ← hparked]
  rfl

/-- The wake that a reset begins with. -/
structure WokenNow (s a : State) : Prop where
  eng : a.eng = 2
  build : a.build = s.build
  guard : a.guard = s.guard
  arm : a.arm = s.arm
  prints : a.prints = s.prints
  patina : a.patina = s.patina
  awake : s.eng ≠ 4 → a.entries = s.entries ∧ a.groups = s.groups ∧ a.handles = s.handles ∧ a.qps = s.qps ∧ a.ckpt = s.ckpt ∧ KeepsRegs hostFlds s a

theorem wakeNow_woken {s : State} (h : s.eng = 2 ∨ s.eng = 3 ∨ s.eng = 4) : WokenNow s s.wakeNow := by
  unfold State.wakeNow
  split
  · next h4 =>
    obtain ⟨honly, -⟩ := resetAllQps_only { s with waking := false }
    generalize ({ s with waking := false } : State).resetAllQps = b at honly
    rw [setEng_eq b 2, honly]
    exact ⟨rfl, rfl, rfl, rfl, rfl, rfl, fun hno => absurd h4 hno⟩
  · next h4 =>
    have hwake : s.wake = { s with eng := 2, tick := s.wake.tick, out := s.wake.out, regs := s.wake.regs } ∧ KeepsRegs hostFlds s s.wake := by
      unfold State.wake
      split
      · exact ⟨rfl, keepsRegs_set (f := .fjStateRetainPend) (by decide) _ 0⟩
      · next h3 =>
        have h2 : s.eng = 2 := by omega
        exact ⟨by rw [← h2]; rfl, keepsRegs_set (by decide) _ _⟩
    refine ⟨by rw [hwake.1], by rw [hwake.1], by rw [hwake.1], by rw [hwake.1], by rw [hwake.1], by rw [hwake.1], fun _ => ?_⟩
    refine ⟨by rw [hwake.1], by rw [hwake.1], by rw [hwake.1], by rw [hwake.1], by rw [hwake.1], hwake.2⟩

theorem WokenNow.logged {s a : State} (h : WokenNow s a) (kind ctx : Nat) : WokenNow s (a.logReset kind ctx) := by
  have hlog : LogOnly a (a.logReset kind ctx) := logRec_only _ _ _ _ _ _
  generalize a.logReset kind ctx = b at hlog
  refine ⟨by rw [hlog.1]; exact h.eng, by rw [hlog.1]; exact h.build, by rw [hlog.1]; exact h.guard, by rw [hlog.1]; exact h.arm,
    by rw [hlog.1]; exact h.prints, by rw [hlog.1]; exact h.patina, fun h4 => ?_⟩
  obtain ⟨hentries, hgroups, hhandles, hqps, hckpt, hregs⟩ := h.awake h4
  have hkeep : KeepsRegs hostFlds s b :=
    keepsRegs_trans hregs fun f i hf => hlog.2 f i (fun hmem => hf (List.mem_append_left _ (List.mem_append_left _ hmem)))
  exact ⟨by rw [hlog.1]; exact hentries, by rw [hlog.1]; exact hgroups, by rw [hlog.1]; exact hhandles, by rw [hlog.1]; exact hqps,
    by rw [hlog.1]; exact hckpt, hkeep⟩

theorem getI_of_filter_kept {t : State} {l : List Cell} {p : Cell → Bool} (hr : t.regs = l.filter p) {f : Fld} {i : Nat}
    (h : ∀ c : Cell, c.fld = f → c.idx = i → p c = true) : t.getI f i = readCell t.build l f i := by
  have hfind : findCell f i (l.filter p) = findCell f i l := by
    clear hr
    induction l with
    | nil => rfl
    | cons c l ih =>
      rw [List.filter_cons]
      by_cases hc : (c.fld == f && c.idx == i) = true
      · have hcell : c.fld = f ∧ c.idx = i := by simpa using hc
        rw [if_pos (h c hcell.1 hcell.2), findCell, if_pos hc, findCell, if_pos hc]
      · rw [findCell, if_neg hc, ← ih]
        split
        · rw [findCell, if_neg hc]
        · rfl
  rw [getI_eq, readCell, hr, hfind, readCell]

/-- Context n's rows and cells are gone. -/
structure TenantGone (n : Nat) (a u : State) : Prop where
  eng : u.eng = a.eng
  build : u.build = a.build
  guard : u.guard = a.guard
  arm : u.arm = a.arm
  prints : u.prints = a.prints
  patina : u.patina = a.patina
  entries : u.entries = a.entries.filter (fun e => e.ctx != n)
  groups : u.groups = a.groups.filter (fun g => g.ctx != n)
  rings : u.rings = a.rings.filter (fun r => r.ctx != n)
  saved : u.saved = a.saved.filter (fun x => x.ctx != n)
  parked : u.parked = a.parked.filter (fun p => p.1 != n)
  handles : u.handles = a.handles.filter (fun x => x.ctx != n)
  tables : u.tables = a.tables.filter (fun x => x.ctx != n)
  store : u.store = a.store.filter (fun x => x.ctx != n)
  cache : u.cache = a.cache.filter (fun x => x.key.ctx != n)
  keys : u.keys = a.keys.map (fun (x : KeySlot) => if x.ctx = n ∧ x.key.isSome then x.erase else x)
  regs : u.regs = a.regs.filter (keepsTenant n)
  qps : u.qps = a.qps
  ckpt : u.ckpt = a.ckpt

/-- A tenant's reset, from the wake to the registers (16 R448, R455). -/
theorem tenantReset_gone {s : State} (h : s.eng = 2 ∨ s.eng = 3 ∨ s.eng = 4) (n : Nat) : ∃ a, WokenNow s a ∧ TenantGone n a (s.tenantReset n) := by
  have ha : WokenNow s (s.wakeNow.logReset 1 n) := (wakeNow_woken h).logged 1 n
  refine ⟨s.wakeNow.logReset 1 n, ha, ?_⟩
  unfold State.tenantReset
  generalize s.wakeNow.logReset 1 n = a at ha
  have hstop := stopOnly_stopJobs a n
  rw [stopCtx_eq]
  generalize a.stopJobs n = b at hstop
  rw [hstop]
  constructor <;> rfl

theorem TenantGone.keys_erased {n : Nat} {a u : State} (h : TenantGone n a u) : ∀ x ∈ u.keys, x.ctx = n → x.key = none := by
  intro x hx hxn
  rw [h.keys] at hx
  obtain ⟨y, -, rfl⟩ := List.mem_map.mp hx
  by_cases hy : y.ctx = n ∧ y.key.isSome = true
  · rw [if_pos hy]
    rfl
  · rw [if_neg hy] at hxn ⊢
    simpa [hxn] using hy

theorem cellCtx_congr {c d : Cell} (hfld : d.fld = c.fld) (hidx : d.idx = c.idx) : cellCtx d = cellCtx c := by rw [cellCtx, cellCtx, hfld, hidx]

theorem TenantGone.restored {n : Nat} {a u : State} (h : TenantGone n a u) {c : Cell} (hc : cellCtx c = some n)
    (hkeep : (fldInfo c.fld).keep = .ring ∨ (fldInfo c.fld).keep = .ringCtx ∨ (fldInfo c.fld).keep = .ctxOwned) :
    u.getI c.fld c.idx = fldReset a.build c.fld c.idx := by
  rw [getI_of_filter h.regs, h.build]
  intro d hfld hidx
  have hd : cellCtx d = some n := (cellCtx_congr hfld hidx).trans hc
  rcases hkeep with hk | hk | hk <;> simp [keepsTenant, hfld, hk, hd]

theorem TenantGone.kept {n : Nat} {a u : State} (h : TenantGone n a u) {c : Cell} (hc : cellCtx c ≠ some n) :
    u.getI c.fld c.idx = a.getI c.fld c.idx := by
  rw [getI_of_filter_kept h.regs, h.build, getI_eq]
  intro d hfld hidx
  have hd : cellCtx d ≠ some n := (cellCtx_congr hfld hidx).trans_ne hc
  unfold keepsTenant
  split <;> simp [hd]

theorem getI_finish_send {s u : State} {o : Out} (hb : u.build = s.build) {f : Fld} (hf : f ≠ .fjMsixPbaPending) (i : Nat) :
    (finishState s (u.send o)).getI f i = u.getI f i := (getI_finishState (s0 := s) (s := u.send o) hb hf i).trans (State.getI_send u o f i)

theorem not_mem_of_filter_ne {α : Type} {l : List α} {key : α → Nat} {n : Nat} : ∀ x ∈ l.filter (fun x => key x != n), key x ≠ n := by
  intro x hx
  simpa using (List.mem_filter.mp hx).2

/-- The request's pin, and the time of the request. -/
def State.flrAsked (s : State) (n ofs : Nat) : State := ({ s with pins := { s.pins with hflrReq := s.pins.hflrReq ||| 2 ^ n } }).at_ ofs

theorem flrAsked_only (s : State) (n ofs : Nat) :
    finishState s (s.flrAsked n ofs) = { s with
      regs := (finishState s (s.flrAsked n ofs)).regs, out := (finishState s (s.flrAsked n ofs)).out,
      pins := (finishState s (s.flrAsked n ofs)).pins, tick := { s.tick with ofs := ofs } } := by
  rw [finishState_pins, finishState_eq]
  rfl

theorem flrAnswered_only (s : State) (n ofs : Nat) (o : Out) :
    finishState s ((s.flrAsked n ofs).send o) = { s with
      regs := (finishState s ((s.flrAsked n ofs).send o)).regs, out := (finishState s ((s.flrAsked n ofs).send o)).out,
      pins := (finishState s ((s.flrAsked n ofs).send o)).pins, tick := { s.tick with ofs := ofs } } := by
  rw [finishState_pins, finishState_eq]
  rfl

theorem tenantReset_runs {s : State} (heng : s.eng = 2 ∨ s.eng = 3 ∨ s.eng = 4) (hup : s.holdup = none) (hlive : s.replaying = false)
    {ctx n : Nat} (hn : ctx % 64 = n) (hctx : n ≠ 0) (ofs : Nat) :
    ∃ t0 : State, t0 = { s with pins := t0.pins, tick := t0.tick } ∧
      exec (.tenantReset ctx ofs) s = finish s ((t0.tenantReset n).send (.hflrDone n true)) := by
  refine ⟨s.flrAsked n ofs, rfl, ?_⟩
  have hidle : ¬ (s.holdingUp = true ∨ s.eng = 8 ∨ s.eng = 0) := by rcases heng with h | h | h <;> simp [State.holdingUp, hup, h]
  have hnow : ¬ (flrAtOnce s = true ∨ n = 0) := by rcases heng with h | h | h <;> simp [flrAtOnce, hlive, h, hctx]
  show execTenantReset ctx ofs s = _
  unfold execTenantReset
  rw [hn, if_neg hidle, if_neg (by simp [hlive]), if_neg hnow]
  rfl

end Sys2Proof.Machine

namespace Sys2Proof.Proofs

open Sys2Proof.Machine Sys2Proof.Safety

/-- Settles O7: the context's rows are filtered out and its cells with them; where the reset does not act only the pin and the time change. -/
theorem tenantResets : Obligations.TenantResets := by
  unfold Obligations.TenantResets
  refine ⟨fun s ctx ofs heng hup hlive hctx => ?_, fun s ctx ofs => ⟨fun heng hup hlive => ?_, fun hup => ?_, fun heng hup hreplay => ?_⟩⟩
  · generalize hn : ctx % 64 = n at *
    obtain ⟨t0, h0, hexec⟩ := tenantReset_runs heng hup hlive hn hctx ofs
    have heng0 : t0.eng = 2 ∨ t0.eng = 3 ∨ t0.eng = 4 := by rw [h0]; exact heng
    obtain ⟨a, hwoken, hgone⟩ := tenantReset_gone heng0 n
    generalize t0.tenantReset n = u at hexec hgone
    have hbuild0 : t0.build = s.build := by rw [h0]
    have hbuild : u.build = s.build := hgone.build.trans (hwoken.build.trans hbuild0)
    have hread (f : Fld) (hf : f ≠ .fjMsixPbaPending) (i : Nat) := getI_finish_send (o := .hflrDone n true) hbuild hf i
    refine ⟨finishState s (u.send (.hflrDone n true)), hexec, mem_out_finishState (by simp), ?_, ?_, ?_, ?_, ?_, ?_, ?_, ?_, ?_, ?_, ?_,
      fun c hc hkeep hpba => by rw [hread _ hpba, hgone.restored hc hkeep, hwoken.build, hbuild0], fun h4 => ?_, ?_, ?_, ?_, ?_⟩
    all_goals simp only [finishState_eng, finishState_entries, finishState_groups, finishState_rings, finishState_saved, finishState_parked,
      finishState_handles, finishState_tables, finishState_store, finishState_cache, finishState_keys, finishState_guard, finishState_arm,
      finishState_prints, finishState_patina, finishState_qps, finishState_ckpt]
    · exact hgone.eng.trans hwoken.eng
    · exact hgone.entries ▸ not_mem_of_filter_ne
    · exact hgone.groups ▸ not_mem_of_filter_ne
    · exact hgone.rings ▸ not_mem_of_filter_ne
    · exact hgone.saved ▸ not_mem_of_filter_ne
    · exact hgone.parked ▸ not_mem_of_filter_ne (key := Prod.fst)
    · exact hgone.handles ▸ not_mem_of_filter_ne
    · exact hgone.tables ▸ not_mem_of_filter_ne
    · exact hgone.store ▸ not_mem_of_filter_ne
    · exact hgone.cache ▸ not_mem_of_filter_ne (key := fun (x : McEntry) => x.key.ctx)
    · exact hgone.keys_erased
    · obtain ⟨hentries, hgroups, hhandles, hqps, hckpt, hregs⟩ := hwoken.awake (by rw [h0]; exact h4)
      refine ⟨?_, ?_, ?_, fun c hc hhost => ?_, ?_, ?_⟩
      · exact hgone.entries.trans (by rw [hentries, h0])
      · exact hgone.groups.trans (by rw [hgroups, h0])
      · exact hgone.handles.trans (by rw [hhandles, h0])
      · have hpba : c.fld ≠ .fjMsixPbaPending := fun e => hhost (e ▸ by decide)
        have hsame : t0.getI c.fld c.idx = s.getI c.fld c.idx := keepsRegs_of_regs (fs := []) hbuild0 (by rw [h0]) _ _ List.not_mem_nil
        rw [hread _ hpba, hgone.kept hc, hregs _ _ hhost, hsame]
      · exact hgone.qps.trans (hqps.trans (by rw [h0]))
      · exact hgone.ckpt.trans (hckpt.trans (by rw [h0]))
    · exact congrArg Guard.armed (hgone.guard.trans (hwoken.guard.trans (by rw [h0])))
    · exact hgone.arm.trans (hwoken.arm.trans (by rw [h0]))
    · exact hgone.prints.trans (hwoken.prints.trans (by rw [h0]))
    · exact hgone.patina.trans (hwoken.patina.trans (by rw [h0]))
  · have hidle : ¬ (s.holdingUp = true ∨ s.eng = 8 ∨ s.eng = 0) := by rcases heng with h | h <;> simp [State.holdingUp, hup, h]
    have hnow : flrAtOnce s = true := by rcases heng with h | h <;> simp [flrAtOnce, h]
    have hf : exec (.functionReset ofs) s = finish s ((s.flrAsked 0 ofs).send (.hflrDone 0 true)) := by
      show execFunctionReset ofs s = _
      unfold execFunctionReset
      rw [if_neg hidle, if_neg (by simp [hlive]), if_pos hnow]
      rfl
    have ht : exec (.tenantReset ctx ofs) s = finish s ((s.flrAsked (ctx % 64) ofs).send (.hflrDone (ctx % 64) true)) := by
      show execTenantReset ctx ofs s = _
      unfold execTenantReset
      rw [if_neg hidle, if_neg (by simp [hlive]), if_pos (.inl hnow)]
      rfl
    have hkeep (n : Nat) : KeepsRegs msgFlds s (finishState s ((s.flrAsked n ofs).send (.hflrDone n true))) :=
      keepsRegs_finishState (by decide) rfl (keepsRegs_of_regs rfl rfl)
    exact ⟨_, _, hf, ht, hkeep 0, hkeep _, mem_out_finishState (by simp), mem_out_finishState (by simp), flrAnswered_only _ _ _ _, flrAnswered_only _ _ _ _⟩
  · have hf : exec (.functionReset ofs) s = finish s (s.flrAsked 0 ofs) := if_pos (.inl hup)
    have ht : exec (.tenantReset ctx ofs) s = finish s (s.flrAsked (ctx % 64) ofs) := if_pos (.inl hup)
    have hkeep (n : Nat) : KeepsRegs msgFlds s (finishState s (s.flrAsked n ofs)) :=
      keepsRegs_finishState (by decide) rfl (keepsRegs_of_regs rfl rfl)
    exact ⟨_, _, hf, ht, flrAsked_only _ _ _, hkeep 0, flrAsked_only _ _ _, hkeep _⟩
  · have hidle : ¬ (s.holdingUp = true ∨ s.eng = 8 ∨ s.eng = 0) := by rcases heng with h | h <;> simp [State.holdingUp, hup, h]
    have hf : exec (.functionReset ofs) s = finish s (((s.flrAsked 0 ofs).bump .yljIgnoredCount 1).send (.hflrDone 0 true)) := by
      show execFunctionReset ofs s = _
      unfold execFunctionReset
      rw [if_neg hidle, if_pos hreplay]
      rfl
    have ht : exec (.tenantReset ctx ofs) s =
        finish s (((s.flrAsked (ctx % 64) ofs).bump .yljIgnoredCount 1).send (.hflrDone (ctx % 64) true)) := by
      show execTenantReset ctx ofs s = _
      unfold execTenantReset
      rw [if_neg hidle, if_pos hreplay]
      rfl
    have hcount (n : Nat) : (finishState s (((s.flrAsked n ofs).bump .yljIgnoredCount 1).send (.hflrDone n true))).get .yljIgnoredCount =
        satAdd 32 (s.get .yljIgnoredCount) 1 := by
      have hb : (((s.flrAsked n ofs).bump .yljIgnoredCount 1).send (.hflrDone n true)).build = s.build := rfl
      rw [get_finishState hb (by decide)]
      exact get_bump_same (s.flrAsked n ofs) .yljIgnoredCount 1
    exact ⟨_, _, hf, ht, mem_out_finishState (by simp), mem_out_finishState (by simp), hcount 0, hcount _, finishState_entries _ _, finishState_entries _ _,
      finishState_groups _ _, finishState_groups _ _⟩

end Sys2Proof.Proofs
end

section
/-! Rescues, the pool and the spill, the copy, and STEP_END (03 R97, R104 to R118). -/
namespace Sys2Proof.Machine

open Safety

/-- The registers that a write which leaves the hold queue can change. -/
def stallFlds : List Fld := [.grdStallMaxNs, .grdOverstallsCount, .grdStatOverstall]

/-- The arming, the bitmaps, the pool and the spill stay, and so does every register but those of the stalls. -/
structure HoldOnly (s t : State) : Prop where
  armed : t.guard.armed = s.guard.armed
  gen : t.guard.gen = s.guard.gen
  bits0 : t.guard.bits0 = s.guard.bits0
  bits1 : t.guard.bits1 = s.guard.bits1
  pool : t.guard.pool = s.guard.pool
  spill : t.guard.spill = s.guard.spill
  regs : KeepsRegs stallFlds s t

theorem HoldOnly.refl (s : State) : HoldOnly s s := ⟨rfl, rfl, rfl, rfl, rfl, rfl, keepsRegs_refl _ _⟩

theorem HoldOnly.trans {s t u : State} (h : HoldOnly s t) (k : HoldOnly t u) : HoldOnly s u :=
  ⟨k.armed.trans h.armed, k.gen.trans h.gen, k.bits0.trans h.bits0, k.bits1.trans h.bits1, k.pool.trans h.pool, k.spill.trans h.spill,
    keepsRegs_trans h.regs k.regs⟩

theorem holdOnly_queue (s : State) (held waiting : List GWrite) (rescueQ : List Nat) (seq : Nat) :
    HoldOnly s { s with guard := { s.guard with held := held, waiting := waiting, rescueQ := rescueQ, seq := seq } } :=
  ⟨rfl, rfl, rfl, rfl, rfl, rfl, fun _ _ _ => rfl⟩

theorem holdOnly_forward (s : State) (w : GWrite) (now : GuardClock) : HoldOnly s (s.forward w now) := by
  have hregs : KeepsRegs stallFlds s (s.forward w now) := by
    unfold State.forward
    extract_lets g s1 s2
    have h2 : KeepsRegs stallFlds s s2 := keepsRegs_trans (t := s1) (fun _ _ _ => rfl) (keepsRegs_peak (by decide) s1 _)
    exact keepsRegs_ite (keepsRegs_trans (keepsRegs_trans h2 (keepsRegs_setI (f := .grdOverstallsCount) (by decide) s2 0 _))
      (keepsRegs_up _ (by decide))) h2
  constructor
  case regs => exact hregs
  all_goals rw [forward_guard]

theorem holdOnly_judge (s : State) (w : GWrite) (now : GuardClock) : HoldOnly s (s.judge w now) := by
  unfold State.judge
  split
  · exact holdOnly_forward s w now
  · exact holdOnly_queue s _ _ _ _

theorem holdOnly_acceptFuel (n : Nat) (now : GuardClock) (s : State) : HoldOnly s (acceptFuel n now s) := by
  induction n generalizing s with
  | zero => exact .refl s
  | succ n ih =>
    rw [acceptFuel]
    split
    · exact .refl s
    · split
      · exact ((holdOnly_queue s s.guard.held _ s.guard.rescueQ s.guard.seq).trans (holdOnly_judge _ _ now)).trans (ih _)
      · exact .refl s

theorem holdOnly_releaseHeldFuel (n : Nat) (now : GuardClock) (s : State) (q : List GWrite) : HoldOnly s (releaseHeldFuel n now s q) := by
  induction n generalizing s q with
  | zero => exact .refl s
  | succ n ih =>
    cases q with
    | nil => exact .refl s
    | cons w rest =>
      have hgoes (l : List GWrite) :
          HoldOnly s (releaseHeldFuel n now (({ s with guard := { s.guard with held := l } } : State).forward w now) rest) :=
        ((holdOnly_queue s l s.guard.waiting s.guard.rescueQ s.guard.seq).trans (holdOnly_forward _ w now)).trans (ih _ rest)
      rw [releaseHeldFuel]
      split
      · exact ih s rest
      · split
        · split
          · exact hgoes _
          · split
            · exact ih s rest
            · exact (holdOnly_queue s s.guard.held s.guard.waiting _ s.guard.seq).trans (ih _ rest)
        · exact hgoes _

theorem holdOnly_releaseHeld (s : State) (now : GuardClock) : HoldOnly s (s.releaseHeld now) :=
  .trans (t := s.guardAt now) ⟨rfl, rfl, rfl, rfl, rfl, rfl, fun _ _ _ => rfl⟩
    ((holdOnly_releaseHeldFuel _ now _ _).trans (holdOnly_acceptFuel _ now _))

/-! ### Rescues and drains -/

theorem has_mark (g : Guard) (x : Nat) : (g.mark x).has x = true := by
  unfold Guard.mark
  split
  · assumption
  · split
    · next h0 => simp [Guard.has, Guard.bits, h0]
    · next h0 => simp [Guard.has, Guard.bits, h0]

theorem mark_keeps (g : Guard) (x : Nat) : (g.mark x).pool = g.pool ∧ (g.mark x).spill = g.spill ∧ (g.mark x).held = g.held ∧
    (g.mark x).seq = g.seq ∧ (g.mark x).armed = g.armed ∧ (g.mark x).gen = g.gen := by
  unfold Guard.mark
  split
  · exact ⟨rfl, rfl, rfl, rfl, rfl, rfl⟩
  · split <;> exact ⟨rfl, rfl, rfl, rfl, rfl, rfl⟩

theorem has_of_bits {g h : Guard} (hgen : h.gen = g.gen) (h0 : h.bits0 = g.bits0) (h1 : h.bits1 = g.bits1) (x : Nat) : h.has x = g.has x := by
  rw [Guard.has, Guard.bits, hgen, h0, h1, Guard.has, Guard.bits]

/-- A rescue's request (03 R106, R107). -/
def State.rescueAsked (s : State) (x k q ns : Nat) (rest : List Nat) : State :=
  let reads := (List.range 64).map (fun j => readOut s (rescueTag + 64 * q + j) (s.granAddr x + 64 * j) 1 2)
  let s1 := { s with guard := { s.guard with rescueQ := rest, rescues := s.guard.rescues ++ [Rescue.mk x k ns q false] } }
  ((s1.sendAll reads).bump .grdRescuesCount 1).tagPeak

theorem rescueAsked_shows (s : State) (x k q ns : Nat) (rest : List Nat) :
    (s.rescueAsked x k q ns rest).guard = { s.guard with rescueQ := rest, rescues := s.guard.rescues ++ [⟨x, k, ns, q, false⟩] } ∧
      (s.rescueAsked x k q ns rest).out =
        s.out ++ (List.range 64).map (fun j => readOut s (10240 + 64 * q + j) (s.granAddr x + 64 * j) 1 2) ∧
      (s.rescueAsked x k q ns rest).get .grdRescuesCount = satAdd 64 (s.get .grdRescuesCount) 1 := by
  unfold State.rescueAsked
  extract_lets reads g s1
  have hpeak : RegsOnly ((s1.sendAll reads).bump .grdRescuesCount 1) ((s1.sendAll reads).bump .grdRescuesCount 1).tagPeak := regsOnly_peak _ _ _
  have hkeep : KeepsRegs [.stgTagsPeak] ((s1.sendAll reads).bump .grdRescuesCount 1) ((s1.sendAll reads).bump .grdRescuesCount 1).tagPeak :=
    keepsRegs_peak (by decide) _ _
  refine ⟨by rw [hpeak]; rfl, by rw [hpeak]; rfl, (get_of_keepsRegs hkeep (by decide)).trans (get_bump_same (s1.sendAll reads) .grdRescuesCount 1)⟩

/-- A rescue that has landed. -/
def State.rescueLanded (s : State) (r : Rescue) (gran : Nat) (data : Bytes) (now : GuardClock) : State :=
  let g := s.guard
  let rest := g.rescues.filter (fun x => !(x.gran == r.gran && x.tags == r.tags))
  let g1 := { g.mark gran with rescues := rest, pool := g.pool ++ [PoolSlot.mk r.slot gran (sliceZ data 0 4096) g.seq], seq := g.seq + 1 }
  let s1 : State := ({ s with guard := g1 }).acct 0 0 64
  if now.ns - r.at_ > s.get .grdRlatMaxNs then s1.up .grdStatRlatExceeded else s1

theorem rescueLanded_shows (s : State) (r : Rescue) (gran : Nat) (data : Bytes) (now : GuardClock) :
    (s.rescueLanded r gran data now).guard.has gran = true ∧ (s.rescueLanded r gran data now).guard.pool = s.guard.pool ++ [⟨r.slot, gran, sliceZ data 0 4096, s.guard.seq⟩] ∧ (s.rescueLanded r gran data now).guard.held = s.guard.held ∧
      (s.get .grdRlatMaxNs < now.ns - r.at_ → (s.rescueLanded r gran data now).flag .grdStatRlatExceeded = true) ∧
      (now.ns - r.at_ ≤ s.get .grdRlatMaxNs → (s.rescueLanded r gran data now).flag .grdStatRlatExceeded = s.flag .grdStatRlatExceeded) := by
  unfold State.rescueLanded
  extract_lets g rest gm g1 s1
  obtain ⟨-, -, hheld, -⟩ := mark_keeps g gran
  have hg1 : s1.guard = g1 := rfl
  have hhas : g1.has gran = true := (has_of_bits (h := g1) (g := g.mark gran) rfl rfl rfl gran).trans (has_mark g gran)
  have hflag : s1.flag .grdStatRlatExceeded = s.flag .grdStatRlatExceeded :=
    flag_of_keepsRegs (s := s) (t := s1) (fs := [.tickAcctRdBeats]) (keepsRegs_bumpI (by decide) { s with guard := g1 } 0 64) (by decide)
  split
  · next hlate =>
    refine ⟨?_, ?_, ?_, fun _ => flag_up_same _ _ (by decide), fun h => absurd hlate (Nat.not_lt.mpr h)⟩
    all_goals rw [State.up, State.set_guard, hg1]
    · exact hhas
    · exact hheld
  · next hlate =>
    rw [hg1]
    exact ⟨hhas, rfl, hheld, fun h => absurd h hlate, fun _ => hflag⟩

/-- A pool slot in its spill slot (03 R108). -/
def State.poolDrained (s : State) (p : PoolSlot) (k : Nat) : State :=
  ({ s with guard := { s.guard with pool := s.guard.pool.erase p, spill := s.guard.spill ++ [{ p with slot := k }] } } : State).sendAll
    ((List.range 64).map (fun j => Out.guardOut j (spillAddr s k + 64 * j) (sliceZ p.data (64 * j) 64) (2 ^ 64 - 1) true k))

end Sys2Proof.Machine

namespace Sys2Proof.Proofs

open Sys2Proof.Machine Sys2Proof.Safety

/-- Settles O23: the state that a rescue's request, its landing and a drain leave, before the pool's registers follow. -/
theorem rescuePoolAndSpill : Obligations.RescuePoolAndSpill := by
  intro s x k q gran now rest data
  refine ⟨fun harm hq hslot htags => ?_, fun r hr => ⟨fun hdead => ?_, fun hlive => ?_⟩, fun p hp hk => ?_⟩
  · obtain ⟨hguard, hout, hcount⟩ := rescueAsked_shows s x k q now.ns rest
    have hexec : exec (.rescueIssue now) s = .next (finishState s (s.rescueAsked x k q now.ns rest).spillTurn) := by
      show execRescueIssue now s = _
      unfold execRescueIssue
      rw [hq, hslot, htags]
      exact if_pos harm
    refine ⟨_, hexec, ?_, ?_, ?_, ?_, hout, hcount⟩
    all_goals rw [hguard]
    rfl
  · have hexec : exec (.rescueLanding gran data false now) s = finish s ({ s with guard := { s.guard with
        rescues := s.guard.rescues.filter (fun x => !(x.gran == r.gran && x.tags == r.tags)) } } : State).guardRegs := by
      show execRescueLanding gran data false now s = _
      unfold execRescueLanding
      rw [hr]
      dsimp only
      rw [if_pos hdead]
    refine ⟨_, hexec, ?_⟩
    rw [finishState_guard, guardRegs_guard]
    exact ⟨rfl, rfl, rfl, rfl⟩
  · have hexec : exec (.rescueLanding gran data false now) s =
        .next (finishState s ((s.rescueLanded r gran data now).releaseHeld now).spillTurn) := by
      show execRescueLanding gran data false now s = _
      unfold execRescueLanding
      rw [hr]
      dsimp only
      rw [if_neg (by simp [hlive])]
      rfl
    exact ⟨_, hexec, rescueLanded_shows s r gran data now⟩
  · refine ⟨s.poolDrained p k, ?_, rfl, rfl, rfl⟩
    show execPoolDrain s = _
    unfold execPoolDrain
    rw [hp, hk]
    rfl

end Sys2Proof.Proofs
end

section
/-! Responses of memory, the clearing of bitmaps, and the granules that the copy takes (03 R100, R109, R116; 15 R408, R431). -/
namespace Sys2Proof.Machine

open Safety

theorem keepsAll_fabError (s : State) : KeepsAll s s.fabError := by
  have h : KeepsAll s ((s.up .fjPortStatFabErr).bump .patMemUncorrCount 1) := rfl
  rw [KeepsAll, State.fabError, keepsAll_raiseWarn, h]

theorem fabError_flag (s : State) : s.fabError.flag .fjPortStatFabErr = true :=
  (flag_of_keepsRegs (keepsRegs_raiseWarn _ 4) (by decide)).trans ((flag_bump_other _ 1 (by decide)).trans (flag_up_same s _ (by decide)))

/-- The registers of the guard's occupancies. -/
def occFlds : List Fld :=
  [.grdHoldOcc, .grdHoldPeak, .grdStatSpillFull, .grdPoolOcc, .grdPoolPeak, .grdSpillOccOcc, .grdSpillPeakPeak, .grdProgressGranules]

theorem keepsRegs_guardRegs_own (s : State) : KeepsRegs ([.grdStatArmed, .grdStatGen, .grdStatClean0, .grdStatClean1] ++ occFlds) s s.guardRegs := by
  have hset {f : Fld} (hf : f ∈ [Fld.grdStatArmed, .grdStatGen, .grdStatClean0, .grdStatClean1] ++ occFlds) (a : State) (v : Nat) :=
    keepsRegs_set hf a v
  have hpeak {f : Fld} (hf : f ∈ [Fld.grdStatArmed, .grdStatGen, .grdStatClean0, .grdStatClean1] ++ occFlds) (a : State) (v : Nat) :=
    keepsRegs_peak hf a v
  unfold State.guardRegs
  extract_lets g s1 s2 s3
  have h1 := keepsRegs_trans (keepsRegs_trans (keepsRegs_trans (hset (f := .grdStatArmed) (by decide) s (b2n g.armed))
    (hset (f := .grdStatGen) (by decide) _ g.gen)) (hset (f := .grdStatClean0) (by decide) _ (b2n g.clean0)))
    (hset (f := .grdStatClean1) (by decide) _ (b2n g.clean1))
  have h2 := keepsRegs_trans (keepsRegs_trans (hset (f := .grdHoldOcc) (by decide) s1 g.held.length)
    (hpeak (f := .grdHoldPeak) (by decide) _ g.held.length)) (hset (f := .grdStatSpillFull) (by decide) _ (b2n s.spillFull))
  have h3 := keepsRegs_trans (hset (f := .grdPoolOcc) (by decide) s2 g.poolUsed) (hpeak (f := .grdPoolPeak) (by decide) _ g.poolUsed)
  exact keepsRegs_trans (keepsRegs_trans h1 (keepsRegs_trans h2 h3)) (keepsRegs_trans (keepsRegs_trans
    (hset (f := .grdSpillOccOcc) (by decide) s3 _) (hpeak (f := .grdSpillPeakPeak) (by decide) _ _)) (hset (f := .grdProgressGranules) (by decide) _ _))

/-- The registers of the guard that follow flags of its state. -/
theorem guardRegs_clean (s : State) :
    s.guardRegs.flag .grdStatClean0 = s.guard.clean0 ∧ s.guardRegs.flag .grdStatClean1 = s.guard.clean1 := by
  unfold State.guardRegs
  extract_lets g s1 s2 s3
  have h0 : s1.flag .grdStatClean0 = g.clean0 := (flag_set_other _ _ (by decide)).trans (flag_set_b2n _ _ _ (by decide))
  have h1 : s1.flag .grdStatClean1 = g.clean1 := flag_set_b2n _ _ _ (by decide)
  have h2 : KeepsRegs occFlds s1 s2 :=
    keepsRegs_trans (keepsRegs_trans (keepsRegs_set (by decide) s1 _) (keepsRegs_peak (by decide) _ _)) (keepsRegs_set (by decide) _ _)
  have h3 : KeepsRegs occFlds s2 s3 := keepsRegs_trans (keepsRegs_set (by decide) s2 _) (keepsRegs_peak (by decide) _ _)
  have h4 (n : Nat) : KeepsRegs occFlds s3 (((s3.set .grdSpillOccOcc g.spill.length).peak .grdSpillPeakPeak g.spill.length).set .grdProgressGranules n) :=
    keepsRegs_trans (keepsRegs_trans (keepsRegs_set (by decide) s3 _) (keepsRegs_peak (by decide) _ _)) (keepsRegs_set (by decide) _ _)
  have hend (n : Nat) := keepsRegs_trans (keepsRegs_trans h2 h3) (h4 n)
  exact ⟨(flag_of_keepsRegs (hend _) (by decide)).trans h0, (flag_of_keepsRegs (hend _) (by decide)).trans h1⟩

/-- A bitmap's clearing has ended (03 R100). -/
def Guard.cleared (g : Guard) (k : Nat) : Guard :=
  let g1 := if k = 0 then { g with bits0 := [], clean0 := true } else { g with bits1 := [], clean1 := true }
  { g1 with clearing := if !g1.clean (1 - k) && !(g1.armed && g1.gen = 1 - k) then some (1 - k, 0) else none }

theorem cleared_keeps (g : Guard) (k : Nat) : (g.cleared k).held = g.held ∧ (g.cleared k).pool = g.pool := by
  unfold Guard.cleared
  dsimp only
  split <;> exact ⟨rfl, rfl⟩

/-! ### The copy -/

/-- The last granule has come to the copy (03 R116). -/
theorem copyTake_last {s : State} {gran : Nat} (hall : s.granTotal ≤ s.guard.taken.length + 1) (d : Bytes) (now : GuardClock) :
    (s.copyTake gran d now).guard.armed = false ∧ (s.copyTake gran d now).guard.has gran = true ∧
      (s.copyTake gran d now).flag .fjCkptStatCommitPending = true ∧ (∀ p ∈ (s.copyTake gran d now).guard.pool, p.gran ≠ gran) ∧
      (∀ p ∈ (s.copyTake gran d now).guard.spill, p.gran ≠ gran) := by
  unfold State.copyTake
  extract_lets g gm g1 s1 all s2 g2
  obtain ⟨hpool, hspill, -, -, -, hgen⟩ := mark_keeps g gran
  have hlast : all := by simpa [all, g1] using hall
  rw [if_pos hlast]
  have hheld := holdOnly_releaseHeld (({ s2 with guard := g2 } : State).up .fjCkptStatCommitPending) now
  have hpending : (({ s2 with guard := g2 } : State).up .fjCkptStatCommitPending).flag .fjCkptStatCommitPending = true := flag_up_same _ _ (by decide)
  have hhas : g2.has gran = true := (has_of_bits (h := g2) (g := g.mark gran) rfl rfl rfl gran).trans (has_mark g gran)
  have hguard : (({ s2 with guard := g2 } : State).up .fjCkptStatCommitPending).guard = g2 := rfl
  generalize ({ s2 with guard := g2 } : State).up .fjCkptStatCommitPending = a at hheld hpending hguard
  generalize a.releaseHeld now = b at hheld
  have hflag : b.guardRegs.flag .fjCkptStatCommitPending = b.flag .fjCkptStatCommitPending :=
    flag_of_keepsRegs (keepsRegs_guardRegs_own b) (by decide)
  rw [guardRegs_guard, hheld.armed, hheld.pool, hheld.spill, hflag, flag_of_keepsRegs hheld.regs (by decide), hguard,
    has_of_bits hheld.gen hheld.bits0 hheld.bits1, hguard]
  refine ⟨rfl, hhas, hpending, fun p hp => ?_, fun p hp => ?_⟩
  · simpa using (List.mem_filter.mp hp).2
  · simpa using (List.mem_filter.mp hp).2

end Sys2Proof.Machine

namespace Sys2Proof.Proofs

open Sys2Proof.Machine Sys2Proof.Safety

/-- Settles O24: a response by whom it ends with, a clearing by its bitmap, and the copy by `copyTake`. -/
theorem guardResponsesAndCopies : Obligations.GuardResponsesAndCopies := by
  unfold Obligations.GuardResponsesAndCopies
  refine ⟨fun s lane id k z err => ⟨?_, fun hawait => ?_, fun hclear => ?_⟩, fun s gran now data err c hc => ?_, fun s gran now data hc harm hread hlive => ?_,
    fun s gran now d harm hall => copyTake_last hall d now⟩
  · cases err with
    | true =>
      have hall := keepsAll_fabError s
      refine ⟨finishState s s.fabError, rfl, fun _ => ?_, ?_, fun h => by cases h⟩
      · rw [flag_finishState (build_of_keepsAll hall) (by decide), fabError_flag]
      · rw [finishState_guard, hall]
    | false =>
      exact ⟨finishState s s, rfl, fun h => absurd h Bool.false_ne_true, finishState_guard _ _,
        fun _ => ⟨keepsRegs_finishState (by decide) rfl (keepsRegs_refl _ _), keepsAll_finishState rfl⟩⟩
  · obtain ⟨s1, hs1, hall, hflag⟩ : ∃ s1 : State, s1 = (if err then s.fabError else s) ∧ KeepsAll s s1 ∧ (err = true → s1.flag .fjPortStatFabErr = true) := by
      refine ⟨_, rfl, ?_⟩
      cases err with
      | true => exact ⟨keepsAll_fabError s, fun _ => fabError_flag s⟩
      | false => exact ⟨rfl, fun h => by cases h⟩
    have hexec : exec (.guardWriteResponse lane false id err) s =
        finish s ((({ s1 with guard := { s1.guard with awaiting := s1.guard.awaiting.erase (lane, id) } } : State)).send (.guardResp lane id err)) := by
      show execGuardWriteResponse lane false id err s = _
      unfold execGuardWriteResponse
      dsimp only
      rw [← hs1, if_neg (by decide), if_pos (by simpa using hawait)]
    have hguard : s1.guard = s.guard := by rw [hall]
    refine ⟨_, hexec, mem_out_finishState (by simp), ?_, fun herr => ?_⟩
    · rw [finishState_guard, ← hguard]
      rfl
    · have hb : s1.build = s.build := build_of_keepsAll hall
      rw [flag_finishState (by exact hb) (by decide)]
      exact hflag herr
  · have hexec : exec .bitmapClearDone s = finish s ({ s with guard := s.guard.cleared k } : State).guardRegs := by
      show execBitmapClearDone s = _
      unfold execBitmapClearDone
      rw [hclear]
      rfl
    obtain ⟨h0, h1⟩ := guardRegs_clean { s with guard := s.guard.cleared k }
    have hb : ({ s with guard := s.guard.cleared k } : State).guardRegs.build = s.build := by rw [guardRegs_eq]
    refine ⟨_, hexec, fun hk => ?_, fun hk => ?_, ?_, ?_, ?_⟩
    · subst hk
      rw [finishState_guard, guardRegs_guard, flag_finishState hb (by decide), h0]
      exact ⟨rfl, rfl, rfl, rfl⟩
    · subst hk
      rw [finishState_guard, guardRegs_guard, flag_finishState hb (by decide), h1]
      exact ⟨rfl, rfl, rfl, rfl⟩
    · rw [finishState_guard, guardRegs_guard]
      exact (cleared_keeps s.guard k).1
    · rw [finishState_guard, guardRegs_guard]
      exact (cleared_keeps s.guard k).2
    · rw [finishState_entries, guardRegs_eq]
  · have hexec : exec (.copyReadLanding gran data err now) s = finish s { s with guard := { s.guard with copyTags := s.guard.copyTags.erase c } } := by
      show execCopyReadLanding gran data err now s = _
      unfold execCopyReadLanding
      dsimp only
      rw [hc]
    exact ⟨_, hexec, finishState_guard _ _, keepsRegs_finishState (by decide) rfl (keepsRegs_of_regs rfl rfl), finishState_jobs _ _⟩
  · show execCopyReadLanding gran data false now s = _
    unfold execCopyReadLanding
    dsimp only
    rw [hc]
    dsimp only
    have hgo : ¬ (¬ s.guard.armed = true ∨ ¬ s.guard.copyReads.contains gran = true ∨ (s.guard.rescues.any fun r => r.gran == gran && !r.dead) = true) := by
      rintro (h | h | h)
      · exact h harm
      · exact h (List.contains_iff_mem.mpr hread)
      · obtain ⟨r, hr, hboth⟩ := List.any_eq_true.mp h
        simp only [Bool.and_eq_true, beq_iff_eq, Bool.not_eq_true'] at hboth
        exact absurd (hlive r hr hboth.1) (by simp [hboth.2])
    rw [if_neg hgo]
    cases s.guard.pool.find? (fun p => p.gran == gran) <;> rfl

end Sys2Proof.Proofs
end

section
/-! STEP_ENDs (03 R97, 15 R410). -/
namespace Sys2Proof.Proofs

open Sys2Proof.Machine Sys2Proof.Safety

/-- Settles O25: a STEP_END that is not answered changes the time alone; the record of another changes the log alone. -/
theorem stepEnd : Obligations.StepEnd := by
  intro s step cut ofs hlive
  have htime : KeepsUnits s (s.at_ ofs) := rfl
  have hsame : KeepsRegs msgFlds s (s.at_ ofs) := fun _ _ _ => rfl
  refine ⟨fun howes => ?_, fun howes hearly => ?_, fun howes hdue => ?_⟩
  · exact ⟨_, if_pos (.inl (by simp [howes])), keeps_finish (by decide) htime hsame⟩
  · have hrun : ¬ (¬ owesStep s = true ∨ s.replaying = true) := by simp [howes, hlive]
    have hexec : exec (.stepEnd step cut ofs) s = finish s ((s.at_ ofs).up .fjPortStatStepEndEarly) := (if_neg hrun).trans (if_pos hearly)
    have hb : ((s.at_ ofs).up .fjPortStatStepEndEarly).build = s.build := rfl
    refine ⟨_, hexec, ?_, keeps_finish (u := (s.at_ ofs).up .fjPortStatStepEndEarly) (by decide) rfl (keepsRegs_up (s.at_ ofs) (by decide))⟩
    rw [flag_finishState hb (by decide)]
    exact flag_up_same _ _ (by decide)
  · have hrun : ¬ (¬ owesStep s = true ∨ s.replaying = true) := by simp [howes, hlive]
    have hlog := logRec_only (s.at_ ofs) 2 0 0 (step % 2 ^ 48) []
    refine ⟨(s.at_ ofs).logRec 2 0 0 (step % 2 ^ 48) [], (if_neg hrun).trans (if_neg (Nat.not_lt.mpr hdue)), ?_, ?_, ?_⟩
    · exact fun f i hf => (hlog.2 f i hf).trans rfl
    · rw [KeepsUnits, hlog.1]
      rfl
    · rw [hlog.1]
      rfl

end Sys2Proof.Proofs
end

section
/-! Doorbells, RING_CFG and CRING_HEAD (13 R352, R362, R370, R371). -/
namespace Sys2Proof.Machine

open Safety

/-- A register of a ring, written through the view of its context. -/
theorem ringReg_eq {s : State} (h : HostOpen s) {ctx : Nat} (hview : HasView s ctx) {ring o : Nat} (ho : o < 0x80) (halign : o % 4 = 0) (v ofs : Nat) :
    s.ringReg ctx ring o v ofs = (s.hostTurn ofs).ringWrite (ctx != 0) ctx (0x80 * (ring % 4) + o) (v % 2 ^ 32) := by
  obtain ⟨hvf, -⟩ := hview
  have hr : ring % 4 < 4 := Nat.mod_lt _ (by decide)
  unfold State.ringReg ringOff
  by_cases hctx : ctx = 0
  · subst hctx
    rw [hostWrite_word h rfl (by simp; omega)]
    unfold State.wordWrite
    have hoff : (if (0 : Nat) = 0 then 0x10000 else 0x1000) + 0x80 * (ring % 4) + o = 0x10000 + (0x80 * (ring % 4) + o) := by
      rw [if_pos rfl, Nat.add_assoc]
    rw [hoff, if_neg (by decide), if_pos (by omega), Nat.add_sub_cancel_left]
    rfl
  · have htenant : (ctx != 0) = true := by simpa using hctx
    rw [htenant, if_neg hctx, hostWrite_word h (by simp [viewOk]; omega) (by omega)]
    unfold State.wordWrite
    rw [if_pos rfl, if_pos (by omega), Nat.add_assoc, Nat.add_sub_cancel_left]

theorem ringRow_at {n r o : Nat} (hr : r < 4) (ho : o < 0x80) : ringRow n (0x80 * r + o) = (findIn ringMap o).map (fun p => (p.1, rix n r)) := by
  have hmod : (0x80 * r + o) % 0x80 = o := by omega
  have hdiv : (0x80 * r + o) / 0x80 % 4 = r := by omega
  rw [ringRow, hmod, hdiv, rix]

theorem ringWrite_doorbell (s : State) (tenant : Bool) (n : Nat) {r : Nat} (hr : r < 4) (v : Nat) :
    s.ringWrite tenant n (0x80 * r + 0x0C) v = s.doorbellAt n r (v % 65536) := by
  have hmod : (0x80 * r + 0x0C) % 0x80 = 0x0C := by omega
  have hdiv : (0x80 * r + 0x0C) / 0x80 % 4 = r := by omega
  unfold State.ringWrite
  rw [ringRow_at hr (by decide), hmod, hdiv]
  rfl

/-- The row of RING_CFG. -/
def ringCfgRow : MapRow :=
  ⟨0x08, 1, 0, 1, .arr, [⟨0, 1, .ringCfgEnable, 0⟩, ⟨1, 1, .ringCfgFormat, 0⟩, ⟨2, 1, .ringCfgSpace, 0⟩, ⟨8, 4, .ringCfgSz, 0⟩]⟩

theorem ringWrite_cfg (s : State) (tenant : Bool) (n : Nat) {r : Nat} (hr : r < 4) (v : Nat) :
    s.ringWrite tenant n (0x80 * r + 0x08) v = if s.getI .ringCfgEnable (rix n r) = 1 then s
      else (s.logWrite tenant n ((if tenant then 0x1000 else 0x10000) + (0x80 * r + 0x08)) 4 v).ringConfigure n r v ringCfgRow := by
  have hmod : (0x80 * r + 0x08) % 0x80 = 0x08 := by omega
  have hdiv : (0x80 * r + 0x08) / 0x80 % 4 = r := by omega
  unfold State.ringWrite
  rw [ringRow_at hr (by decide), hmod, hdiv]
  rfl

theorem ringWrite_head (s : State) (tenant : Bool) (n : Nat) {r : Nat} (hr : r < 4) (v : Nat) :
    s.ringWrite tenant n (0x80 * r + 0x4C) v =
      (s.logWrite tenant n ((if tenant then 0x1000 else 0x10000) + (0x80 * r + 0x4C)) 4 v).cringHeadAt n r v := by
  have hmod : (0x80 * r + 0x4C) % 0x80 = 0x4C := by omega
  have hdiv : (0x80 * r + 0x4C) / 0x80 % 4 = r := by omega
  unfold State.ringWrite
  rw [ringRow_at hr (by decide), hmod, hdiv]
  rfl

/-- What the registers of a ring start from: the write's turn, and a record of the log. -/
structure HostTurned (s a : State) : Prop where
  units : KeepsUnits s a
  rings : a.rings = s.rings
  regs : KeepsRegs hostFlds s a

theorem hostTurned_hostTurn (s : State) (ofs : Nat) : HostTurned s (s.hostTurn ofs) := by
  refine ⟨by rw [KeepsUnits, hostTurn_eq], by rw [hostTurn_eq], fun f i hf => getI_hostTurn s ofs (fun h => hf (by rw [h]; decide)) i⟩

theorem HostTurned.logged {s a b : State} (h : HostTurned s a) (k : LogOnly a b) : HostTurned s b := by
  refine ⟨?_, by rw [k.1, h.rings], keepsRegs_trans h.regs (keepsRegs_mono (by decide) k.2)⟩
  rw [KeepsUnits, k.1, h.units]

theorem HostTurned.build {s a : State} (h : HostTurned s a) : a.build = s.build := build_of_keepsUnits h.units

/-- The end of a command that has written registers of a ring after its turn. -/
theorem HostTurned.finish {s a u : State} {fs : List Fld} (h : HostTurned s a) (hunits : KeepsUnits a u) (hregs : KeepsRegs fs a u) :
    KeepsRegs (hostFlds ++ fs) s (finishState s u) ∧ KeepsUnits s (finishState s u) := by
  refine keeps_finish (by simp [hostFlds, msgFlds]) ?_ ?_
  · rw [KeepsUnits, hunits, h.units]
  · exact fun f i hf => (hregs f i (fun hm => hf (List.mem_append_right _ hm))).trans (h.regs f i (fun hm => hf (List.mem_append_left _ hm)))

theorem HostTurned.getI_finish {s a u : State} (h : HostTurned s a) (hb : u.build = a.build) {f : Fld} (hf : f ≠ .fjMsixPbaPending) (i : Nat) :
    (finishState s u).getI f i = u.getI f i := getI_finishState (hb.trans h.build) hf i

/-- A doorbell after its record (13 R362). -/
theorem doorbellAt_turned {s a : State} (h : HostTurned s a) (ctx ring tail : Nat) :
    ∃ b, HostTurned s b ∧ a.doorbellAt ctx ring tail =
      if s.getI .ringCfgEnable (rix ctx ring) = 0 ∨ tail ≥ ringSize s (rix ctx ring) then b.setI .ringStatTailErr (rix ctx ring) 1
      else b.setI .ringTailTail (rix ctx ring) tail := by
  have hb := h.logged (logRec_only a 3 ctx 0 (ctx + 64 * ring + 256 * tail) [])
  refine ⟨_, hb, ?_⟩
  unfold State.doorbellAt
  have hsize : ringSize (a.logRec 3 ctx 0 (ctx + 64 * ring + 256 * tail) []) (rix ctx ring) = ringSize s (rix ctx ring) :=
    congrArg (fun n => 2 ^ (6 + n)) (hb.regs .ringCfgSz _ (by decide))
  rw [← hb.regs .ringCfgEnable _ (by decide), ← hsize]

theorem setI_lt_same (s : State) {f : Fld} (i : Nat) {v : Nat} (h : v < 2 ^ fldWidth f) : (s.setI f i v).getI f i = v :=
  (getI_setI_same s f i v).trans (Nat.mod_eq_of_lt h)

/-! ### RING_CFG -/

/-- A ring, started (13 R352). -/
def State.ringStarted (s : State) (ctx ring : Nat) : State :=
  ((((s.setI .ringHeadHead (rix ctx ring) 0).setI .ringTailTail (rix ctx ring) 0).setI .cringTailTail (rix ctx ring) 0).setI .cringTailPhase
    (rix ctx ring) 1).putRing (Ring.empty ctx ring)

/-- The fields of RING_CFG, written. -/
def State.ringCfgPut (s : State) (i v : Nat) : State := s.putBits [.rw] ringCfgRow.bits i v

theorem putBits_rw (s : State) {b : BitsOf} (h : (fldInfo b.fld).acc = .rw) (bits : List BitsOf) (i v : Nat) :
    s.putBits [.rw] (b :: bits) i v = (s.setI b.fld i (fieldRule s.build b.fld (s.getI b.fld i)
      (mergeBits (s.getI b.fld i) b.sh b.w (bitsOf v b.lo b.w)))).putBits [.rw] bits i v := by
  rw [State.putBits, List.foldl_cons, if_pos (by rw [h]; decide)]
  rfl

theorem mergeBits_field {s : State} {f : Fld} {i w : Nat} (hw : fldWidth f = w) (hreset : fldReset s.build f i < 2 ^ w) (v lo : Nat) :
    mergeBits (s.getI f i) 0 w (bitsOf v lo w) = v / 2 ^ lo % 2 ^ w := by
  subst hw
  rw [mergeBits_whole (getI_lt s f i hreset), bitsOf, Nat.mod_mod]

/-- A bit that is written as it comes. -/
theorem putBits_bit (s : State) {f : Fld} {i : Nat} (hacc : (fldInfo f).acc = .rw) (hw : fldWidth f = 1) (hreset : fldReset s.build f i < 2 ^ 1)
    (hrule : ∀ old v, fieldRule s.build f old v = v) (lo : Nat) (bits : List BitsOf) (v : Nat) :
    s.putBits [.rw] (⟨lo, 1, f, 0⟩ :: bits) i v = (s.setI f i (v / 2 ^ lo % 2)).putBits [.rw] bits i v := by
  rw [putBits_rw s hacc, hrule, mergeBits_field hw hreset, pow_one]

theorem ringCfgPut_eq (s : State) (i v : Nat) :
    s.ringCfgPut i v = (((s.setI .ringCfgEnable i (v % 2)).setI .ringCfgFormat i (v / 2 % 2)).setI .ringCfgSpace i (v / 4 % 2)).setI .ringCfgSz i
      (if v / 2 ^ 8 % 16 ≤ 10 then v / 2 ^ 8 % 16 else s.getI .ringCfgSz i) := by
  have hbits : s.ringCfgPut i v = s.putBits [.rw] [⟨0, 1, .ringCfgEnable, 0⟩, ⟨1, 1, .ringCfgFormat, 0⟩, ⟨2, 1, .ringCfgSpace, 0⟩, ⟨8, 4, .ringCfgSz, 0⟩] i v := rfl
  rw [hbits, putBits_bit s (f := .ringCfgEnable) rfl rfl (Nat.two_pow_pos 1) (fun _ _ => rfl),
    putBits_bit _ (f := .ringCfgFormat) rfl rfl (Nat.two_pow_pos 1) (fun _ _ => rfl),
    putBits_bit _ (f := .ringCfgSpace) rfl rfl (Nat.two_pow_pos 1) (fun _ _ => rfl), putBits_rw _ rfl]
  generalize hp : ((s.setI .ringCfgEnable i (v / 2 ^ 0 % 2)).setI .ringCfgFormat i (v / 2 ^ 1 % 2)).setI .ringCfgSpace i (v / 2 ^ 2 % 2) = p
  have hsz : p.getI .ringCfgSz i = s.getI .ringCfgSz i := by
    rw [← hp, getI_setI_other _ _ (by simp), getI_setI_other _ _ (by simp), getI_setI_other _ _ (by simp)]
  have hnew : mergeBits (p.getI .ringCfgSz i) 0 4 (bitsOf v 8 4) = v / 2 ^ 8 % 2 ^ 4 :=
    mergeBits_field (s := p) (f := .ringCfgSz) (i := i) (w := 4) rfl (Nat.two_pow_pos 4) v 8
  have hend : p = ((s.setI .ringCfgEnable i (v % 2)).setI .ringCfgFormat i (v / 2 % 2)).setI .ringCfgSpace i (v / 4 % 2) := by
    rw [← hp, pow_zero, Nat.div_one]
    rfl
  dsimp only
  rw [hnew, hsz, ← hend]
  rfl

theorem ringCfgPut_shows (s : State) (i v : Nat) :
    KeepsUnits s (s.ringCfgPut i v) ∧ (s.ringCfgPut i v).rings = s.rings ∧
      (s.ringCfgPut i v).getI .ringCfgEnable i = v % 2 ∧ (s.ringCfgPut i v).getI .ringCfgFormat i = v / 2 % 2 ∧
      (s.ringCfgPut i v).getI .ringCfgSpace i = v / 4 % 2 ∧
      (s.ringCfgPut i v).getI .ringCfgSz i = if v / 2 ^ 8 % 16 ≤ 10 then v / 2 ^ 8 % 16 else s.getI .ringCfgSz i := by
  rw [ringCfgPut_eq]
  refine ⟨rfl, rfl, ?_, ?_, ?_, ?_⟩
  · rw [getI_setI_other _ _ (by simp), getI_setI_other _ _ (by simp), getI_setI_other _ _ (by simp)]
    exact setI_lt_same s i (Nat.mod_lt _ (by decide))
  · rw [getI_setI_other _ _ (by simp), getI_setI_other _ _ (by simp)]
    exact setI_lt_same _ i (Nat.mod_lt _ (by decide))
  · rw [getI_setI_other _ _ (by simp)]
    exact setI_lt_same _ i (Nat.mod_lt _ (by decide))
  · refine setI_lt_same _ i ?_
    split
    · exact Nat.mod_lt _ (by decide)
    · exact getI_lt s .ringCfgSz i (Nat.two_pow_pos 4)

/-- The ring that RING_CFG enables (13 R352). -/
theorem ringConfigure_starts (s : State) (ctx ring : Nat) {v : Nat} (hv : v % 2 = 1) :
    s.ringConfigure ctx ring v ringCfgRow = (s.ringCfgPut (rix ctx ring) v).ringStarted ctx ring := by
  obtain ⟨-, -, henable, -⟩ := ringCfgPut_shows s (rix ctx ring) v
  exact if_pos (henable.trans hv)

theorem ringStarted_shows (s : State) (ctx ring : Nat) :
    let i := rix ctx ring
    let t := s.ringStarted ctx ring
    t.getI .ringHeadHead i = 0 ∧ t.getI .ringTailTail i = 0 ∧ t.getI .cringTailTail i = 0 ∧ t.getI .cringTailPhase i = 1 ∧
      (∀ f, f ∉ [Fld.ringHeadHead, .ringTailTail, .cringTailTail, .cringTailPhase] → t.getI f i = s.getI f i) ∧
      t.ring ctx ring = Ring.empty ctx ring ∧ t.entries = s.entries ∧ t.groups = s.groups ∧ t.build = s.build := by
  refine ⟨?_, ?_, ?_, setI_lt_same _ _ (by decide), fun f hf => ?_, ring_putRing_same _ (Ring.empty ctx ring), rfl, rfl, rfl⟩
  · exact (getI_setI_other _ _ (by simp)).trans ((getI_setI_other _ _ (by simp)).trans ((getI_setI_other _ _ (by simp)).trans (setI_lt_same s _ (by decide))))
  · exact (getI_setI_other _ _ (by simp)).trans ((getI_setI_other _ _ (by simp)).trans (setI_lt_same _ _ (by decide)))
  · exact (getI_setI_other _ _ (by simp)).trans (setI_lt_same _ _ (by decide))
  · have hset (a : State) {g : Fld} (hg : g ∈ [Fld.ringHeadHead, .ringTailTail, .cringTailTail, .cringTailPhase]) (v : Nat) :
        (a.setI g (rix ctx ring) v).getI f (rix ctx ring) = a.getI f (rix ctx ring) := getI_setI_other a v (fun e => hf (e.1 ▸ hg))
    exact (hset _ (by decide) 1).trans ((hset _ (by decide) 0).trans ((hset _ (by decide) 0).trans (hset s (by decide) 0)))

theorem ring_finishState (s u : State) (ctx ring : Nat) : (finishState s u).ring ctx ring = u.ring ctx ring := by
  rw [State.ring, finishState_rings, State.ring]

theorem HostTurned.cringSize {s a : State} (h : HostTurned s a) (i : Nat) : Machine.cringSize a i = Machine.cringSize s i :=
  congrArg (fun n => 2 ^ (6 + n)) (h.regs .cringCfgSz i (by decide))

/-- Nothing waits: the ring shows room again (13 R371). -/
theorem drainCmpl_empty {s : State} {ctx ring : Nat} (h : (s.ring ctx ring).waiting = []) :
    s.drainCmpl ctx ring = (s.setI .cringStatFull (rix ctx ring) 0).setI .ringStatCmplWait (rix ctx ring) 0 := by
  rw [State.drainCmpl, h]
  unfold drainCmplFuel
  dsimp only
  rw [h]

end Sys2Proof.Machine

namespace Sys2Proof.Proofs

open Sys2Proof.Machine Sys2Proof.Safety

/-- Settles O27: every write of a ring's register starts with the host's turn and a record of the log, and then does what the register does. -/
theorem ringRegisters : Obligations.RingRegisters := by
  intro s ctx ring v ofs h hview
  have hr : ring % 4 < 4 := Nat.mod_lt _ (by decide)
  have hv : v % 2 ^ 32 % 65536 = v % 65536 := by omega
  have hturn := hostTurned_hostTurn s ofs
  have hdoor : exec (.doorbell ctx ring v ofs) s = finish s ((s.hostTurn ofs).doorbellAt ctx (ring % 4) (v % 65536)) := by
    rw [← hv, ← ringWrite_doorbell _ (ctx != 0) ctx hr, ← ringReg_eq h hview (by decide) (by decide)]
    rfl
  have hcfg : exec (.ringEnable ctx ring v ofs) s =
      finish s ((s.hostTurn ofs).ringWrite (ctx != 0) ctx (0x80 * (ring % 4) + 0x08) (v % 2 ^ 32)) := by
    rw [← ringReg_eq h hview (by decide) (by decide)]
    rfl
  have hhead : exec (.cringHead ctx ring v ofs) s =
      finish s ((s.hostTurn ofs).ringWrite (ctx != 0) ctx (0x80 * (ring % 4) + 0x4C) (v % 2 ^ 32)) := by
    rw [← ringReg_eq h hview (by decide) (by decide)]
    rfl
  rw [ringWrite_cfg _ _ _ hr] at hcfg
  rw [ringWrite_head _ _ _ hr] at hhead
  dsimp only
  generalize ring % 4 = r at *
  obtain ⟨b, hb, hbell⟩ := doorbellAt_turned hturn ctx r (v % 65536)
  have hfixed : (s.hostTurn ofs).getI .ringCfgEnable (rix ctx r) = s.getI .ringCfgEnable (rix ctx r) := hturn.regs _ _ (by decide)
  rw [hbell] at hdoor
  rw [hfixed] at hcfg
  generalize s.hostTurn ofs = a at hturn hcfg hhead
  refine ⟨fun hon hin => ?_, fun hout => ?_, fun hon => ?_, fun hoff hbit => ?_, fun hout => ?_, fun hin hwait => ?_, fun hin => ?_⟩
  · rw [if_neg (by omega)] at hdoor
    obtain ⟨hregs, hunits⟩ := hb.finish (u := b.setI .ringTailTail (rix ctx r) (v % 65536)) rfl (keepsRegs_setI (List.mem_singleton_self _) _ _ _)
    have hget := hb.getI_finish (u := b.setI .ringTailTail (rix ctx r) (v % 65536)) rfl (f := .ringTailTail) (by decide)
    refine ⟨_, hdoor, ?_, hregs, fun j hj => ?_, hunits⟩
    · rw [hget]
      exact setI_lt_same b _ (Nat.mod_lt _ (by decide))
    · rw [hget, getI_setI_other _ _ (fun e => hj e.2.symm), hb.regs _ _ (by decide)]
  · rw [if_pos (by omega)] at hdoor
    obtain ⟨hregs, hunits⟩ := hb.finish (u := b.setI .ringStatTailErr (rix ctx r) 1) rfl (keepsRegs_setI (List.mem_singleton_self _) _ _ _)
    have hget := hb.getI_finish (u := b.setI .ringStatTailErr (rix ctx r) 1) rfl (f := .ringStatTailErr) (by decide)
    refine ⟨_, hdoor, ?_, hregs, fun j hj => ?_, hunits⟩
    · rw [hget]
      exact setI_lt_same b _ (by decide)
    · rw [hget, getI_setI_other _ _ (fun e => hj e.2.symm), hb.regs _ _ (by decide)]
  · rw [if_pos hon] at hcfg
    obtain ⟨hregs, hunits⟩ := hturn.finish (fs := []) (u := a) rfl (fun _ _ _ => rfl)
    exact ⟨_, hcfg, by simpa using hregs, hunits⟩
  · rw [if_neg (by omega)] at hcfg
    have hc := hturn.logged (logWrite_only a (ctx != 0) ctx ((if (ctx != 0) = true then 0x1000 else 0x10000) + (0x80 * r + 0x08)) 4 (v % 2 ^ 32))
    generalize a.logWrite _ _ _ _ _ = c at hc hcfg
    have hodd : v % 2 ^ 32 % 2 = 1 := by
      have : v % 2 = 1 := by simpa [bitOf] using hbit
      omega
    rw [ringConfigure_starts c ctx r hodd] at hcfg
    obtain ⟨hunits, hrings, henable, hformat, hspace, hsz⟩ := ringCfgPut_shows c (rix ctx r) (v % 2 ^ 32)
    rw [hc.regs _ _ (by decide)] at hsz
    generalize c.ringCfgPut (rix ctx r) (v % 2 ^ 32) = d at hcfg hunits hrings henable hformat hspace hsz
    obtain ⟨hhead0, htail0, hctail0, hphase1, hkeep, hempty, hentries, hgroups, hbuild⟩ := ringStarted_shows d ctx r
    have hb2 : (d.ringStarted ctx r).build = c.build := hbuild.trans (build_of_keepsUnits hunits)
    generalize d.ringStarted ctx r = u at *
    have hget (f : Fld) (hf : f ≠ .fjMsixPbaPending) := hc.getI_finish hb2 hf (rix ctx r)
    have hsz8 : v % 2 ^ 32 / 2 ^ 8 % 16 = v / 2 ^ 8 % 16 := by omega
    rw [hsz8] at hsz
    refine ⟨finishState s u, hcfg, ?_, ?_, ?_, fun hle => ?_, fun hgt => ?_, ?_, ?_, ?_, ?_, ?_, ?_, ?_⟩
    · rw [hget _ (by decide), hkeep _ (by decide), henable, hodd]
    · rw [hget _ (by decide), hkeep _ (by decide), hformat]
      omega
    · rw [hget _ (by decide), hkeep _ (by decide), hspace]
      omega
    · rw [hget _ (by decide), hkeep _ (by decide), hsz, if_pos hle]
    · rw [hget _ (by decide), hkeep _ (by decide), hsz, if_neg (Nat.not_le.mpr hgt)]
    · rw [hget _ (by decide), hhead0]
    · rw [hget _ (by decide), htail0]
    · rw [hget _ (by decide), hctail0]
    · rw [hget _ (by decide), hphase1]
    · rw [ring_finishState, hempty]
    · rw [finishState_entries, hentries, hunits, hc.units]
    · rw [finishState_groups, hgroups, hunits, hc.units]
  · have hc := hturn.logged (logWrite_only a (ctx != 0) ctx ((if (ctx != 0) = true then 0x1000 else 0x10000) + (0x80 * r + 0x4C)) 4 (v % 2 ^ 32))
    generalize a.logWrite _ _ _ _ _ = c at hc hhead
    have hsame : c.cringHeadAt ctx r (v % 2 ^ 32) = c := if_pos (by rw [hv, hc.cringSize]; exact hout)
    rw [hsame] at hhead
    obtain ⟨hregs, -⟩ := hc.finish (fs := []) (u := c) rfl (fun _ _ _ => rfl)
    refine ⟨_, hhead, ?_, by rw [finishState_rings, hc.rings], by simpa using hregs⟩
    rw [hc.getI_finish rfl (by decide), hc.regs _ _ (by decide)]
  · have hc := hturn.logged (logWrite_only a (ctx != 0) ctx ((if (ctx != 0) = true then 0x1000 else 0x10000) + (0x80 * r + 0x4C)) 4 (v % 2 ^ 32))
    generalize a.logWrite _ _ _ _ _ = c at hc hhead
    have hgo : c.cringHeadAt ctx r (v % 2 ^ 32) = (c.setI .cringHeadHead (rix ctx r) (v % 65536)).drainCmpl ctx r := by
      rw [State.cringHeadAt, if_neg (by rw [hv, hc.cringSize]; omega), hv]
    have hnone : ((c.setI .cringHeadHead (rix ctx r) (v % 65536)).ring ctx r).waiting = [] := by
      rw [State.ring, State.setI_rings, hc.rings]
      exact hwait
    rw [hgo, drainCmpl_empty hnone] at hhead
    let d := c.setI .cringHeadHead (rix ctx r) (v % 65536)
    have hkeep : KeepsRegs [.cringHeadHead, .cringStatFull, .ringStatCmplWait] c
        ((d.setI .cringStatFull (rix ctx r) 0).setI .ringStatCmplWait (rix ctx r) 0) :=
      keepsRegs_trans (keepsRegs_trans (keepsRegs_setI (by decide) c _ _) (keepsRegs_setI (by decide) d _ _)) (keepsRegs_setI (by decide) _ _ _)
    obtain ⟨hregs, -⟩ := hc.finish (u := (d.setI .cringStatFull (rix ctx r) 0).setI .ringStatCmplWait (rix ctx r) 0) rfl hkeep
    have hget (f : Fld) (hf : f ≠ .fjMsixPbaPending) :=
      hc.getI_finish (u := (d.setI .cringStatFull (rix ctx r) 0).setI .ringStatCmplWait (rix ctx r) 0) rfl hf (rix ctx r)
    refine ⟨_, hhead, ?_, ?_, ?_, hregs⟩
    · rw [hget _ (by decide), getI_setI_other _ _ (by simp), getI_setI_other _ _ (by simp)]
      exact setI_lt_same c _ (Nat.mod_lt _ (by decide))
    · rw [hget _ (by decide), getI_setI_other _ _ (by simp)]
      exact setI_lt_same d _ (by decide)
    · rw [hget _ (by decide)]
      exact setI_lt_same _ _ (by decide)
  · have hc := hturn.logged (logWrite_only a (ctx != 0) ctx ((if (ctx != 0) = true then 0x1000 else 0x10000) + (0x80 * r + 0x4C)) 4 (v % 2 ^ 32))
    generalize a.logWrite _ _ _ _ _ = c at hc hhead
    have hgo : c.cringHeadAt ctx r (v % 2 ^ 32) = (c.setI .cringHeadHead (rix ctx r) (v % 65536)).drainCmpl ctx r := by
      rw [State.cringHeadAt, if_neg (by rw [hv, hc.cringSize]; omega), hv]
    rw [hgo] at hhead
    refine ⟨_, hhead, setI_lt_same c _ (Nat.mod_lt _ (by decide)), hc.rings, fun f i hf => ?_⟩
    exact (keepsRegs_setI (fs := [.cringHeadHead]) (by decide) c _ _ f i (fun hm => hf (List.mem_append_right _ hm))).trans
      (hc.regs f i (fun hm => hf (List.mem_append_left _ hm)))

end Sys2Proof.Proofs
end

section
/-! Entries are fetched, and groups close (13 R361 to R363, 02 R65, R67). -/
namespace Sys2Proof.Machine

open Safety

/-- The bookkeeping of groups: no entry, no register and no OWN wait changes, and every group lives on with its step. -/
structure GroupTurn (s t : State) : Prop where
  entries : t.entries = s.entries
  regs : t.regs = s.regs
  build : t.build = s.build
  own : ∀ c r, (t.ring c r).ownSince = (s.ring c r).ownSince
  groups : ∀ g ∈ s.groups, ∃ h ∈ t.groups, h.gid = g.gid ∧ h.step = g.step

theorem GroupTurn.refl (s : State) : GroupTurn s s := ⟨rfl, rfl, rfl, fun _ _ => rfl, fun g hg => ⟨g, hg, rfl, rfl⟩⟩

theorem GroupTurn.trans {s t u : State} (h : GroupTurn s t) (k : GroupTurn t u) : GroupTurn s u := by
  refine ⟨k.entries.trans h.entries, k.regs.trans h.regs, k.build.trans h.build, fun c r => (k.own c r).trans (h.own c r), fun g hg => ?_⟩
  obtain ⟨g1, hg1, hgid1, hstep1⟩ := h.groups g hg
  obtain ⟨g2, hg2, hgid2, hstep2⟩ := k.groups g1 hg1
  exact ⟨g2, hg2, hgid2.trans hgid1, hstep2.trans hstep1⟩

theorem mem_replaceFirst {α : Type} (p : α → Bool) (f : α → α) {a : α} {l : List α} (h : a ∈ l) : a ∈ replaceFirst p f l ∨ f a ∈ replaceFirst p f l := by
  induction l with
  | nil => contradiction
  | cons b t ih =>
    rw [replaceFirst]
    cases List.mem_cons.mp h with
    | inl hab =>
      subst hab
      split
      · exact .inr List.mem_cons_self
      · exact .inl List.mem_cons_self
    | inr hat =>
      split
      · exact .inl (List.mem_cons_of_mem _ hat)
      · exact (ih hat).imp (List.mem_cons_of_mem _) (List.mem_cons_of_mem _)

theorem groupTurn_modGroup (s : State) (gid : Nat) {f : Group → Group} (hf : ∀ g, (f g).gid = g.gid ∧ (f g).step = g.step) :
    GroupTurn s (s.modGroup gid f) := by
  refine ⟨rfl, rfl, rfl, fun _ _ => rfl, fun g hg => ?_⟩
  rcases mem_replaceFirst (fun g => g.gid == gid) f hg with hin | hin
  · exact ⟨g, hin, rfl, rfl⟩
  · exact ⟨f g, hin, (hf g).1, (hf g).2⟩

theorem ring_putRing (s : State) (x : Ring) (c r : Nat) : (s.putRing x).ring c r = if x.ctx = c ∧ x.ring = r then x else s.ring c r := by
  split
  · next h =>
    obtain ⟨rfl, rfl⟩ := h
    exact ring_putRing_same s x
  · next h => exact ring_putRing_other s x h

/-- A ring's open group, named anew. -/
def State.nameOpen (s : State) (ctx ring : Nat) (o : Option Nat) : State := s.putRing { s.ring ctx ring with openGid := o }

theorem ring_nameOpen (s : State) (ctx ring : Nat) (o : Option Nat) (c r : Nat) :
    (s.nameOpen ctx ring o).ring c r = if ctx = c ∧ ring = r then { s.ring c r with openGid := o } else s.ring c r := by
  obtain ⟨hctx, hring⟩ := ring_names s ctx ring
  rw [State.nameOpen, ring_putRing]
  dsimp only
  rw [hctx, hring]
  split
  · next h =>
    obtain ⟨rfl, rfl⟩ := h
    rw [hctx, hring]
  · rfl

theorem groupTurn_nameOpen (s : State) (ctx ring : Nat) (o : Option Nat) : GroupTurn s (s.nameOpen ctx ring o) := by
  refine ⟨rfl, rfl, rfl, fun c r => ?_, fun g hg => ⟨g, hg, rfl, rfl⟩⟩
  rw [ring_nameOpen]
  split <;> rfl

/-- A group, closed now, under the smallest nonzero deadline of its entries (02 R65, R67). -/
def closeAt (s : State) (gid : Nat) (g : Group) : Group :=
  { g with
    stage := .closed, closeTick := s.now,
    deadline := minNonzero ((s.entries.filter (fun e => e.gid == gid)).map (fun e => promiseOf e.desc)) }

def State.groupClosed (s : State) (g : Group) (gid : Nat) : State := (s.modGroup gid (closeAt s gid)).nameOpen g.ctx g.ring none

theorem closeGroup_eq {s : State} {gid : Nat} {g : Group} (h : s.findGroup gid = some g) (hopen : g.stage = .opened) :
    s.closeGroup gid = s.groupClosed g gid := by
  unfold State.closeGroup
  rw [h]
  dsimp only
  rw [if_neg (by simp [hopen])]
  rfl

theorem groupTurn_closeGroup (s : State) (gid : Nat) : GroupTurn s (s.closeGroup gid) := by
  cases h : s.findGroup gid with
  | none =>
    rw [State.closeGroup, h]
    exact .refl s
  | some g =>
    by_cases hopen : g.stage = .opened
    · rw [closeGroup_eq h hopen]
      unfold State.groupClosed
      refine .trans (groupTurn_modGroup s gid ?_) (groupTurn_nameOpen _ _ _ _)
      exact fun _ => ⟨rfl, rfl⟩
    · rw [State.closeGroup, h]
      dsimp only
      rw [if_pos hopen]
      exact .refl s

theorem groupTurn_closeOpen (s : State) (ctx ring : Nat) : GroupTurn s (s.closeOpen ctx ring) := by
  unfold State.closeOpen
  split
  · exact groupTurn_closeGroup s _
  · exact .refl s

theorem groupTurn_nextUid (s : State) : GroupTurn s s.nextUid := ⟨rfl, rfl, rfl, fun _ _ => rfl, fun g hg => ⟨g, hg, rfl, rfl⟩⟩

theorem groupTurn_addGroup (s : State) (g : Group) : GroupTurn s { s with groups := s.groups ++ [g] } :=
  ⟨rfl, rfl, rfl, fun _ _ => rfl, fun x hx => ⟨x, List.mem_append_left _ hx, rfl, rfl⟩⟩

theorem groupTurn_ite {s a b : State} {p : Prop} [Decidable p] (ha : GroupTurn s a) (hb : GroupTurn s b) : GroupTurn s (if p then a else b) := by
  split <;> assumption

/-- The group that an entry joins: the open one of its ring, or a new one. -/
def State.groupFor (s : State) (e : Entry) : Nat × State :=
  let alone := e.desc.v1 || isSync e.desc.opcode || e.desc.step == noStep
  let open_ := match (s.ring e.ctx e.ring).openGid with | some g => s.findGroup g | none => none
  let fits := match open_ with | some g => !alone && g.step == e.desc.step | none => false
  let s1 := if fits then s else s.closeOpen e.ctx e.ring
  let gid := match open_, fits with | some g, true => g.gid | _, _ => s1.uid
  (gid, if fits then s1 else
    let t := s1.nextUid
    let t1 : State := { t with groups := t.groups ++ [Group.fresh gid e.ctx e.ring e.desc.step] }
    t1.nameOpen e.ctx e.ring (some gid))

/-- The entry in its group. -/
def State.joined (s : State) (e : Entry) (gid now : Nat) : State :=
  let s3 := { s with entries := s.entries ++ [{ e with gid := gid }] }
  let s4 := s3.modGroup gid (fun g => { g with count := g.count + 1, lastFetch := now })
  let full : Bool := match s4.findGroup gid with | some g => decide (g.count ≥ 256) | none => false
  if (e.desc.v1 || isSync e.desc.opcode || e.desc.step == noStep) ∨ e.desc.flags.groupEnd ∨ full then s4.closeGroup gid else s4

theorem joinGroup_eq (s : State) (e : Entry) : s.joinGroup e = (s.groupFor e).2.joined e (s.groupFor e).1 s.now := rfl

theorem groupFor_shows (s : State) (e : Entry) :
    GroupTurn s (s.groupFor e).2 ∧ ∃ g ∈ (s.groupFor e).2.groups, g.gid = (s.groupFor e).1 ∧ g.step = e.desc.step := by
  unfold State.groupFor
  extract_lets alone open_ fits s1 gid t t1
  by_cases hfits : fits = true
  · have hs1 : s1 = s := if_pos hfits
    rw [if_pos hfits, hs1]
    refine ⟨.refl s, ?_⟩
    cases hopen : open_ with
    | none => simp [fits, hopen] at hfits
    | some g =>
      have hgid : gid = g.gid := by simp only [gid, hopen, hfits]
      have hstep : g.step = e.desc.step := by
        simp only [fits, hopen, Bool.and_eq_true, beq_iff_eq] at hfits
        exact hfits.2
      have hmem : g ∈ s.groups := by
        simp only [open_] at hopen
        split at hopen
        · exact List.mem_of_find?_eq_some hopen
        · cases hopen
      exact ⟨g, hmem, hgid.symm, hstep⟩
  · have hs1 : s1 = s.closeOpen e.ctx e.ring := if_neg hfits
    rw [if_neg hfits]
    have h1 : GroupTurn s s1 := hs1 ▸ groupTurn_closeOpen s _ _
    refine ⟨?_, ⟨Group.fresh gid e.ctx e.ring e.desc.step, List.mem_append_right _ (List.mem_singleton_self _), rfl, rfl⟩⟩
    exact ((h1.trans (groupTurn_nextUid _)).trans (groupTurn_addGroup _ _)).trans (groupTurn_nameOpen _ _ _ _)

theorem joined_shows (s : State) (e : Entry) (gid now : Nat) :
    (s.joined e gid now).entries = s.entries ++ [{ e with gid := gid }] ∧ (s.joined e gid now).regs = s.regs ∧
      (s.joined e gid now).build = s.build ∧ (∀ c r, ((s.joined e gid now).ring c r).ownSince = (s.ring c r).ownSince) ∧
      ∀ g ∈ s.groups, ∃ h ∈ (s.joined e gid now).groups, h.gid = g.gid ∧ h.step = g.step := by
  unfold State.joined
  extract_lets s3 s4 full
  have h4 : GroupTurn s3 s4 := groupTurn_modGroup s3 gid (fun _ => ⟨rfl, rfl⟩)
  have hend : GroupTurn s3 (if (e.desc.v1 || isSync e.desc.opcode || e.desc.step == noStep) ∨ e.desc.flags.groupEnd ∨ full then s4.closeGroup gid else s4) :=
    groupTurn_ite (h4.trans (groupTurn_closeGroup s4 gid)) h4
  exact ⟨hend.entries, hend.regs, hend.build, hend.own, hend.groups⟩

/-! ### The fetch -/

/-- The entry that a fetch makes (13 R361). -/
def State.fetchedEntry (s : State) (ctx ring n uid : Nat) (b : Bytes) : Entry :=
  let p := readEntry s (rix ctx ring) b
  {
    uid := uid, ctx := ctx, ring := ring, gid := 0, desc := (if p.2.isSome then { p.1.bare with slots := n } else { p.1 with slots := n }),
    bad := p.2.map (fun o => (stMalformed, o)), stage := .fetched, res := Result.ok, checked := s.now }

/-- The ring and the log after a fetch. -/
def State.slotsTaken (s : State) (ctx ring n : Nat) (b : Bytes) : State :=
  let i := rix ctx ring
  let head := s.getI .ringHeadHead i
  let s1 := s.putRing { s.ring ctx ring with ownSince := none }
  let s2 := (List.range n).foldl (fun a k => a.clearOwn ctx i (head + k)) s1
  let s3 := ((s2.setI .ringHeadHead i ((head + n) % ringSize s i)).bumpI .ringEntriesCount i 1).setI .ringStatOwnWait i 0
  s3.logRec 12 ctx ring (ctx + 64 * ring + 2 ^ 8 * head + 2 ^ 24 * (n - 1) + 2 ^ 32 * crc32c b) []

theorem takeEntry_eq {s : State} {ctx ring : Nat} {b : Bytes} (hown : bitOf (fieldAt b 0 1) 7 = true)
    (hcov : slotsOf s (rix ctx ring) b ≤ covered s (rix ctx ring)) (hserve : s.flag .patStatOutOfService = false) :
    s.takeEntry ctx ring b =
      (s.slotsTaken ctx ring (slotsOf s (rix ctx ring) b) (sliceZ b 0 (32 * slotsOf s (rix ctx ring) b))).nextUid.joinGroup
        (s.fetchedEntry ctx ring (slotsOf s (rix ctx ring) b)
          (s.slotsTaken ctx ring (slotsOf s (rix ctx ring) b) (sliceZ b 0 (32 * slotsOf s (rix ctx ring) b))).uid
          (sliceZ b 0 (32 * slotsOf s (rix ctx ring) b))) := by
  unfold State.takeEntry
  dsimp only
  rw [if_neg (by simp [hown]), if_neg (Nat.not_lt.mpr hcov), if_neg (by simp [hserve])]
  rfl

theorem beatsOnly_foldl {α : Type} (l : List α) (g : State → α → State) (h : ∀ s a, BeatsOnly s (g s a)) (s : State) : BeatsOnly s (l.foldl g s) := by
  induction l generalizing s with
  | nil => rfl
  | cons a l ih => exact (h s a).trans (ih _)

theorem beatsOnly_clearOwn (s : State) (ctx i k : Nat) : BeatsOnly s (s.clearOwn ctx i k) := by
  unfold State.clearOwn
  extract_lets a
  split
  · exact beatsOnly_fabWrite _ _ _ _ _ _
  · rfl

theorem getI_bumpI_same (s : State) (f : Fld) (i n : Nat) : (s.bumpI f i n).getI f i = satAdd (fldWidth f) (s.getI f i) n := by
  have hlt : satAdd (fldWidth f) (s.getI f i) n < 2 ^ fldWidth f :=
    lt_of_le_of_lt (Nat.min_le_right _ _) (Nat.sub_one_lt (Nat.two_pow_pos _).ne')
  exact (getI_setI_same s f i _).trans (Nat.mod_eq_of_lt hlt)

theorem slotsTaken_shows (s : State) (ctx ring n : Nat) (b : Bytes) :
    (s.slotsTaken ctx ring n b).getI .ringHeadHead (rix ctx ring) =
        (s.getI .ringHeadHead (rix ctx ring) + n) % ringSize s (rix ctx ring) % 2 ^ 16 ∧
      (s.slotsTaken ctx ring n b).getI .ringEntriesCount (rix ctx ring) = satAdd 32 (s.getI .ringEntriesCount (rix ctx ring)) 1 ∧
      ((s.slotsTaken ctx ring n b).ring ctx ring).ownSince = none ∧ (s.slotsTaken ctx ring n b).entries = s.entries ∧
      (s.slotsTaken ctx ring n b).build = s.build := by
  unfold State.slotsTaken
  extract_lets i head r0 s1 s2 s3
  have hring1 : (s1.ring ctx ring).ownSince = none := by
    obtain ⟨hctx, hring⟩ := ring_names s ctx ring
    have : s1.ring ctx ring = { s.ring ctx ring with ownSince := none } := by
      rw [ring_putRing]
      exact if_pos ⟨hctx, hring⟩
    rw [this]
  have h2 : BeatsOnly s1 s2 := beatsOnly_foldl _ _ (fun a k => beatsOnly_clearOwn a ctx i (head + k)) s1
  have hregs2 : KeepsRegs [] s s2 := keepsRegs_of_regs (by rw [h2]; rfl) (by rw [h2]; rfl)
  have hlog := logRec_only s3 12 ctx ring (ctx + 64 * ring + 2 ^ 8 * head + 2 ^ 24 * (n - 1) + 2 ^ 32 * crc32c b) []
  refine ⟨?_, ?_, ?_, ?_, ?_⟩
  · rw [hlog.2 _ _ (by decide), getI_setI_other _ _ (by simp), State.bumpI, getI_setI_other _ _ (by simp), getI_setI_same]
    rfl
  · rw [hlog.2 _ _ (by decide), getI_setI_other _ _ (by simp), getI_bumpI_same, getI_setI_other _ _ (by simp), hregs2 _ _ List.not_mem_nil]
    rfl
  · have hrings : (s3.logRec 12 ctx ring (ctx + 64 * ring + 2 ^ 8 * head + 2 ^ 24 * (n - 1) + 2 ^ 32 * crc32c b) []).rings = s1.rings := by
      rw [hlog.1]
      show s2.rings = s1.rings
      rw [h2]
    rw [State.ring, hrings]
    exact hring1
  · rw [hlog.1]
    show s2.entries = s.entries
    rw [h2]
    rfl
  · rw [hlog.1]
    show s2.build = s.build
    rw [h2]
    rfl

theorem fetchedEntry_slots (s : State) (ctx ring n uid : Nat) (b : Bytes) : (s.fetchedEntry ctx ring n uid b).desc.slots = n := by
  unfold State.fetchedEntry
  dsimp only
  split <;> rfl

end Sys2Proof.Machine

namespace Sys2Proof.Proofs

open Sys2Proof.Machine Sys2Proof.Safety

/-- Settles O28: the three outcomes of a fetch, and the closing of the group that `findGroup` finds. -/
theorem entriesAndGroups : Obligations.EntriesAndGroups := by
  unfold Obligations.EntriesAndGroups
  refine ⟨fun s ctx ring b hfetch c hc => ?_, fun s ctx ring gid g hopen hg hstage hdue hup => ?_⟩
  · have hexec : exec c s = finish s (s.takeEntry ctx ring b) := by
      rcases hc with ⟨rfl, hown⟩ | ⟨rfl, hown⟩
      · exact if_pos ⟨hfetch, hown⟩
      · exact if_pos ⟨hfetch, Option.isSome_iff_ne_none.mpr hown⟩
    refine ⟨_, hexec, fun hown => ?_, fun hown hcov => ?_, fun hown hcov hserve => ?_⟩
    · obtain ⟨hctx, hring⟩ := ring_names s ctx ring
      have htake : s.takeEntry ctx ring b = s.putRing { s.ring ctx ring with ownSince := some ((s.ring ctx ring).ownSince.getD s.now) } :=
        if_pos (by simp [hown])
      rw [htake, ring_finishState, ring_putRing, if_pos ⟨hctx, hring⟩, finishState_entries]
      exact ⟨rfl, rfl, keepsRegs_finishState (by decide) rfl (keepsRegs_of_regs rfl rfl)⟩
    · have htake : s.takeEntry ctx ring b = s := (if_neg (by simp [hown])).trans (if_pos hcov)
      rw [htake]
      exact ⟨keepsRegs_finishState (by decide) rfl (keepsRegs_refl _ _), keepsAll_finishState rfl⟩
    · rw [takeEntry_eq hown hcov hserve, joinGroup_eq]
      generalize hn : slotsOf s (rix ctx ring) b = n
      obtain ⟨hhead, hcount, hsince, hentries, hbuild⟩ := slotsTaken_shows s ctx ring n (sliceZ b 0 (32 * n))
      generalize s.slotsTaken ctx ring n (sliceZ b 0 (32 * n)) = a at hhead hcount hsince hentries hbuild
      generalize he : s.fetchedEntry ctx ring n a.uid (sliceZ b 0 (32 * n)) = e
      obtain ⟨hturn, g, hg, hgid, hstep⟩ := groupFor_shows a.nextUid e
      have hturn' := (groupTurn_nextUid a).trans hturn
      generalize a.nextUid.groupFor e = p at hturn' hg hgid
      obtain ⟨hjentries, hjregs, hjbuild, hjown, hjgroups⟩ := joined_shows p.2 e p.1 a.nextUid.now
      generalize p.2.joined e p.1 a.nextUid.now = u at hjentries hjregs hjbuild hjown hjgroups
      have hub : u.build = s.build := hjbuild.trans (hturn'.build.trans hbuild)
      have hget (f : Fld) (i : Nat) (hf : f ≠ .fjMsixPbaPending) : (finishState s u).getI f i = a.getI f i :=
        (getI_finishState hub hf i).trans (keepsRegs_of_regs (fs := []) (hjbuild.trans hturn'.build) (hjregs.trans hturn'.regs) f i List.not_mem_nil)
      obtain ⟨h, hh, hhgid, hhstep⟩ := hjgroups g hg
      refine ⟨(hget _ _ (by decide)).trans hhead, (hget _ _ (by decide)).trans hcount, ?_, { e with gid := p.1 }, ?_, ?_, ?_, ?_, ?_, ?_, ?_, ?_⟩
      · rw [ring_finishState, hjown, hturn'.own, hsince]
      · rw [finishState_entries, hjentries, hturn'.entries, hentries]
      · rw [← he]
        rfl
      · rw [← he]
        rfl
      · rw [← he]
        rfl
      · rw [← he]
        rfl
      · rw [← he]
        exact fetchedEntry_slots s ctx ring n a.uid _
      · rw [finishState_groups]
        exact ⟨h, hh, hhgid.trans hgid, hhstep.trans hstep⟩
      · rw [← he]
        exact Option.map_eq_none_iff
  · have hexec : exec (.groupCloseTimeout ctx ring) s = finish s (s.closeGroup gid) := by
      show execGroupCloseTimeout ctx ring s = _
      unfold execGroupCloseTimeout
      rw [hopen]
      dsimp only
      rw [hg]
      exact if_pos ⟨hdue, by simp [hup]⟩
    rw [closeGroup_eq hg hstage] at hexec
    have hfind (h : Nat) : (finishState s (s.groupClosed g gid)).findGroup h = (s.groupClosed g gid).findGroup h := by
      rw [State.findGroup, finishState_groups, State.findGroup]
    refine ⟨_, hexec, ?_, ?_, fun h hh => ?_, ?_, ?_⟩
    · rw [hfind]
      have := find?_replaceFirst_same (fun x : Group => x.gid == gid) (f := closeAt s gid) (fun _ => rfl) s.groups
      exact this.trans (by rw [show s.groups.find? (fun x => x.gid == gid) = some g from hg]; rfl)
    · rw [ring_finishState, State.groupClosed, ring_nameOpen, if_pos ⟨rfl, rfl⟩]
    · rw [hfind]
      exact find?_replaceFirst (fun x : Group => x.gid == gid) (fun x : Group => x.gid == h) (f := closeAt s gid) (fun _ => rfl)
        (fun x hx => by simp only [beq_iff_eq] at hx; simp [hx, Ne.symm hh]) s.groups
    · rw [finishState_entries]
      rfl
    · exact keepsRegs_finishState (by decide) rfl (keepsRegs_of_regs rfl rfl)

end Sys2Proof.Proofs
end

section
/-! The halt after a save keeps the exhausted flags of the key slots. -/
namespace Sys2Proof.Machine

/-- The hold-up of a save that has been written twice. -/
def writtenTwice : Holdup := ⟨0, 0, 0, 0, [], 0, 0, true, false⟩

/-- Hold-up with a saved record being read back for the second time, and a key slot that has used up its counters. -/
def savedOnce : State :=
  { exhaustedKey with holdup := some writtenTwice, nvm := [⟨.read, 0, 0, [], .save⟩] }

theorem nvmReadDone_keeps_exhaustedKey : leaves (fun t => !t.keys.isEmpty) (exec (.nvmReadDone []) savedOnce) = true := by decide +kernel

end Sys2Proof.Machine

namespace Sys2Proof.Proofs

open Sys2Proof.Machine Sys2Proof.Safety

/-- Refutes O54: the halt at the end of a save leaves no key slot, says the statement, but `State.halt` keeps the slot of `savedOnce`, empty
and marked exhausted. -/
theorem not_nvmAndFirmware : ¬ Obligations.NvmAndFirmware := by
  unfold Obligations.NvmAndFirmware
  rintro ⟨⟨hread, -⟩, -⟩
  obtain ⟨-, -, hsave⟩ := hread savedOnce ⟨.read, 0, 0, [], .save⟩ [] [] rfl rfl
  obtain ⟨t, ht, -, hkeys, -⟩ := (hsave writtenTwice rfl rfl).1 (.inr rfl)
  have hkept := of_leaves nvmReadDone_keeps_exhaustedKey ht
  rw [hkeys] at hkept
  cases hkept

end Sys2Proof.Proofs
end

section
/-! A RELEASE in phase 0 outside BOOT. -/
namespace Sys2Proof.Machine

open Safety

/-- ACTIVE with the barrier's phase 0 still shown: the package at place 1, with the one at place 0 as the coordinator. -/
def activeInPhase0 : State :=
  { lockedIdle with boot := { lockedIdle.boot with stage := .phase0 }, regs := lockedIdle.regs ++ [⟨.fjPosInst, 0, 1⟩, ⟨.fjPosPresent, 0, 3⟩] }

theorem release_moves_activeInPhase0 :
    leaves (fun t => t.boot.stage == .phase1) (exec (.release 0 0) activeInPhase0) = true := by decide +kernel

end Sys2Proof.Machine

namespace Sys2Proof.Proofs

open Sys2Proof.Machine Sys2Proof.Safety

/-- Refutes O52: outside BOOT the packets of the barrier are ignored, says the statement, but RELEASE looks at the stage alone, and moves
`activeInPhase0` to phase 1. -/
theorem not_startBarrier : ¬ Obligations.StartBarrier := by
  unfold Obligations.StartBarrier
  intro h
  obtain ⟨hout, -⟩ := h activeInPhase0 0 0 0
  obtain ⟨t, ht, hkeeps, -⟩ := hout (by decide +kernel) (.release 0 0) (by simp)
  have hmoved := of_leaves release_moves_activeInPhase0 ht
  have hstage : t.boot.stage = activeInPhase0.boot.stage := by rw [hkeeps]
  rw [hstage] at hmoved
  exact absurd hmoved (by decide +kernel)

end Sys2Proof.Proofs
end

section
/-! NOP and FENCE: the start of an entry does not change what is earlier than it. -/
namespace Sys2Proof.Machine

open Safety

theorem replaceFirst_replaceFirst {α : Type} (p : α → Bool) {f g h : α → α} (hf : ∀ a, p (f a) = p a) (hfg : ∀ a, g (f a) = h a) (l : List α) :
    replaceFirst p g (replaceFirst p f l) = replaceFirst p h l := by
  induction l with
  | nil => rfl
  | cons a t ih =>
    rw [replaceFirst, replaceFirst]
    cases hp : p a with
    | true => rw [if_pos rfl, if_pos rfl, replaceFirst, hf, hp, if_pos rfl, hfg]
    | false => rw [if_neg Bool.false_ne_true, if_neg Bool.false_ne_true, replaceFirst, hp, if_neg Bool.false_ne_true, ih]

/-- What lies on the entry's ring before it. -/
theorem earlier_started (s : State) (e : Entry) : (started s e).earlier e = s.earlier e := by
  show ((replaceFirst (fun x : Entry => x.uid == e.uid) (fun x => { x with stage := .running }) s.entries).filter _).takeWhile _ =
    (s.entries.filter _).takeWhile _
  induction s.entries with
  | nil => rfl
  | cons a t ih =>
    rw [replaceFirst]
    cases hu : a.uid == e.uid with
    | true =>
      rw [if_pos rfl, List.filter_cons, List.filter_cons]
      split
      · rw [List.takeWhile_cons, List.takeWhile_cons]
        simp [bne, hu]
      · rfl
    | false =>
      rw [if_neg Bool.false_ne_true, List.filter_cons, List.filter_cons]
      split
      · rw [List.takeWhile_cons, List.takeWhile_cons, ih]
      · exact ih

theorem fenceDone_started (s : State) (e : Entry) : fenceDone (started s e) e = fenceDone s e := by
  rw [fenceDone, earlier_started, fenceDone]

end Sys2Proof.Machine

namespace Sys2Proof.Proofs

open Sys2Proof.Machine Sys2Proof.Safety

/-- Settles O31: both bodies are the end of the entry, or its block. -/
theorem nopAndFence : Obligations.NopAndFence := by
  unfold Obligations.NopAndFence
  intro s ctx ring e v1
  refine ⟨fun h => ?_, fun h => ?_⟩
  · have hexec : exec (if v1 then .v1Nop ctx ring else .nop ctx ring) s = .next (finishState s (nopBody e (started s e))) := by
      cases v1
      · exact startEntry_of_starts h "NOP" nopBody
      · exact startEntry_of_starts h "V1_NOP" nopBody
    have hend := endEntry_only (started s e) e.uid { Result.ok with step := e.desc.step }
    refine ⟨hexec, ended_endEntry _ _ _, _, hexec, ?_, ?_, ?_, ?_, ?_⟩
    · rw [finishState_jobs, nopBody, hend.1]
      rfl
    · rw [finishState_guard, nopBody, hend.1]
      rfl
    · rw [finishState_words, nopBody, hend.1]
      rfl
    · rw [finishState_keys, nopBody, hend.1]
      rfl
    · exact keepsRegs_finishState (by decide) (by rw [nopBody, hend.1]; rfl) hend.2
  · have hexec : exec (if v1 then .v1Fence ctx ring else .fence ctx ring) s = .next (finishState s (fenceBody e (started s e))) := by
      cases v1
      · exact startEntry_of_starts h "FENCE" fenceBody
      · exact startEntry_of_starts h "V1_FENCE" fenceBody
    rw [hexec, fenceBody, fenceDone_started]
    refine ⟨fun hdone => by rw [if_pos hdone], fun hdone => ?_⟩
    rw [if_neg (by simp [hdone])]
    refine ⟨_, rfl, ?_, keepsRegs_finishState (by decide) rfl (keepsRegs_of_regs rfl rfl), ?_⟩
    · rw [finishState_entries]
      exact replaceFirst_replaceFirst (f := fun x : Entry => { x with stage := .running }) _ (fun _ => rfl) (fun _ => rfl) s.entries
    · rw [KeepsAll, finishState_eq]
      rfl

end Sys2Proof.Proofs
end

section
/-! What a completion writes, and where (13 R370 to R372, 15 R406). -/
namespace Sys2Proof.Machine

open Safety

/-- A beat has gone out on the write channel of its address, or waits. -/
def BeatShown (chan addr : Nat) (d : Bytes) (be : Nat) (t : State) : Prop :=
  (∃ id, Out.fabWrite chan id addr d be ∈ t.out) ∨ ∃ w ∈ t.pendWr, w.addr = addr ∧ w.data = d ∧ w.be = be

theorem mem_pendInsert (w : PendWr) (l : List PendWr) (x : PendWr) : x ∈ pendInsert w l ↔ x = w ∨ x ∈ l := by
  unfold pendInsert
  split
  · cases hx : x.promised <;> simp [hx]
    exact or_comm.trans Iff.rfl
  · simp [or_comm]

theorem beatShown_fabOffer (s : State) (w : PendWr) : BeatShown (memChan s w.addr % 8) w.addr w.data w.be (s.fabOffer w) := by
  unfold State.fabOffer
  split
  · exact .inl ⟨s.freeWriteId, by simp [State.fabBeat, writeOut]⟩
  · exact .inr ⟨w, (mem_pendInsert _ _ _).mpr (.inl rfl), rfl, rfl, rfl⟩

theorem BeatShown.fabOffer {c a : Nat} {d : Bytes} {be : Nat} {t : State} (h : BeatShown c a d be t) (w : PendWr) : BeatShown c a d be (t.fabOffer w) := by
  unfold State.fabOffer
  rcases h with ⟨id, hid⟩ | ⟨x, hx, hxw⟩
  · split
    · exact .inl ⟨id, List.mem_append_left _ hid⟩
    · exact .inl ⟨id, hid⟩
  · split
    · exact .inr ⟨x, hx, hxw⟩
    · exact .inr ⟨x, (mem_pendInsert _ _ _).mpr (.inr hx), hxw⟩

theorem beatShown_fabWrite (s : State) (job : Nat) (use : XUse) (addr : Nat) (data : Bytes) (promised : Bool) :
    ∀ b ∈ beatsOf addr data, BeatShown (memChan s b.1 % 8) b.1 b.2.1 b.2.2 (s.fabWrite job use addr data promised) := by
  unfold State.fabWrite
  generalize beatsOf addr data = l
  have hkept {c a : Nat} {d : Bytes} {be : Nat} (l : List (Nat × Bytes × Nat)) (s : State) (h : BeatShown c a d be s) :
      BeatShown c a d be (l.foldl (fun a (ad, d, be) => a.fabOffer ⟨job, use, ad, d, be, promised⟩) s) := by
    induction l generalizing s with
    | nil => exact h
    | cons x t ih => exact ih _ (h.fabOffer _)
  induction l generalizing s with
  | nil => exact fun b hb => absurd hb List.not_mem_nil
  | cons x t ih =>
    intro b hb
    have hchan : memChan (s.fabOffer ⟨job, use, x.1, x.2.1, x.2.2, promised⟩) b.1 = memChan s b.1 := by
      rw [memChan, beatsOnly_fabOffer s, memChan]
    cases List.mem_cons.mp hb with
    | inl h =>
      rw [h]
      exact hkept t _ (beatShown_fabOffer s _)
    | inr h =>
      rw [← hchan]
      exact ih _ b h

/-- The ring's place after a completion: the tail one on, and the phase turned where it wraps. -/
def State.tailOn (s : State) (i n t : Nat) : State :=
  if t + 1 = n then (s.setI .cringTailTail i ((t + 1) % n)).setI .cringTailPhase i (1 - (s.setI .cringTailTail i ((t + 1) % n)).getI .cringTailPhase i)
  else s.setI .cringTailTail i ((t + 1) % n)

/-- The completion's bytes on their way. -/
def State.cmplSent (s : State) (c : Cmpl) : State :=
  let i := rix c.ctx c.ring
  let a := s.getI .cringBaseBase i + 32 * s.getI .cringTailTail i
  if s.getI .cringCfgSpace i = 1 then s.fabWrite 0 .side a (c.bytes s) c.promised else s.send (.hostWrite c.ctx a (c.bytes s))

theorem tailOn_only (s : State) (i n t : Nat) : s.tailOn i n t = { s with regs := (s.tailOn i n t).regs } := by
  unfold State.tailOn
  split <;> rfl

theorem writeCmpl_shows (s : State) (c : Cmpl) :
    (s.writeCmpl c).pendWr = (s.cmplSent c).pendWr ∧
      (∃ ms, (s.writeCmpl c).out = (s.cmplSent c).out ++ ms ∧ ∀ o ∈ ms, ∃ n v a d, o = Out.msix n v a d) ∧
      ∀ f i, f ∉ logFlds → f ≠ .fjMsixPbaPending → (s.writeCmpl c).getI f i =
        ((s.cmplSent c).tailOn (rix c.ctx c.ring) (cringSize s (rix c.ctx c.ring)) (s.getI .cringTailTail (rix c.ctx c.ring))).getI f i := by
  have hlog := logRec_only ((s.cmplSent c).tailOn (rix c.ctx c.ring) (cringSize s (rix c.ctx c.ring)) (s.getI .cringTailTail (rix c.ctx c.ring)))
    15 c.ctx c.ring (c.ctx + 64 * c.ring) ((c.bytes s).take 16)
  obtain ⟨hkeeps, ⟨ms, hout, hms⟩, hget⟩ : OnlyMessages _ (s.writeCmpl c) := by
    unfold State.writeCmpl
    dsimp only
    split
    · exact message_only _ _ _
    · exact .refl _
  refine ⟨?_, ⟨ms, hout.trans (congrArg (· ++ ms) ?_), hms⟩, fun f i hf hpba => (hget f i hpba).trans (hlog.2 f i hf)⟩
  · rw [hkeeps]
    exact (congrArg State.pendWr hlog.1).trans (by rw [tailOn_only])
  · exact (congrArg State.out hlog.1).trans (by rw [tailOn_only])

theorem tailOn_shows (s : State) {i n t : Nat} (hs : s.getI .cringTailPhase i < 2) :
    (s.tailOn i n t).getI .cringTailTail i = (t + 1) % n % 2 ^ 16 ∧
      ((s.tailOn i n t).getI .cringTailPhase i ≠ s.getI .cringTailPhase i ↔ t + 1 = n) := by
  have hphase : (s.setI .cringTailTail i ((t + 1) % n)).getI .cringTailPhase i = s.getI .cringTailPhase i := getI_setI_other s _ (by simp)
  unfold State.tailOn
  split
  · next h =>
    refine ⟨(getI_setI_other _ _ (by simp)).trans (getI_setI_same s _ _ _), ?_⟩
    rw [hphase, getI_setI_same, show fldWidth .cringTailPhase = 1 from rfl]
    omega
  · next h => exact ⟨getI_setI_same s _ _ _, by simp [hphase, h]⟩

end Sys2Proof.Machine

namespace Sys2Proof.Proofs

open Sys2Proof.Machine Sys2Proof.Safety

/-- Settles O30: a completion is its bytes on their way, the tail gone on, a log record and perhaps a message. -/
theorem completionsPost : Obligations.CompletionsPost := by
  unfold Obligations.CompletionsPost
  intro s c
  dsimp only
  obtain ⟨hpend, ⟨ms, hout, hms⟩, hget⟩ := writeCmpl_shows s c
  have honly := writeCmpl_only s c
  generalize hi : rix c.ctx c.ring = i at hget
  have hsent : BeatsOnly s (s.cmplSent c) := by
    unfold State.cmplSent
    dsimp only
    split
    · exact beatsOnly_fabWrite s _ _ _ _ _
    · rfl
  have hregs (f : Fld) (k : Nat) : (s.cmplSent c).getI f k = s.getI f k :=
    keepsRegs_of_regs (fs := []) (by rw [hsent]) (by rw [hsent]) f k List.not_mem_nil
  refine ⟨fun hspace => ⟨ms, ?_, hms⟩, fun hspace b hb => ?_, fun _ => ?_, writeCmpl_entries s c, by rw [honly.1], fun hno => ?_, fun hyes hnone => ?_⟩
  · rw [hout]
    refine congrArg (· ++ ms) ?_
    unfold State.cmplSent
    rw [hi, if_neg (by simp [hspace])]
    rfl
  · have hshown : BeatShown (memChan s b.1 % 8) b.1 b.2.1 b.2.2 (s.cmplSent c) := by
      unfold State.cmplSent
      rw [hi, if_pos hspace]
      exact beatShown_fabWrite s _ _ _ _ _ b hb
    rcases hshown with ⟨id, hid⟩ | hw
    · exact .inl ⟨id, hout ▸ List.mem_append_left _ hid⟩
    · exact .inr (hpend ▸ hw)
  · have hphase : s.getI .cringTailPhase i < 2 := getI_lt s .cringTailPhase i (Nat.two_pow_pos _)
    obtain ⟨htail, hturn⟩ := tailOn_shows (s.cmplSent c) (i := i) (n := cringSize s i) (t := s.getI .cringTailTail i) (by rw [hregs]; exact hphase)
    rw [hget _ _ (by decide) (by decide), hget _ _ (by decide) (by decide)]
    exact ⟨htail, by rw [← hregs .cringTailPhase i]; exact hturn⟩
  · unfold State.postCmpl
    rw [if_neg (by simp [hno]), hi]
    refine ⟨rfl, ?_, ?_, ?_⟩
    · rw [getI_setI_other _ _ (by simp), getI_setI_other _ _ (by simp), getI_setI_same]
      rfl
    · rw [getI_setI_other _ _ (by simp), getI_setI_same]
      rfl
    · obtain ⟨hctx, hring⟩ := ring_names s c.ctx c.ring
      exact (congrArg Ring.waiting (ring_putRing s _ c.ctx c.ring)).trans (by rw [if_pos ⟨hctx, hring⟩])
  · unfold State.postCmpl
    exact if_pos ⟨by simp [hnone], hyes⟩

end Sys2Proof.Proofs
end

section
/-! The wake of an engine in IDLE, and what becomes of a frame (12 R326, R344, 15 R416). -/
namespace Sys2Proof.Machine

open Safety

/-- What a wake from IDLE may change: the engine's state, its ticks without work, and the pending request for RETAIN. -/
structure WakeOnly (s t : State) : Prop where
  rest : t = { s with regs := t.regs, eng := t.eng, tick := t.tick, out := t.out }
  regs : KeepsRegs [.fjStateRetainPend] s t
  out : s.out <+: t.out

theorem WakeOnly.refl (s : State) : WakeOnly s s := ⟨rfl, keepsRegs_refl _ _, List.prefix_rfl⟩

theorem wakeOnly_wake (s : State) : WakeOnly s s.wake := by
  refine ⟨(wake_only s).1, (wake_only s).2.1, ?_⟩
  unfold State.wake
  dsimp only
  split
  · exact List.prefix_append _ _
  · exact List.prefix_rfl

theorem WakeOnly.build {s t : State} (h : WakeOnly s t) : t.build = s.build := by rw [h.rest]

theorem WakeOnly.qps {s t : State} (h : WakeOnly s t) : t.qps = s.qps := by rw [h.rest]

theorem WakeOnly.pins {s t : State} (h : WakeOnly s t) : t.pins = s.pins := by rw [h.rest]

theorem WakeOnly.xfers {s t : State} (h : WakeOnly s t) : t.xfers = s.xfers := by rw [h.rest]

theorem WakeOnly.getI {s t : State} (h : WakeOnly s t) {f : Fld} (hf : f ≠ .fjStateRetainPend) (i : Nat) : t.getI f i = s.getI f i :=
  h.regs f i (by simpa using hf)

theorem frameFor_only (s : State) (q : Nat) : WakeOnly s (s.frameFor q) := by
  unfold State.frameFor
  split
  · exact wakeOnly_wake s
  · exact .refl s

theorem mem_transmit (s : State) (o : Out) : o ∈ (s.transmit o).out := List.mem_append_right _ List.mem_cons_self

theorem transmit_only (s : State) (o : Out) : s.transmit o = { s with out := (s.transmit o).out } := rfl

/-- A notification that is due goes out, is counted, and its time kept. -/
theorem congestionSeen_due (s : State) {q : Nat} (h : (s.qp q).cnpAt = none) :
    (s.congestionSeen q).build = s.build ∧ Out.cnp q ∈ (s.congestionSeen q).out ∧
      (s.congestionSeen q).get .xptCnpTxCount = satAdd 32 (s.get .xptCnpTxCount) 1 ∧ ((s.congestionSeen q).qp q).cnpAt = some s.now := by
  have heq : s.congestionSeen q = ((s.putQp { s.qp q with cnpAt := some s.now }).transmit (.cnp q)).bump .xptCnpTxCount 1 := by
    unfold State.congestionSeen
    dsimp only
    rw [h]
    exact if_neg (by simp)
  rw [heq]
  refine ⟨rfl, mem_transmit _ _, get_bump_same _ .xptCnpTxCount 1, ?_⟩
  have := qp_putQp_same s { s.qp q with cnpAt := some s.now }
  rw [show ({ s.qp q with cnpAt := some s.now } : Qp).qp = q from qp_qp _ _] at this
  exact congrArg Qp.cnpAt this

/-- A frame that is discarded is counted, and nothing else. -/
theorem dropped_shows (s : State) : (finishState s s.dropped).get .xptDroppedCount = satAdd 32 (s.get .xptDroppedCount) 1 ∧
    KeepsRegs (msgFlds ++ [.xptDroppedCount]) s (finishState s s.dropped) ∧ KeepsAll s (finishState s s.dropped) :=
  ⟨(get_finishState (s := s.dropped) (f := .xptDroppedCount) rfl (by decide)).trans (get_bump_same s .xptDroppedCount 1),
    keepsRegs_finishState (u := s.dropped) (by decide) rfl (keepsRegs_setI (f := .xptDroppedCount) (by decide) s 0 _),
    keepsAll_finishState (u := s.dropped) rfl⟩

theorem frameIn_dropped {s : State} {lane : Nat} {err : Bool} {f : Frame} (hears : hears s lane = true)
    (h : err = true ∨ (∃ n, f = .other n) ∨ (∃ b, f = .control b ∧ 9216 < b.length) ∨ (∃ h b, f = .tcp h b ∧ (h = false ∨ 9216 < b.length)) ∨
      ∃ qpn icrc ce n, f = .roce qpn icrc ce n ∧ (entryOf s lane qpn = none ∨ icrc = false ∨ 9216 < n)) :
    s.frameIn lane err f = s.dropped := by
  unfold State.frameIn
  rw [if_neg (by simp [hears])]
  split
  · rfl
  · next herr =>
    rcases h with h | ⟨n, rfl⟩ | ⟨b, rfl, hlong⟩ | ⟨held, b, rfl, hbad⟩ | ⟨qpn, icrc, ce, n, rfl, hbad⟩
    · exact absurd h herr
    · rfl
    · exact if_pos hlong
    · exact if_pos (by rcases hbad with rfl | hlong; exacts [.inr (by simp), .inl hlong])
    · dsimp only
      cases hq : entryOf s lane qpn with
      | none => rfl
      | some q => exact if_pos (by rcases hbad with hnone | rfl | hlong; exacts [absurd (hq.symm.trans hnone) (by simp), .inl (by simp), .inr hlong])

end Sys2Proof.Machine

namespace Sys2Proof.Proofs

open Sys2Proof.Machine Sys2Proof.Safety

/-- Settles O46: the outcomes of `State.frameIn`, one for each kind of frame. -/
theorem framesArrive : Obligations.FramesArrive := by
  unfold Obligations.FramesArrive
  intro s lane f
  refine ⟨fun hdeaf err => ⟨_, rfl, ?_⟩, fun hhears => ⟨fun err hbad => ⟨_, rfl, ?_⟩, fun b hb hlen => ⟨_, rfl, ?_⟩,
    fun qpn q ce n hf hq hlen => ⟨_, rfl, ?_⟩⟩⟩
  · have hin : s.frameIn lane err f = s := if_pos (by simp [hdeaf])
    rw [hin]
    exact ⟨keepsRegs_finishState (by decide) rfl (keepsRegs_refl _ _), keepsAll_finishState rfl⟩
  · rw [frameIn_dropped hhears hbad]
    exact dropped_shows s
  · have hin : s.frameIn lane false f = s.send (.toCore b) := by
      unfold State.frameIn
      rw [if_neg (by simp [hhears]), if_neg Bool.false_ne_true]
      rcases hb with rfl | rfl
      · exact if_neg (by omega)
      · exact if_neg (by simp; omega)
    rw [hin]
    exact ⟨mem_out_finishState (List.mem_append_right _ List.mem_cons_self), keepsRegs_finishState (by decide) rfl (keepsRegs_of_regs rfl rfl),
      keepsAll_finishState rfl⟩
  · have hin : s.frameIn lane false f = if ce then s.wake.congestionSeen q else s.wake := by
      unfold State.frameIn
      rw [if_neg (by simp [hhears]), if_neg Bool.false_ne_true, hf]
      dsimp only
      rw [hq]
      exact if_neg (by simp; omega)
    have hwake := wakeOnly_wake s
    have heng : (s.frameIn lane false f).eng = s.wake.eng := by
      rw [hin]
      split
      · unfold State.congestionSeen
        dsimp only
        split <;> split <;> rfl
      · rfl
    refine ⟨by rw [finishState_eng, heng, (wake_only s).2.2], fun hce => ?_, fun hce hnone => ?_⟩
    · rw [hin, hce, if_neg Bool.false_ne_true]
      exact ⟨keepsRegs_finishState (by decide) hwake.build (keepsRegs_mono (by simp) hwake.regs), by rw [finishState_qps, hwake.qps]⟩
    · have hqp : (s.wake).qp q = s.qp q := qp_congr hwake.qps q
      have hnow : s.wake.now = s.now := hwake.getI (by decide) 0
      obtain ⟨hbuild, hout, hcount, hat⟩ := congestionSeen_due s.wake (q := q) (by rw [hqp, hnone])
      rw [hin, hce, if_pos rfl, qp_congr (finishState_qps _ _), get_finishState (hbuild.trans hwake.build) (by decide), hcount, hat, hnow]
      exact ⟨mem_out_finishState hout, congrArg (satAdd 32 · 1) (hwake.getI (by decide) 0), rfl⟩

end Sys2Proof.Proofs
end

section
/-! A queue pair in ERROR (12 R346, R347): what the failures that follow leave as it was. -/
namespace Sys2Proof.Machine

open Safety

/-- Fields of queue pairs that only the transport itself moves, and its count of discarded frames. -/
def qpFlds : List Fld := [.xptQpStateState, .xptQpStateLastErr, .xptQpAttrLane, .xptDroppedCount]

/-- These fields read as before, and what was sent stays sent. -/
structure KeepsQp (s t : State) : Prop where
  build : t.build = s.build
  out : s.out <+: t.out
  fields : ∀ f ∈ qpFlds, ∀ i, t.getI f i = s.getI f i

/-- A list of fields without one of these. -/
def sparesQp (fs : List Fld) : Bool := fs.all (fun f => !qpFlds.contains f)

theorem KeepsQp.refl (s : State) : KeepsQp s s := ⟨rfl, List.prefix_rfl, fun _ _ _ => rfl⟩

theorem KeepsQp.trans {s t u : State} (h : KeepsQp s t) (k : KeepsQp t u) : KeepsQp s u :=
  ⟨k.build.trans h.build, h.out.trans k.out, fun f hf i => (k.fields f hf i).trans (h.fields f hf i)⟩

theorem keepsQp_of_keepsRegs {fs : List Fld} {s t : State} (hb : t.build = s.build) (ho : s.out <+: t.out) (h : KeepsRegs fs s t)
    (hfs : sparesQp fs = true) : KeepsQp s t := by
  refine ⟨hb, ho, fun f hf i => h f i fun hm => ?_⟩
  have := List.all_eq_true.mp hfs f hm
  simp [hf] at this

theorem Steady.keepsQp {fs : List Fld} {s t : State} (hs : Steady s t) (h : KeepsRegs fs s t) (hfs : sparesQp fs = true) : KeepsQp s t :=
  keepsQp_of_keepsRegs hs.build hs.out h hfs

theorem keepsQp_of_regs {s t : State} (hb : t.build = s.build) (hr : t.regs = s.regs) (ho : s.out <+: t.out) : KeepsQp s t :=
  keepsQp_of_keepsRegs hb ho (keepsRegs_of_regs (fs := []) hb hr) rfl

theorem keepsQp_setI (s : State) (f : Fld) (i v : Nat) (hf : sparesQp [f] = true) : KeepsQp s (s.setI f i v) :=
  (steady_setI s f i v).keepsQp (keepsRegs_setI List.mem_cons_self s i v) hf

theorem keepsQp_set (s : State) (f : Fld) (v : Nat) (hf : sparesQp [f] = true) : KeepsQp s (s.set f v) := keepsQp_setI s f 0 v hf

theorem keepsQp_send (s : State) (o : Out) : KeepsQp s (s.send o) := keepsQp_of_regs rfl rfl (List.prefix_append _ _)

theorem keepsQp_modBoot (s : State) (f : Boot → Boot) : KeepsQp s (s.modBoot f) := keepsQp_of_regs rfl rfl List.prefix_rfl

theorem keepsQp_foldl {α : Type} (l : List α) (g : State → α → State) (h : ∀ s a, KeepsQp s (g s a)) (s : State) : KeepsQp s (l.foldl g s) := by
  induction l generalizing s with
  | nil => exact .refl s
  | cons a t ih => exact (h s a).trans (ih _)

theorem keepsQp_ite {s a b : State} {p : Prop} [Decidable p] (ha : KeepsQp s a) (hb : KeepsQp s b) : KeepsQp s (if p then a else b) := by
  split <;> assumption

theorem KeepsQp.may {s a b : State} {p : Prop} [Decidable p] (ha : KeepsQp s a) (hb : KeepsQp a b) : KeepsQp s (if p then b else a) :=
  keepsQp_ite (ha.trans hb) ha

theorem keepsQp_fabWrite (s : State) (job : Nat) (use : XUse) (addr : Nat) (data : Bytes) (promised : Bool) :
    KeepsQp s (s.fabWrite job use addr data promised) :=
  (steady_fabWrite s _ _ _ _ _).keepsQp (entryOnly_fabWrite s _ _ _ _ _).2 (by decide)

/-! ### The end of a snapshot -/

theorem keepsQp_forward (s : State) (w : GWrite) (now : GuardClock) : KeepsQp s (s.forward w now) := by
  refine (steady_forward s w now).keepsQp (fs := [.grdStallMaxNs, .grdOverstallsCount, .grdStatOverstall]) ?_ rfl
  unfold State.forward
  extract_lets g s1 s2
  have h : KeepsRegs [.grdStallMaxNs, .grdOverstallsCount, .grdStatOverstall] s s2 :=
    keepsRegs_trans (t := s1) (keepsRegs_of_regs rfl rfl) (keepsRegs_peak (by decide) s1 _)
  exact keepsRegs_ite (keepsRegs_trans h (keepsRegs_trans (keepsRegs_set (by decide) _ _) (keepsRegs_set (by decide) _ _))) h

theorem keepsQp_guardRegs (s : State) : KeepsQp s s.guardRegs := (steady_guardRegs s).keepsQp (keepsRegs_guardRegs s) (by decide)

theorem keepsQp_guardAbandon (s : State) : KeepsQp s s.guardAbandon := by
  unfold State.guardAbandon
  extract_lets g clk now writes g1 s1
  have h1 : KeepsQp s s1 := keepsQp_of_regs rfl rfl List.prefix_rfl
  have h2 := h1.trans (keepsQp_foldl writes (fun a w => a.forward w now) (fun a w => keepsQp_forward a w now) s1)
  exact (h2.trans (keepsQp_set _ .grdStatAbandoned 1 rfl)).trans (keepsQp_guardRegs _)

theorem keepsQp_dropSets (s : State) (p : FptSet → Bool) : KeepsQp s (s.dropSets p) :=
  .trans (t := { s with prints := s.prints.filter (fun x => !p x) }) (keepsQp_of_regs rfl rfl List.prefix_rfl)
    (keepsQp_set _ .digFptUsedUsed _ rfl)

theorem keepsQp_endEntry (s : State) (uid : Nat) (r : Result) : KeepsQp s (s.endEntry uid r) :=
  (steady_endEntry s uid r).keepsQp (endEntry_only s uid r).2 (by decide)

theorem keepsQp_closeSnap (s : State) (x : Snap) (status : Nat) : KeepsQp s (s.closeSnap x status) := by
  unfold State.closeSnap
  extract_lets s1 s2
  have h1 : KeepsQp s s1 :=
    (keepsQp_foldl _ _ (fun s a => keepsQp_of_regs (t := s.dropJob a) rfl rfl List.prefix_rfl) s).trans (keepsQp_of_regs rfl rfl List.prefix_rfl)
  have h2 : KeepsQp s s2 := h1.trans (keepsQp_ite (.refl s1) (keepsQp_dropSets s1 _))
  exact (h2.trans (keepsQp_set s2 .grdStatUnpromised 0 rfl)).trans (keepsQp_foldl _ _ (fun _ _ => keepsQp_endEntry _ _ _) _)

theorem keepsQp_endSnap (s : State) (status : Nat) : KeepsQp s (s.endSnap status) := by
  unfold State.endSnap
  split
  · exact .refl s
  · exact .trans (t := { s with ckpt := { s.ckpt with snap := none } }) (keepsQp_of_regs rfl rfl List.prefix_rfl)
      ((keepsQp_closeSnap _ _ status).trans (keepsQp_set _ .fjCkptStatCommitPending 0 rfl))

theorem keepsQp_writeDesc (s : State) (k state step : Nat) : KeepsQp s (s.writeDesc k state step) := by
  refine (steady_writeDesc s k state step).keepsQp (fs := entryFlds ++ opFlds) ?_ (by decide)
  unfold State.writeDesc
  extract_lets t
  have hown : KeepsRegs (entryFlds ++ opFlds) s t := keepsRegs_mono (by simp) (entryOnly_fabWrite s _ _ _ _ _).2
  exact keepsRegs_ite (keepsRegs_trans hown (keepsRegs_mono (by simp) (remoteWrite_only _ _ _ _ _ _ _ _).2)) hown

theorem keepsQp_snapDestFail (s : State) (job kind status : Nat) : KeepsQp s (s.snapDestFail job kind status) := by
  unfold State.snapDestFail
  split
  · exact .refl s
  · exact keepsQp_of_regs rfl rfl List.prefix_rfl

theorem keepsQp_abandonSnap (s : State) (status : Nat) (slot : Bool) : KeepsQp s (s.abandonSnap status slot) := by
  unfold State.abandonSnap
  split
  · exact .refl s
  · extract_lets s1 s2
    have h1 : KeepsQp s s1 := keepsQp_ite (keepsQp_guardAbandon s) (.refl s)
    have h2 : KeepsQp s1 s2 := keepsQp_ite (keepsQp_writeDesc _ _ _ _) (.refl _)
    exact (h1.trans h2).trans (keepsQp_endSnap _ status)

/-! ### The end of start-up, and FAULT -/

theorem keepsQp_faultEntry (s : State) (code : Nat) : KeepsQp s (s.faultEntry code) := by
  unfold State.faultEntry
  extract_lets s1 b s2
  have h1 : KeepsQp s s1 := keepsQp_ite (keepsQp_guardAbandon s) (.refl s)
  have h2 : KeepsQp s1 s2 := keepsQp_of_regs rfl rfl List.prefix_rfl
  have h3 := ((h1.trans h2).trans (keepsQp_set s2 .fjStateFault code rfl)).trans (keepsQp_set _ .fjBootInfoCode code rfl)
  have heng (a : State) : KeepsQp a (a.setEng 6) :=
    keepsQp_ite (keepsQp_of_regs rfl rfl List.prefix_rfl) (keepsQp_of_regs rfl rfl (List.prefix_append _ _))
  exact ((h3.trans (heng _)).trans (keepsQp_send _ _)).trans (keepsQp_set _ .fjStateAwaitDriver 0 rfl)

theorem keepsQp_release0 (s : State) : KeepsQp s s.release0 := by
  unfold State.release0
  extract_lets me m s1
  have h1 : KeepsQp s s1 := (keepsQp_set s .fjBarrierMembers m rfl).trans (keepsQp_set _ .fjBarrierMissing _ rfl)
  exact keepsQp_ite (keepsQp_of_regs rfl rfl List.prefix_rfl) (h1.trans (keepsQp_of_regs rfl rfl (List.prefix_append _ _)))

theorem keepsQp_arrive0 (s : State) : KeepsQp s s.arrive0 := by
  have hbarrier (t : State) : KeepsQp t t.barrier0 := keepsQp_ite (keepsQp_release0 t) (.refl t)
  unfold State.arrive0
  extract_lets me s1
  have h1 : KeepsQp s s1 := keepsQp_of_regs rfl rfl List.prefix_rfl
  exact h1.trans (keepsQp_ite (keepsQp_of_regs rfl rfl List.prefix_rfl)
    (keepsQp_ite ((keepsQp_modBoot _ _).trans (hbarrier _)) (keepsQp_send _ _)))

theorem keepsQp_step6Done (s : State) : KeepsQp s s.step6Done := by
  unfold State.step6Done
  refine keepsQp_ite ?_ (.refl s)
  unfold State.step7
  split
  · exact (keepsQp_set s .fjBootInfoField _ rfl).trans (keepsQp_faultEntry _ _)
  · exact ((keepsQp_set s .grdTotalGranules _ rfl).trans (keepsQp_set _ .fjStateLocked 1 rfl)).trans (keepsQp_arrive0 _)

/-! ### Operations that fail -/

theorem keepsQp_useFailed (s : State) (job : Nat) (u : XUse) (st detail : Nat) : KeepsQp s (s.useFailed job u st detail) := by
  unfold State.useFailed
  split
  · split
    · exact keepsQp_ite (.refl s) (keepsQp_ite (keepsQp_abandonSnap _ _ _) (keepsQp_snapDestFail _ _ _ _))
    · exact .refl s
  · refine keepsQp_ite (keepsQp_ite (keepsQp_abandonSnap _ _ _) (keepsQp_snapDestFail _ _ _ _)) ?_
    split <;> exact keepsQp_of_regs rfl rfl List.prefix_rfl

theorem keepsQp_opEnds (s : State) (x : Xfer) (status : Nat) : KeepsQp s (s.opEnds x status) := by
  unfold State.opEnds
  extract_lets k c d y s1
  have h1 : KeepsQp s s1 := keepsQp_of_regs rfl rfl List.prefix_rfl
  split
  · have hlog := logRec_only s1 9 (c.getD 0) 0 (k.1 % 256 + k.2.1 % 2 ^ 24 * 2 ^ 8 + status % 256 * 2 ^ 32 + b2n k.2.2 * 2 ^ 40) []
    exact h1.trans (hlog.steady.keepsQp hlog.2 (by decide))
  · exact h1

/-- The entry in ERROR, with what was outstanding on it set aside. -/
def State.qpFallen (s : State) (q st : Nat) : State := ((s.setI .xptQpStateState q qpErr).setI .xptQpStateLastErr q st).up .xptStatQpError

theorem qpError_keeps (s : State) {q : Nat} (st : Nat) (h : s.rts q = true) : KeepsQp (s.qpFallen q st) (s.qpError q st) := by
  unfold State.qpError
  rw [if_neg (by simp [h])]
  extract_lets ts mine theirs waits s1 s2 y s3 s4 s5 s6 s7 s8 s9
  have h3 : KeepsQp s1 s3 := keepsQp_of_regs rfl rfl List.prefix_rfl
  have h4 : KeepsQp s3 s4 := keepsQp_foldl _ _ (fun a t =>
    (keepsQp_setI a .xptTgtStateState t 1 rfl).trans (keepsQp_of_regs (t := (a.setI .xptTgtStateState t 1).putTgt (Tgt.fresh t)) rfl rfl
      List.prefix_rfl)) s3
  have h5 : KeepsQp s4 s5 := keepsQp_foldl _ _ (fun _ _ => (keepsQp_opEnds _ _ _).trans (keepsQp_useFailed _ _ _ _ _)) s4
  have h6 : KeepsQp s5 s6 := keepsQp_foldl _ _ (fun _ _ => (keepsQp_opEnds _ _ _).trans (keepsQp_useFailed _ _ _ _ _)) s5
  have h7 : KeepsQp s6 s7 := keepsQp_foldl _ _ (fun _ _ => keepsQp_useFailed _ _ _ _ _) s6
  have h8 : KeepsQp s7 s8 :=
    keepsQp_foldl _ _ (fun a j => keepsQp_foldl _ _ (fun _ _ => keepsQp_useFailed _ _ _ _ _) a) s7
  have h9 : KeepsQp s8 s9 := keepsQp_foldl _ _ (fun a x => by
    extract_lets a1
    have ha : KeepsQp a a1 := keepsQp_ite (keepsQp_snapDestFail _ _ _ _) (.refl a)
    exact ha.may (keepsQp_snapDestFail _ _ _ _)) s8
  exact ((((((h3.trans h4).trans h5).trans h6).trans h7).trans h8).trans h9).trans (keepsQp_step6Done _)

/-- An entry in RTS that goes to ERROR: its state and the event. -/
theorem qpError_shows (s : State) {q : Nat} (st : Nat) (h : s.rts q = true) :
    (s.qpError q st).getI .xptQpStateState q = qpErr ∧ (s.qpError q st).getI .xptQpStateLastErr q = st % 256 := by
  have hk := qpError_keeps s st h
  rw [hk.fields _ (by decide), hk.fields _ (by decide)]
  refine ⟨?_, ?_⟩
  · show (((s.setI .xptQpStateState q qpErr).setI .xptQpStateLastErr q st).setI .xptStatQpError 0 1).getI .xptQpStateState q = qpErr
    rw [getI_setI_other _ _ (by simp), getI_setI_other _ _ (by simp), getI_setI_same]
    decide
  · show (((s.setI .xptQpStateState q qpErr).setI .xptQpStateLastErr q st).setI .xptStatQpError 0 1).getI .xptQpStateLastErr q = st % 256
    rw [getI_setI_other _ _ (by simp), getI_setI_same]
    rfl

end Sys2Proof.Machine
end

section
/-! Congestion rates (12 R344), and the links of the lanes (12 R346, 15 R416). -/
namespace Sys2Proof.Machine

open Safety

/-- A bit that is clear, added: it alone comes. -/
theorem bitOf_raised (p v k : Nat) : bitOf (if bitOf p v = true then p else p + 2 ^ v) k = (bitOf p k || k == v) := by
  split
  · next h =>
    by_cases hk : k = v
    · subst hk
      simp [h]
    · simp [hk]
  · next h =>
    have hset : bitOf (p + 2 ^ v) v = true := by
      have := Nat.testBit_two_pow_add_eq p v
      rw [← bitOf_eq_testBit, ← bitOf_eq_testBit, Nat.add_comm] at this
      simpa [h] using this
    by_cases hk : k = v
    · subst hk
      simp [hset]
    · have := bitOf_sub_two_pow hset k
      rw [Nat.add_sub_cancel] at this
      rw [this, bne_iff_ne.mpr hk, Bool.and_true, beq_eq_false_iff_ne.mpr hk, Bool.or_false]

/-- One entry in ERROR leaves every other entry where it is. -/
theorem qpError_other (s : State) {q p : Nat} (st : Nat) (hp : p ≠ q ∨ s.rts p = false) :
    (s.qpError q st).getI .xptQpStateState p = s.getI .xptQpStateState p ∧
      (s.qpError q st).getI .xptQpStateLastErr p = s.getI .xptQpStateLastErr p := by
  cases hq : s.rts q with
  | false =>
    have : s.qpError q st = s := if_pos (by simp [hq])
    rw [this]
    exact ⟨rfl, rfl⟩
  | true =>
    have hne : p ≠ q := hp.elim id fun hno e => by rw [e, hq] at hno; cases hno
    have hk := qpError_keeps s st hq
    rw [hk.fields _ (by decide), hk.fields _ (by decide)]
    refine ⟨?_, ?_⟩
    · show (((s.setI .xptQpStateState q qpErr).setI .xptQpStateLastErr q st).setI .xptStatQpError 0 1).getI .xptQpStateState p = _
      rw [getI_setI_other _ _ (by simp), getI_setI_other _ _ (by simp), getI_setI_other _ _ (by simp [Ne.symm hne])]
    · show (((s.setI .xptQpStateState q qpErr).setI .xptQpStateLastErr q st).setI .xptStatQpError 0 1).getI .xptQpStateLastErr p = _
      rw [getI_setI_other _ _ (by simp), getI_setI_other _ _ (by simp [Ne.symm hne]), getI_setI_other _ _ (by simp)]

/-- Entries in ERROR one after the other: each that was in RTS and is named, and no other. -/
theorem qpErrors_shows (st : Nat) (l : List Nat) (s : State) (p : Nat) :
    (p ∈ l → s.rts p = true → (l.foldl (fun a q => a.qpError q st) s).getI .xptQpStateState p = qpErr ∧
      (l.foldl (fun a q => a.qpError q st) s).getI .xptQpStateLastErr p = st % 256) ∧
    (p ∉ l ∨ s.rts p = false → (l.foldl (fun a q => a.qpError q st) s).getI .xptQpStateState p = s.getI .xptQpStateState p ∧
      (l.foldl (fun a q => a.qpError q st) s).getI .xptQpStateLastErr p = s.getI .xptQpStateLastErr p) := by
  induction l generalizing s with
  | nil => exact ⟨fun h => absurd h List.not_mem_nil, fun _ => ⟨rfl, rfl⟩⟩
  | cons q t ih =>
    obtain ⟨ihin, ihout⟩ := ih (s.qpError q st)
    have hrts (h : (s.qpError q st).getI .xptQpStateState p = s.getI .xptQpStateState p) : (s.qpError q st).rts p = s.rts p := by
      rw [State.rts, h, State.rts]
    refine ⟨fun hp hup => ?_, fun hp => ?_⟩
    · by_cases hq : p = q
      · subst hq
        obtain ⟨hstate, herr⟩ := qpError_shows s st hup
        obtain ⟨k1, k2⟩ := ihout (.inr (by rw [State.rts, hstate]; decide))
        exact ⟨k1.trans hstate, k2.trans herr⟩
      · exact ihin ((List.mem_cons.mp hp).resolve_left hq) ((hrts (qpError_other s st (.inl hq)).1).trans hup)
    · have hother := qpError_other s (p := p) (q := q) st (hp.imp_left fun h e => h (e ▸ List.mem_cons_self))
      obtain ⟨k1, k2⟩ := ihout (hp.imp (fun h e => h (List.mem_cons_of_mem _ e)) (hrts hother.1).trans)
      exact ⟨k1.trans hother.1, k2.trans hother.2⟩

/-- The rate of one entry. -/
theorem rate_putQp (s : State) (q r : Nat) :
    ((s.putQp { s.qp q with rate := r }).qp q).rate = r ∧ ∀ p, p ≠ q → (s.putQp { s.qp q with rate := r }).qp p = s.qp p := by
  have hq : ({ s.qp q with rate := r } : Qp).qp = q := qp_qp s q
  refine ⟨?_, fun p hp => qp_putQp_other s { s.qp q with rate := r } (by rw [hq]; exact hp)⟩
  have := qp_putQp_same s { s.qp q with rate := r }
  rw [hq] at this
  rw [this]

/-- The lanes' links shown. -/
theorem lanesShown (s : State) (p : Pins) :
    ({ s with pins := p } : State).showLanes.get .xptStatLaneUp = p.linkUp % 16 ∧
      KeepsRegs (msgFlds ++ [.xptStatLaneUp]) s ({ s with pins := p } : State).showLanes ∧
      KeepsAll { s with pins := p } ({ s with pins := p } : State).showLanes :=
  ⟨getI_setI_same { s with pins := p } .xptStatLaneUp 0 p.linkUp,
    keepsRegs_trans (t := { s with pins := p }) (keepsRegs_of_regs rfl rfl) (keepsRegs_set (f := .xptStatLaneUp) (by decide) _ _), rfl⟩

/-- A fall is recorded beside what the lanes show. -/
theorem fallShown {s u : State} {p : Pins} (hlane : u.get .xptStatLaneUp = p.linkUp % 16) (hregs : KeepsRegs (msgFlds ++ [.xptStatLaneUp]) s u)
    (hall : KeepsAll { s with pins := p } u) :
    (finishState s (u.up .xptStatLinkDown)).pins = p ∧ (finishState s (u.up .xptStatLinkDown)).get .xptStatLaneUp = p.linkUp % 16 ∧
      (finishState s (u.up .xptStatLinkDown)).flag .xptStatLinkDown = true ∧
      KeepsRegs (msgFlds ++ [.xptStatLaneUp, .xptStatLinkDown]) s (finishState s (u.up .xptStatLinkDown)) ∧
      KeepsAll { s with pins := p } (finishState s (u.up .xptStatLinkDown)) := by
  have hbuild : (u.up .xptStatLinkDown).build = s.build := by
    show u.build = s.build
    rw [hall]
  refine ⟨?_, ?_, ?_, ?_, ?_⟩
  · rw [finishState_pins]
    show u.pins = p
    rw [hall]
  · rw [get_finishState hbuild (by decide)]
    exact (getI_setI_other u 1 (by simp)).trans hlane
  · rw [flag_finishState hbuild (by decide)]
    exact flag_up_same u .xptStatLinkDown (by decide)
  · exact keepsRegs_finishState (by decide) hbuild (keepsRegs_trans (keepsRegs_mono (by simp) hregs) (keepsRegs_up u (by decide)))
  · exact keepsAll_finish_from (b := { s with pins := p }) rfl rfl (keepsAll_set hall .xptStatLinkDown 1)

/-- The lanes that come up are no more than shown. -/
theorem riseShown {s u : State} {p : Pins} (hlane : u.get .xptStatLaneUp = p.linkUp % 16) (hregs : KeepsRegs (msgFlds ++ [.xptStatLaneUp]) s u)
    (hall : KeepsAll { s with pins := p } u) :
    (finishState s u).pins = p ∧ (finishState s u).get .xptStatLaneUp = p.linkUp % 16 ∧
      KeepsRegs (msgFlds ++ [.xptStatLaneUp]) s (finishState s u) ∧ KeepsAll { s with pins := p } (finishState s u) := by
  have hbuild : u.build = s.build := by rw [hall]
  refine ⟨?_, ?_, keepsRegs_finishState (by decide) hbuild hregs, keepsAll_finish_from (b := { s with pins := p }) rfl rfl hall⟩
  · rw [finishState_pins, hall]
  · rw [get_finishState hbuild (by decide)]
    exact hlane

end Sys2Proof.Machine

namespace Sys2Proof.Proofs

open Sys2Proof.Machine Sys2Proof.Safety

/-- Settles O49: the four events of rates, and the three of links. -/
theorem ratesAndLinks : Obligations.RatesAndLinks := by
  unfold Obligations.RatesAndLinks
  refine ⟨fun s qp => ⟨fun hhears hrts => ?_, fun hdeaf => ?_, fun hhears hrts => ?_, fun hrts hrate hup => ?_⟩,
    fun s lane => ⟨?_, ?_, fun hlane hup hsome => ?_⟩⟩
  · have hwake := frameFor_only s (qp % 256)
    have hexec : exec (.cnp qp) s = .next (finishState s (((s.frameFor (qp % 256)).putQp { s.qp (qp % 256) with
        rate := max (s.get .xptCcMinRate) ((s.qp (qp % 256)).rate / 2) }).bump .xptCnpRxCount 1)) := by
      show execCnp qp s = _
      unfold execCnp
      dsimp only
      rw [if_neg (by simp [hhears]), if_neg (by simp [hrts])]
      rfl
    generalize s.frameFor (qp % 256) = u at hwake hexec
    obtain ⟨hrate, hother⟩ := rate_putQp u (qp % 256) (max (s.get .xptCcMinRate) ((s.qp (qp % 256)).rate / 2))
    rw [qp_congr hwake.qps] at hrate hother
    refine ⟨_, hexec, ?_, ?_, ?_, ?_, fun p hp => ?_⟩
    · rw [qp_congr (finishState_qps _ _)]
      exact hrate
    · refine (get_finishState ?_ (by decide)).trans ((get_bump_same _ _ _).trans ?_)
      · exact hwake.build
      exact congrArg (satAdd 32 · 1) (hwake.getI (by decide) 0)
    · refine keepsRegs_finishState (by decide) hwake.build ?_
      exact keepsRegs_trans (keepsRegs_trans (keepsRegs_mono (by decide) hwake.regs) (keepsRegs_of_regs rfl rfl))
        (keepsRegs_setI (f := .xptCnpRxCount) (by decide) _ 0 _)
    · rw [finishState_xfers]
      exact hwake.xfers
    · rw [qp_congr (finishState_qps _ _)]
      exact (hother p hp).trans (qp_congr hwake.qps p)
  · have hexec : exec (.cnp qp) s = .next (finishState s s) := if_pos (by simp [hdeaf])
    exact ⟨_, hexec, keepsRegs_finishState (by decide) rfl (keepsRegs_refl _ _), keepsAll_finishState rfl⟩
  · have hexec : exec (.cnp qp) s = .next (finishState s s.dropped) := (if_neg (by simp [hhears])).trans (if_pos (by simp [hrts]))
    exact ⟨_, hexec, (dropped_shows s).1, by rw [finishState_qps]; rfl⟩
  · have hexec : exec (.cnpRecover qp) s =
        .next (finishState s (s.putQp { s.qp (qp % 256) with rate := min 1000 ((s.qp (qp % 256)).rate + 50) })) :=
      if_neg (by simp [hrts, hup]; omega)
    obtain ⟨hnew, hother⟩ := rate_putQp s (qp % 256) (min 1000 ((s.qp (qp % 256)).rate + 50))
    refine ⟨_, hexec, ?_, keepsRegs_finishState (by decide) rfl (keepsRegs_of_regs rfl rfl), by rw [finishState_xfers]; rfl, fun p hp => ?_⟩
    · rw [qp_congr (finishState_qps _ _)]
      exact hnew
    · rw [qp_congr (finishState_qps _ _)]
      exact hother p hp
  · obtain ⟨hlane, hregs, hall⟩ := lanesShown s
      { s.pins with linkUp := if bitOf s.pins.linkUp (lane % 4) then s.pins.linkUp - 2 ^ (lane % 4) else s.pins.linkUp }
    obtain ⟨hpins, hshown, hfell, hkeep, hrest⟩ := fallShown hlane hregs hall
    refine ⟨_, rfl, fun k => ?_, ?_, hfell, hkeep, ?_⟩
    · exact (congrArg (fun p : Pins => bitOf p.linkUp k) hpins).trans (bitOf_cleared s.pins.linkUp (lane % 4) k)
    · exact hshown.trans (congrArg (fun p : Pins => p.linkUp % 16) hpins.symm)
    · exact hpins.symm ▸ hrest
  · obtain ⟨hlane, hregs, hall⟩ := lanesShown s
      { s.pins with linkUp := if bitOf s.pins.linkUp (lane % 4) then s.pins.linkUp else s.pins.linkUp + 2 ^ (lane % 4) }
    obtain ⟨hpins, hshown, hkeep, hrest⟩ := riseShown hlane hregs hall
    refine ⟨_, rfl, fun k => ?_, ?_, hkeep, ?_⟩
    · exact (congrArg (fun p : Pins => bitOf p.linkUp k) hpins).trans (bitOf_raised s.pins.linkUp (lane % 4) k)
    · exact hshown.trans (congrArg (fun p : Pins => p.linkUp % 16) hpins.symm)
    · exact hpins.symm ▸ hrest
  · obtain ⟨q0, hq0, hq0rts, hq0lane⟩ := hsome
    have hmem (q : Nat) : q ∈ (List.range 256).filter (fun q => s.rts q && laneOf s q == lane % 4) ↔ q < 256 ∧ s.rts q = true ∧ laneOf s q = lane % 4 := by
      simp
    have hexec : exec (.linkDownTimeout lane) s = .next (finishState s
        (((List.range 256).filter (fun q => s.rts q && laneOf s q == lane % 4)).foldl (fun a q => a.qpError q stXptLinkDown) s).goOn) := by
      refine if_neg ?_
      have : ((List.range 256).filter (fun q => s.rts q && laneOf s q == lane % 4)).isEmpty = false :=
        List.isEmpty_eq_false_iff_exists_mem.mpr ⟨q0, (hmem q0).mpr ⟨hq0, hq0rts, hq0lane⟩⟩
      simp [hlane, hup, this]
    refine ⟨_, hexec, fun q hq => ⟨fun hthis => ?_, fun hother => ?_⟩⟩
    · exact (qpErrors_shows stXptLinkDown _ s q).1 ((hmem q).mpr ⟨hq, hthis⟩) hthis.1
    · exact ((qpErrors_shows stXptLinkDown _ s q).2 (.inl fun h => hother ((hmem q).mp h).2)).1

end Sys2Proof.Proofs
end

section
/-! Jobs: what a change of one does, and what the failure of an operation does to its job (12 R346, 15 R431). -/
namespace Sys2Proof.Machine

open Safety

theorem findJob_uid {s : State} {uid : Nat} {j : Job} (h : s.findJob uid = some j) : j.uid = uid :=
  eq_of_beq (List.find?_some (p := fun j : Job => j.uid == uid) h)

theorem findJob_modJob_same (s : State) (uid : Nat) {f : Job → Job} (hf : ∀ j, (f j).uid = j.uid) :
    (s.modJob uid f).findJob uid = (s.findJob uid).map f :=
  find?_replaceFirst_same (fun j : Job => j.uid == uid) (fun j => by simp only [hf]) s.jobs

theorem findJob_modJob_other (s : State) {uid n : Nat} (hn : n ≠ uid) {f : Job → Job} (hf : ∀ j, (f j).uid = j.uid) :
    (s.modJob uid f).findJob n = s.findJob n :=
  find?_replaceFirst (fun j : Job => j.uid == uid) (fun j : Job => j.uid == n) (fun j => by simp only [hf])
    (fun j hj => by simp only [beq_iff_eq] at hj; simp [hj, Ne.symm hn]) s.jobs

theorem findJob_congr {s t : State} (h : t.jobs = s.jobs) (uid : Nat) : t.findJob uid = s.findJob uid := by
  rw [State.findJob, h, State.findJob]

theorem isSnapJob_congr {s t : State} (h : t.ckpt = s.ckpt) (job : Nat) : isSnapJob t job = isSnapJob s job := by
  rw [isSnapJob, State.allSnaps, h, isSnapJob, State.allSnaps]

/-- What the failure of an operation changes for a job that belongs to no snapshot: the job, and what is asked for it. -/
def JobsOnly (s t : State) : Prop := t = { s with jobs := t.jobs, xfers := t.xfers, pendOps := t.pendOps, pendHost := t.pendHost }

theorem JobsOnly.refl (s : State) : JobsOnly s s := rfl

theorem JobsOnly.trans {s t u : State} (h : JobsOnly s t) (k : JobsOnly t u) : JobsOnly s u := by
  rw [JobsOnly, k, h]

theorem jobsOnly_foldl {α : Type} (l : List α) (g : State → α → State) (h : ∀ s a, JobsOnly s (g s a)) (s : State) : JobsOnly s (l.foldl g s) := by
  induction l generalizing s with
  | nil => exact .refl s
  | cons a t ih => exact (h s a).trans (ih _)

theorem JobsOnly.regs {s t : State} (h : JobsOnly s t) : t.regs = s.regs := by rw [h]

theorem JobsOnly.build {s t : State} (h : JobsOnly s t) : t.build = s.build := by rw [h]

theorem JobsOnly.ckpt {s t : State} (h : JobsOnly s t) : t.ckpt = s.ckpt := by rw [h]

theorem JobsOnly.entries {s t : State} (h : JobsOnly s t) : t.entries = s.entries := by rw [h]

theorem JobsOnly.getI {s t : State} (h : JobsOnly s t) (f : Fld) (i : Nat) : t.getI f i = s.getI f i :=
  keepsRegs_of_regs (fs := []) h.build h.regs f i List.not_mem_nil

/-! ### A job that fails -/

/-- The first failure of a job is the one that stands. -/
def Job.stopAs (j : Job) (st detail : Nat) : Option (Nat × Nat) := match j.stop with | some x => some x | none => some (st, detail)

theorem stopAs_of_none {j : Job} (h : j.stop = none) (st detail : Nat) : j.stopAs st detail = some (st, detail) := by
  rw [Job.stopAs, h]

/-- The job as `State.failJob` leaves it. -/
def Job.failed (j : Job) (st detail : Nat) (keep : Option Nat) : Job :=
  { j with stop := j.stopAs st detail, limit := (match keep with | some k => minOpt j.limit k | none => j.limit) }

theorem failJob_only (s : State) (uid st detail : Nat) (keep : Option Nat) : JobsOnly s (s.failJob uid st detail keep) := rfl

theorem findJob_failJob (s : State) (uid st detail : Nat) (keep : Option Nat) :
    (s.failJob uid st detail keep).findJob uid = (s.findJob uid).map (·.failed st detail keep) :=
  findJob_modJob_same s uid (f := (·.failed st detail keep)) (fun _ => rfl)

theorem findJob_failJob_other (s : State) {uid n : Nat} (hn : n ≠ uid) (st detail : Nat) (keep : Option Nat) :
    (s.failJob uid st detail keep).findJob n = s.findJob n :=
  findJob_modJob_other s hn (f := (·.failed st detail keep)) (fun _ => rfl)

/-- A job that keeps no block from b on. -/
theorem failed_limit (j : Job) (st detail b : Nat) : ∃ n, (j.failed st detail (some b)).limit = some n ∧ n ≤ b := by
  show ∃ n, minOpt j.limit b = some n ∧ n ≤ b
  unfold minOpt
  split
  · exact ⟨_, rfl, by omega⟩
  · exact ⟨_, rfl, le_rfl⟩

/-- An input as the failure of its read at an offset leaves it. -/
def Inp.cut (i : Inp) (off : Nat) : Inp := { i with data := i.data.take off, early := i.early.filter (fun e => e.1 < off) }

/-- The job as `State.cutInput` leaves it. -/
def Job.inputCut (j : Job) (st detail k off : Nat) : Job :=
  { j with
    stop := j.stopAs st detail
    srcCut := (if k = 0 then minOpt j.srcCut off else some (j.srcCut.getD (j.inps.getD 0 ⟨.extents [], 0, [], [], 0⟩).total))
    inps := j.inps.zipIdx.map (fun p => if p.2 = k then p.1.cut off else p.1) }

theorem cutInput_only (s : State) (uid st detail k off : Nat) : JobsOnly s (s.cutInput uid st detail k off) := rfl

theorem findJob_cutInput (s : State) (uid st detail k off : Nat) :
    (s.cutInput uid st detail k off).findJob uid = (s.findJob uid).map (·.inputCut st detail k off) :=
  findJob_modJob_same s uid (f := (·.inputCut st detail k off)) (fun _ => rfl)

theorem findJob_cutInput_other (s : State) {uid n : Nat} (hn : n ≠ uid) (st detail k off : Nat) :
    (s.cutInput uid st detail k off).findJob n = s.findJob n :=
  findJob_modJob_other s hn (f := (·.inputCut st detail k off)) (fun _ => rfl)

theorem inp_inputCut (j : Job) (st detail : Nat) {k : Nat} (off : Nat) (hk : k < j.inps.length) :
    (j.inputCut st detail k off).inp k = (j.inp k).cut off := by
  unfold Job.inp Job.inputCut
  rw [List.getD_eq_getElem _ _ (by simpa using hk), List.getD_eq_getElem _ _ hk]
  simp

/-! ### An operation that fails -/

section
variable {s : State} {job : Nat} {j : Job} (hj : s.findJob job = some j) (hplain : isSnapJob s job = false)
include hj hplain

theorem useFailed_block (d b st detail : Nat) : s.useFailed job (.block d b) st detail = s.failJob job st detail (some b) := by
  unfold State.useFailed
  rw [hj]
  exact if_neg (by simp [hplain])

theorem useFailed_verify (d b off st detail : Nat) : s.useFailed job (.verify d b off) st detail = s.failJob job st detail (some b) := by
  unfold State.useFailed
  rw [hj]
  exact if_neg (by simp [hplain])

theorem useFailed_input (k off st detail : Nat) : s.useFailed job (.input k off) st detail = s.cutInput job st detail k off := by
  unfold State.useFailed
  rw [hj]
  exact if_neg (by simp [hplain])

/-- Whatever the operation was for, its job stops with the failure, where it had not stopped before. -/
theorem useFailed_stops (u : XUse) (st detail : Nat) :
    ∃ i, (s.useFailed job u st detail).findJob job = some i ∧ i.stop = j.stopAs st detail := by
  have hfail (keep : Option Nat) : ∃ i, (s.failJob job st detail keep).findJob job = some i ∧ i.stop = j.stopAs st detail :=
    ⟨_, by rw [findJob_failJob, hj]; rfl, rfl⟩
  unfold State.useFailed
  rw [hj]
  dsimp only
  rw [if_neg (by simp [hplain])]
  split
  · exact hfail _
  · exact hfail _
  · exact hfail _
  · exact ⟨_, by rw [findJob_cutInput, hj]; rfl, rfl⟩
  · exact hfail _

theorem useFailed_only (u : XUse) (st detail : Nat) : JobsOnly s (s.useFailed job u st detail) := by
  unfold State.useFailed
  rw [hj]
  dsimp only
  rw [if_neg (by simp [hplain])]
  split
  · exact failJob_only _ _ _ _ _
  · exact failJob_only _ _ _ _ _
  · exact failJob_only _ _ _ _ _
  · exact cutInput_only _ _ _ _ _ _
  · exact failJob_only _ _ _ _ _

end

end Sys2Proof.Machine
end

section
/-! What runs out of time in the transport and in the exchange of copies (12 R328, 02 R87, 10 R282). -/
namespace Sys2Proof.Machine

open Safety

/-! ### The ACK timeout -/

theorem transmits_only {α : Type} (l : List α) (o : α → Out) (s : State) :
    l.foldl (fun a x => a.transmit (o x)) s = { s with out := (l.foldl (fun a x => a.transmit (o x)) s).out } := by
  induction l generalizing s with
  | nil => rfl
  | cons x t ih =>
    rw [List.foldl_cons, ih, transmit_only]

/-- What a retry of an entry changes beside its own row. -/
def ResentOnly (s t : State) : Prop := t = { s with regs := t.regs, out := t.out } ∧ KeepsRegs [.xptRetransCount] s t

theorem resend_only (s : State) (q psn : Nat) : ResentOnly s (s.resend q psn) := by
  unfold State.resend
  extract_lets l n
  have h := transmits_only l (fun x => x.wire s) s
  generalize l.foldl (fun a x => a.transmit (x.wire s)) s = t at h
  refine ⟨?_, ?_⟩
  · show t.bump .xptRetransCount n = { s with regs := (t.bump .xptRetransCount n).regs, out := t.out }
    have hregs : t.bump .xptRetransCount n = { t with regs := (t.bump .xptRetransCount n).regs } := rfl
    generalize (t.bump .xptRetransCount n).regs = r at hregs ⊢
    rw [hregs, h]
  · exact keepsRegs_trans (t := t) (keepsRegs_of_regs (by rw [h]) (by rw [h])) (keepsRegs_set (f := .xptRetransCount) (by decide) _ _)

theorem retry_error (s : State) {q : Nat} (psn st : Nat) (h : s.getI .xptQpAttrRetry q ≤ (s.qp q).retries) :
    s.retry q psn st = s.qpError q st := if_pos h

/-- A retry that is left: counted at the entry, and everything goes again. -/
theorem retry_shows (s : State) {q : Nat} (psn st : Nat) (h : (s.qp q).retries < s.getI .xptQpAttrRetry q) :
    ResentOnly (s.putQp { s.qp q with retries := (s.qp q).retries + 1 }) (s.retry q psn st) ∧
      ((s.retry q psn st).qp q).retries = (s.qp q).retries + 1 := by
  have heq : s.retry q psn st = (s.putQp { s.qp q with retries := (s.qp q).retries + 1 }).resend q psn := if_neg (by simpa using h)
  have hq : ({ s.qp q with retries := (s.qp q).retries + 1 } : Qp).qp = q := qp_qp s q
  have hrow := qp_putQp_same s { s.qp q with retries := (s.qp q).retries + 1 }
  rw [hq] at hrow
  have honly := resend_only (s.putQp { s.qp q with retries := (s.qp q).retries + 1 }) q psn
  rw [heq]
  refine ⟨honly, ?_⟩
  have hqps : ((s.putQp { s.qp q with retries := (s.qp q).retries + 1 }).resend q psn).qps =
      (s.putQp { s.qp q with retries := (s.qp q).retries + 1 }).qps := by rw [honly.1]
  rw [qp_congr hqps, hrow]

/-! ### A promised group late at its DUE_TICK -/

/-- The job `uid` runs, or stops as congested. -/
def CongestedOr (uid : Nat) (s : State) : Prop := ∃ i, s.findJob uid = some i ∧ (i.stop = none ∨ i.stop = some (stXptCongested, 0))

theorem congest_same {s : State} {j : Job} (h : CongestedOr j.uid s) :
    ∃ i, (s.congest j).findJob j.uid = some i ∧ i.stop = some (stXptCongested, 0) := by
  obtain ⟨i, hi, hstop⟩ := h
  refine ⟨i.failed stXptCongested 0 (some j.doneBlks), ?_, ?_⟩
  · unfold State.congest
    rw [findJob_failJob]
    exact congrArg (Option.map _) hi
  · show i.stopAs stXptCongested 0 = _
    unfold Job.stopAs
    rcases hstop with hnone | hsome
    · rw [hnone]
    · rw [hsome]

theorem congest_other {s : State} {j : Job} {n : Nat} (hn : n ≠ j.uid) : (s.congest j).findJob n = s.findJob n := by
  unfold State.congest
  rw [findJob_failJob_other _ hn]
  rfl

theorem congests_keep (l : List Job) {s : State} {n : Nat} (h : ∃ i, s.findJob n = some i ∧ i.stop = some (stXptCongested, 0)) :
    ∃ i, (l.foldl (fun a j => a.congest j) s).findJob n = some i ∧ i.stop = some (stXptCongested, 0) := by
  induction l generalizing s with
  | nil => exact h
  | cons j t ih =>
    refine ih ?_
    by_cases hn : n = j.uid
    · subst hn
      obtain ⟨i, hi, hstop⟩ := h
      exact congest_same ⟨i, hi, .inr hstop⟩
    · rw [congest_other hn]
      exact h

theorem congests_stop {l : List Job} {s : State} {j : Job} (hj : j ∈ l) (h : ∃ i, s.findJob j.uid = some i ∧ i.stop = none) :
    ∃ i, (l.foldl (fun a j => a.congest j) s).findJob j.uid = some i ∧ i.stop = some (stXptCongested, 0) := by
  induction l generalizing s with
  | nil => contradiction
  | cons k t ih =>
    by_cases hk : j.uid = k.uid
    · obtain ⟨i, hi, hstop⟩ := h
      rw [hk] at hi ⊢
      exact congests_keep t (congest_same ⟨i, hi, .inl hstop⟩)
    · exact ih ((List.mem_cons.mp hj).resolve_left fun e => hk (e ▸ rfl)) (by rw [congest_other hk]; exact h)

/-! ### The exchange of copies -/

theorem askSent_only (s : State) (g : SnapSeg) : OpOnly s (s.askSent g) := by
  have hfold (l : List Nat) (f : State → Nat → State) (hf : ∀ a p, OpOnly a (f a p)) (a : State) : OpOnly a (l.foldl f a) := by
    induction l generalizing a with
    | nil => exact .refl a
    | cons p t ih => exact (hf a p).trans (ih _)
  unfold State.askSent
  split
  · refine hfold _ _ (fun a p => ?_) s
    split
    · exact fabReadAll_only _ _ _ _ _ _
    · exact .refl a
  · exact .refl s

theorem modSnap_own {s : State} {x : Snap} (hx : s.ckpt.snap = some x) (f : Snap → Snap) : (s.modSnap x.gid f).ckpt.snap = some (f x) := by
  have howns : x.owns x.gid = true := by simp [Snap.owns]
  show s.ckpt.snap.map (fun y => if y.owns x.gid then f y else y) = some (f x)
  rw [hx, Option.map_some, if_pos howns]

/-- A segment as it goes in full. -/
def inFull (all : List Nat) (g : SnapSeg) : SnapSeg := { g with settled := true, sent := all }

theorem sendFull_shows {s : State} {x : Snap} (hx : s.ckpt.snap = some x) (g : SnapSeg) :
    (s.sendFull x g true).get .fjCkptUnmatchedCount = satAdd 32 (s.get .fjCkptUnmatchedCount) g.blocks ∧
      (s.sendFull x g true).entries = s.entries ∧
      (s.sendFull x g true).ckpt.snap = some { x with segs := x.segs.map (fun h => if h.seg = g.seg then inFull (List.range g.blocks) h else h) } := by
  have honly := askSent_only ((s.bump .fjCkptUnmatchedCount g.blocks).modSnap x.gid (fun x =>
    { x with segs := x.segs.map (fun h => if h.seg = g.seg then inFull (List.range g.blocks) h else h) })) { g with sent := List.range g.blocks }
  have heq : s.sendFull x g true = ((s.bump .fjCkptUnmatchedCount g.blocks).modSnap x.gid (fun x =>
    { x with segs := x.segs.map (fun h => if h.seg = g.seg then inFull (List.range g.blocks) h else h) })).askSent
      { g with sent := List.range g.blocks } := rfl
  rw [heq]
  refine ⟨?_, ?_, ?_⟩
  · rw [get_of_keepsRegs honly.2 (by decide)]
    exact get_bump_same s .fjCkptUnmatchedCount g.blocks
  · rw [honly.1]
    rfl
  · rw [honly.1]
    exact modSnap_own (s := s.bump .fjCkptUnmatchedCount g.blocks) hx _

theorem localMaq_shows {s : State} {x : Snap} (hx : s.ckpt.snap = some x) (st : Nat) :
    ∃ y, (s.localMaq x st).ckpt.snap = some y ∧ y.phase = .maquette ∧ y.mirror = .failed st := by
  unfold State.localMaq
  extract_lets b slot s1
  have hs1 : s1.ckpt.snap = some x := by
    have : BeatsOnly _ s1 := beatsOnly_fabWrite _ _ _ _ _ _
    rw [this]
    exact hx
  exact ⟨_, modSnap_own hs1 _, rfl, rfl⟩

/-- An ACK timeout: a retry, and the target's commands again while the entry stands. -/
def State.ackLate (s : State) (q psn : Nat) (caps : List Xfer) : State :=
  let s2 := (s.bump .xptTimeoutsCount 1).retry q psn stXptTimeout
  if s2.rts q then (caps.foldl (fun a x => a.transmit (x.wire s2)) s2).bump .xptRetransCount caps.length else s2

theorem getI_bump_other (s : State) {f g : Fld} (n i : Nat) (h : g ≠ f) : (s.bump f n).getI g i = s.getI g i :=
  getI_setI_other s _ (by simp [Ne.symm h])

theorem ackLate_spent {s : State} {q : Nat} (hrts : s.rts q = true) (psn : Nat) (caps : List Xfer) (h : s.getI .xptQpAttrRetry q ≤ (s.qp q).retries) :
    (s.ackLate q psn caps).getI .xptQpStateState q = qpErr ∧ (s.ackLate q psn caps).getI .xptQpStateLastErr q = stXptTimeout := by
  have hrts' : (s.bump .xptTimeoutsCount 1).rts q = true := by
    rw [State.rts, getI_bump_other s 1 q (by decide)]
    exact hrts
  obtain ⟨hstate, herr⟩ := qpError_shows (s.bump .xptTimeoutsCount 1) stXptTimeout hrts'
  have hspent : (s.bump .xptTimeoutsCount 1).getI .xptQpAttrRetry q ≤ ((s.bump .xptTimeoutsCount 1).qp q).retries := by
    rw [getI_bump_other s 1 q (by decide)]
    exact h
  have hdown : ((s.bump .xptTimeoutsCount 1).qpError q stXptTimeout).rts q = false := by
    rw [State.rts, hstate]
    decide
  have heq : s.ackLate q psn caps = (s.bump .xptTimeoutsCount 1).qpError q stXptTimeout := by
    unfold State.ackLate
    rw [retry_error _ psn stXptTimeout hspent]
    exact if_neg (by simp [hdown])
  rw [heq]
  exact ⟨hstate, herr⟩

theorem ackLate_again {s : State} {q : Nat} (psn : Nat) (caps : List Xfer) (h : (s.qp q).retries < s.getI .xptQpAttrRetry q) :
    ((s.ackLate q psn caps).qp q).retries = (s.qp q).retries + 1 ∧ (s.ackLate q psn caps).xfers = s.xfers ∧
      (s.ackLate q psn caps).get .xptTimeoutsCount = satAdd 32 (s.get .xptTimeoutsCount) 1 := by
  have hleft : ((s.bump .xptTimeoutsCount 1).qp q).retries < (s.bump .xptTimeoutsCount 1).getI .xptQpAttrRetry q := by
    rw [getI_bump_other s 1 q (by decide)]
    exact h
  obtain ⟨⟨honly, hregs⟩, hretries⟩ := retry_shows (s.bump .xptTimeoutsCount 1) psn stXptTimeout hleft
  unfold State.ackLate
  dsimp only
  generalize hu : (s.bump .xptTimeoutsCount 1).retry q psn stXptTimeout = u at honly hregs hretries
  have hcount : u.get .xptTimeoutsCount = satAdd 32 (s.get .xptTimeoutsCount) 1 :=
    (get_of_keepsRegs hregs (by decide)).trans (get_bump_same s .xptTimeoutsCount 1)
  have hxfers : u.xfers = s.xfers := by
    rw [honly]
    rfl
  split
  · have hsent := transmits_only caps (fun x => x.wire u) u
    generalize caps.foldl (fun a x => a.transmit (x.wire u)) u = v at hsent ⊢
    refine ⟨?_, ?_, ?_⟩
    · have hqps : (v.bump .xptRetransCount caps.length).qps = u.qps := by
        show v.qps = u.qps
        rw [hsent]
      rw [qp_congr hqps]
      exact hretries
    · show v.xfers = s.xfers
      rw [hsent]
      exact hxfers
    · refine (getI_bump_other v caps.length 0 (by decide)).trans (Eq.trans ?_ hcount)
      exact keepsRegs_of_regs (fs := []) (by rw [hsent]) (by rw [hsent]) .xptTimeoutsCount 0 List.not_mem_nil
  · exact ⟨hretries, hxfers, hcount⟩

end Sys2Proof.Machine

namespace Sys2Proof.Proofs

open Sys2Proof.Machine Sys2Proof.Safety

/-- Settles O50: the five time-outs. -/
theorem timeouts : Obligations.Timeouts := by
  unfold Obligations.Timeouts
  refine ⟨fun s qp hrts hout hup => ?_, fun s tag x j hx hj hplain hstop => ?_, fun s gid g j hg hstage hpromised hvoid hdue hawake hj hmine hstop hwork => ?_,
    fun s seg t x g hsnap hg hcopied hdue hsettled hbatch hkept hwriter hawake => ?_, fun s t x hsnap htwo hdue hnotice hphase hawake => ?_⟩
  · obtain ⟨psn, caps, hexec⟩ : ∃ psn caps, exec (.ackTimeout qp) s = .next (finishState s (s.ackLate (qp % 256) psn caps).goOn) :=
      ⟨_, _, if_neg (by simp [hrts, hout, hup])⟩
    exact ⟨_, hexec, ackLate_spent hrts psn caps, ackLate_again psn caps⟩
  · have hexec : exec (.remoteOpTimeout tag) s = .next (finishState s ((({ s with
        xfers := s.xfers.map (fun (y : Xfer) => if y = x then { y with job := 0, use := .side } else y) } : State).useFailed x.job x.use stXptTimeout 0).goOn)) := by
      show execRemoteOpTimeout tag s = _
      unfold execRemoteOpTimeout
      rw [hx]
      rfl
    obtain ⟨i, hi, hstopped⟩ := useFailed_stops (s := { s with
      xfers := s.xfers.map (fun (y : Xfer) => if y = x then { y with job := 0, use := .side } else y) }) hj hplain x.use stXptTimeout 0
    exact ⟨_, hexec, i, hi, hstopped.trans (stopAs_of_none hstop _ _)⟩
  · have hlate : j ∈ s.jobs.filter (fun j => s.entries.any (fun e => e.uid == j.uid && e.gid == gid) && j.stop.isNone && remoteWork s j) := by
      refine List.mem_filter.mpr ⟨List.mem_of_find?_eq_some hj, ?_⟩
      rw [hmine, hstop, hwork]
      rfl
    have hexec : exec (.dueTickCongested gid) s = .next (finishState s (((s.jobs.filter (fun j =>
        s.entries.any (fun e => e.uid == j.uid && e.gid == gid) && j.stop.isNone && remoteWork s j)).foldl (fun a j => a.congest j) s).up
          .xptStatCongested).goOn) := by
      show execDueTickCongested gid s = _
      unfold execDueTickCongested
      rw [hg]
      exact if_pos ⟨hstage, hpromised, by simp [hvoid], hdue, by rw [List.isEmpty_eq_false_iff_exists_mem.mpr ⟨j, hlate⟩]; simp, hawake⟩
    obtain ⟨i, hi, hstopped⟩ := congests_stop hlate ⟨j, hj, hstop⟩
    exact ⟨_, hexec, flag_up_same _ _ (by decide), i, hi, hstopped⟩
  · have hseg : g.seg = seg := by simpa using List.find?_some hg
    have hexec : exec (.xchgWaitTimeout seg) s = .next (finishState s (s.sendFull x g true).work) := by
      show execXchgWaitTimeout seg s = _
      unfold execXchgWaitTimeout
      rw [hsnap]
      dsimp only
      rw [hg]
      dsimp only
      rw [hcopied]
      exact if_pos ⟨by simpa using hdue, by simp [hsettled], by simp [hbatch], hkept, by simp [hwriter], hawake⟩
    obtain ⟨hcount, hentries, hckpt⟩ := sendFull_shows hsnap g
    refine ⟨_, hexec, hcount, hentries, _, hckpt, fun h hh hhseg => ?_⟩
    obtain ⟨k, -, rfl⟩ := List.mem_map.mp hh
    by_cases hk : k.seg = g.seg
    · rw [if_pos hk]
      exact ⟨rfl, rfl⟩
    · rw [if_neg hk] at hhseg
      exact absurd (hhseg.trans hseg.symm) hk
  · have hexec : exec .commitNoticeTimeout s = .next (finishState s (s.localMaq x stXptTimeout).work) := by
      show execCommitNoticeTimeout s = _
      unfold execCommitNoticeTimeout
      rw [hsnap]
      dsimp only
      rw [htwo]
      exact if_pos ⟨by simpa using hdue, by simp [hnotice], hphase, hawake⟩
    exact ⟨_, hexec, localMaq_shows hsnap stXptTimeout⟩

end Sys2Proof.Proofs
end

section
/-! Sync words and the entries that wait on them (14 R383 to R388). -/
namespace Sys2Proof.Machine

open Safety

/-! ### The end of sync entries -/

theorem endSync_only (s : State) (uid status value : Nat) : EntryOnly (s.dropWaiter uid) (s.endSync uid status value) := endEntry_only _ _ _

@[simp] theorem endSync_waiters (s : State) (uid status value : Nat) :
    (s.endSync uid status value).waiters = s.waiters.filter (fun w => w.uid != uid) := by
  rw [(endSync_only s uid status value).1]
  rfl

theorem endSync_build (s : State) (uid status value : Nat) : (s.endSync uid status value).build = s.build := by
  rw [(endSync_only s uid status value).1]
  rfl

theorem keepsRegs_endSync (s : State) (uid status value : Nat) : KeepsRegs entryFlds s (s.endSync uid status value) :=
  keepsRegs_trans (keepsRegs_of_regs rfl rfl) (endSync_only s uid status value).2

theorem ended_endEntry_kept {s : State} {u : Nat} (h : Ended s u) (uid : Nat) (res : Result) : Ended (s.endEntry uid res) u := by
  unfold State.endEntry
  split
  · exact h
  · exact ended_wakeFence (ended_endOne res (.inr h)) _ _

theorem ended_endSync_kept {s : State} {u : Nat} (h : Ended s u) (uid status value : Nat) : Ended (s.endSync uid status value) u :=
  ended_endEntry_kept (s := s.dropWaiter uid) h _ _

/-- The entries of these waiters end, one after the other. -/
def State.endSyncs (s : State) (l : List Waiter) (status value : Nat) : State := l.foldl (fun a w => a.endSync w.uid status value) s

theorem mem_waiters_endSyncs (l : List Waiter) (s : State) (status value : Nat) (w : Waiter) :
    w ∈ (s.endSyncs l status value).waiters ↔ w ∈ s.waiters ∧ ∀ x ∈ l, w.uid ≠ x.uid := by
  induction l generalizing s with
  | nil => simp [State.endSyncs]
  | cons x t ih =>
    show w ∈ ((s.endSync x.uid status value).endSyncs t status value).waiters ↔ _
    rw [ih, endSync_waiters]
    simp [and_assoc]

/-- What the end of several sync entries leaves: the words, and all fields but those of the end of entries. -/
structure SyncsEnded (s t : State) : Prop where
  build : t.build = s.build
  words : t.words = s.words
  regs : KeepsRegs entryFlds s t

theorem SyncsEnded.refl (s : State) : SyncsEnded s s := ⟨rfl, rfl, keepsRegs_refl _ _⟩

theorem SyncsEnded.trans {s t u : State} (h : SyncsEnded s t) (k : SyncsEnded t u) : SyncsEnded s u :=
  ⟨k.build.trans h.build, k.words.trans h.words, keepsRegs_trans h.regs k.regs⟩

theorem syncsEnded_endSync (s : State) (uid status value : Nat) : SyncsEnded s (s.endSync uid status value) :=
  ⟨endSync_build s uid status value, endSync_words s uid status value, keepsRegs_endSync s uid status value⟩

theorem syncsEnded_endSyncs (l : List Waiter) (s : State) (status value : Nat) : SyncsEnded s (s.endSyncs l status value) := by
  induction l generalizing s with
  | nil => exact .refl s
  | cons x t ih => exact (syncsEnded_endSync s x.uid status value).trans (ih _)

theorem ended_endSyncs_kept (l : List Waiter) {s : State} {u : Nat} (h : Ended s u) (status value : Nat) :
    Ended (s.endSyncs l status value) u := by
  induction l generalizing s with
  | nil => exact h
  | cons x t ih => exact ih (ended_endSync_kept h _ _ _)

theorem ended_endSyncs {l : List Waiter} (s : State) (status value : Nat) {w : Waiter} (hw : w ∈ l) :
    Ended (s.endSyncs l status value) w.uid := by
  induction l generalizing s with
  | nil => contradiction
  | cons x t ih =>
    cases List.mem_cons.mp hw with
    | inl h => exact ended_endSyncs_kept t (h ▸ ended_endSync s x.uid status value) _ _
    | inr h => exact ih _ h

/-! ### An update of a word -/

/-- The word as one update leaves it. -/
def updated (w : SyncWord) (v : Nat) (sw : Bool) (ctx ring : Nat) : SyncWord := { w with val := v % 2 ^ 32, lastSw := sw, lastCtx := ctx, lastRing := ring }

/-- The waiters of a word that its VALUE satisfies. -/
def released (s : State) (phys v : Nat) : List Waiter := s.waiters.filter (fun w => w.phys == phys && waitHolds w.what v w.value)

/-- The word and its count, before the waiters are looked at. -/
def State.wordUpdated (s : State) (phys v : Nat) (sw : Bool) (ctx ring : Nat) : State :=
  (s.putWord (updated (s.word phys) v sw ctx ring)).bump .syncSignalsCount 1

theorem word_wordUpdated_same (s : State) (phys v : Nat) (sw : Bool) (ctx ring : Nat) :
    (s.wordUpdated phys v sw ctx ring).word phys = updated (s.word phys) v sw ctx ring := by
  have := word_putWord_same s (updated (s.word phys) v sw ctx ring)
  rwa [show (updated (s.word phys) v sw ctx ring).phys = phys from word_phys s phys] at this

theorem word_wordUpdated_other (s : State) {phys q : Nat} (hq : q ≠ phys) (v : Nat) (sw : Bool) (ctx ring : Nat) :
    (s.wordUpdated phys v sw ctx ring).word q = s.word q :=
  word_putWord_other s (updated (s.word phys) v sw ctx ring) (by rw [show (updated (s.word phys) v sw ctx ring).phys = phys from word_phys s phys]; exact hq)

theorem updateWord_eq {s : State} (h : s.holdingUp = false) (phys v : Nat) (sw : Bool) (ctx ring : Nat) :
    s.updateWord phys v sw ctx ring =
      (s.wordUpdated phys v sw ctx ring).endSyncs (released s phys (v % 2 ^ 32)) stOk (v % 2 ^ 32) := by
  have hval : ((s.wordUpdated phys v sw ctx ring).word phys).val = v % 2 ^ 32 := congrArg SyncWord.val (word_wordUpdated_same s phys v sw ctx ring)
  refine (if_neg (by simp [h])).trans ?_
  show (s.wordUpdated phys v sw ctx ring).evalWaits phys = _
  unfold State.evalWaits
  rw [hval]
  rfl

/-- What one update of a word does (14 R387, R388). -/
structure WordUpdated (s t : State) (phys v : Nat) (sw : Bool) (ctx ring : Nat) : Prop where
  build : t.build = s.build
  word : t.word phys = updated (s.word phys) v sw ctx ring
  others : ∀ q, q ≠ phys → t.word q = s.word q
  waiters : ∀ w, w ∈ t.waiters ↔ w ∈ s.waiters ∧ ∀ x ∈ released s phys (v % 2 ^ 32), w.uid ≠ x.uid
  count : t.get .syncSignalsCount = satAdd 64 (s.get .syncSignalsCount) 1
  regs : KeepsRegs (entryFlds ++ [.syncSignalsCount]) s t

theorem wordUpdated_updateWord {s : State} (h : s.holdingUp = false) (phys v : Nat) (sw : Bool) (ctx ring : Nat) :
    WordUpdated s (s.updateWord phys v sw ctx ring) phys v sw ctx ring := by
  rw [updateWord_eq h]
  have hends := syncsEnded_endSyncs (released s phys (v % 2 ^ 32)) (s.wordUpdated phys v sw ctx ring) stOk (v % 2 ^ 32)
  refine ⟨hends.build, ?_, fun q hq => ?_, mem_waiters_endSyncs _ _ _ _, ?_, ?_⟩
  · rw [word_congr hends.words, word_wordUpdated_same]
  · rw [word_congr hends.words, word_wordUpdated_other s hq]
  · rw [get_of_keepsRegs hends.regs (by decide)]
    exact get_bump_same (s.putWord (updated (s.word phys) v sw ctx ring)) .syncSignalsCount 1
  · refine keepsRegs_trans ?_ (keepsRegs_mono (by simp) hends.regs)
    exact keepsRegs_trans (t := s.putWord (updated (s.word phys) v sw ctx ring)) (keepsRegs_of_regs rfl rfl)
      (keepsRegs_set (f := .syncSignalsCount) (by simp) _ _)

/-- No waiter of the word is left that its VALUE satisfies. -/
theorem WordUpdated.unsatisfied {s t : State} {phys v ctx ring : Nat} {sw : Bool} (h : WordUpdated s t phys v sw ctx ring) :
    ∀ w ∈ t.waiters, w.phys = phys → waitHolds w.what (v % 2 ^ 32) w.value = false := by
  intro w hw hphys
  obtain ⟨hin, hout⟩ := (h.waiters w).mp hw
  by_contra hne
  exact hout w (List.mem_filter.mpr ⟨hin, by simpa [hphys] using hne⟩) rfl

end Sys2Proof.Machine
end

section
/-! SIGNAL and WAIT (14 R383 to R388, R395). -/
namespace Sys2Proof.Machine

open Safety

theorem holdingUp_of_awake {s : State} (h : s.awake = true) : s.holdingUp = false := by
  simp only [State.awake, Bool.and_eq_true, Bool.or_eq_true, beq_iff_eq] at h
  obtain ⟨⟨heng, hnone⟩, -⟩ := h
  rcases heng with heng | heng <;> simp [State.holdingUp, heng, Option.isNone_iff_eq_none.mp hnone]

theorem signal_of_plain {s : State} {e : Entry} {p : Nat} (hc : syncCheck s e.ctx e.desc.arg .syncMapSigOk = .word p)
    (hb : (s.word p).barrier = false) (f : Nat → Nat → Nat) (set : Bool) :
    s.signal e f set = (s.updateWord p (f (s.word p).val (syncValOf e.desc.arg) % 2 ^ 32) false e.ctx e.ring).endSync e.uid stOk
      (f (s.word p).val (syncValOf e.desc.arg) % 2 ^ 32) := by
  rw [State.signal, hc]
  exact if_neg (by simp [hb])

/-- The three SIGNALs, with what each does to the word's VALUE. -/
theorem exec_signalOf (s : State) (ctx ring : Nat) :
    ∀ x ∈ [(Instr.signalSet ctx ring, 0, setFn), (.signalAdd ctx ring, 1, addFn), (.signalSub ctx ring, 2, subFn)], ∃ name,
      exec x.1 s = startSync name ctx ring opSignal x.2.1 s (fun e t => t.signal e x.2.2 (x.2.1 == 0)) := by
  simp only [List.forall_mem_cons, List.not_mem_nil, false_implies, implies_true, and_true]
  exact ⟨⟨_, rfl⟩, ⟨_, rfl⟩, ⟨_, rfl⟩⟩

/-- The three WAITs, with the condition of each. -/
theorem exec_waitOf (s : State) (ctx ring : Nat) :
    ∀ x ∈ [(Instr.waitEq ctx ring, 0, WaitFor.eq), (.waitGe ctx ring, 1, .ge), (.waitNe ctx ring, 2, .ne)], ∃ name,
      exec x.1 s = startSync name ctx ring opWait x.2.1 s (fun e t => t.waitOn e x.2.2) := by
  simp only [List.forall_mem_cons, List.not_mem_nil, false_implies, implies_true, and_true]
  exact ⟨⟨_, rfl⟩, ⟨_, rfl⟩, ⟨_, rfl⟩⟩

theorem keepsRegs_started (fs : List Fld) (s : State) (e : Entry) : KeepsRegs fs s (started s e) := keepsRegs_of_regs rfl rfl

/-- A sync entry that ends at once: nothing but its end happens. -/
theorem endSync_started (s : State) (e : Entry) (st v : Nat) :
    Ended (finishState s ((started s e).endSync e.uid st v)) e.uid ∧ (finishState s ((started s e).endSync e.uid st v)).words = s.words ∧
      KeepsRegs entryFlds s (finishState s ((started s e).endSync e.uid st v)) := by
  have hends := syncsEnded_endSync (started s e) e.uid st v
  refine ⟨ended_finishState (ended_endSync _ _ _ _), ?_,
    keepsRegs_finishState (by decide) hends.build (keepsRegs_trans (keepsRegs_started _ s e) hends.regs)⟩
  rw [finishState_words, hends.words]
  rfl

/-- A SIGNAL on a plain word, done. -/
theorem signal_shows {s : State} {e : Entry} {p : Nat} (hawake : s.awake = true) (hc : syncCheck s e.ctx e.desc.arg .syncMapSigOk = .word p)
    (hb : (s.word p).barrier = false) (f : Nat → Nat → Nat) (set : Bool) :
    let n := f (s.word p).val (syncValOf e.desc.arg) % 2 ^ 32
    let t := finishState s ((started s e).signal e f set)
    t.word p = { s.word p with val := n, lastSw := false, lastCtx := e.ctx, lastRing := e.ring } ∧ (∀ q, q ≠ p → t.word q = s.word q) ∧
      (∀ w ∈ t.waiters, w.phys = p → waitHolds w.what n w.value = false) ∧
      (∀ w ∈ s.waiters, w.uid ≠ e.uid → ¬ (∃ y ∈ s.waiters, y.uid = w.uid ∧ y.phys = p ∧ waitHolds y.what n y.value = true) →
        w ∈ t.waiters) ∧
      t.get .syncSignalsCount = satAdd 64 (s.get .syncSignalsCount) 1 ∧ KeepsRegs (entryFlds ++ [.syncSignalsCount]) s t ∧ Ended t e.uid := by
  intro n t
  have hn : n % 2 ^ 32 = n := Nat.mod_mod _ _
  have hup := wordUpdated_updateWord (s := started s e) (holdingUp_of_awake hawake) p n false e.ctx e.ring
  have heq : (started s e).signal e f set = ((started s e).updateWord p n false e.ctx e.ring).endSync e.uid stOk n :=
    signal_of_plain (s := started s e) hc hb f set
  have hsafe := hup.unsatisfied
  have ht : t = finishState s (((started s e).updateWord p n false e.ctx e.ring).endSync e.uid stOk n) := by rw [← heq]
  generalize (started s e).updateWord p n false e.ctx e.ring = u at hup hsafe ht
  have hends := syncsEnded_endSync u e.uid stOk n
  have hbuild : (u.endSync e.uid stOk n).build = s.build := hends.build.trans hup.build
  have hwords : t.words = u.words := by rw [ht, finishState_words, hends.words]
  have hwaiters : t.waiters = u.waiters.filter (fun w => w.uid != e.uid) := by rw [ht, finishState_waiters, endSync_waiters]
  rw [hn] at hsafe
  refine ⟨?_, fun q hq => ?_, fun w hw => ?_, fun w hw hne hkept => ?_, ?_, ?_, ?_⟩
  · rw [word_congr hwords, hup.word, updated, hn]
    rfl
  · rw [word_congr hwords]
    exact hup.others q hq
  · rw [hwaiters] at hw
    exact hsafe w (List.mem_filter.mp hw).1
  · rw [hwaiters]
    refine List.mem_filter.mpr ⟨(hup.waiters w).mpr ⟨hw, fun x hx e => hkept ?_⟩, by simpa using hne⟩
    obtain ⟨hx1, hx2⟩ := List.mem_filter.mp hx
    rw [hn] at hx2
    obtain ⟨hx2, hx3⟩ : x.phys = p ∧ waitHolds x.what n x.value = true := by simpa using hx2
    exact ⟨x, hx1, e.symm, hx2, hx3⟩
  · rw [ht, get_finishState hbuild (by decide), get_of_keepsRegs hends.regs (by decide)]
    exact hup.count
  · rw [ht]
    exact keepsRegs_finishState (by decide) hbuild (keepsRegs_trans (keepsRegs_trans (keepsRegs_started _ s e) hup.regs)
      (keepsRegs_mono (by simp) hends.regs))
  · rw [ht]
    exact ended_finishState (ended_endSync _ _ _ _)

/-- A SET that turns a barrier word plain, done. -/
theorem signal_turns {s : State} {e : Entry} {p : Nat} (hc : syncCheck s e.ctx e.desc.arg .syncMapSigOk = .word p)
    (hb : (s.word p).barrier = true) {set : Bool} (h : TurnsPlain s p e (set = true)) (f : Nat → Nat → Nat) :
    let t := finishState s ((started s e).signal e f set)
    t.word p = plainWord p e ∧ (∀ q, q ≠ p → t.word q = s.word q) ∧ Ended t e.uid := by
  intro t
  have ht : t = finishState s ((((started s e).putWord (plainWord p e)).bump .syncSignalsCount 1).endSync e.uid stOk (syncValOf e.desc.arg)) := by
    unfold t
    rw [signal_of_turnsPlain (s := started s e) hc hb h]
  have hwords : t.words = ((started s e).putWord (plainWord p e)).words := by rw [ht, finishState_words, endSync_words, State.bump_words]
  refine ⟨?_, fun q hq => ?_, ?_⟩
  · rw [word_congr hwords]
    exact word_putWord_same (started s e) (plainWord p e)
  · rw [word_congr hwords]
    exact word_putWord_other (started s e) (plainWord p e) hq
  · rw [ht]
    exact ended_finishState (ended_endSync _ _ _ _)

/-- A WAIT whose condition does not hold. -/
theorem waitOn_blocks {s : State} {e : Entry} {p : Nat} (hc : syncCheck s e.ctx e.desc.arg .syncMapWaitOk = .word p)
    (hb : (s.word p).barrier = false) {what : WaitFor} (h : waitHolds what (s.word p).val (syncValOf e.desc.arg) = false) :
    s.waitOn e what = s.block e p what (syncValOf e.desc.arg) := by
  rw [State.waitOn, hc]
  exact (if_neg (by simp [hb])).trans (if_neg (by simp [h]))

theorem waitOn_holds {s : State} {e : Entry} {p : Nat} (hc : syncCheck s e.ctx e.desc.arg .syncMapWaitOk = .word p)
    (hb : (s.word p).barrier = false) {what : WaitFor} (h : waitHolds what (s.word p).val (syncValOf e.desc.arg) = true) :
    s.waitOn e what = s.endSync e.uid stOk (s.word p).val := by
  rw [State.waitOn, hc]
  exact (if_neg (by simp [hb])).trans (if_pos h)

/-- An entry that blocks its ring. -/
theorem block_started (s : State) (e : Entry) (p : Nat) (what : WaitFor) (v : Nat) :
    ((started s e).block e p what v).entries = replaceFirst (fun y => y.uid == e.uid) (fun y => { y with stage := .blocked }) s.entries :=
  replaceFirst_replaceFirst (f := fun x : Entry => { x with stage := .running }) _ (fun _ => rfl) (fun _ => rfl) s.entries

end Sys2Proof.Machine

namespace Sys2Proof.Proofs

open Sys2Proof.Machine Sys2Proof.Safety

/-- Settles O33: a SIGNAL on a plain word updates it, one on a barrier word turns it plain or is refused. -/
theorem signals : Obligations.Signals := by
  unfold Obligations.Signals
  intro s ctx ring e x hx hready
  obtain ⟨name, hexec⟩ := exec_signalOf s ctx ring x hx
  have hset : (x.2.1 == 0) = true ↔ x.2.1 = 0 := beq_iff_eq
  refine ⟨fun p hstarts => ?_, fun st hstarts => ?_⟩
  · obtain ⟨hstart, hsub, hcheck⟩ := hstarts
    have hrun := hexec.trans (startSync_of_starts hstart hsub (fun _ => hready) _ _)
    by_cases hb : (s.word p).barrier = true
    · by_cases hturns : TurnsPlain s p e (x.2.1 = 0)
      · obtain ⟨hword, hothers, hended⟩ := signal_turns hcheck hb (set := x.2.1 == 0) ⟨hset.mpr hturns.1, hturns.2⟩ x.2.2
        exact ⟨_, hrun, hended, hothers, fun h => absurd hb (by simp [h]), fun _ => ⟨fun _ => hword, fun hnot => absurd hturns hnot⟩⟩
      · rw [signal_of_not_turnsPlain (s := started s e) hcheck hb fun ⟨h0, hrest⟩ => hturns ⟨hset.mp h0, hrest⟩] at hrun
        obtain ⟨hended, hwords, hregs⟩ := endSync_started s e stSyncKind 0
        exact ⟨_, hrun, hended, fun q _ => word_congr hwords q, fun h => absurd hb (by simp [h]),
          fun _ => ⟨fun h => absurd h hturns, fun _ => ⟨word_congr hwords p, hregs⟩⟩⟩
    · obtain ⟨hword, hothers, hsafe, hkept, hcount, hregs, hended⟩ :=
        signal_shows hstart.2.2.2 hcheck (Bool.eq_false_iff.mpr hb) x.2.2 (x.2.1 == 0)
      exact ⟨_, hrun, hended, hothers, fun _ => ⟨hword, hsafe, hkept, hcount, hregs⟩, fun h => absurd h hb⟩
  · obtain ⟨hstart, hsub, hcheck⟩ := hstarts
    have hrun := hexec.trans (startSync_of_starts hstart hsub (fun _ => hready) _ _)
    rw [signal_of_bad (s := started s e) hcheck] at hrun
    obtain ⟨hended, hwords, hregs⟩ := endSync_started s e st 0
    exact ⟨_, hrun, hended, hwords, hregs⟩

/-- Settles O34: a WAIT ends at once, or blocks its ring. -/
theorem waits : Obligations.Waits := by
  unfold Obligations.Waits
  intro s ctx ring e x hx
  obtain ⟨name, hexec⟩ := exec_waitOf s ctx ring x hx
  refine ⟨fun p hstarts => ?_, fun st hstarts => ?_⟩
  · obtain ⟨hstart, hsub, hcheck⟩ := hstarts
    have hrun := hexec.trans (startSync_of_starts hstart hsub (fun hop => absurd hop (by decide)) _ _)
    by_cases hb : (s.word p).barrier = true
    · rw [waitOn_of_barrier (s := started s e) hcheck hb] at hrun
      obtain ⟨hended, hwords, hregs⟩ := endSync_started s e stSyncKind 0
      exact ⟨_, hrun, hwords, hregs, fun _ => hended, fun h => absurd hb (by simp [h])⟩
    · have hb := Bool.eq_false_iff.mpr hb
      by_cases hholds : waitHolds x.2.2 (s.word p).val (syncValOf e.desc.arg) = true
      · rw [waitOn_holds (s := started s e) hcheck hb hholds] at hrun
        obtain ⟨hended, hwords, hregs⟩ := endSync_started s e stOk (s.word p).val
        exact ⟨_, hrun, hwords, hregs, fun _ => hended, fun _ h => absurd hholds (by simp [h])⟩
      · have hholds := Bool.eq_false_iff.mpr hholds
        rw [waitOn_blocks (s := started s e) hcheck hb hholds] at hrun
        refine ⟨_, hrun, ?_, ?_, fun h => ?_, fun _ _ => ⟨?_, ?_⟩⟩
        · rw [finishState_words]
          rfl
        · exact keepsRegs_finishState (by decide) rfl (keepsRegs_of_regs rfl rfl)
        · exact h.elim (fun h => absurd h (by simp [hb])) (fun h => absurd h (by simp [hholds]))
        · rw [finishState_waiters]
          rfl
        · rw [finishState_entries]
          exact block_started s e p x.2.2 _
  · obtain ⟨hstart, hsub, hcheck⟩ := hstarts
    have hrun := hexec.trans (startSync_of_starts hstart hsub (fun hop => absurd hop (by decide)) _ _)
    rw [waitOn_of_bad (s := started s e) hcheck] at hrun
    obtain ⟨hended, hwords, hregs⟩ := endSync_started s e st 0
    exact ⟨_, hrun, hended, hwords, hregs⟩

end Sys2Proof.Proofs
end

section
/-! Barriers (14 R392 to R396). -/
namespace Sys2Proof.Machine

open Safety

/-! ### Every word but one stays -/

/-- Every word but p is as it was. -/
def OtherWords (p : Nat) (s t : State) : Prop := ∀ q, q ≠ p → t.word q = s.word q

theorem OtherWords.refl (p : Nat) (s : State) : OtherWords p s s := fun _ _ => rfl

theorem OtherWords.trans {p : Nat} {s t u : State} (h : OtherWords p s t) (k : OtherWords p t u) : OtherWords p s u :=
  fun q hq => (k q hq).trans (h q hq)

theorem otherWords_of_words {s t : State} (h : t.words = s.words) (p : Nat) : OtherWords p s t := fun q _ => word_congr h q

theorem otherWords_putWord (s : State) {w : SyncWord} {p : Nat} (h : w.phys = p) : OtherWords p s (s.putWord w) :=
  fun _ hq => word_putWord_other s w (by rw [h]; exact hq)

theorem otherWords_ite {p : Nat} {s a b : State} {c : Prop} [Decidable c] (ha : OtherWords p s a) (hb : OtherWords p s b) :
    OtherWords p s (if c then a else b) := by split <;> assumption

theorem otherWords_foldl {α : Type} {p : Nat} (l : List α) (g : State → α → State) (h : ∀ s a, OtherWords p s (g s a)) (s : State) :
    OtherWords p s (l.foldl g s) := by
  induction l generalizing s with
  | nil => exact .refl p s
  | cons a t ih => exact (h s a).trans (ih _)

theorem otherWords_endSync (s : State) (uid status value p : Nat) : OtherWords p s (s.endSync uid status value) :=
  otherWords_of_words (endSync_words _ _ _ _) p

/-! ### One arrival counted -/

/-- The word with one arrival more. -/
def countedOne (w : SyncWord) : SyncWord := { w with counted := w.counted + 1 }

theorem word_putWord (s : State) {w : SyncWord} {p : Nat} (h : w.phys = p) : (s.putWord w).word p = w := by
  have := word_putWord_same s w
  rwa [h] at this

/-- The entry that waits for the end of the round. -/
def State.waitRound (s : State) (x : Waiter) : State :=
  { ((s.dropWaiter x.uid).modEntry x.uid (fun y => { y with stage := .blocked })) with waiters := (s.dropWaiter x.uid).waiters ++ [x] }

section
variable (s : State) (p uid ctx ring id : Nat) (timeout : Option Nat)

theorem countOne_pass : s.countOne p uid ctx ring id false timeout =
    (s.putWord (countedOne (s.word p))).endSync uid stOk (s.word p).val := by
  unfold State.countOne
  dsimp only
  rw [if_neg Bool.false_ne_true]
  rfl

theorem countOne_wait : s.countOne p uid ctx ring id true timeout =
    (s.putWord (countedOne (s.word p))).waitRound ⟨uid, ctx, ring, id, p, .round, (s.word p).val, timeout⟩ := by
  unfold State.countOne
  dsimp only
  rw [if_pos rfl]
  rfl

theorem words_countOne (wait : Bool) : (s.countOne p uid ctx ring id wait timeout).words = (s.putWord (countedOne (s.word p))).words := by
  cases wait
  · rw [countOne_pass, endSync_words]
  · rw [countOne_wait]
    rfl

theorem otherWords_countOne (wait : Bool) : OtherWords p s (s.countOne p uid ctx ring id wait timeout) :=
  (otherWords_putWord s (w := countedOne (s.word p)) (word_phys s p)).trans (otherWords_of_words (words_countOne s p uid ctx ring id timeout wait) p)

theorem word_countOne (wait : Bool) : (s.countOne p uid ctx ring id wait timeout).word p = countedOne (s.word p) :=
  (word_congr (words_countOne s p uid ctx ring id timeout wait) p).trans (word_putWord s (w := countedOne (s.word p)) (word_phys s p))

end

theorem otherWords_releaseFuel (n p : Nat) (s : State) : OtherWords p s (releaseFuel n p s) := by
  induction n generalizing s with
  | zero => exact .refl p s
  | succ n ih =>
    rw [releaseFuel]
    refine otherWords_ite (.refl p s) ?_
    extract_lets r s1 s2 held s3
    have h1 : OtherWords p s s1 := otherWords_putWord s (word_phys s p)
    have h2 : OtherWords p s1 s2 := otherWords_foldl _ _ (fun a x => otherWords_endSync a _ _ _ p) s1
    have h3 : OtherWords p s2 s3 := otherWords_foldl _ _ (fun a x => otherWords_ite (otherWords_countOne _ _ _ _ _ _ _ _) (.refl p a)) s2
    exact ((h1.trans h2).trans h3).trans (ih s3)

/-! ### A release -/

/-- The round is not complete. -/
theorem release_stays {s : State} {p : Nat} (h : (s.word p).counted < (s.word p).parties) : s.release p = s := by
  unfold State.release
  rw [releaseFuel]
  exact if_pos (.inr (.inr h))

/-- The word at the start of the next round. -/
def nextRound (w : SyncWord) : SyncWord := { w with val := (w.val + 1) % 2 ^ 32, counted := 0 }

/-- Those who wait for the end of the round. -/
def inRound (s : State) (p : Nat) : List Waiter := s.waiters.filter (fun x => x.phys == p && x.what == .round)

/-- The last arrival is counted, and nobody is held for the next round. -/
theorem release_turns {s : State} {p : Nat} (hbarrier : (s.word p).barrier = true) (hwhole : (s.word p).broken = false)
    (hlast : (s.word p).counted = (s.word p).parties) (hsome : 0 < (s.word p).parties)
    (hround : ∀ x ∈ s.waiters, x.phys = p → x.what = .round) :
    s.release p = (s.putWord (nextRound (s.word p))).endSyncs (inRound s p) stOk (s.word p).val := by
  have hheld : (((s.putWord (nextRound (s.word p))).endSyncs (inRound s p) stOk (s.word p).val).waiters.filter
      (fun x => x.phys == p && (x.what == .held true || x.what == .held false))) = [] := by
    rw [List.filter_eq_nil_iff]
    intro x hx hheld
    have hin : x ∈ s.waiters := ((mem_waiters_endSyncs _ (s.putWord (nextRound (s.word p))) _ _ _).mp hx).1
    obtain ⟨hphys, hwhat⟩ : x.phys = p ∧ (x.what = .held true ∨ x.what = .held false) := by simpa using hheld
    rw [hround x hin hphys] at hwhat
    rcases hwhat with h | h <;> cases h
  have hword : (((s.putWord (nextRound (s.word p))).endSyncs (inRound s p) stOk (s.word p).val).word p) = nextRound (s.word p) := by
    rw [word_congr (syncsEnded_endSyncs _ _ _ _).words]
    have := word_putWord_same s (nextRound (s.word p))
    rwa [show (nextRound (s.word p)).phys = p from word_phys s p] at this
  unfold State.release
  rw [releaseFuel]
  refine (if_neg (by simp [hbarrier, hwhole, hlast])).trans ?_
  show releaseFuel (s.waiters.length + 1) p (List.foldl _ ((s.putWord (nextRound (s.word p))).endSyncs (inRound s p) stOk (s.word p).val)
    (((s.putWord (nextRound (s.word p))).endSyncs (inRound s p) stOk (s.word p).val).waiters.filter _)) = _
  rw [hheld, List.foldl_nil, releaseFuel]
  exact if_pos (.inr (.inr (by rw [hword]; exact hsome)))

/-! ### An arrival -/

/-- The word with who arrived last. -/
def arrived (w : SyncWord) (e : Entry) : SyncWord := { w with lastSw := false, lastCtx := e.ctx, lastRing := e.ring }

/-- How far the round that an arrival names lies ahead of the word's. -/
def roundAhead (w : SyncWord) (v : Nat) : Nat := (v + 2 ^ 32 - w.val) % 2 ^ 32

theorem syncValOf_lt (arg : Nat) : syncValOf arg < 2 ^ 32 := Nat.mod_lt _ (Nat.two_pow_pos 32)

section
variable {s : State} {e : Entry} {p : Nat} (hc : syncCheck s e.ctx e.desc.arg .syncMapBarOk = .word p)
include hc

theorem arriveAt_plain (hb : (s.word p).barrier = false) (wait : Bool) : s.arriveAt e wait = s.endSync e.uid stSyncKind 0 := by
  rw [State.arriveAt, hc]
  exact if_pos (by simp [hb])

theorem arriveAt_broken (hb : (s.word p).barrier = true) (hbroken : (s.word p).broken = true) (wait : Bool) :
    s.arriveAt e wait = (s.putWord (arrived (s.word p) e)).endSync e.uid stBarrierOverrun 0 := by
  rw [State.arriveAt, hc]
  exact (if_neg (by simp [hb])).trans (if_pos hbroken)

variable (hb : (s.word p).barrier = true) (hwhole : (s.word p).broken = false)
include hb hwhole

theorem arriveAt_now (h : roundAhead (s.word p) (syncValOf e.desc.arg) = 0) (wait : Bool) :
    s.arriveAt e wait = ((s.putWord (arrived (s.word p) e)).countOne p e.uid e.ctx e.ring (syncIdOf e.desc.arg) wait (timeoutOf e)).release p := by
  rw [State.arriveAt, hc]
  exact (if_neg (by simp [hb])).trans ((if_neg (by simp [hwhole])).trans (if_pos h))

theorem arriveAt_next (h : roundAhead (s.word p) (syncValOf e.desc.arg) = 1) (wait : Bool) :
    s.arriveAt e wait = (s.putWord (arrived (s.word p) e)).block e p (.held wait) (syncValOf e.desc.arg) := by
  rw [State.arriveAt, hc]
  have h0 : ¬ roundAhead (s.word p) (syncValOf e.desc.arg) = 0 := by omega
  exact (if_neg (by simp [hb])).trans ((if_neg (by simp [hwhole])).trans ((if_neg h0).trans (if_pos h)))

theorem arriveAt_other (h0 : roundAhead (s.word p) (syncValOf e.desc.arg) ≠ 0) (h1 : roundAhead (s.word p) (syncValOf e.desc.arg) ≠ 1) (wait : Bool) :
    s.arriveAt e wait = (s.putWord (arrived (s.word p) e)).breakBarrier p e.uid := by
  rw [State.arriveAt, hc]
  exact (if_neg (by simp [hb])).trans ((if_neg (by simp [hwhole])).trans ((if_neg h0).trans (if_neg h1)))

end

theorem otherWords_breakBarrier (s : State) (p uid : Nat) : OtherWords p s (s.breakBarrier p uid) := by
  unfold State.breakBarrier
  extract_lets w s1
  have h1 : OtherWords p s s1 := .trans (otherWords_putWord s (w := { w with broken := true, counted := 0 }) (word_phys s p)) (otherWords_of_words rfl p)
  exact (h1.trans (otherWords_foldl _ _ (fun a x => otherWords_endSync a _ _ _ p) s1)).trans (otherWords_endSync _ _ _ _ p)

theorem otherWords_arriveAt {s : State} {e : Entry} {p : Nat} (hc : syncCheck s e.ctx e.desc.arg .syncMapBarOk = .word p) (wait : Bool) :
    OtherWords p s (s.arriveAt e wait) := by
  have harrived : OtherWords p s (s.putWord (arrived (s.word p) e)) := otherWords_putWord s (word_phys s p)
  cases hb : (s.word p).barrier with
  | false =>
    rw [arriveAt_plain hc hb]
    exact otherWords_endSync _ _ _ _ p
  | true =>
    cases hwhole : (s.word p).broken with
    | true =>
      rw [arriveAt_broken hc hb hwhole]
      exact harrived.trans (otherWords_endSync _ _ _ _ p)
    | false =>
      by_cases h0 : roundAhead (s.word p) (syncValOf e.desc.arg) = 0
      · rw [arriveAt_now hc hb hwhole h0]
        exact (harrived.trans (otherWords_countOne _ _ _ _ _ _ _ _)).trans (otherWords_releaseFuel _ _ _)
      · by_cases h1 : roundAhead (s.word p) (syncValOf e.desc.arg) = 1
        · rw [arriveAt_next hc hb hwhole h1]
          exact harrived.trans (otherWords_of_words rfl p)
        · rw [arriveAt_other hc hb hwhole h0 h1]
          exact harrived.trans (otherWords_breakBarrier _ _ _)

end Sys2Proof.Machine
end

section
/-! What an arrival leaves, INIT, and the timeout of a waiting entry (14 R382, R392 to R396). -/
namespace Sys2Proof.Machine

open Safety

theorem roundAhead_now {w : SyncWord} {v : Nat} (h : v = w.val) : roundAhead w v = 0 := by
  unfold roundAhead
  omega

theorem roundAhead_next {w : SyncWord} {v : Nat} (hw : w.val < 2 ^ 32) (h : v = (w.val + 1) % 2 ^ 32) : roundAhead w v = 1 := by
  unfold roundAhead
  omega

theorem roundAhead_other {w : SyncWord} {v : Nat} (hw : w.val < 2 ^ 32) (hv : v < 2 ^ 32) (h0 : v ≠ w.val) (h1 : v ≠ (w.val + 1) % 2 ^ 32) :
    roundAhead w v ≠ 0 ∧ roundAhead w v ≠ 1 := by
  unfold roundAhead
  omega

theorem word_arrived (s : State) (p : Nat) (e : Entry) : (s.putWord (arrived (s.word p) e)).word p = arrived (s.word p) e :=
  word_putWord s (word_phys s p)

section
variable {s : State} {e : Entry} {p : Nat} (hc : syncCheck s e.ctx e.desc.arg .syncMapBarOk = .word p)
include hc

/-- An arrival on a word that is no barrier, or a broken one. -/
theorem arriveAt_refused (h : (s.word p).barrier = false ∨ (s.word p).broken = true) (wait : Bool) :
    Ended (s.arriveAt e wait) e.uid ∧ ((s.arriveAt e wait).word p).val = (s.word p).val ∧
      ((s.arriveAt e wait).word p).counted = (s.word p).counted := by
  cases hb : (s.word p).barrier with
  | false =>
    rw [arriveAt_plain hc hb, word_congr (endSync_words _ _ _ _)]
    exact ⟨ended_endSync _ _ _ _, rfl, rfl⟩
  | true =>
    rw [arriveAt_broken hc hb (h.resolve_left (by simp [hb])), word_congr (endSync_words _ _ _ _), word_arrived]
    exact ⟨ended_endSync _ _ _ _, rfl, rfl⟩

variable (hb : (s.word p).barrier = true) (hwhole : (s.word p).broken = false)
include hb hwhole

/-- An arrival of the round that does not complete it. -/
theorem arriveAt_counted (hv : syncValOf e.desc.arg = (s.word p).val) (hlt : (s.word p).counted + 1 < (s.word p).parties) (wait : Bool) :
    s.arriveAt e wait = (s.putWord (arrived (s.word p) e)).countOne p e.uid e.ctx e.ring (syncIdOf e.desc.arg) wait (timeoutOf e) := by
  rw [arriveAt_now hc hb hwhole (roundAhead_now hv)]
  refine release_stays ?_
  rw [word_countOne, word_arrived]
  exact hlt

theorem arriveAt_counted_word (hv : syncValOf e.desc.arg = (s.word p).val) (hlt : (s.word p).counted + 1 < (s.word p).parties) (wait : Bool) :
    (s.arriveAt e wait).word p = countedOne (arrived (s.word p) e) := by
  rw [arriveAt_counted hc hb hwhole hv hlt, word_countOne, word_arrived]

/-- The last arrival of a round in which nobody is held for the next. -/
theorem arriveAt_last (hv : syncValOf e.desc.arg = (s.word p).val) (hlast : (s.word p).counted + 1 = (s.word p).parties)
    (hround : ∀ x ∈ s.waiters, x.phys = p → x.what = .round ∧ x.uid ≠ e.uid) (wait : Bool) :
    (s.arriveAt e wait).word p = nextRound (countedOne (arrived (s.word p) e)) ∧ Ended (s.arriveAt e wait) e.uid ∧
      (∀ x ∈ (s.arriveAt e wait).waiters, x.phys ≠ p) ∧ ∀ x ∈ s.waiters, x.phys = p → Ended (s.arriveAt e wait) x.uid := by
  rw [arriveAt_now hc hb hwhole (roundAhead_now hv)]
  have hword := word_countOne (s.putWord (arrived (s.word p) e)) p e.uid e.ctx e.ring (syncIdOf e.desc.arg) (timeoutOf e) wait
  rw [word_arrived] at hword
  have hmine : wait = false → Ended ((s.putWord (arrived (s.word p) e)).countOne p e.uid e.ctx e.ring (syncIdOf e.desc.arg) wait (timeoutOf e)) e.uid := by
    rintro rfl
    rw [countOne_pass]
    exact ended_endSync _ _ _ _
  have hwaiters : ∀ x, x ∈ ((s.putWord (arrived (s.word p) e)).countOne p e.uid e.ctx e.ring (syncIdOf e.desc.arg) wait (timeoutOf e)).waiters ↔
      (x ∈ s.waiters ∧ x.uid ≠ e.uid) ∨
        wait = true ∧ x = ⟨e.uid, e.ctx, e.ring, syncIdOf e.desc.arg, p, .round, (s.word p).val, timeoutOf e⟩ := by
    intro x
    cases wait with
    | false =>
      rw [countOne_pass, endSync_waiters]
      simp [State.putWord]
    | true =>
      rw [countOne_wait, word_arrived]
      simp [State.waitRound, State.dropWaiter, State.putWord, arrived]
  generalize (s.putWord (arrived (s.word p) e)).countOne p e.uid e.ctx e.ring (syncIdOf e.desc.arg) wait (timeoutOf e) = u at hword hmine hwaiters
  have hall : ∀ x ∈ u.waiters, x.phys = p → x.what = .round := by
    intro x hx hphys
    rcases (hwaiters x).mp hx with ⟨hin, -⟩ | ⟨-, rfl⟩
    · exact (hround x hin hphys).1
    · rfl
  have hin : ∀ x ∈ u.waiters, x.phys = p → x ∈ inRound u p := fun x hx hphys =>
    List.mem_filter.mpr ⟨hx, by simp [hphys, hall x hx hphys]⟩
  rw [release_turns (by rw [hword]; exact hb) (by rw [hword]; exact hwhole) (by rw [hword]; exact hlast)
    (by rw [hword]; exact Nat.lt_of_lt_of_le (Nat.succ_pos _) hlast.le) hall]
  have hput : (u.putWord (nextRound (u.word p))).word p = nextRound (u.word p) := word_putWord u (word_phys u p)
  refine ⟨?_, ?_, fun x hx hphys => ?_, fun x hx hphys => ?_⟩
  · rw [word_congr (syncsEnded_endSyncs _ _ _ _).words, hput, hword]
  · cases wait with
    | false => exact ended_endSyncs_kept (s := u.putWord (nextRound (u.word p))) _ (hmine rfl) _ _
    | true => exact ended_endSyncs _ _ _ (hin _ ((hwaiters _).mpr (.inr ⟨rfl, rfl⟩)) rfl)
  · obtain ⟨hxin, hout⟩ := (mem_waiters_endSyncs _ (u.putWord (nextRound (u.word p))) _ _ x).mp hx
    exact hout x (hin x hxin hphys) rfl
  · exact ended_endSyncs _ _ _ (hin x ((hwaiters x).mpr (.inl ⟨hx, (hround x hx hphys).2⟩)) hphys)

/-- An arrival that breaks the barrier. -/
theorem arriveAt_breaks (hval : (s.word p).val < 2 ^ 32) (h0 : syncValOf e.desc.arg ≠ (s.word p).val)
    (h1 : syncValOf e.desc.arg ≠ ((s.word p).val + 1) % 2 ^ 32) (wait : Bool) :
    ((s.arriveAt e wait).word p).broken = true ∧ ((s.arriveAt e wait).word p).counted = 0 ∧ (s.arriveAt e wait).flag .syncStatOverrun = true ∧
      (s.arriveAt e wait).get .syncOverrunsCount = satAdd 32 (s.get .syncOverrunsCount) 1 ∧ (s.arriveAt e wait).build = s.build ∧
      Ended (s.arriveAt e wait) e.uid ∧ (∀ x ∈ (s.arriveAt e wait).waiters, x.phys ≠ p) ∧
      ∀ x ∈ s.waiters, x.phys = p → Ended (s.arriveAt e wait) x.uid := by
  obtain ⟨hne0, hne1⟩ := roundAhead_other hval (syncValOf_lt e.desc.arg) h0 h1
  rw [arriveAt_other hc hb hwhole hne0 hne1]
  have harrived := word_arrived s p e
  have hin : ∀ x, x ∈ (s.putWord (arrived (s.word p) e)).waiters ↔ x ∈ s.waiters := fun _ => Iff.rfl
  have hbuild : (s.putWord (arrived (s.word p) e)).build = s.build := rfl
  have hget : (s.putWord (arrived (s.word p) e)).get .syncOverrunsCount = s.get .syncOverrunsCount := rfl
  generalize s.putWord (arrived (s.word p) e) = u at harrived hin hbuild hget
  unfold State.breakBarrier
  extract_lets w s1
  have hword : s1.word p = { w with broken := true, counted := 0 } :=
    word_putWord u (w := { w with broken := true, counted := 0 }) (word_phys u p)
  have hends := (syncsEnded_endSyncs (s1.waiters.filter (fun x => x.phys == p)) s1 stBarrierOverrun 0).trans
    (syncsEnded_endSync _ e.uid stBarrierOverrun 0)
  show (((s1.endSyncs (s1.waiters.filter (fun x => x.phys == p)) stBarrierOverrun 0).endSync e.uid stBarrierOverrun 0).word p).broken = true ∧ _
  refine ⟨?_, ?_, ?_, ?_, hends.build.trans hbuild, ended_endSync _ _ _ _, fun x hx hphys => ?_, fun x hx hphys => ?_⟩
  · rw [word_congr hends.words, hword]
  · exact (congrArg SyncWord.counted (word_congr hends.words p)).trans (congrArg SyncWord.counted hword)
  · refine (flag_of_keepsRegs hends.regs (by decide)).trans ((flag_bump_other _ _ (by decide)).trans ?_)
    exact flag_up_same _ _ (by decide)
  · refine (get_of_keepsRegs hends.regs (by decide)).trans ((get_bump_same _ _ _).trans (congrArg (satAdd 32 · 1) ?_))
    exact (getI_setI_other _ _ (by simp)).trans hget
  · have hx' : x ∈ ((s1.endSyncs (s1.waiters.filter (fun x => x.phys == p)) stBarrierOverrun 0).endSync e.uid stBarrierOverrun 0).waiters := hx
    rw [endSync_waiters] at hx'
    obtain ⟨hxin, hout⟩ := (mem_waiters_endSyncs _ s1 _ _ x).mp (List.mem_filter.mp hx').1
    exact hout x (List.mem_filter.mpr ⟨hxin, by simpa using hphys⟩) rfl
  · exact ended_endSync_kept (ended_endSyncs _ _ _ (List.mem_filter.mpr ⟨(hin x).mpr hx, by simpa using hphys⟩)) _ _ _

end

/-! ### INIT -/

/-- INIT by the owner: those who wait end, and the word is a barrier of round 0. -/
theorem barrierMake_owner {s : State} {e : Entry} {p : Nat} (hc : syncCheck s e.ctx e.desc.arg .syncMapBarOk = .word p) (hown : ownerOf p = e.ctx) :
    (s.barrierMake e).word p = ⟨p, 0, true, false, syncValOf e.desc.arg, 0, false, e.ctx, e.ring⟩ ∧ Ended (s.barrierMake e) e.uid ∧
      (∀ x ∈ (s.barrierMake e).waiters, x.phys ≠ p) ∧ (∀ x ∈ s.waiters, x.phys = p → Ended (s.barrierMake e) x.uid) ∧
      OtherWords p s (s.barrierMake e) := by
  obtain ⟨st, heq⟩ : ∃ st, s.barrierMake e = ((s.endSyncs (s.waiters.filter (fun x => x.phys == p)) st 0).putWord
      ⟨p, 0, true, false, syncValOf e.desc.arg, 0, false, e.ctx, e.ring⟩).endSync e.uid stOk 0 := by
    rw [State.barrierMake, hc]
    exact ⟨_, if_neg (by simp [hown])⟩
  have hends := syncsEnded_endSyncs (s.waiters.filter (fun x => x.phys == p)) s st 0
  have hgone := mem_waiters_endSyncs (s.waiters.filter (fun x => x.phys == p)) s st 0
  have hended : ∀ x ∈ s.waiters, x.phys = p → Ended (s.endSyncs (s.waiters.filter (fun x => x.phys == p)) st 0) x.uid := fun x hx hphys =>
    ended_endSyncs s st 0 (List.mem_filter.mpr ⟨hx, by simpa using hphys⟩)
  generalize s.endSyncs (s.waiters.filter (fun x => x.phys == p)) st 0 = u at heq hends hgone hended
  rw [heq]
  refine ⟨?_, ended_endSync _ _ _ _, fun x hx hphys => ?_, fun x hx hphys => ended_endSync_kept (s := u.putWord _) (hended x hx hphys) _ _ _,
    ((otherWords_of_words hends.words p).trans (otherWords_putWord u rfl)).trans (otherWords_endSync _ _ _ _ p)⟩
  · rw [word_congr (endSync_words _ _ _ _)]
    exact word_putWord u rfl
  · rw [endSync_waiters] at hx
    obtain ⟨hxin, hout⟩ := (hgone x).mp (List.mem_filter.mp hx).1
    exact hout x (List.mem_filter.mpr ⟨hxin, by simpa using hphys⟩) rfl

theorem barrierMake_stranger {s : State} {e : Entry} {p : Nat} (hc : syncCheck s e.ctx e.desc.arg .syncMapBarOk = .word p) (hown : ownerOf p ≠ e.ctx) :
    s.barrierMake e = s.endSync e.uid stAccessDenied 0 := by
  rw [State.barrierMake, hc]
  exact if_pos hown

/-! ### How the two commands start -/

theorem exec_arrival {s : State} {ctx ring : Nat} {e : Entry} {wait : Bool} (h : Starts s ctx ring opBarrier false e)
    (hsub : syncOpOf e.desc.arg = if wait = true then 0 else 1) :
    exec (if wait then Instr.barrierArriveWait ctx ring else .barrierArrive ctx ring) s = .next (finishState s ((started s e).arriveAt e wait)) := by
  cases wait with
  | false => exact startSync_of_starts h hsub (fun hop => absurd hop (by decide)) "BARRIER_ARRIVE" (fun e t => t.arriveAt e false)
  | true => exact startSync_of_starts h hsub (fun hop => absurd hop (by decide)) "BARRIER_ARRIVE_WAIT" (fun e t => t.arriveAt e true)

theorem exec_init {s : State} {ctx ring : Nat} {e : Entry} (h : Starts s ctx ring opBarrier false e) (hsub : syncOpOf e.desc.arg = 2) :
    exec (.barrierInit ctx ring) s = .next (finishState s ((started s e).barrierMake e)) :=
  startSync_of_starts h hsub (fun hop => absurd hop (by decide)) "BARRIER_INIT" (fun e t => t.barrierMake e)

/-! ### A timeout -/

theorem withdraw_words (s : State) (w : Waiter) :
    (w.what = .round → ((s.withdraw w).word w.phys).counted = (s.word w.phys).counted - 1) ∧ (w.what ≠ .round → (s.withdraw w).words = s.words) := by
  refine ⟨fun h => ?_, fun h => ?_⟩
  · have heq : s.withdraw w = (s.putWord { s.word w.phys with counted := (s.word w.phys).counted - 1 }).dropWaiter w.uid := by
      unfold State.withdraw
      dsimp only
      rw [if_pos h]
    rw [heq]
    exact congrArg SyncWord.counted (word_putWord s (w := { s.word w.phys with counted := (s.word w.phys).counted - 1 }) (word_phys s w.phys))
  · unfold State.withdraw
    dsimp only
    rw [if_neg h]
    rfl

theorem withdraw_regs (s : State) (w : Waiter) : (s.withdraw w).build = s.build ∧ (s.withdraw w).regs = s.regs := by
  unfold State.withdraw
  dsimp only
  split <;> exact ⟨rfl, rfl⟩

end Sys2Proof.Machine

namespace Sys2Proof.Proofs

open Sys2Proof.Machine Sys2Proof.Safety

/-- Settles O36: the cases of an arrival, of INIT and of a timeout. -/
theorem barriers : Obligations.Barriers := by
  unfold Obligations.Barriers
  refine ⟨fun s ctx ring e wait => ⟨fun p hstarts => ?_, fun st hstarts => ?_⟩,
    ⟨fun s ctx ring e => ⟨fun p hstarts => ?_, fun st hstarts => ?_⟩, fun s ctx ring tick w hw htimeout hdue hup => ?_⟩⟩
  · obtain ⟨hstart, hsub, hcheck⟩ := hstarts
    have hrun := exec_arrival hstart hsub
    have hc : syncCheck (started s e) e.ctx e.desc.arg .syncMapBarOk = .word p := hcheck
    have hword (q : Nat) : (finishState s ((started s e).arriveAt e wait)).word q = ((started s e).arriveAt e wait).word q :=
      word_congr (finishState_words _ _) q
    refine ⟨_, hrun, fun q hq => (hword q).trans (otherWords_arriveAt hc wait q hq), fun h => ?_, fun hb hwhole hval hv hlt hfree => ?_,
      fun hb hwhole hval hv hlast hround => ?_, fun hb hwhole hval hv => ?_, fun hb hwhole hval h0 h1 => ?_⟩
    · obtain ⟨hended, hval, hcount⟩ := arriveAt_refused hc h wait
      rw [hword]
      exact ⟨ended_finishState hended, hval, hcount⟩
    · have heq := arriveAt_counted hc hb hwhole hv hlt wait
      have hnew := arriveAt_counted_word hc hb hwhole hv hlt wait
      rw [hword, hnew]
      refine ⟨rfl, rfl, fun hwait => ⟨?_, fun x hx => ?_⟩, fun hwait => ?_⟩
      · rw [finishState_waiters, heq, hwait, countOne_wait, word_arrived]
        exact congrArg (· ++ _) (List.filter_eq_self.mpr fun x hx => by simpa using hfree x hx)
      · rw [State.findEntry, finishState_entries, heq, hwait, countOne_wait] at hx
        have hblocked := findEntry_modEntry_same (started s e) e.uid (f := fun y => { y with stage := .blocked }) (fun _ => rfl)
        obtain ⟨y, -, rfl⟩ := Option.map_eq_some_iff.mp (hblocked.symm.trans hx)
        rfl
      · rw [heq, hwait, countOne_pass]
        exact ended_finishState (ended_endSync _ _ _ _)
    · obtain ⟨hnew, hended, hgone, hothers⟩ := arriveAt_last hc hb hwhole hv hlast hround wait
      rw [hword, hnew, finishState_waiters]
      exact ⟨rfl, ended_finishState hended, hgone, fun x hx hphys => ended_finishState (hothers x hx hphys)⟩
    · have heq := arriveAt_next hc hb hwhole (roundAhead_next hval hv) wait
      have hnew := word_arrived (started s e) p e
      rw [hword, finishState_waiters, heq]
      refine ⟨rfl, ?_⟩
      show (((started s e).putWord (arrived ((started s e).word p) e)).word p).counted = (s.word p).counted
      rw [hnew]
      rfl
    · obtain ⟨hbroken, hcount, hflag, hget, hbuild, hended, hgone, hothers⟩ := arriveAt_breaks hc hb hwhole hval h0 h1 wait
      have hbuild : ((started s e).arriveAt e wait).build = s.build := hbuild
      rw [hword, finishState_waiters, flag_finishState hbuild (by decide), get_finishState hbuild (by decide)]
      exact ⟨hbroken, hcount, hflag, hget, ended_finishState hended, hgone, fun x hx hphys => ended_finishState (hothers x hx hphys)⟩
  · obtain ⟨hstart, hsub, hcheck⟩ := hstarts
    have hrun := exec_arrival hstart hsub
    rw [arriveAt_of_bad (s := started s e) hcheck] at hrun
    obtain ⟨hended, hwords, -⟩ := endSync_started s e st 0
    exact ⟨_, hrun, hended, hwords⟩
  · obtain ⟨hstart, hsub, hcheck⟩ := hstarts
    have hc : syncCheck (started s e) e.ctx e.desc.arg .syncMapBarOk = .word p := hcheck
    have hrun := exec_init hstart hsub
    by_cases hown : ownerOf p = e.ctx
    · obtain ⟨hword, hended, hgone, hothers, hwords⟩ := barrierMake_owner hc hown
      refine ⟨_, hrun, ended_finishState hended, fun _ => ⟨?_, ?_, fun x hx hphys => ended_finishState (hothers x hx hphys), fun q hq => ?_⟩,
        fun h => absurd hown h⟩
      · rw [word_congr (finishState_words _ _), hword]
      · rw [finishState_waiters]
        exact hgone
      · rw [word_congr (finishState_words _ _)]
        exact hwords q hq
    · rw [barrierMake_stranger hc hown] at hrun
      obtain ⟨hended, hwords, -⟩ := endSync_started s e stAccessDenied 0
      exact ⟨_, hrun, hended, fun h => absurd h hown, fun _ => hwords⟩
  · obtain ⟨hstart, hsub, hcheck⟩ := hstarts
    have hrun := exec_init hstart hsub
    rw [barrierMake_of_bad (s := started s e) hcheck] at hrun
    obtain ⟨hended, hwords, -⟩ := endSync_started s e st 0
    exact ⟨_, hrun, hended, hwords⟩
  · have hrun : exec (.syncTimeout ctx ring) s =
        .next (finishState s (((s.withdraw w).bump .syncTimeoutsCount 1).endSync w.uid stSyncTimeout 0)) := by
      show execSyncTimeout ctx ring s = _
      unfold execSyncTimeout
      rw [hw]
      dsimp only
      rw [htimeout]
      exact if_neg (by simp [hup, hdue])
    obtain ⟨hbuild, hregs⟩ := withdraw_regs s w
    obtain ⟨hround, hkept⟩ := withdraw_words s w
    have hends := syncsEnded_endSync ((s.withdraw w).bump .syncTimeoutsCount 1) w.uid stSyncTimeout 0
    refine ⟨hrun, _, hrun, ?_, fun x hx => ?_, ended_finishState (ended_endSync _ _ _ _), fun h => ?_, fun h => ?_⟩
    · rw [get_finishState (hends.build.trans hbuild) (by decide), get_of_keepsRegs hends.regs (by decide), get_bump_same]
      exact congrArg (satAdd 32 · 1) (keepsRegs_of_regs (fs := []) hbuild hregs .syncTimeoutsCount 0 List.not_mem_nil)
    · rw [finishState_waiters, endSync_waiters] at hx
      simpa using (List.mem_filter.mp hx).2
    · rw [word_congr (finishState_words _ _), word_congr hends.words]
      exact hround h
    · rw [finishState_words, hends.words]
      exact hkept h

end Sys2Proof.Proofs
end

section
/-! Writes of the sync page and of SYNC_MAP (14 R381, R386). -/
namespace Sys2Proof.Machine

open Safety

theorem mapped_hostTurn (s : State) (ofs ctx id : Nat) : (s.hostTurn ofs).mapped ctx id = s.mapped ctx id := by
  rw [State.mapped, getI_hostTurn s ofs (by decide), getI_hostTurn s ofs (by decide), State.mapped]

theorem word_hostTurn (s : State) (ofs p : Nat) : (s.hostTurn ofs).word p = s.word p := word_congr (by rw [hostTurn_eq]) p

theorem pageTarget_hostTurn (s : State) (ofs ctx id : Nat) : pageTarget (s.hostTurn ofs) ctx id = pageTarget s ctx id := by
  unfold pageTarget
  rw [mapped_hostTurn]
  cases s.mapped ctx id with
  | none => rfl
  | some p =>
    dsimp only
    rw [getI_hostTurn s ofs (by decide), word_hostTurn]

theorem holdingUp_hostTurn {s : State} (h : HostOpen s) (ofs : Nat) : (s.hostTurn ofs).holdingUp = false := by
  have hhold := h.2.1
  have hnone : (s.hostTurn ofs).holdup = none := by
    rw [hostTurn_eq]
    exact hhold
  rw [State.holdingUp, hnone, hostTurn_eng h ofs]
  rfl

/-- A page write that no check stops. -/
theorem pageWrite_target {s : State} {ctx id p : Nat} (h : pageTarget s ctx id = some p) (v : Nat) (add : Bool) :
    s.pageWrite ctx id v add = (s.updateWord p (if add then (s.word p).val + v else v) true ctx 0).logRec 5 ctx 0
      (ctx + 64 * id + b2n add * 2 ^ 16 + v % 2 ^ 32 * 2 ^ 32) [] := by
  unfold State.pageWrite
  rw [h]

theorem pageWrite_none {s : State} {ctx id : Nat} (h : pageTarget s ctx id = none) (v : Nat) (add : Bool) : s.pageWrite ctx id v add = s := by
  unfold State.pageWrite
  rw [h]

theorem syncWrite_page (s : State) (n v : Nat) {k off : Nat} (hk : k < 1024) (add : Bool) (hoff : off = 4 * k + b2n add * 0x1000) :
    s.syncWrite n off v = s.pageWrite n k v add := by
  subst hoff
  have hword : (4 * k + b2n add * 0x1000) % 0x1000 / 4 = k := by
    cases add <;> simp only [b2n] <;> omega
  have hadd : decide (0x1000 ≤ 4 * k + b2n add * 0x1000) = add := by
    cases add
    · exact decide_eq_false (by change ¬ _ ≤ 4 * k + 0 * 0x1000; omega)
    · exact decide_eq_true (by change _ ≤ 4 * k + 1 * 0x1000; omega)
  rw [State.syncWrite, hword, hadd]

/-- A word of the page, of the SET half or of the ADD half, is a page write (14 R386). -/
theorem wordWrite_page (s : State) (ctx id v : Nat) (add : Bool) :
    s.wordWrite (ctx != 0) ctx (pageOff ctx id + b2n add * 0x1000) v [] = s.pageWrite ctx (id % 1024) v add := by
  have hid : id % 1024 < 1024 := Nat.mod_lt _ (by decide)
  have hadd : b2n add ≤ 1 := by cases add <;> decide
  unfold State.wordWrite pageOff
  by_cases hctx : ctx = 0
  · subst hctx
    rw [if_neg (by decide), if_pos rfl, if_neg (by omega), if_pos (by omega)]
    exact syncWrite_page s 0 v hid add (by omega)
  · rw [if_pos (by simpa using hctx), if_neg hctx, if_neg (by omega), if_pos (by omega)]
    exact syncWrite_page s ctx v hid add (by omega)

section
variable {s : State} {ctx : Nat} (hopen : HostOpen s) (hview : HasView s ctx)
include hopen hview

theorem hostWrite_page (id value ofs : Nat) (add : Bool) : s.hostWrite (ctx != 0) ctx (pageOff ctx id + b2n add * 0x1000) 4 value ofs [] =
    (s.hostTurn ofs).pageWrite ctx (id % 1024) (value % 2 ^ 32) add := by
  have hv : viewOk s (ctx != 0) ctx = true := by
    obtain ⟨hvf, -⟩ := hview
    by_cases hctx : ctx = 0
    · simp [viewOk, hctx]
    · simp only [viewOk, Bool.or_eq_true, decide_eq_true_eq, Bool.and_eq_true]
      exact .inr ⟨by omega, hvf⟩
  have hoff : (pageOff ctx id + b2n add * 0x1000) % 4 = 0 := by
    unfold pageOff
    cases add <;> simp only [b2n] <;> split <;> omega
  rw [hostWrite_word hopen hv hoff, wordWrite_page]

theorem exec_syncPageSet (id value ofs : Nat) : exec (.syncPageSet ctx id value ofs) s =
    .next (finishState s ((s.hostTurn ofs).pageWrite ctx (id % 1024) (value % 2 ^ 32) false)) := by
  rw [← hostWrite_page hopen hview]
  rfl

theorem exec_syncPageAdd (id value ofs : Nat) : exec (.syncPageAdd ctx id value ofs) s =
    .next (finishState s ((s.hostTurn ofs).pageWrite ctx (id % 1024) (value % 2 ^ 32) true)) := by
  rw [← hostWrite_page hopen hview]
  rfl

end

/-- A page write that is accepted. -/
theorem pageWrite_shows {s : State} (hopen : HostOpen s) {ctx id p : Nat} (h : pageTarget s ctx id = some p) (v : Nat) (add : Bool) (ofs : Nat) :
    let n := (if add then (s.word p).val + v else v) % 2 ^ 32
    let t := finishState s ((s.hostTurn ofs).pageWrite ctx id v add)
    (t.word p).val = n ∧ (t.word p).lastSw = true ∧ (t.word p).lastCtx = ctx ∧ (∀ q, q ≠ p → t.word q = s.word q) ∧
      ∀ w ∈ t.waiters, w.phys = p → waitHolds w.what n w.value = false := by
  intro n t
  have hup := wordUpdated_updateWord (holdingUp_hostTurn hopen ofs) p (if add then (s.word p).val + v else v) true ctx 0
  have hsafe := hup.unsatisfied
  have hlog := logRec_only ((s.hostTurn ofs).updateWord p (if add then (s.word p).val + v else v) true ctx 0) 5 ctx 0
    (ctx + 64 * id + b2n add * 2 ^ 16 + v % 2 ^ 32 * 2 ^ 32) []
  have ht : t = finishState s (((s.hostTurn ofs).updateWord p (if add then (s.word p).val + v else v) true ctx 0).logRec 5 ctx 0
    (ctx + 64 * id + b2n add * 2 ^ 16 + v % 2 ^ 32 * 2 ^ 32) []) := by
    unfold t
    rw [pageWrite_target (by rw [pageTarget_hostTurn, h]), word_hostTurn]
  generalize (s.hostTurn ofs).updateWord p (if add then (s.word p).val + v else v) true ctx 0 = u at hup hsafe hlog ht
  have hwords : t.words = u.words := by
    rw [ht, finishState_words, hlog.1]
  have hwaiters : t.waiters = u.waiters := by
    rw [ht, finishState_waiters, hlog.1]
  rw [word_congr hwords, hup.word, hwaiters]
  refine ⟨rfl, rfl, rfl, fun q hq => ?_, hsafe⟩
  rw [word_congr hwords, hup.others q hq, word_hostTurn]

/-- A page write that is stopped leaves no more than the start of a host write. -/
theorem pageWrite_stopped {s : State} {ctx id : Nat} (h : pageTarget s ctx id = none) (v : Nat) (add : Bool) (ofs : Nat) :
    let t := finishState s ((s.hostTurn ofs).pageWrite ctx id v add)
    t.words = s.words ∧ t.waiters = s.waiters ∧ KeepsRegs hostFlds s t := by
  intro t
  have ht : t = finishState s (s.hostTurn ofs) := by
    unfold t
    rw [pageWrite_none (by rw [pageTarget_hostTurn, h])]
  rw [ht, finishState_words, finishState_waiters, hostTurn_eq]
  exact ⟨rfl, rfl, by rw [← hostTurn_eq]; exact keepsRegs_finish_hostTurn s ofs⟩

/-! ### SYNC_MAP -/

theorem remap_free {s : State} {ctx id : Nat} (h : ∀ w ∈ s.waiters, ¬ (w.ctx = ctx ∧ w.syncId = id)) (value : Nat) :
    s.remap ctx id value = ((((s.setI .syncMapPhys (mapIx ctx id) value).setI .syncMapValid (mapIx ctx id) (bitsOf value 16 1)).setI
      .syncMapSigOk (mapIx ctx id) (bitsOf value 17 1)).setI .syncMapWaitOk (mapIx ctx id) (bitsOf value 18 1)).setI .syncMapBarOk (mapIx ctx id)
        (bitsOf value 19 1) :=
  if_neg (by simpa using h)

def mapFlds : List Fld := [.syncMapPhys, .syncMapValid, .syncMapSigOk, .syncMapWaitOk, .syncMapBarOk]

theorem execSyncMapWrite_free {s : State} (h : HostOpen s) (hctx : s.get .syncMapSelCtx ≤ s.build.numVf)
    (value ofs : Nat) :
    exec (.syncMapWrite value ofs) s =
      .next (finishState s ((s.mapLogged value ofs).remap (s.get .syncMapSelCtx) (s.get .syncMapSelId) (value % 2 ^ 32))) := by
  have hsel {f : Fld} (hf : f ≠ .fjStateRetainPend) : (s.hostTurn ofs).get f = s.get f := getI_hostTurn s ofs hf 0
  have hbuild : (s.hostTurn ofs).build = s.build := by rw [hostTurn_eq]
  change finish s (s.privReg 0xD008 value ofs) = _
  rw [privReg_open h (by decide) (by decide), regWrite_syncMap (by rwa [hsel (by decide), hbuild]), hsel (by decide), hsel (by decide),
    ← State.mapLogged, finish]

/-- What a map entry takes of the value written. -/
theorem remapped_shows (a : State) (i value : Nat) :
    let u := ((((a.setI .syncMapPhys i value).setI .syncMapValid i (bitsOf value 16 1)).setI .syncMapSigOk i (bitsOf value 17 1)).setI
      .syncMapWaitOk i (bitsOf value 18 1)).setI .syncMapBarOk i (bitsOf value 19 1)
    u.getI .syncMapPhys i = value % 2 ^ 16 ∧ u.getI .syncMapValid i = value / 2 ^ 16 % 2 ∧ u.getI .syncMapSigOk i = value / 2 ^ 17 % 2 ∧
      u.getI .syncMapWaitOk i = value / 2 ^ 18 % 2 ∧ u.getI .syncMapBarOk i = value / 2 ^ 19 % 2 ∧ KeepsRegs mapFlds a u := by
  intro u
  have hphys : fldWidth .syncMapPhys = 16 := rfl
  have hbit (x : Nat) : x % 2 ^ 1 % 2 ^ 1 = x % 2 := Nat.mod_mod x 2
  refine ⟨?_, ?_, ?_, ?_, ?_, ?_⟩
  · unfold u
    rw [getI_setI_other _ _ (by simp), getI_setI_other _ _ (by simp), getI_setI_other _ _ (by simp), getI_setI_other _ _ (by simp),
      getI_setI_same, hphys]
  · unfold u
    rw [getI_setI_other _ _ (by simp), getI_setI_other _ _ (by simp), getI_setI_other _ _ (by simp), getI_setI_same]
    exact hbit _
  · unfold u
    rw [getI_setI_other _ _ (by simp), getI_setI_other _ _ (by simp), getI_setI_same]
    exact hbit _
  · unfold u
    rw [getI_setI_other _ _ (by simp), getI_setI_same]
    exact hbit _
  · unfold u
    rw [getI_setI_same]
    exact hbit _
  · refine keepsRegs_trans ?_ (keepsRegs_setI (by decide) _ _ _)
    refine keepsRegs_trans ?_ (keepsRegs_setI (by decide) _ _ _)
    refine keepsRegs_trans ?_ (keepsRegs_setI (by decide) _ _ _)
    exact keepsRegs_trans (keepsRegs_setI (by decide) _ _ _) (keepsRegs_setI (by decide) _ _ _)

theorem remap_shows {s a : State} (ha : KeepsUnits s a) (hregs : KeepsRegs hostFlds s a) {ctx id : Nat}
    (h : ∀ w ∈ s.waiters, ¬ (w.ctx = ctx ∧ w.syncId = id)) (value : Nat) :
    let i := mapIx ctx id
    let t := finishState s (a.remap ctx id (value % 2 ^ 32))
    t.getI .syncMapPhys i = value % 2 ^ 16 ∧ t.getI .syncMapValid i = value / 2 ^ 16 % 2 ∧ t.getI .syncMapSigOk i = value / 2 ^ 17 % 2 ∧
      t.getI .syncMapWaitOk i = value / 2 ^ 18 % 2 ∧ t.getI .syncMapBarOk i = value / 2 ^ 19 % 2 ∧
      KeepsRegs (hostFlds ++ mapFlds) s t ∧ KeepsUnits s t := by
  intro i t
  have hwaiters : a.waiters = s.waiters := by rw [ha]
  obtain ⟨hphys, hvalid, hsig, hwait, hbar, hkeep⟩ := remapped_shows a i (value % 2 ^ 32)
  have hunits : KeepsUnits s (a.remap ctx id (value % 2 ^ 32)) := by
    rw [remap_free (by rwa [hwaiters]), KeepsUnits, ha]
    rfl
  have hkept : KeepsRegs (hostFlds ++ mapFlds) s (a.remap ctx id (value % 2 ^ 32)) := by
    rw [remap_free (by rwa [hwaiters])]
    exact keepsRegs_trans (keepsRegs_mono (by decide) hregs) (keepsRegs_mono (by decide) hkeep)
  have hshow {f : Fld} (hf : f ≠ .fjMsixPbaPending) : t.getI f i = (a.remap ctx id (value % 2 ^ 32)).getI f i :=
    getI_finishState (by rw [hunits]) hf i
  obtain ⟨hkeeps, hall⟩ := keeps_finish (by decide) hunits hkept
  rw [← remap_free (by rwa [hwaiters])] at hphys hvalid hsig hwait hbar
  refine ⟨?_, ?_, ?_, ?_, ?_, hkeeps, hall⟩
  · rw [hshow (by decide), hphys]
    omega
  · rw [hshow (by decide), hvalid]
    omega
  · rw [hshow (by decide), hsig]
    omega
  · rw [hshow (by decide), hwait]
    omega
  · rw [hshow (by decide), hbar]
    omega

end Sys2Proof.Machine

namespace Sys2Proof.Proofs

open Sys2Proof.Machine Sys2Proof.Safety

/-- Settles O37: a page write is an update of its word, or nothing; SYNC_MAP writes its five fields, or MAP_BUSY. -/
theorem syncPageAndMap : Obligations.SyncPageAndMap := by
  unfold Obligations.SyncPageAndMap
  intro s ctx id value ofs hopen hview
  refine ⟨fun p hp => ⟨⟨_, exec_syncPageSet hopen hview id value ofs, ?_⟩, ⟨_, exec_syncPageAdd hopen hview id value ofs, ?_⟩⟩,
    fun hnone => ⟨⟨_, exec_syncPageSet hopen hview id value ofs, pageWrite_stopped hnone _ _ ofs⟩,
      ⟨_, exec_syncPageAdd hopen hview id value ofs, pageWrite_stopped hnone _ _ ofs⟩⟩, fun hctx => ⟨fun hbusy => ?_, fun hfree => ?_⟩⟩
  · have := pageWrite_shows hopen hp (value % 2 ^ 32) false ofs
    simpa using this
  · exact pageWrite_shows hopen hp (value % 2 ^ 32) true ofs
  · exact ⟨_, execSyncMapWrite_of_waiter hopen hctx hbusy value ofs, finishState_mapBusy s value ofs⟩
  · obtain ⟨hunits, hregs⟩ := mapLogged_keeps s value ofs
    exact ⟨_, execSyncMapWrite_free hopen hctx value ofs, remap_shows hunits hregs hfree value⟩

end Sys2Proof.Proofs
end

section
/-! Nonce counters and the end of a key load (06 R184 to R191). -/
namespace Sys2Proof.Machine

open Safety

theorem key_congr {s t : State} (h : t.keys = s.keys) (k : Nat) : t.key k = s.key k := by
  rw [State.key, h, State.key]

theorem key_putKey_at (s : State) {x : KeySlot} {k : Nat} (h : x.slot = k) : (s.putKey x).key k = x := h ▸ key_putKey_same s x

/-- The jobs and every slot's counter stay. -/
def CtrsStay (s t : State) : Prop := t.jobs = s.jobs ∧ ∀ n, (t.key n).ctr = (s.key n).ctr

theorem CtrsStay.refl (s : State) : CtrsStay s s := ⟨rfl, fun _ => rfl⟩

theorem CtrsStay.trans {a b c : State} (h1 : CtrsStay a b) (h2 : CtrsStay b c) : CtrsStay a c :=
  ⟨h2.1.trans h1.1, fun n => (h2.2 n).trans (h1.2 n)⟩

theorem CtrsStay.of_keys {s t : State} (hjobs : t.jobs = s.jobs) (hkeys : t.keys = s.keys) : CtrsStay s t :=
  ⟨hjobs, fun n => by rw [key_congr hkeys]⟩

theorem ctrsStay_ite {c : Prop} [Decidable c] {s a b : State} (ha : CtrsStay s a) (hb : CtrsStay s b) : CtrsStay s (if c then a else b) := by
  split
  · exact ha
  · exact hb

/-- A slot that is put back with its counter. -/
theorem ctrsStay_putKey {s : State} {x : KeySlot} (h : x.ctr = (s.key x.slot).ctr) : CtrsStay s (s.putKey x) := by
  refine ⟨rfl, fun n => ?_⟩
  by_cases hn : n = x.slot
  · rw [hn, key_putKey_same, h]
  · rw [key_putKey_other s x hn]

theorem ctrsStay_nvmIssue (s : State) (o : NvmOp) : CtrsStay s (s.nvmIssue o) := by
  rw [nvmIssue_eq]
  exact .of_keys rfl rfl

theorem ctrsStay_journalProgram (s : State) (slot hwm : Nat) : CtrsStay s (s.journalProgram slot hwm) :=
  (ctrsStay_nvmIssue s _).trans (.of_keys rfl rfl)

theorem ctrsStay_journalFail (s : State) (slot : Nat) : CtrsStay s (s.journalFail slot) := by
  have hput (x : KeySlot) (hslot : x.slot = (s.key slot).slot) (h : x.ctr = (s.key slot).ctr) : CtrsStay s (s.putKey x) :=
    ctrsStay_putKey (by rw [hslot, key_slot, h])
  unfold State.journalFail
  extract_lets x n s1 q s2
  have h2 : CtrsStay s s2 := (hput { x with fails := 0, reserveFail := true, req := x.hwm } rfl rfl).trans (.of_keys rfl rfl)
  split
  · exact hput _ rfl rfl
  · split
    · split
      · exact h2.trans (.of_keys rfl rfl)
      · exact h2
    · exact h2

theorem ctrsStay_journalStartFuel (n : Nat) (s : State) : CtrsStay s (journalStartFuel n s) := by
  induction n generalizing s with
  | zero => exact .refl s
  | succ n ih =>
    unfold journalStartFuel
    split
    · exact .refl s
    · exact ctrsStay_journalProgram s _ _
    · split
      · exact ctrsStay_journalProgram s _ _
      · dsimp only
        split
        · exact CtrsStay.trans (.of_keys rfl rfl) (ih _)
        · exact (ctrsStay_journalFail s _).trans (ih _)

theorem ctrsStay_requestHwm (s : State) (slot hwm : Nat) : CtrsStay s (s.requestHwm slot hwm) := by
  unfold State.requestHwm
  extract_lets x s1
  have hput : CtrsStay s s1 := ctrsStay_putKey (by rw [show ({ x with req := hwm } : KeySlot).slot = slot from key_slot s slot])
  refine ctrsStay_ite (.refl s) (hput.trans ?_)
  unfold State.journalStart
  exact ctrsStay_ite (.of_keys rfl rfl) (CtrsStay.trans (.of_keys rfl rfl) (ctrsStay_journalStartFuel _ _))

theorem ctrsStay_logRec (s : State) (typ ctx ring a : Nat) (b : Bytes) : CtrsStay s (s.logRec typ ctx ring a b) := by
  have h := (logRec_only s typ ctx ring a b).1
  exact .of_keys (by rw [h]) (by rw [h])

/-- A draw that gives a counter gives the slot's next, below its high-water mark, and uses it up. -/
theorem drawNonce_ok {s : State} (hreplay : s.replaying = false) {ctx k c : Nat} {t : State} (h : s.drawNonce ctx k = .ok c t) :
    c = (s.key k).ctr ∧ c < (s.key k).hwm ∧ c < 2 ^ 64 - 1 ∧ (t.key k).ctr = c + 1 ∧ (∀ n, n ≠ k → (t.key n).ctr = (s.key n).ctr) ∧
      s.flag .sealStatTableLost = false ∧ t.jobs = s.jobs := by
  unfold State.drawNonce at h
  dsimp only at h
  rw [if_neg (by rw [hreplay]; decide)] at h
  split at h
  · cases h
  next hleft =>
  obtain ⟨-, hlast⟩ := not_or.mp hleft
  split at h
  · cases h
  next hlost =>
  split at h
  · split at h <;> cases h
  next hhwm =>
  cases h
  have hslot : (s.key k).slot = k := key_slot s k
  have hstay (a : State) (b : Bool) (hwm : Nat) : CtrsStay a ((if b then a.requestHwm k hwm else a).logRec 14 ctx 0 (k % 256 + 256 * ctx)
      (natLe 8 (s.key k).ctr)) :=
    (ctrsStay_ite (ctrsStay_requestHwm a k hwm) (.refl a)).trans (ctrsStay_logRec _ _ _ _ _ _)
  obtain ⟨hjobs, hctr⟩ := hstay (s.putKey { s.key k with ctr := (s.key k).ctr + 1 }) (decide ((s.key k).hwm ≤ (s.key k).ctr + 1 + 2 ^ 23))
    ((s.key k).hwm + 2 ^ 24)
  simp only [decide_eq_true_eq] at hjobs hctr
  refine ⟨rfl, Nat.lt_of_not_le hhwm, Nat.lt_of_not_le hlast, (hctr k).trans ?_, fun n hn => (hctr n).trans ?_, Bool.eq_false_iff.mpr hlost, hjobs⟩
  · rw [key_putKey_at s (x := { s.key k with ctr := (s.key k).ctr + 1 }) hslot]
  · rw [key_putKey_other]
    exact fun hk => hn (hk.trans hslot)

theorem drawNonce_exhausted {s : State} (hreplay : s.replaying = false) (ctx : Nat) {k : Nat}
    (h : (s.key k).exhausted = true ∨ 2 ^ 64 - 1 ≤ (s.key k).ctr) :
    s.drawNonce ctx k = .fail stSealExhausted (s.putKey { s.key k with exhausted := true }) := by
  unfold State.drawNonce
  dsimp only
  rw [if_neg (by rw [hreplay]; decide), if_pos h]

/-! ### The end of a key load -/

theorem key_placeKey (s : State) (r : Bytes) (armature : Bool) : (s.placeKey r armature).key (fieldAt r 0x20 1) =
    { s.key (fieldAt r 0x20 1) with
      key := some (sliceZ r 0 32), ctx := fieldAt r 0x21 1, replayOnly := bitOf (fieldAt r 0x22 1) 0, openOnly := bitOf (fieldAt r 0x22 1) 1,
      armature := armature, erasing := false } :=
  key_putKey_at s (key_slot s _)

/-- The unwrap of a key load ends it: start-up has nothing to go on with outside step 5. -/
theorem exec_keyUnwrapDone {s : State} {l : KeyLoad} (hload : s.keyLoad = some l) (hres : l.reserving = none) (hup : s.holdingUp = false)
    (hfw : l.armature = true → s.fwDown = false) (hstage : (s.keyUnwrapped l).boot.stage ≠ .keys) :
    exec .keyUnwrapDone s = .next (finishState s (s.keyUnwrapped l)) := by
  show execKeyUnwrapDone s = _
  unfold execKeyUnwrapDone
  rw [hload]
  dsimp only
  rw [if_neg (by simp only [hres, hup]; simpa using hfw), State.step5, if_neg (fun hgo => hstage hgo.1), finish]

theorem keyResult_shows {s a : State} (hbuild : a.build = s.build) (state cause : Nat) :
    let t := finishState s (a.keyResult state cause)
    t.get .sealKeyResultState = state % 4 ∧ t.get .sealKeyResultCause = cause % 8 ∧ t.get .sealKeyResultSlot = a.get .sealKeyResultSlot ∧
      t.keys = a.keys ∧ t.keyLoad = none ∧ t.flag .fjIrqDoneKey = true := by
  intro t
  have hb : (a.keyResult state cause).build = s.build := hbuild
  refine ⟨?_, ?_, ?_, finishState_keys _ _, finishState_keyLoad _ _, ?_⟩
  · refine (get_finishState hb (by decide)).trans ?_
    rw [State.keyResult, get_up_other _ (by decide), get_set_other _ _ (by decide), get_set, if_pos rfl]
    rfl
  · refine (get_finishState hb (by decide)).trans ?_
    rw [State.keyResult, get_up_other _ (by decide), get_set, if_pos rfl]
    rfl
  · refine (get_finishState hb (by decide)).trans ?_
    rw [State.keyResult, get_up_other _ (by decide), get_set_other _ _ (by decide), get_set_other _ _ (by decide)]
    rfl
  · refine (flag_finishState hb (by decide)).trans ?_
    exact flag_up_same _ _ (by decide)

end Sys2Proof.Machine

namespace Sys2Proof.Proofs

open Sys2Proof.Machine Sys2Proof.Safety

/-- Settles O55: the journal leaves counters alone; a key load ends with `State.keyResult`. -/
theorem countersAndKeys : Obligations.CountersAndKeys := by
  unfold Obligations.CountersAndKeys
  refine ⟨fun s ctx k c t hreplay h => drawNonce_ok hreplay h, fun s ctx k hreplay h => ⟨_, drawNonce_exhausted hreplay ctx h, ?_⟩,
    fun s l hload hres hup hfw hstage => ⟨fun slot cause hbad => ?_, fun r hgood henough => ?_⟩⟩
  · rw [key_putKey_at s (x := { s.key k with exhausted := true }) (key_slot s k)]
  · have hun : s.keyUnwrapped l = (s.set .sealKeyResultSlot slot).keyResult 3 cause := by rw [State.keyUnwrapped, hbad]
    refine ⟨_, exec_keyUnwrapDone hload hres hup hfw (by rw [hun]; exact hstage), ?_⟩
    rw [hun]
    obtain ⟨hstate, hcause, hslot, hkeys, hnone, hirq⟩ := keyResult_shows (s := s) (a := s.set .sealKeyResultSlot slot) rfl 3 cause
    exact ⟨hstate, hcause, hslot.trans (by rw [get_set, if_pos rfl]; rfl), hkeys, hnone, hirq⟩
  · have hun : s.keyUnwrapped l = ((s.set .sealKeyResultSlot (fieldAt r 0x20 1)).placeKey r l.armature).keyResult 2 0 := by
      rw [State.keyUnwrapped, hgood]
      dsimp only
      exact if_pos (by rw [← henough, reservedEnough, reservedEnough, flag_set_other _ _ (by decide)]; rfl)
    refine ⟨_, exec_keyUnwrapDone hload hres hup hfw (by rw [hun]; exact hstage), ?_⟩
    rw [hun]
    obtain ⟨hstate, -, -, hkeys, hnone, hirq⟩ := keyResult_shows (s := s)
      (a := (s.set .sealKeyResultSlot (fieldAt r 0x20 1)).placeKey r l.armature) rfl 2 0
    rw [key_congr hkeys, key_placeKey]
    exact ⟨hstate, rfl, rfl, rfl, hnone, hirq⟩

end Sys2Proof.Proofs
end

section
/-! The key port at start-up, and the choice of an Armature copy (15 R425, R426; 16 R437, R438). -/
namespace Sys2Proof.Machine

open Safety

/-! ### What FAULT leaves -/

/-- Only registers, the guard, start-up's place, the NVM device's queue, the power state and what is sent change. -/
def FaultOnly (s t : State) : Prop :=
  t = { s with regs := t.regs, out := t.out, guard := t.guard, boot := t.boot, nvm := t.nvm, eng := t.eng }

theorem FaultOnly.refl (s : State) : FaultOnly s s := rfl

theorem FaultOnly.trans {s t u : State} (h : FaultOnly s t) (k : FaultOnly t u) : FaultOnly s u := by
  rw [FaultOnly, k, h]

/-- The registers of a guard that is given up. -/
def abandonFlds : List Fld := [.grdStallMaxNs, .grdOverstallsCount, .grdStatOverstall, .grdStatAbandoned] ++ armFlds

def faultInFlds : List Fld := abandonFlds ++ [.fjStateFault, .fjBootInfoCode, .fjStateAwaitDriver]

theorem forwards_only (l : List GWrite) (now : GuardClock) (s : State) :
    FaultOnly s (l.foldl (fun a w => a.forward w now) s) ∧ KeepsRegs abandonFlds s (l.foldl (fun a w => a.forward w now) s) := by
  induction l generalizing s with
  | nil => exact ⟨rfl, keepsRegs_refl _ _⟩
  | cons w l ih =>
    have hone : FaultOnly s (s.forward w now) := by
      unfold State.forward
      dsimp only
      split
      · rw [peak_eq]
        rfl
      · rw [peak_eq]
        rfl
    have hregs : KeepsRegs abandonFlds s (s.forward w now) := keepsRegs_mono (by decide) (holdOnly_forward s w now).regs
    exact ⟨hone.trans (ih _).1, keepsRegs_trans hregs (ih _).2⟩

theorem guardAbandon_only (s : State) : FaultOnly s s.guardAbandon ∧ KeepsRegs abandonFlds s s.guardAbandon := by
  unfold State.guardAbandon
  extract_lets g clk now writes g1 s1
  obtain ⟨hone, hregs⟩ := forwards_only writes now s1
  have h1 : FaultOnly s s1 := rfl
  constructor
  · refine (h1.trans hone).trans ?_
    rw [guardRegs_eq]
    rfl
  · have h1 : KeepsRegs abandonFlds s s1 := keepsRegs_of_regs rfl rfl
    exact keepsRegs_trans (keepsRegs_trans (keepsRegs_trans h1 hregs) (keepsRegs_up _ (by decide)))
      (keepsRegs_mono (by decide) (keepsRegs_guardRegs _))

theorem sbPacket_congr {s t : State} (h : t.get .fjPosInst = s.get .fjPosInst) (typ phase body : Nat) :
    sbPacket t typ phase body = sbPacket s typ phase body := by
  rw [sbPacket, h, sbPacket]

/-- A fault's first half: the guard is given up, and nothing of the NVM device goes on. -/
def State.faultStart (s : State) : State :=
  { (if s.guard.armed then s.guardAbandon else s).modBoot (fun b => { b with stage := .fault }) with nvm := [] }

/-- Its second half: the code, the power state and the packet to the peers. -/
def State.faultShown (s : State) (code : Nat) : State :=
  ((((s.set .fjStateFault code).set .fjBootInfoCode code).setEng 6).send (.sideband (sbPacket s 4 0 code))).down .fjStateAwaitDriver

theorem faultEntry_eq (s : State) (code : Nat) : s.faultEntry code = s.faultStart.faultShown code := rfl

theorem faultStart_only (s : State) : FaultOnly s s.faultStart ∧ KeepsRegs abandonFlds s s.faultStart := by
  unfold State.faultStart
  split
  · exact ⟨(guardAbandon_only s).1.trans rfl, keepsRegs_trans (guardAbandon_only s).2 (keepsRegs_of_regs rfl rfl)⟩
  · exact ⟨rfl, keepsRegs_of_regs rfl rfl⟩

theorem faultShown_only (s : State) (code : Nat) :
    FaultOnly s (s.faultShown code) ∧ KeepsRegs [.fjStateFault, .fjBootInfoCode, .fjStateAwaitDriver] s (s.faultShown code) := by
  have h := keepsRegs_trans (keepsRegs_set (f := .fjStateFault) (by decide) s code) (keepsRegs_set (f := .fjBootInfoCode)
    (fs := [.fjStateFault, .fjBootInfoCode, .fjStateAwaitDriver]) (by decide) _ code)
  unfold State.faultShown
  rw [setEng_eq]
  exact ⟨rfl, keepsRegs_trans (keepsRegs_trans h (keepsRegs_of_regs rfl rfl)) (keepsRegs_set (f := .fjStateAwaitDriver) (by decide) _ 0)⟩

theorem faultEntry_only (s : State) (code : Nat) : FaultOnly s (s.faultEntry code) ∧ KeepsRegs faultInFlds s (s.faultEntry code) :=
  ⟨(faultStart_only s).1.trans (faultShown_only _ code).1,
    keepsRegs_trans (keepsRegs_mono (by decide) (faultStart_only s).2) (keepsRegs_mono (by decide) (faultShown_only _ code).2)⟩

theorem faultShown_shows (s : State) (code : Nat) :
    let t := s.faultShown code
    t.eng = 6 ∧ t.get .fjStateFault = code % 256 ∧ t.get .fjBootInfoCode = code % 256 ∧
      Out.sideband (sbPacket s 4 0 code) ∈ t.out ∧ t.nvm = s.nvm := by
  have hshow (f : Fld) (hf : f ≠ .fjStateAwaitDriver) :
      (s.faultShown code).get f = ((s.set .fjStateFault code).set .fjBootInfoCode code).get f := by
    unfold State.faultShown
    refine (get_set_other _ _ hf.symm).trans ?_
    rw [setEng_eq]
    rfl
  refine ⟨?_, ?_, ?_, List.mem_append_right _ List.mem_cons_self, ?_⟩
  · unfold State.faultShown
    rw [setEng_eq]
    rfl
  · rw [hshow _ (by decide), get_set_other _ _ (by decide), get_set, if_pos rfl]
    rfl
  · rw [hshow _ (by decide), get_set, if_pos rfl]
    rfl
  · rw [(faultShown_only s code).1]
    unfold State.faultShown
    rw [setEng_eq]
    rfl

/-- What a fault at start-up shows. -/
theorem faultEntry_shows (s : State) (code : Nat) :
    let t := s.faultEntry code
    t.eng = 6 ∧ t.get .fjStateFault = code % 256 ∧ t.get .fjBootInfoCode = code % 256 ∧ Out.sideband (sbPacket s 4 0 code) ∈ t.out ∧ t.nvm = [] := by
  intro t
  have hpos : s.faultStart.get .fjPosInst = s.get .fjPosInst := get_of_keepsRegs (faultStart_only s).2 (by decide)
  rw [← sbPacket_congr hpos]
  exact faultShown_shows s.faultStart code

/-- A fault that ends a command. -/
theorem faultEntry_finish {s a : State} (hbuild : a.build = s.build) (hpos : a.get .fjPosInst = s.get .fjPosInst) (code : Nat) :
    let t := finishState s (a.faultEntry code)
    t.eng = 6 ∧ t.get .fjStateFault = code % 256 ∧ t.get .fjBootInfoCode = code % 256 ∧ Out.sideband (sbPacket s 4 0 code) ∈ t.out ∧ t.nvm = [] := by
  intro t
  obtain ⟨heng, hfault, hcode, hout, hnvm⟩ := faultEntry_shows a code
  rw [sbPacket_congr hpos] at hout
  have hbuild : (a.faultEntry code).build = s.build := by rw [(faultEntry_only a code).1, hbuild]
  exact ⟨(finishState_eng _ _).trans heng, (get_finishState hbuild (by decide)).trans hfault, (get_finishState hbuild (by decide)).trans hcode,
    mem_out_finishState hout, (finishState_nvm _ _).trans hnvm⟩

/-! ### The key port -/

theorem exec_keyPortAck_good {s : State} (hstage : s.boot.stage = .checks) (herr : s.boot.kpErr = false) (hlen : s.boot.kpWords.length < 19)
    (data : Nat) :
    let n := s.boot.kpWords.length + 1
    exec (.keyPortAck data false) s = .next (finishState s ((s.modBoot (fun b => { b with kpWords := s.boot.kpWords ++ [data % 2 ^ 32] })).send
      (.keyRequest (if n < 8 then 0 else 1) (if n < 8 then n else n - 8)))) := by
  intro n
  show execKeyPortAck data false s = _
  unfold execKeyPortAck
  rw [if_neg (by simp [hstage, herr]; omega), if_neg (by decide)]
  dsimp only
  rw [List.length_append, List.length_singleton, if_pos (by omega), finish]

/-- The state with all twenty words of the key port. -/
def State.keyed (s : State) (ws : List Nat) : State :=
  ({ s.modBoot (fun b => { b with kpWords := ws }) with
    arm := { s.arm with duk := (ws.take 8).flatMap (natLe 4), keyHash := (ws.drop 8).flatMap (natLe 4) } }).up .fjPortStatKpDone

theorem exec_keyPortAck_last {s : State} (hstage : s.boot.stage = .checks) (herr : s.boot.kpErr = false) (hlen : s.boot.kpWords.length = 19)
    (data : Nat) :
    exec (.keyPortAck data false) s = .next (finishState s (s.keyed (s.boot.kpWords ++ [data % 2 ^ 32])).bootTry) := by
  show execKeyPortAck data false s = _
  unfold execKeyPortAck
  rw [if_neg (by simp [hstage, herr]; omega), if_neg (by decide)]
  dsimp only
  rw [List.length_append, List.length_singleton, if_neg (by omega), finish]
  rfl

/-- The key port's error, and its silence. -/
theorem exec_keyPort_fails {s : State} (hstage : s.boot.stage = .checks) (herr : s.boot.kpErr = false) (hlen : s.boot.kpWords.length < 20)
    {data : Nat} {c : Instr} (hc : c ∈ [Instr.keyPortAck data true, .keyPortTimeout]) :
    exec c s = .next (finishState s (s.modBoot (fun b => { b with kpErr := true })).bootTry) := by
  have hwait : ¬ (s.boot.stage ≠ .checks ∨ s.boot.kpErr = true ∨ s.boot.kpWords.length ≥ 20) := by
    simp [hstage, herr]
    omega
  simp only [List.mem_cons, List.not_mem_nil, or_false] at hc
  rcases hc with rfl | rfl
  · show execKeyPortAck data true s = _
    unfold execKeyPortAck
    rw [if_neg hwait, if_pos rfl, finish]
  · show execKeyPortTimeout s = _
    unfold execKeyPortTimeout
    rw [if_neg hwait, finish]

/-- Start-up's checks go on: registers other than a fault's stay, and the Armature with them. -/
theorem bootTry_only (s : State) : FaultOnly s s.bootTry ∧ KeepsRegs faultInFlds s s.bootTry := by
  have hread (a : State) (f : Boot → Boot) (o p : NvmOp) :
      FaultOnly a (((a.modBoot f).nvmIssue o).nvmIssue p) ∧ KeepsRegs faultInFlds a (((a.modBoot f).nvmIssue o).nvmIssue p) := by
    rw [nvmIssue_eq, nvmIssue_eq (State.modBoot _ _)]
    exact ⟨rfl, keepsRegs_of_regs rfl rfl⟩
  have hstay : FaultOnly s s ∧ KeepsRegs faultInFlds s s := ⟨rfl, keepsRegs_refl _ _⟩
  have hite {p : Prop} [Decidable p] {a b : State} (ha : FaultOnly s a ∧ KeepsRegs faultInFlds s a) (hb : FaultOnly s b ∧ KeepsRegs faultInFlds s b) :
      FaultOnly s (if p then a else b) ∧ KeepsRegs faultInFlds s (if p then a else b) := by
    split
    · exact ha
    · exact hb
  have hfault (n : Nat) := faultEntry_only s n
  exact hite hstay (hite (hfault 1) (hite (hfault 2) (hite hstay (hite (hfault 3) (hite hstay (hite (hfault 4) (hite (hread s _ _ _)
    (hite (hread s _ _ _) (hite (hread s _ _ _) (hite ⟨rfl, keepsRegs_of_regs rfl rfl⟩ hstay))))))))))

theorem bootTry_blank {s : State} (h : s.boot.sfdp = []) : s.bootTry = s := if_pos (by simp [h])

theorem bootTry_keyFault {s : State} (hstage : s.boot.stage = .checks) (hsfdp : s.boot.sfdp ≠ []) (hok : sfdpOk s.boot.sfdp = true)
    (herr : s.boot.kpErr = true) : s.bootTry = s.faultEntry 2 := by
  unfold State.bootTry
  rw [if_neg (by simp [hstage, hsfdp]), if_neg (by simp [hok]), if_pos herr]

/-! ### The choice of a copy -/

/-- No copy passes: FAULT with the code of the first. -/
theorem tryCopies_none {s : State} {c : Nat} (l : List Nat) (h : ∀ n ∈ l, (copyCode s n).isSome = true) :
    tryCopies s l (some (c, none)) = s.faultEntry c := by
  induction l with
  | nil => rfl
  | cons n l ih =>
    obtain ⟨d, hd⟩ := Option.isSome_iff_exists.mp (h n List.mem_cons_self)
    rw [tryCopies, hd]
    exact ih fun m hm => h m (List.mem_cons_of_mem _ hm)

theorem regsOnly_foldl {α : Type} (l : List α) (g : State → α → State) (h : ∀ s a, RegsOnly s (g s a)) (s : State) : RegsOnly s (l.foldl g s) := by
  induction l generalizing s with
  | nil => exact .refl s
  | cons a l ih => exact (h s a).trans (ih _)

theorem regsOnly_configured (s : State) (rs : List ArmRec) : RegsOnly s (s.configured rs) := by
  have hderived (a : State) : RegsOnly a a.derived := (regsOnly_set a _ _).trans (regsOnly_set _ _ _)
  have hpair (a : State) (p : Bytes) : RegsOnly a (a.applyPair (fieldAt p 0 4) (fieldAt p 4 4)) := by
    unfold State.applyPair
    split
    · exact (putBits_only a _ _ _ _).1
    · exact .refl a
  exact (hderived s).trans (regsOnly_foldl _ _ (fun a r => (regsOnly_foldl _ _ hpair a).trans (hderived _)) _)

/-- The copy's identity and its Armature, before start-up goes on. -/
def State.copyShown (t s : State) (k : Nat) (rs : List ArmRec) : State :=
  let b := copyBytes s.boot.images k
  let d := sha384 b
  let fw := (s.boot.firmware.find? (fun f => fwCopy b f.2)).elim [] (·.2)
  let seqs := (s.boot.images.filter (fun x => copyCode s x.1 == none)).map (fun x => (x.1, imgSeq x.2))
  let arm := { s.arm with
    records := rs, seq := imgSeq b, pkg := fieldAt b 0x14 4, fwVersion := fieldAt fw 8 4, digest := d, fwGood := true,
    fwNvmGood := true, copySeq := seqs, dirOff := 0 }
  let s1 : State := { t with arm := arm }
  let s2 := ((((s1.set .fjBootInfoCopy k).set .fjBootInfoOtherOk (b2n ((copyCode s (1 - k)).isNone))).set .fjArmSeqSeq (imgSeq b)).set
    .fjPkgIdId (fieldAt b 0x14 4)).set .fjFwVersionVersion (fieldAt fw 8 4)
  let s3 := (List.range 12).foldl (fun a i => a.setI .fjArmDigestDigest i (fieldAt d (4 * i) 4)) s2
  ({ s3 with guard := s3.guard.clearBoth }).guardRegs

theorem useCopy_eq (s : State) (k : Nat) (rs : List ArmRec) (t : State) :
    s.useCopy k rs t = if (t.copyShown s k rs).flag .fjBootCfgDriverHold then
      ((t.copyShown s k rs).modBoot (fun x => { x with stage := .hold })).up .fjStateAwaitDriver else (t.copyShown s k rs).step4 := rfl

theorem copyShown_shows (t s : State) (k : Nat) (rs : List ArmRec) :
    let b := copyBytes s.boot.images k
    let u := t.copyShown s k rs
    u.get .fjBootInfoCopy = k % 2 ∧ u.get .fjArmSeqSeq = imgSeq b % 2 ^ 32 ∧ u.arm.records = rs ∧ u.arm.digest = sha384 b ∧ u.eng = t.eng ∧
      u.build = t.build := by
  intro b u
  unfold u State.copyShown
  extract_lets d fw seqs old arm s1 s2 s3
  have hdigest : RegsOnly s2 s3 := regsOnly_foldl _ (fun a i => a.setI .fjArmDigestDigest i (fieldAt d (4 * i) 4)) (fun _ _ => rfl) s2
  have hkeep : KeepsRegs ([.fjArmDigestDigest] ++ armFlds) s2 ({ s3 with guard := s3.guard.clearBoth } : State).guardRegs :=
    keepsRegs_trans (keepsRegs_trans (t := s3) (keepsRegs_foldl _ (fun a i => a.setI .fjArmDigestDigest i (fieldAt d (4 * i) 4))
        (fun a i => keepsRegs_setI (fs := [.fjArmDigestDigest] ++ armFlds) (by decide) a i _) s2)
      (keepsRegs_of_regs (t := { s3 with guard := s3.guard.clearBoth }) rfl rfl)) (keepsRegs_mono (by decide) (keepsRegs_guardRegs _))
  rw [get_of_keepsRegs hkeep (by decide), get_of_keepsRegs hkeep (by decide), guardRegs_eq, hdigest]
  refine ⟨?_, ?_, rfl, rfl, rfl, rfl⟩
  · unfold s2
    rw [get_set_other _ _ (by decide), get_set_other _ _ (by decide), get_set_other _ _ (by decide), get_set_other _ _ (by decide), get_set, if_pos rfl]
    rfl
  · unfold s2
    rw [get_set_other _ _ (by decide), get_set_other _ _ (by decide), get_set, if_pos rfl]
    rfl

theorem useCopy_shows (s : State) (k : Nat) (rs : List ArmRec) (t : State) :
    let b := copyBytes s.boot.images k
    let u := s.useCopy k rs t
    u.get .fjBootInfoCopy = k % 2 ∧ u.get .fjArmSeqSeq = imgSeq b % 2 ^ 32 ∧ u.arm.records = rs ∧ u.arm.digest = sha384 b ∧ u.eng = t.eng ∧
      u.build = t.build := by
  intro b u
  have h := copyShown_shows t s k rs
  unfold u
  rw [useCopy_eq]
  generalize t.copyShown s k rs = v at h
  obtain ⟨hcopy, hseq, hrecords, hdigest, heng, hbuild⟩ := h
  split
  · exact ⟨(get_up_other _ (by decide)).trans hcopy, (get_up_other _ (by decide)).trans hseq, hrecords, hdigest, heng, hbuild⟩
  · rw [step4_eq]
    exact ⟨hcopy, hseq, hrecords, hdigest, heng, hbuild⟩

theorem exec_signatureVerifyDone {s : State} (hstage : s.boot.stage = .checks) (hreading : s.boot.reading = 4) :
    exec .signatureVerifyDone s = .next (finishState s (tryCopies s (copyOrder s) none)) := by
  show execSignatureVerifyDone s = _
  exact if_pos ⟨hstage, hreading⟩

end Sys2Proof.Machine

namespace Sys2Proof.Proofs

open Sys2Proof.Machine Sys2Proof.Safety

/-- Settles O53: the words of the key port, its fault, and `tryCopies` on the order of the copies. -/
theorem startChecks : Obligations.StartChecks := by
  unfold Obligations.StartChecks
  refine ⟨fun s data hstage herr hlen => ⟨fun hmore => ?_, fun hlast => ?_, fun c hc => ⟨fun hblank => ?_, fun hsfdp hok => ?_⟩⟩,
    fun s k l hstage hreading horder => ⟨fun c hcode hall => ?_, fun hcode hconf => ?_⟩⟩
  · refine ⟨_, exec_keyPortAck_good hstage herr hmore data, by rw [finishState_boot]; rfl, ⟨_, _, mem_out_finishState (List.mem_append_right _
      List.mem_cons_self), fun hfew => ?_, fun hmany => ?_⟩, keepsRegs_finishState (by decide) rfl (keepsRegs_of_regs rfl rfl)⟩
    · rw [if_pos (by omega), if_pos (by omega)]
      exact ⟨rfl, rfl⟩
    · rw [if_neg (by omega), if_neg (by omega)]
      exact ⟨rfl, by omega⟩
  · obtain ⟨honly, hregs⟩ := bootTry_only (s.keyed (s.boot.kpWords ++ [data % 2 ^ 32]))
    have hbuild : (s.keyed (s.boot.kpWords ++ [data % 2 ^ 32])).bootTry.build = s.build := by
      rw [honly]
      rfl
    refine ⟨_, exec_keyPortAck_last hstage herr hlast data, ?_, ?_, ?_⟩
    · rw [flag_finishState hbuild (by decide), flag_of_keepsRegs hregs (by decide)]
      exact flag_up_same _ _ (by decide)
    · rw [finishState_arm, honly]
      change (List.take 8 (s.boot.kpWords ++ _)).flatMap _ = _
      rw [List.take_append_of_le_length (by omega)]
    · rw [finishState_arm, honly]
      rfl
  · refine ⟨_, exec_keyPort_fails hstage herr hlen hc, ?_⟩
    rw [bootTry_blank (by exact hblank)]
    exact ⟨by rw [finishState_boot]; rfl, keepsRegs_finishState (by decide) rfl (keepsRegs_of_regs rfl rfl)⟩
  · refine ⟨_, exec_keyPort_fails hstage herr hlen hc, ?_⟩
    have hfault : (s.modBoot (fun b => { b with kpErr := true })).bootTry = (s.modBoot (fun b => { b with kpErr := true })).faultEntry 2 :=
      bootTry_keyFault hstage hsfdp hok rfl
    rw [hfault]
    obtain ⟨heng, hcode, hinfo, hout, -⟩ := faultEntry_finish (s := s) (a := s.modBoot (fun b => { b with kpErr := true })) rfl rfl 2
    exact ⟨heng, hcode, hinfo, hout⟩
  · refine ⟨_, exec_signatureVerifyDone hstage hreading, ?_⟩
    rw [horder, tryCopies, hcode]
    dsimp only
    rw [Option.orElse_none, tryCopies_none l hall]
    exact faultEntry_finish rfl rfl c
  · refine ⟨_, exec_signatureVerifyDone hstage hreading, ?_⟩
    have htry : tryCopies s (copyOrder s) none =
        s.useCopy k (appliedRecords (s.get .fjPosInst) (copyBytes s.boot.images k)) (s.configured (appliedRecords (s.get .fjPosInst)
          (copyBytes s.boot.images k))) := by
      rw [horder, tryCopies, hcode]
      dsimp only
      rw [hconf]
    rw [htry]
    have honly := regsOnly_configured s (appliedRecords (s.get .fjPosInst) (copyBytes s.boot.images k))
    have hshow := useCopy_shows s k (appliedRecords (s.get .fjPosInst) (copyBytes s.boot.images k)) (s.configured (appliedRecords (s.get .fjPosInst)
      (copyBytes s.boot.images k)))
    generalize s.useCopy k _ _ = u at hshow
    obtain ⟨hcopy, hseq, hrecords, hdigest, heng, hbuild⟩ := hshow
    have hbuild : u.build = s.build := by rw [hbuild, honly]
    exact ⟨(get_finishState hbuild (by decide)).trans hcopy, (get_finishState hbuild (by decide)).trans hseq, by rw [finishState_arm, hrecords],
      by rw [finishState_arm, hdigest], by rw [finishState_eng, heng, honly]⟩

end Sys2Proof.Proofs
end

section
/-! Data that comes and goes: what reads return, and what the acknowledgements of writes do (15 R413, R431; 17 R464). -/
namespace Sys2Proof.Machine

open Safety

/-! ### Bytes that land in an input -/

/-- The job as bytes that come in order leave it. -/
def Job.taking (j : Job) (k : Nat) (d : Bytes) : Job := { j with inps := j.inps.set k { j.inp k with data := (j.inp k).data ++ d } }

/-- Bytes that come in order, none early, land behind those already there. -/
theorem findJob_landInput {s : State} {job k off : Nat} {j : Job} (d : Bytes) (hj : s.findJob job = some j) (hcut : j.srcCut = none)
    (hoff : off = (j.inp k).data.length) (hearly : (j.inp k).early = []) : (s.landInput job k off d).findJob job = some (j.taking k d) := by
  have hland : (j.inp k).land off (j.clip k off d) = { j.inp k with data := (j.inp k).data ++ d } := by
    have hnone : (j.inp k).early.length = 0 := by rw [hearly]; rfl
    rw [Inp.land, if_pos hoff, hnone, Job.clip, hcut]
    rfl
  have hfind := findJob_modJob_same s job (f := fun j => { j with inps := j.inps.set k ((j.inp k).land off (j.clip k off d)) }) (fun _ => rfl)
  rw [hj] at hfind
  exact hfind.trans (by rw [Option.map_some, hland, Job.taking])

theorem taking_shows (j : Job) {k : Nat} (hk : k < j.inps.length) (d : Bytes) :
    (j.taking k d).stop = j.stop ∧ ((j.taking k d).inp k).data = (j.inp k).data ++ d ∧ ∀ n, n ≠ k → (j.taking k d).inp n = j.inp n := by
  refine ⟨rfl, ?_, fun n hn => ?_⟩
  · unfold Job.taking
    rw [Job.inp, List.getD_eq_getElem _ _ (by simpa using hk), List.getElem_set_self]
  · rw [Job.inp, Job.inp, Job.taking, List.getD_eq_getElem?_getD, List.getElem?_set_ne (fun h => hn h.symm), ← List.getD_eq_getElem?_getD]

theorem fabError_jobs (s : State) : s.fabError.jobs = s.jobs ∧ s.fabError.ckpt = s.ckpt := by
  have h := keepsAll_fabError s
  exact ⟨by rw [h], by rw [h]⟩

theorem fabError_count (s : State) : s.fabError.get .patMemUncorrCount = satAdd 32 (s.get .patMemUncorrCount) 1 := by
  unfold State.fabError
  rw [get_of_keepsRegs (keepsRegs_raiseWarn _ 4) (by decide), get_bump_same, get_up_other _ (by decide)]
  rfl

/-- A read of an input that fails cuts the input there, and stops its job. -/
theorem useFailed_input_shows {s : State} {job k : Nat} {j : Job} (hj : s.findJob job = some j) (hplain : isSnapJob s job = false)
    (hstop : j.stop = none) (hk : k < j.inps.length) (off st detail : Nat) :
    ∃ i, (s.useFailed job (.input k off) st detail).findJob job = some i ∧ i.stop = some (st, detail) ∧
      (i.inp k).data = (j.inp k).data.take off := by
  refine ⟨_, by rw [useFailed_input hj hplain, findJob_cutInput, hj, Option.map_some], stopAs_of_none hstop st detail, ?_⟩
  rw [inp_inputCut j st detail off hk, Inp.cut]

theorem landed_input {s : State} {x : Xfer} {k off : Nat} (huse : x.use = .input k off) (hup : s.holdingUp = false) (b : Bytes) :
    s.landed x b = s.landInput x.job k off b := by
  unfold State.landed
  rw [hup, huse]
  rfl

theorem readFailed_input {s : State} {x : Xfer} {k off : Nat} (huse : x.use = .input k off) :
    s.readFailed x = s.useFailed x.job (.input k off) stMemError 0 := by
  unfold State.readFailed
  rw [huse]

/-! ### Fabric and host reads -/

theorem exec_fabricRead {s : State} {tag : Nat} {x : Xfer} (hx : s.xfers.find? (fun x => x.kind == .fabRead && x.tag == tag) = some x)
    (data : Bytes) (err : Bool) : exec (.fabricReadResponse tag data err) s = .next (finishState s
      (if err then (s.dropXfer x).fabError.readFailed x else (s.dropXfer x).landed x (partsOf x data)).goOn) := by
  show execFabricReadResponse tag data err s = _
  unfold execFabricReadResponse
  rw [hx]
  rfl

theorem exec_hostRead_good {s : State} {tag : Nat} {x : Xfer}
    (hx : s.xfers.find? (fun x => (x.kind == .hostRead || x.kind == .hostAck) && x.tag == tag) = some x) (hkind : x.kind = .hostRead) (data : Bytes) :
    exec (.hostReadCompletion tag data 0) s =
      .next (finishState s (((s.dropXfer x).atsSettle tag).landed x (sliceZ data 0 x.len)).goOn) := by
  show execHostReadCompletion tag data 0 s = _
  unfold execHostReadCompletion
  rw [hx]
  dsimp only
  rw [if_neg (by decide), if_neg (by simp [hkind]), finish]

theorem exec_hostRead_bad {s : State} {tag status : Nat} {x : Xfer}
    (hx : s.xfers.find? (fun x => (x.kind == .hostRead || x.kind == .hostAck) && x.tag == tag) = some x) (hstatus : status ≠ 0) (data : Bytes) :
    exec (.hostReadCompletion tag data status) s =
      .next (finishState s (((s.dropXfer x).atsSettle tag).useFailed x.job x.use stHostError (min status 3)).goOn) := by
  show execHostReadCompletion tag data status s = _
  unfold execHostReadCompletion
  rw [hx]
  dsimp only
  rw [if_pos hstatus, finish]

/-! ### Acknowledgements -/

theorem exec_fabricWriteAck {s : State} {id d b : Nat} {x : Xfer} (hx : s.xfers.find? (fun x => x.kind == .fabWrite && x.tag == id) = some x)
    (huse : x.use = .block d b) (err : Bool) : exec (.fabricWriteAck id err) s = .next (finishState s
      (if err then (s.dropXfer x).fabError.useFailed x.job (.block d b) stMemError 0 else (s.dropXfer x).ackUse x.job (.block d b)).goOn) := by
  show execFabricWriteAck id err s = _
  unfold execFabricWriteAck State.writeFailed
  rw [hx]
  dsimp only
  rw [huse]
  rfl

/-- A block that a destination has acknowledged. -/
def OutBlk.ackedAt (o : OutBlk) (d : Nat) : OutBlk := { o with acked := if o.acked.contains d then o.acked else o.acked ++ [d] }

theorem mem_ackedAt (o : OutBlk) (d : Nat) : d ∈ (o.ackedAt d).acked ∧ ∀ c, c ≠ d → (c ∈ (o.ackedAt d).acked ↔ c ∈ o.acked) := by
  unfold OutBlk.ackedAt
  dsimp only
  split
  · next h => exact ⟨by simpa using h, fun c _ => Iff.rfl⟩
  · exact ⟨by simp, fun c hc => by simp [hc]⟩

def Job.ackedAt (j : Job) (d b : Nat) : Job := { j with blks := replaceFirst (fun o => o.idx == b) (·.ackedAt d) j.blks }

theorem jobs_fabWrite (s : State) (job : Nat) (use : XUse) (addr : Nat) (data : Bytes) (promised : Bool) :
    (s.fabWrite job use addr data promised).jobs = s.jobs := by
  rw [(entryOnly_fabWrite s job use addr data promised).1]

theorem jobs_foldl {α : Type} (l : List α) (g : State → α → State) (h : ∀ s a, (g s a).jobs = s.jobs) (s : State) : (l.foldl g s).jobs = s.jobs := by
  induction l generalizing s with
  | nil => rfl
  | cons a l ih => exact (ih _).trans (h s a)

/-- The job has the blocks and the failure that it had. -/
def SameBlks (uid : Nat) (j : Job) (t : State) : Prop := ∃ i, t.findJob uid = some i ∧ i.blks = j.blks ∧ i.stop = j.stop

theorem sameBlks_modJob {s : State} {uid : Nat} {j : Job} (h : SameBlks uid j s) {f : Job → Job} (huid : ∀ i, (f i).uid = i.uid)
    (hblks : ∀ i, (f i).blks = i.blks) (hstop : ∀ i, (f i).stop = i.stop) : SameBlks uid j (s.modJob uid f) := by
  obtain ⟨i, hi, hb, hs⟩ := h
  exact ⟨f i, by rw [findJob_modJob_same s uid huid, hi, Option.map_some], (hblks i).trans hb, (hstop i).trans hs⟩

theorem SameBlks.congr {s t : State} {uid : Nat} {j : Job} (h : SameBlks uid j s) (hjobs : t.jobs = s.jobs) : SameBlks uid j t := by
  obtain ⟨i, hi, hrest⟩ := h
  exact ⟨i, by rw [findJob_congr hjobs, hi], hrest⟩

theorem sameBlks_onJob {s : State} {uid : Nat} {j : Job} (h : SameBlks uid j s) {f : Job → State → State}
    (hf : ∀ i, SameBlks uid j (f i s)) : SameBlks uid j (s.onJob uid f) := by
  unfold State.onJob
  split
  · exact hf _
  · exact h

/-- Counting the blocks done changes no block. -/
theorem sameBlks_countDone {s : State} {uid : Nat} {j : Job} (hj : s.findJob uid = some j) : SameBlks uid j (s.countDone uid) := by
  have hsame : SameBlks uid j s := ⟨j, hj, rfl, rfl⟩
  refine sameBlks_onJob hsame fun i => ?_
  extract_lets n s1 s2
  split
  · exact hsame
  · have h1 : SameBlks uid j s1 := sameBlks_modJob hsame (fun _ => rfl) (fun _ => rfl) (fun _ => rfl)
    have h2 : SameBlks uid j s2 := by
      unfold s2
      split
      · exact h1.congr (jobs_foldl _ _ (fun _ _ => jobs_fabWrite _ _ _ _ _ _) _)
      · exact h1
    refine sameBlks_onJob h2 fun i => ?_
    extract_lets done
    have h3 : SameBlks uid j (s2.cacheUnpin uid (fun k => done.contains k)) := h2.congr rfl
    exact sameBlks_modJob h3 (fun _ => rfl) (fun _ => rfl) (fun _ => rfl)

theorem readBack_plain {s : State} {uid : Nat} {j : Job} (hj : s.findJob uid = some j) (hverify : j.verify = false) (d b : Nat) :
    s.readBack uid d b = s := by
  unfold State.readBack State.onJob
  rw [hj]
  dsimp only
  split
  · rfl
  · exact if_pos (by simp [hverify])

/-- The last piece of a block: the destination has acknowledged it. -/
theorem ackUse_shows {s : State} {uid d b : Nat} {j : Job} {o : OutBlk} (hleft : pieceLeft s uid d b = false) (hj : s.findJob uid = some j)
    (hverify : j.verify = false) (ho : j.blks.find? (fun o => o.idx == b) = some o) :
    ∃ i, (s.ackUse uid (.block d b)).findJob uid = some i ∧ i.stop = j.stop ∧ ∃ p, i.blks.find? (fun o => o.idx == b) = some p ∧
      d ∈ p.acked ∧ (∀ c, c ≠ d → (c ∈ p.acked ↔ c ∈ o.acked)) := by
  have hmod : (s.modJob uid (·.ackedAt d b)).findJob uid = some (j.ackedAt d b) := by
    rw [findJob_modJob_same s uid (f := (·.ackedAt d b)) (fun _ => rfl), hj, Option.map_some]
  have hack : s.ackUse uid (.block d b) = (s.modJob uid (·.ackedAt d b)).countDone uid := by
    have hback := readBack_plain hmod (j := j.ackedAt d b) hverify d b
    unfold State.ackUse
    dsimp only
    rw [if_neg (by simp [hleft])]
    exact congrArg (fun t : State => t.countDone uid) hback
  obtain ⟨i, hi, hblks, hstop⟩ := sameBlks_countDone hmod
  refine ⟨i, by rw [hack, hi], hstop, o.ackedAt d, ?_, mem_ackedAt o d⟩
  rw [hblks]
  exact (find?_replaceFirst_same (fun o : OutBlk => o.idx == b) (f := (·.ackedAt d)) (fun _ => rfl) j.blks).trans (by rw [ho, Option.map_some])

theorem useFailed_block_shows {s : State} {job : Nat} {j : Job} (hj : s.findJob job = some j) (hplain : isSnapJob s job = false)
    (hstop : j.stop = none) (d b st detail : Nat) :
    ∃ i n, (s.useFailed job (.block d b) st detail).findJob job = some i ∧ i.stop = some (st, detail) ∧ i.limit = some n ∧ n ≤ b := by
  obtain ⟨n, hlimit, hle⟩ := failed_limit j st detail b
  exact ⟨_, n, by rw [useFailed_block hj hplain, findJob_failJob, hj, Option.map_some], stopAs_of_none hstop st detail, hlimit, hle⟩

end Sys2Proof.Machine

namespace Sys2Proof.Proofs

open Sys2Proof.Machine Sys2Proof.Safety

/-- Settles O41: bytes land with `Inp.land`, an acknowledgement is `State.ackUse`, and a failure is `State.useFailed`. -/
theorem dataComesAndGoes : Obligations.DataComesAndGoes := by
  unfold Obligations.DataComesAndGoes
  refine ⟨fun s tag k off data x j huse hj hk => ⟨fun hx => ⟨fun hup => ?_, fun hup hcut hoff hearly => ?_, fun hplain hstop => ?_⟩,
    fun hx => ⟨fun hkind hup hcut hoff hearly => ?_, fun status hstatus hplain hstop => ?_⟩⟩,
    fun s id d b x huse hx => ⟨fun hleft => ?_, fun j o hleft hj hverify ho => ?_, fun j hj hplain hstop => ?_⟩⟩
  · have hdrop : (s.dropXfer x).holdingUp = true := hup
    rw [exec_fabricRead hx, if_neg (by decide), State.landed, if_pos hdrop, State.goOn, State.goOnAt, if_pos hdrop]
  · obtain ⟨hsame, hdata, hothers⟩ := taking_shows j hk (partsOf x data)
    refine ⟨(s.dropXfer x).landInput x.job k off (partsOf x data), ?_, rfl, rfl, rfl, _, findJob_landInput _ hj hcut hoff hearly, hsame, hdata,
      hothers⟩
    rw [exec_fabricRead hx, if_neg (by decide), landed_input (s := s.dropXfer x) huse hup]
  · obtain ⟨hjobs, hckpt⟩ := fabError_jobs (s.dropXfer x)
    have hj' : (s.dropXfer x).fabError.findJob x.job = some j := by rw [findJob_congr hjobs]; exact hj
    have hplain' : isSnapJob (s.dropXfer x).fabError x.job = false := by rw [isSnapJob_congr hckpt]; exact hplain
    have honly := useFailed_only hj' hplain' (.input k off) stMemError 0
    refine ⟨(s.dropXfer x).fabError.useFailed x.job (.input k off) stMemError 0, ?_, ?_, ?_, useFailed_input_shows hj' hplain' hstop hk off _ _⟩
    · rw [exec_fabricRead hx, if_pos rfl, readFailed_input huse]
    · rw [State.flag, State.get, honly.getI]
      exact fabError_flag _
    · rw [State.get, honly.getI]
      exact fabError_count _
  · obtain ⟨hsame, hdata, -⟩ := taking_shows j hk (sliceZ data 0 x.len)
    refine ⟨((s.dropXfer x).atsSettle tag).landInput x.job k off (sliceZ data 0 x.len), ?_, rfl, _, findJob_landInput _ hj hcut hoff hearly, hsame,
      hdata⟩
    rw [exec_hostRead_good hx hkind, landed_input (s := (s.dropXfer x).atsSettle tag) huse hup]
  · refine ⟨_, exec_hostRead_bad hx hstatus data, ?_⟩
    rw [huse]
    exact useFailed_input_shows (s := (s.dropXfer x).atsSettle tag) hj hplain hstop hk off _ _
  · rw [exec_fabricWriteAck hx huse, if_neg (by decide), State.ackUse, if_pos hleft]
  · exact ⟨_, exec_fabricWriteAck hx huse false, ackUse_shows (s := s.dropXfer x) hleft hj hverify ho⟩
  · obtain ⟨hjobs, hckpt⟩ := fabError_jobs (s.dropXfer x)
    have hj' : (s.dropXfer x).fabError.findJob x.job = some j := by rw [findJob_congr hjobs]; exact hj
    have hplain' : isSnapJob (s.dropXfer x).fabError x.job = false := by rw [isSnapJob_congr hckpt]; exact hplain
    have honly := useFailed_only hj' hplain' (.block d b) stMemError 0
    refine ⟨_, exec_fabricWriteAck hx huse true, ?_, useFailed_block_shows hj' hplain' hstop d b _ _⟩
    rw [if_pos rfl, State.flag, State.get, honly.getI]
    exact fabError_flag _

end Sys2Proof.Proofs
end

section
/-! NVMe completions, and Keep Alive (12 R350; 01 R28). -/
namespace Sys2Proof.Machine

open Safety

theorem nvmeOp_via {s : State} {tgt cid : Nat} {x : Xfer} (h : nvmeOp s tgt cid = some x) : x.via = tgt := by
  have hx := List.find?_some h
  simp only [Bool.and_eq_true, beq_iff_eq] at hx
  exact hx.1.2

theorem exec_nvmeCompletion {s : State} {tgt cid : Nat} {x : Xfer} (hx : nvmeOp s tgt cid = some x) (hup : s.holdingUp = false) (status : Nat)
    (data : Bytes) : exec (.nvmeCompletion tgt cid status data) s = .next (finishState s (s.nvmeIn x status data).goOn) := by
  show execNvmeCompletion tgt cid status data s = _
  unfold execNvmeCompletion
  rw [hx]
  dsimp only
  rw [if_neg (by simp [hup]), finish]

theorem nvmeIn_down {s : State} {x : Xfer} (hdown : s.fwDown = true) (htcp : s.getI .xptTgtCfgTcp x.via = 1) (status : Nat) (data : Bytes) :
    s.nvmeIn x status data = s := if_pos ⟨hdown, htcp⟩

theorem nvmeIn_up {s : State} {x : Xfer} (hup : s.getI .xptTgtCfgTcp x.via = 1 → s.fwDown = false) (hreplay : s.replaying = false) (status : Nat)
    (data : Bytes) : s.nvmeIn x status data = s.nvmeDone x status data := by
  unfold State.nvmeIn
  rw [if_neg (fun ⟨hdown, htcp⟩ => Bool.false_ne_true ((hup htcp).symm.trans hdown)), if_neg (by simp [waitsTurn, hreplay])]

/-- The state in which a command of NVMe has ended: its number acknowledged where RDMA carried it, and its operation gone. -/
def State.nvmeEnded (s : State) (x : Xfer) (status : Nat) : State :=
  (if s.getI .xptTgtCfgTcp x.via == 0 && (x.key.isSome || x.kind == .nvmeAdmin) then s.received x.psn 1 else s).opEnds x status

theorem opEnds_only (s : State) (x : Xfer) (status : Nat) :
    s.opEnds x status = { s with
      xfers := s.xfers.erase x, parked := (s.opEnds x status).parked, yeljo := (s.opEnds x status).yeljo, regs := (s.opEnds x status).regs } := by
  unfold State.opEnds
  dsimp only
  split
  · rw [(logRec_only _ _ _ _ _ _).1]
    rfl
  · rfl

theorem nvmeEnded_only (s : State) (x : Xfer) (status : Nat) :
    s.nvmeEnded x status = { s with
      xfers := s.xfers.erase x, parked := (s.nvmeEnded x status).parked, yeljo := (s.nvmeEnded x status).yeljo,
      regs := (s.nvmeEnded x status).regs, qps := (s.nvmeEnded x status).qps } := by
  unfold State.nvmeEnded
  split
  · rw [opEnds_only]
    rfl
  · rw [opEnds_only]

/-- A Read that succeeds lands in its job's input. -/
theorem nvmeDone_read {s : State} {x : Xfer} {k off : Nat} (hkind : x.kind = .nvmeRead) (huse : x.use = .input k off) (data : Bytes) :
    s.nvmeDone x 0 data =
      ((s.nvmeEnded x 0).rxBytes x.len).landed x (sliceZ (readData x data) (wantedOf s x).1 (wantedOf s x).2) := by
  unfold State.nvmeDone
  dsimp only
  rw [if_neg (by simp [hkind]), huse]
  dsimp only
  rw [if_neg (by decide), if_pos hkind]
  rfl

/-- A command that fails shows its status, and its job stops. -/
theorem nvmeDone_fails {s : State} {x : Xfer} {status : Nat} (hkind : x.kind ≠ .nvmeAdmin) (huse : ∀ n, x.use ≠ .area n) (hstatus : status ≠ 0)
    (data : Bytes) : s.nvmeDone x status data =
      ((s.nvmeEnded x status).tgtError x.via status).useFailed x.job x.use stNvmeStatus (status % 2 ^ 16) := by
  unfold State.nvmeDone
  dsimp only
  rw [if_neg hkind]
  split
  · next k hk => exact absurd hk (huse k)
  · rw [if_pos hstatus]
    rfl

theorem connStep_only (s : State) (t step : Nat) :
    s.connStep t step = { s with
      qps := (s.connStep t step).qps, tgts := (s.connStep t step).tgts, xfers := (s.connStep t step).xfers, out := (s.connStep t step).out } := by
  unfold State.connStep
  dsimp only
  split <;> rfl

/-- A target's failed command: its status shows, and its connection may start again. -/
theorem tgtError_shows (s : State) (t status : Nat) :
    (s.tgtError t status).jobs = s.jobs ∧ (s.tgtError t status).ckpt = s.ckpt ∧ (s.tgtError t status).getI .xptTgtStateLastSc t = status % 256 := by
  have hset : (s.setI .xptTgtStateLastSc t (status % 256)).getI .xptTgtStateLastSc t = status % 256 :=
    setI_lt_same s t (Nat.mod_lt _ (by decide))
  unfold State.tgtError
  extract_lets s1
  split
  · exact ⟨rfl, rfl, hset⟩
  · rw [connStep_only]
    exact ⟨rfl, rfl, hset⟩

end Sys2Proof.Machine

namespace Sys2Proof.Proofs

open Sys2Proof.Machine Sys2Proof.Safety

/-- Settles O51: a completion is `State.nvmeIn`, which waits, lands a Read, or fails its job. -/
theorem nvmeCommands : Obligations.NvmeCommands := by
  unfold Obligations.NvmeCommands
  refine ⟨fun s tgt cid status data x hx hup hdown htcp => ?_, fun s tgt cid status k off data x j hx hup hreplay hj hfw =>
    ⟨fun hstatus hkind huse hk hcut hoff hearly => ?_, fun hstatus hkind huse hplain hstop => ?_⟩, fun s tgt hused hready hfw hup => ?_⟩
  · rw [exec_nvmeCompletion hx hup, nvmeIn_down hdown htcp]
  · obtain ⟨-, hdata, -⟩ := taking_shows j hk (sliceZ (readData x data) (wantedOf s x).1 (wantedOf s x).2)
    have honly := nvmeEnded_only s x 0
    have hup' : ((s.nvmeEnded x 0).rxBytes x.len).holdingUp = false := by
      rw [honly]
      exact hup
    have hj' : ((s.nvmeEnded x 0).rxBytes x.len).findJob x.job = some j := by
      rw [honly]
      exact hj
    refine ⟨((s.nvmeEnded x 0).rxBytes x.len).landInput x.job k off (sliceZ (readData x data) (wantedOf s x).1 (wantedOf s x).2), ?_, ?_, _,
      findJob_landInput _ hj' hcut hoff hearly, hdata⟩
    · rw [exec_nvmeCompletion hx hup, nvmeIn_up (by rwa [nvmeOp_via hx]) hreplay, hstatus, nvmeDone_read hkind huse, landed_input huse hup']
    · rw [honly]
      rfl
  · obtain ⟨hjobs, hckpt, hsc⟩ := tgtError_shows (s.nvmeEnded x status) x.via status
    have honly := nvmeEnded_only s x status
    have hj' : ((s.nvmeEnded x status).tgtError x.via status).findJob x.job = some j := by
      rw [findJob_congr hjobs, honly]
      exact hj
    have hplain' : isSnapJob ((s.nvmeEnded x status).tgtError x.via status) x.job = false := by
      rw [isSnapJob_congr hckpt, honly]
      exact hplain
    obtain ⟨i, hi, his⟩ := useFailed_stops hj' hplain' x.use stNvmeStatus (status % 2 ^ 16)
    refine ⟨_, ?_, ?_, i, hi, his.trans (stopAs_of_none hstop _ _)⟩
    · rw [exec_nvmeCompletion hx hup, nvmeIn_up (by rwa [nvmeOp_via hx]) hreplay, nvmeDone_fails hkind huse hstatus]
    · rw [(useFailed_only hj' hplain' _ _ _).getI, ← nvmeOp_via hx]
      exact hsc
  · refine ⟨finishState s (s.send (.keepAlive tgt)), ?_, mem_out_finishState (List.mem_append_right _ List.mem_cons_self),
      keepsRegs_finishState (by decide) rfl (keepsRegs_of_regs rfl rfl), keepsAll_finishState rfl⟩
    show execKeepAlive tgt s = _
    exact if_neg (by simp [hused, hready, hfw, hup])

end Sys2Proof.Proofs
end

section
/-! The coding stages: segments and halves, Moulds, and the decoder (04 R131, R132; 05 R167 to R178). -/
namespace Sys2Proof.Machine

open Safety

/-! ### Halves -/

theorem census_of_coded {h : Half} {f : CodedFmt} (hf : codedFmt h.format = some f) :
    h.census = some (f, censusOf f (h.blocks.map (fun b => b.data))) := by
  rw [Half.census, hf, Option.map_some]

theorem close_counted {h : Half} {f : CodedFmt} (hf : codedFmt h.format = some f) (hcoded : h.coded = true)
    (hany : (censusOf f (h.blocks.map (fun b => b.data))).any (· != 0) = true) : h.close = { h with closed := true, coded := true, built := false } := by
  rw [Half.close, census_of_coded hf, hcoded]
  dsimp only
  rw [hany]
  rfl

theorem close_raw {h : Half} {f : CodedFmt} (hf : codedFmt h.format = some f)
    (hraw : h.coded = false ∨ (censusOf f (h.blocks.map (fun b => b.data))).any (· != 0) = false) :
    h.close = { h with closed := true, coded := false, built := true } := by
  have hcounted : (h.coded && (censusOf f (h.blocks.map (fun b => b.data))).any (· != 0)) = false := by
    rcases hraw with hraw | hraw <;> simp only [hraw, Bool.false_and, Bool.and_false]
  rw [Half.close, census_of_coded hf]
  dsimp only
  rw [hcounted]
  rfl

/-- The halves with their roles swapped. -/
def State.halvesSwapped (s : State) : State := { s with fillA := !s.fillA }.setHalf s.fillA { s.half s.fillA with st := .drain }

theorem halvesSwapped_shows (s : State) :
    s.halvesSwapped.fillA = !s.fillA ∧ s.halvesSwapped.jobs = s.jobs ∧ s.halvesSwapped.out = s.out ∧
      s.halvesSwapped.half s.fillA = { s.half s.fillA with st := .drain } ∧ s.halvesSwapped.half (!s.fillA) = s.half (!s.fillA) := by
  refine ⟨?_, ?_, ?_, setHalf_same _ _ _, setHalf_other _ _ _⟩ <;> (unfold State.halvesSwapped State.setHalf; split <;> rfl)

/-- While its Mould is to be built, a half encodes nothing. -/
theorem drainHalf_unbuilt {s : State} {a : Bool} (h : (s.half a).built = false) : s.drainHalf a = s := by
  unfold State.drainHalf
  rw [drainFuel]
  exact if_pos (.inr (.inl (by simp [h])))

/-- A half whose Mould is built from its census. -/
def State.halfBuilt (s : State) (a : Bool) : State :=
  s.setHalf a { s.half a with mould := (s.half a).census.map (fun c => buildMould (s.half a).format c.2), built := true }

theorem halfBuilt_shows (s : State) (a : Bool) :
    (s.halfBuilt a).half (!a) = s.half (!a) ∧ (s.halfBuilt a).jobs = s.jobs ∧
      (s.halfBuilt a).half a = { s.half a with built := true, mould := (codedFmt (s.half a).format).map (fun f =>
        buildMould (s.half a).format (censusOf f ((s.half a).blocks.map (fun b => b.data)))) } := by
  refine ⟨setHalf_other _ _ _, by cases a <;> rfl, (setHalf_same _ _ _).trans ?_⟩
  rw [Half.census, Option.map_map]
  rfl

/-! ### The decoder -/

/-- The job's record of a number, as a change of it leaves it. -/
theorem find_modRec {j : Job} {n : Nat} {r : Rec} (h : j.recs.find? (fun x => x.idx == n) = some r) {f : Rec → Rec} (hf : ∀ x, (f x).idx = x.idx) :
    (j.modRec n f).recs.find? (fun x => x.idx == n) = some (f r) :=
  (find?_replaceFirst_same (fun x : Rec => x.idx == n) (fun x => by simp only [hf]) j.recs).trans (by rw [h, Option.map_some])

theorem placePrints_only (s : State) : s.placePrints = { s with printing := s.placePrints.printing } := by
  unfold State.placePrints
  generalize s.printing.filter (fun p => p.core.isNone) = l
  induction l generalizing s with
  | nil => rfl
  | cons p l ih =>
    rw [List.foldl_cons]
    split
    · rw [ih]
    · exact ih s

theorem startPrint_only (s : State) (job blk : Nat) (data : Bytes) :
    s.startPrint job blk data = { s with printing := (s.startPrint job blk data).printing } := by
  unfold State.startPrint
  rw [placePrints_only]

/-- The state with a block decoded. -/
def State.recDecoded (s : State) (uid idx : Nat) (raw : Bytes) : State :=
  (s.bump .cdrDecBlocksCount 1).modJob uid (fun j => j.modRec idx (fun r => { r with stage := .decoded, raw := raw, body := [] }))

theorem decodeRec_ok {s : State} {r : Rec} {h : BlockHdr} {mo : Option Mould} {raw : Bytes} (hbody : decodeBody h mo r.body = .ok raw) (uid : Nat) :
    s.decodeRec uid r h mo =
      if canonPrint r then (s.recDecoded uid r.idx raw).startPrint uid r.idx raw else s.recDecoded uid r.idx raw := by
  unfold State.decodeRec
  rw [hbody]
  rfl

theorem decodeRec_good {s : State} {j : Job} {r : Rec} {h : BlockHdr} {mo : Option Mould} {raw : Bytes} (hj : s.findJob j.uid = some j)
    (hr : j.recs.find? (fun x => x.idx == r.idx) = some r) (hbody : decodeBody h mo r.body = .ok raw) :
    ∃ i, (s.decodeRec j.uid r h mo).findJob j.uid = some i ∧ i.stop = j.stop ∧
      i.recs.find? (fun x => x.idx == r.idx) = some { r with stage := .decoded, raw := raw, body := [] } ∧
      (s.decodeRec j.uid r h mo).get .cdrDecBlocksCount = satAdd 64 (s.get .cdrDecBlocksCount) 1 := by
  rw [decodeRec_ok hbody]
  generalize hs1 : s.recDecoded j.uid r.idx raw = s1
  have hfind : s1.findJob j.uid = some (j.modRec r.idx (fun r => { r with stage := .decoded, raw := raw, body := [] })) := by
    rw [← hs1]
    exact (findJob_modJob_same _ j.uid (f := fun j => j.modRec r.idx (fun r => { r with stage := .decoded, raw := raw, body := [] }))
      (fun _ => rfl)).trans (congrArg _ hj)
  have hcount : s1.get .cdrDecBlocksCount = satAdd 64 (s.get .cdrDecBlocksCount) 1 := by
    rw [← hs1]
    exact get_bump_same s .cdrDecBlocksCount 1
  refine ⟨j.modRec r.idx (fun r => { r with stage := .decoded, raw := raw, body := [] }), ?_, rfl, find_modRec hr (fun _ => rfl), ?_⟩
  · split
    · rw [startPrint_only]
      exact hfind
    · exact hfind
  · split
    · rw [startPrint_only]
      exact hcount
    · exact hcount

theorem dropRecs_regs (s : State) (uid : Nat) (keep : Rec → Bool) : (s.dropRecs uid keep).regs = s.regs ∧ (s.dropRecs uid keep).build = s.build :=
  ⟨rfl, rfl⟩

theorem findJob_dropRecs (s : State) (uid : Nat) (keep : Rec → Bool) :
    (s.dropRecs uid keep).findJob uid = (s.findJob uid).map (fun j => { j with recs := j.recs.filter keep }) :=
  findJob_modJob_same s uid (f := fun j => { j with recs := j.recs.filter keep }) (fun _ => rfl)

/-- A record that fails stops its job, and neither it nor a later one is kept. -/
theorem failInbound_shows {s : State} {uid : Nat} {j : Job} (hj : s.findJob uid = some j) (idx st : Nat) :
    (∃ i, (s.failInbound uid idx st).findJob uid = some i ∧ i.stop = j.stopAs st 0 ∧ i.recs = j.recs.filter (fun x => x.idx < idx)) ∧
      (s.failInbound uid idx st).regs = s.regs ∧ (s.failInbound uid idx st).build = s.build := by
  refine ⟨⟨{ j.failed st 0 none with srcCut := none, recs := j.recs.filter (fun x => x.idx < idx) }, ?_, rfl, rfl⟩, ?_, ?_⟩
  · rw [State.failInbound, findJob_dropRecs, findJob_modJob_same _ uid (f := fun j => { j with srcCut := none }) (fun _ => rfl), findJob_failJob, hj]
    rfl
  · exact (dropRecs_regs _ uid _).1
  · exact (dropRecs_regs _ uid _).2

theorem decodeFail_shows {s : State} {uid : Nat} {j : Job} (hj : s.findJob uid = some j) (idx st check : Nat) :
    (∃ i, (s.decodeFail uid idx st check).findJob uid = some i ∧ i.stop = j.stopAs st 0 ∧ i.recs = j.recs.filter (fun x => x.idx < idx)) ∧
      (s.decodeFail uid idx st check).get .cdrCheckFailsCount = satAdd 32 (s.get .cdrCheckFailsCount) 1 ∧
      (s.decodeFail uid idx st check).get .cdrFailInfoCheck = check % 8 := by
  unfold State.decodeFail State.onJob
  rw [hj]
  dsimp only
  generalize hu : (((s.set .cdrFailInfoStatus st).set .cdrFailInfoCtx j.ctx).set .cdrFailInfoCheck check).bump .cdrCheckFailsCount 1 = u
  have hj' : u.findJob uid = some j := hu ▸ hj
  obtain ⟨hjob, hregs, hbuild⟩ := failInbound_shows hj' idx st
  have hsame (f : Fld) : (u.failInbound uid idx st).get f = u.get f := keepsRegs_of_regs (fs := []) hbuild hregs f 0 List.not_mem_nil
  refine ⟨hjob, ?_, ?_⟩
  · rw [hsame, ← hu, get_bump_same, get_set_other _ _ (by decide), get_set_other _ _ (by decide), get_set_other _ _ (by decide)]
    rfl
  · rw [hsame, ← hu]
    refine (getI_bump_other _ _ _ (by decide)).trans ?_
    exact (get_set _ _ _ _).trans (if_pos rfl)

theorem decodeRec_bad {s : State} {r : Rec} {h : BlockHdr} {mo : Option Mould} {c : Nat} (hbody : decodeBody h mo r.body = .error c) (uid : Nat) :
    s.decodeRec uid r h mo = s.decodeFail uid r.idx stCheckFail c := by
  unfold State.decodeRec
  rw [hbody]

end Sys2Proof.Machine

namespace Sys2Proof.Proofs

open Sys2Proof.Machine Sys2Proof.Safety

/-- Settles O43: `Half.close`, the swap and the build of a Mould up to the drain, and the decoder's two ends. -/
theorem codingStages : Obligations.CodingStages := by
  unfold Obligations.CodingStages
  refine ⟨⟨fun h f hf => ⟨close_counted hf, close_raw hf⟩, fun s hdue hawake => ?_, fun s a ha => ?_⟩, fun s k hk => ?_, fun s j r h mo hj hr =>
    ⟨fun raw hbody => decodeRec_good hj hr hbody, fun c hbody => ?_⟩⟩
  · obtain ⟨hfill, hjobs, hout, hsame, hother⟩ := halvesSwapped_shows s
    refine ⟨s.halvesSwapped, ?_, hfill, hjobs, hout, hsame, hother, fun hbuilt => drainHalf_unbuilt (by rw [hsame]; exact hbuilt)⟩
    show execHalfSwap s = _
    exact if_pos ⟨hdue, hawake⟩
  · obtain ⟨hother, hjobs, hsame⟩ := halfBuilt_shows s a
    refine ⟨s.halfBuilt a, ?_, hother, hjobs, hsame⟩
    show execMouldBuildDone s = _
    unfold execMouldBuildDone
    rw [ha]
    rfl
  · show execDecodeSlotLoadDone k s = _
    exact if_pos hk
  · rw [decodeRec_bad hbody]
    obtain ⟨⟨i, hi, hstop, hrecs⟩, hcount, hcheck⟩ := decodeFail_shows hj r.idx stCheckFail c
    exact ⟨i, hi, hstop, hrecs, hcount, hcheck⟩

end Sys2Proof.Proofs
end

section
/-! Verdicts of the sealing pipes, fingerprints and arrival digests (06 R195, R197; 07 R202, R209). -/
namespace Sys2Proof.Machine

open Safety

/-! ### The pipes' verdicts -/

/-- The pipe is free. -/
def State.pipeFreed (s : State) (pipe : Nat) : State := { s with pipes := s.pipes.filter (fun p => p.pipe != pipe) }

theorem pipes_pipeFreed (s : State) (pipe : Nat) : ∀ q ∈ (s.pipeFreed pipe).pipes, q.pipe ≠ pipe := by
  intro q hq
  simpa using (List.mem_filter.mp hq).2

theorem exec_sealOpenVerdict {s : State} {pipe : Nat} {p : PipeUse} (hp : s.pipes.find? (fun q => q.pipe == pipe) = some p) :
    exec (.sealOpenVerdict pipe) s =
      .next (finishState s (if p.back then (s.pipeFreed pipe).backOpened p else (s.pipeFreed pipe).openVerdict p).goOn) := by
  show execSealOpenVerdict pipe s = _
  unfold execSealOpenVerdict
  rw [hp]
  rfl

section
variable {s : State} {p : PipeUse} {j : Job} {r : Rec} {h : BlockHdr} (hj : s.findJob p.job = some j)
  (hr : j.recs.find? (fun r => r.idx == p.blk) = some r) (hh : r.hdr = some h)
include hj hr hh

theorem openVerdict_good {body : Bytes} (hbody : j.openRec h (s.key h.keySlot).key r.bytes = some body) :
    s.openVerdict p = s.modJob j.uid (fun j => j.modRec p.blk (fun r => { r with stage := .opened, body := body })) := by
  unfold State.openVerdict State.onJob
  rw [hj]
  dsimp only
  rw [hr]
  dsimp only
  rw [hh]
  dsimp only
  rw [hbody]

theorem openVerdict_bad (hbody : j.openRec h (s.key h.keySlot).key r.bytes = none) :
    s.openVerdict p = (s.bump .sealTagFailsCount 1).failInbound j.uid p.blk stTagFail := by
  unfold State.openVerdict State.onJob
  rw [hj]
  dsimp only
  rw [hr]
  dsimp only
  rw [hh]
  dsimp only
  rw [hbody]

end

theorem failInbound_pipes (s : State) (uid idx st : Nat) : ∀ q ∈ (s.failInbound uid idx st).pipes, q ∈ s.pipes :=
  fun _ hq => (List.mem_filter.mp hq).1

section
variable {s : State} {p : PipeUse} {j : Job} {o : OutBlk} (hj : s.findJob p.job = some j) (ho : j.blks.find? (fun o => o.idx == p.blk) = some o)
include hj ho

theorem backOpened_good (hback : backVerdict s p.data = none) :
    s.backOpened p = (s.modBlk p.job p.blk (fun o => { o with verified := o.verified ++ [p.dst] })).countDone p.job := by
  unfold State.backOpened State.onJob
  rw [hj]
  dsimp only
  rw [ho]
  dsimp only
  rw [hback]

/-- What a read-back that is wrong counts, before its job fails. -/
def State.backCounted (s : State) (pipe st : Nat) : State :=
  let s1 := ((s.bump .sealVerifyFailsCount 1).bumpI .sealPipeVfailCount pipe 1).bump .sealTagFailsCount (b2n (st == stTagFail))
  { s1 with patina := { s1.patina with urgent := s1.patina.urgent ++ [(0, (servedBy s1 0 pipe).getD pipe)] } }

theorem backOpened_bad {st : Nat} (hback : backVerdict s p.data = some st) :
    s.backOpened p = (s.backCounted o.pipe st).useFailed p.job (.verify p.dst p.blk 0) st 0 := by
  unfold State.backOpened State.onJob
  rw [hj]
  dsimp only
  rw [ho]
  dsimp only
  rw [hback]
  rfl

end

theorem backCounted_shows (s : State) (pipe st : Nat) :
    (s.backCounted pipe st).get .sealVerifyFailsCount = satAdd 32 (s.get .sealVerifyFailsCount) 1 ∧
      (s.backCounted pipe st).getI .sealPipeVfailCount pipe = satAdd 32 (s.getI .sealPipeVfailCount pipe) 1 := by
  let a := s.bump .sealVerifyFailsCount 1
  let b := a.bumpI .sealPipeVfailCount pipe 1
  have hlast (f : Fld) (i : Nat) (hf : f ≠ .sealTagFailsCount) : (s.backCounted pipe st).getI f i = b.getI f i :=
    getI_bump_other b (b2n (st == stTagFail)) i hf
  constructor
  · refine (hlast _ 0 (by decide)).trans ?_
    exact (getI_setI_other a _ (by simp)).trans (get_bump_same s _ 1)
  · refine (hlast _ pipe (by decide)).trans ?_
    refine (getI_bumpI_same a _ pipe 1).trans ?_
    exact congrArg (fun v => satAdd 32 v 1) (getI_bump_other s 1 pipe (by decide))

theorem useFailed_verify_shows {s : State} {job : Nat} {j : Job} (hj : s.findJob job = some j) (hplain : isSnapJob s job = false)
    (hstop : j.stop = none) (d b off st detail : Nat) :
    ∃ i n, (s.useFailed job (.verify d b off) st detail).findJob job = some i ∧ i.stop = some (st, detail) ∧ i.limit = some n ∧ n ≤ b := by
  obtain ⟨n, hlimit, hle⟩ := failed_limit j st detail b
  exact ⟨_, n, by rw [useFailed_verify hj hplain, findJob_failJob, hj, Option.map_some], stopAs_of_none hstop st detail, hlimit, hle⟩

theorem modBlk_verified {s : State} {uid b d : Nat} {j : Job} {o : OutBlk} (hj : s.findJob uid = some j)
    (ho : j.blks.find? (fun o => o.idx == b) = some o) :
    ∃ i, ((s.modBlk uid b (fun o => { o with verified := o.verified ++ [d] })).countDone uid).findJob uid = some i ∧
      ∃ q, i.blks.find? (fun o => o.idx == b) = some q ∧ d ∈ q.verified := by
  have hmod : (s.modBlk uid b (fun o => { o with verified := o.verified ++ [d] })).findJob uid =
      some { j with blks := replaceFirst (fun o => o.idx == b) (fun (o : OutBlk) => { o with verified := o.verified ++ [d] }) j.blks } :=
    (findJob_modJob_same s uid (f := fun j => { j with
      blks := replaceFirst (fun o => o.idx == b) (fun (o : OutBlk) => { o with verified := o.verified ++ [d] }) j.blks }) (fun _ => rfl)).trans
      (congrArg _ hj)
  obtain ⟨i, hi, hblks, -⟩ := sameBlks_countDone hmod
  refine ⟨i, hi, { o with verified := o.verified ++ [d] }, ?_, by simp⟩
  rw [hblks]
  exact (find?_replaceFirst_same (fun o : OutBlk => o.idx == b) (f := fun o => { o with verified := o.verified ++ [d] }) (fun _ => rfl) j.blks).trans
    (by rw [ho, Option.map_some])

theorem pipes_onJob {s : State} {uid : Nat} {f : Job → State → State} (hf : ∀ i, (f i s).pipes = s.pipes) : (s.onJob uid f).pipes = s.pipes := by
  unfold State.onJob
  split
  · exact hf _
  · rfl

theorem pipes_foldl {α : Type} (l : List α) (g : State → α → State) (h : ∀ s a, (g s a).pipes = s.pipes) (s : State) :
    (l.foldl g s).pipes = s.pipes := by
  induction l generalizing s with
  | nil => rfl
  | cons a l ih => exact (ih _).trans (h s a)

theorem pipes_countDone (s : State) (uid : Nat) : (s.countDone uid).pipes = s.pipes := by
  refine pipes_onJob fun i => ?_
  extract_lets n s1 s2
  split
  · rfl
  · have h2 : s2.pipes = s.pipes := by
      unfold s2
      split
      · refine (pipes_foldl _ _ (fun a k => ?_) s1).trans rfl
        rw [beatsOnly_fabWrite]
      · rfl
    exact (pipes_onJob (s := s2) fun i => rfl).trans h2

/-! ### Fingerprints -/

theorem endPrint_only (s : State) (p : Print) : s.endPrint p = { s with printing := (s.endPrint p).printing } := by
  unfold State.endPrint
  rw [placePrints_only]

theorem putPrint_only (s : State) (job blk : Nat) (digest : Bytes) (rawLen : Nat) :
    (s.putPrint job blk digest rawLen).jobs = s.jobs ∧ (s.putPrint job blk digest rawLen).printing = s.printing ∧
      (s.putPrint job blk digest rawLen).regs = s.regs ∧ (s.putPrint job blk digest rawLen).build = s.build := by
  unfold State.putPrint
  split
  · exact ⟨rfl, rfl, rfl, rfl⟩
  · split
    · rw [beatsOnly_fabWrite]
      exact ⟨rfl, rfl, rfl, rfl⟩
    · exact ⟨rfl, rfl, rfl, rfl⟩

theorem exec_fingerprintDone {s : State} {job blk : Nat} {j : Job} {p : Print} (hj : s.findJob job = some j) (hp : s.coreBlock job blk = some p)
    (hout : j.inbound = false) : exec (.fingerprintDone job blk) s = .next (finishState s
      (((((s.endPrint p).bump .digFpBlocksCount 1).modJob job (fun j => { j with prints := j.prints ++ [(blk, sha256 p.data)] })).putPrint job blk
        (sha256 p.data) p.data.length).goOn)) := by
  show execFingerprintDone job blk s = _
  unfold execFingerprintDone
  rw [hp, hj]
  dsimp only
  rw [hout, if_neg (by decide), finish]

theorem fingerprint_shows {s : State} {job blk : Nat} {j : Job} (hj : s.findJob job = some j) (p : Print) :
    let u := (((s.endPrint p).bump .digFpBlocksCount 1).modJob job (fun j => { j with prints := j.prints ++ [(blk, sha256 p.data)] })).putPrint job blk
      (sha256 p.data) p.data.length
    u.printing = (s.endPrint p).printing ∧ u.get .digFpBlocksCount = satAdd 64 (s.get .digFpBlocksCount) 1 ∧ ∃ i, u.findJob job = some i ∧
      i.prints = j.prints ++ [(blk, sha256 p.data)] ∧ i.stop = j.stop := by
  intro u
  have hend : (s.endPrint p).findJob job = some j := by rw [endPrint_only]; exact hj
  have hcount : ((s.endPrint p).bump .digFpBlocksCount 1).get .digFpBlocksCount = satAdd 64 (s.get .digFpBlocksCount) 1 := by
    rw [get_bump_same, endPrint_only]
    rfl
  have hmod := findJob_modJob_same ((s.endPrint p).bump .digFpBlocksCount 1) job (f := fun j => { j with
    prints := j.prints ++ [(blk, sha256 p.data)] }) (fun _ => rfl)
  obtain ⟨hjobs, hprinting, hregs, hbuild⟩ := putPrint_only (((s.endPrint p).bump .digFpBlocksCount 1).modJob job (fun j => { j with
    prints := j.prints ++ [(blk, sha256 p.data)] })) job blk (sha256 p.data) p.data.length
  refine ⟨hprinting, (keepsRegs_of_regs (fs := []) hbuild hregs .digFpBlocksCount 0 List.not_mem_nil).trans hcount, _,
    (findJob_congr hjobs job).trans (hmod.trans (congrArg _ hend)), rfl, rfl⟩

/-- The core's block is counted and logged. -/
def State.arrived (s : State) (p : Print) (j : Job) (blk : Nat) : State :=
  let ring := ((s.findEntry j.uid).map (·.ring)).getD 0
  let tag := ((s.findEntry j.uid).map (·.desc.tag)).getD 0
  ((s.endPrint p).bump .digFpBlocksCount 1).logRec 13 j.ctx ring (j.ctx + 64 * ring + 256 * tag) (natLe 4 blk ++ (sha256 p.data).take 12)

theorem arrived_only (s : State) (p : Print) (j : Job) (blk : Nat) :
    s.arrived p j blk = { s with
      printing := (s.endPrint p).printing, regs := (s.arrived p j blk).regs, yeljo := (s.arrived p j blk).yeljo } ∧
      KeepsRegs (logFlds ++ [.digFpBlocksCount]) s (s.arrived p j blk) ∧
      (s.arrived p j blk).get .digFpBlocksCount = satAdd 64 (s.get .digFpBlocksCount) 1 := by
  unfold State.arrived
  extract_lets ring tag
  obtain ⟨hlog, hregs⟩ := logRec_only ((s.endPrint p).bump .digFpBlocksCount 1) 13 j.ctx ring (j.ctx + 64 * ring + 256 * tag)
    (natLe 4 blk ++ (sha256 p.data).take 12)
  have hend : KeepsRegs (logFlds ++ [.digFpBlocksCount]) s (s.endPrint p) := keepsRegs_of_regs (by rw [endPrint_only]) (by rw [endPrint_only])
  refine ⟨?_, keepsRegs_trans (keepsRegs_trans hend (keepsRegs_bumpI (f := .digFpBlocksCount) (by decide) _ 0 1)) (keepsRegs_mono (by decide) hregs), ?_⟩
  · rw [hlog]
    unfold State.bump State.bumpI State.setI
    dsimp only
    rw [endPrint_only]
  · rw [get_of_keepsRegs hregs (by decide), get_bump_same, endPrint_only]
    rfl

/-- What an arrival digest does, once counted. -/
def State.judged (s : State) (p : Print) (j : Job) (job blk : Nat) : State :=
  match expectedPrint j blk p.data.length with
  | none => s
  | some (f, keep) =>
    if f = sha256 p.data then s
    else (((s.up .digStatArrivalFail).bump .digArrivalFailsCount 1).failJob job stCheckFail 0 (some keep)).dropRecs job
      (fun r => canonAt j blk && decide (r.idx < blk))

theorem exec_arrivalDigestDone {s : State} {job blk : Nat} {j : Job} {p : Print} (hj : s.findJob job = some j) (hp : s.coreBlock job blk = some p)
    (hin : j.inbound = true) : exec (.arrivalDigestDone job blk) s = .next (finishState s ((s.arrived p j blk).judged p j job blk).goOn) := by
  show execArrivalDigestDone job blk s = _
  unfold execArrivalDigestDone
  rw [hp, hj]
  dsimp only
  rw [if_neg (by simp [hin])]
  have huid := findJob_uid hj
  subst huid
  rfl

theorem judged_same {s : State} {p : Print} {j : Job} {job blk : Nat}
    (h : ∀ f k, expectedPrint j blk p.data.length = some (f, k) → f = sha256 p.data) : s.judged p j job blk = s := by
  unfold State.judged
  split
  · rfl
  · next f keep hf => exact if_pos (h f keep hf)

theorem judged_fails {s : State} {p : Print} {j : Job} {job blk k : Nat} {f : Bytes} (hj : s.findJob job = some j)
    (hexpect : expectedPrint j blk p.data.length = some (f, k)) (hne : f ≠ sha256 p.data) (hstop : j.stop = none) :
    let u := s.judged p j job blk
    u.flag .digStatArrivalFail = true ∧ u.get .digArrivalFailsCount = satAdd 32 (s.get .digArrivalFailsCount) 1 ∧ ∃ i n, u.findJob job = some i ∧
      i.stop = some (stCheckFail, 0) ∧ i.limit = some n ∧ n ≤ k ∧ i.recs = j.recs.filter (fun r => canonAt j blk && decide (r.idx < blk)) := by
  intro u
  have hu : u = (((s.up .digStatArrivalFail).bump .digArrivalFailsCount 1).failJob job stCheckFail 0 (some k)).dropRecs job
      (fun r => canonAt j blk && decide (r.idx < blk)) := by
    unfold u State.judged
    rw [hexpect]
    exact if_neg hne
  generalize ha : (s.up .digStatArrivalFail).bump .digArrivalFailsCount 1 = a at hu
  have hfail : a.flag .digStatArrivalFail = true ∧ a.get .digArrivalFailsCount = satAdd 32 (s.get .digArrivalFailsCount) 1 ∧
      a.findJob job = some j := by
    rw [← ha]
    refine ⟨?_, ?_, hj⟩
    · rw [flag_bump_other _ 1 (by decide)]
      exact flag_up_same _ _ (by decide)
    · rw [get_bump_same, get_up_other _ (by decide)]
      rfl
  obtain ⟨hflag, hcount, hfind⟩ := hfail
  have hsame (f : Fld) : u.get f = a.get f := by
    rw [hu]
    exact keepsRegs_of_regs (fs := []) (dropRecs_regs _ job _).2 (dropRecs_regs _ job _).1 f 0 List.not_mem_nil
  obtain ⟨n, hlimit, hle⟩ := failed_limit j stCheckFail 0 k
  refine ⟨?_, (hsame _).trans hcount, { j.failed stCheckFail 0 (some k) with recs := j.recs.filter (fun r => canonAt j blk && decide (r.idx < blk)) },
    n, ?_, stopAs_of_none hstop _ _, hlimit, hle, rfl⟩
  · rw [State.flag, hsame]
    exact hflag
  · rw [hu, findJob_dropRecs, findJob_failJob, hfind]
    rfl

end Sys2Proof.Machine

namespace Sys2Proof.Proofs

open Sys2Proof.Machine Sys2Proof.Safety

/-- Settles O44: `State.openVerdict` and `State.backOpened` by the verdict, `State.endPrint`, and the judgement of an arrival. -/
theorem verdictsAndFingerprints : Obligations.VerdictsAndFingerprints := by
  unfold Obligations.VerdictsAndFingerprints
  refine ⟨fun s pipe p j hp hj => ⟨fun hopen r h hr hh => ⟨fun body hbody => ?_, fun hbody _ hstop => ?_⟩, fun hback hplain o ho =>
    ⟨fun hgood => ?_, fun st hbad hstop => ?_⟩⟩,
    fun s job blk j p hj hp => ⟨fun hout => ?_, fun hin => ⟨fun hsame => ?_, fun f k hexpect hne hstop => ?_⟩⟩⟩
  · have hexec := exec_sealOpenVerdict hp
    rw [hopen, if_neg (by decide), openVerdict_good (s := s.pipeFreed pipe) hj hr hh hbody, findJob_uid hj] at hexec
    refine ⟨_, hexec, pipes_pipeFreed s pipe, rfl, j.modRec p.blk (fun r => { r with stage := .opened, body := body }), ?_, rfl,
      find_modRec hr (fun _ => rfl)⟩
    exact (findJob_modJob_same (s.pipeFreed pipe) p.job (f := fun j => j.modRec p.blk (fun r => { r with stage := .opened, body := body }))
      (fun _ => rfl)).trans (congrArg _ hj)
  · have hexec := exec_sealOpenVerdict hp
    rw [hopen, if_neg (by decide), openVerdict_bad (s := s.pipeFreed pipe) hj hr hh hbody, findJob_uid hj] at hexec
    have hj' : ((s.pipeFreed pipe).bump .sealTagFailsCount 1).findJob p.job = some j := hj
    obtain ⟨⟨i, hi, histop, hirecs⟩, hregs, hbuild⟩ := failInbound_shows hj' p.blk stTagFail
    refine ⟨_, hexec, fun q hq => pipes_pipeFreed s pipe q (failInbound_pipes _ _ _ _ q hq), ?_, i, hi, histop.trans (stopAs_of_none hstop _ _), hirecs⟩
    exact (keepsRegs_of_regs (fs := []) hbuild hregs .sealTagFailsCount 0 List.not_mem_nil).trans (get_bump_same (s.pipeFreed pipe) _ 1)
  · have hexec := exec_sealOpenVerdict hp
    rw [hback, if_pos rfl, backOpened_good (s := s.pipeFreed pipe) hj ho hgood] at hexec
    refine ⟨_, hexec, ?_, modBlk_verified (s := s.pipeFreed pipe) hj ho⟩
    rw [pipes_countDone]
    exact pipes_pipeFreed s pipe
  · have hexec := exec_sealOpenVerdict hp
    rw [hback, if_pos rfl, backOpened_bad (s := s.pipeFreed pipe) hj ho hbad] at hexec
    obtain ⟨hverify, hvfail⟩ := backCounted_shows (s.pipeFreed pipe) o.pipe st
    have hj' : ((s.pipeFreed pipe).backCounted o.pipe st).findJob p.job = some j := hj
    have hplain' : isSnapJob ((s.pipeFreed pipe).backCounted o.pipe st) p.job = false := hplain
    have honly := useFailed_only hj' hplain' (.verify p.dst p.blk 0) st 0
    refine ⟨_, hexec, ?_, ?_, ?_, useFailed_verify_shows hj' hplain' hstop _ _ _ _ _⟩
    · rw [honly]
      exact pipes_pipeFreed s pipe
    · exact (honly.getI _ _).trans hverify
    · exact (honly.getI _ _).trans hvfail
  · exact ⟨_, exec_fingerprintDone hj hp hout, fingerprint_shows hj p⟩
  · obtain ⟨honly, hregs, hcount⟩ := arrived_only s p j blk
    refine ⟨s.arrived p j blk, ?_, by rw [honly], hcount, by rw [honly], hregs⟩
    rw [exec_arrivalDigestDone hj hp hin, judged_same hsame]
  · obtain ⟨honly, hregs, -⟩ := arrived_only s p j blk
    have hj' : (s.arrived p j blk).findJob job = some j := by
      rw [honly]
      exact hj
    have hshow := judged_fails hj' hexpect hne hstop
    rw [get_of_keepsRegs hregs (by decide)] at hshow
    exact ⟨_, exec_arrivalDigestDone hj hp hin, hshow⟩

end Sys2Proof.Proofs
end

section
/-! Translations, page faults, invalidations, and the fall of the host link (04 R142, R143; 15 R411, R431). -/
namespace Sys2Proof.Machine

open Safety

/-! ### Requests that go out -/

/-- Only requests to the host, their numbers and what is sent change. -/
def IssueOnly (s t : State) : Prop := t = { s with xfers := t.xfers, uid := t.uid, out := t.out } ∧ s.out <+: t.out

theorem IssueOnly.refl (s : State) : IssueOnly s s := ⟨rfl, List.prefix_rfl⟩

theorem IssueOnly.trans {s t u : State} (h : IssueOnly s t) (k : IssueOnly t u) : IssueOnly s u :=
  ⟨by rw [k.1, h.1], h.2.trans k.2⟩

theorem issueOnly_hostIssue (s : State) (p : PendOp) : IssueOnly s (s.hostIssue p) := by
  unfold State.hostIssue
  dsimp only
  split
  · exact ⟨rfl, List.prefix_append _ _⟩
  · exact ⟨rfl, (List.prefix_append _ _).trans (List.prefix_append _ _)⟩

theorem issueOnly_hostReadies (s : State) : IssueOnly s s.hostReadies := by
  unfold State.hostReadies
  generalize (s.xfers.filter (fun x => x.kind == .hostReady)).length = n
  induction n generalizing s with
  | zero => exact .refl s
  | succ n ih =>
    unfold hostReadyFuel
    dsimp only
    split
    · exact .refl s
    · next x _ =>
      have h1 : IssueOnly s { s with xfers := s.xfers.erase x } := ⟨rfl, List.prefix_rfl⟩
      exact (h1.trans (issueOnly_hostIssue _ _)).trans (ih _)

/-! ### A page that is not present -/

/-- What the stop of a job at a page fault changes besides the job. -/
def FaultStop (s t : State) : Prop :=
  t = { s with
    jobs := t.jobs, xfers := t.xfers, pendOps := t.pendOps, pendHost := t.pendHost, halfA := t.halfA, halfB := t.halfB, pipes := t.pipes,
    slots := t.slots }

theorem FaultStop.refl (s : State) : FaultStop s s := rfl

theorem FaultStop.trans {s t u : State} (h : FaultStop s t) (k : FaultStop t u) : FaultStop s u := by
  rw [FaultStop, k, h]

/-- The job has stopped with a status. -/
def HasStop (uid st : Nat) (t : State) : Prop := ∃ i, t.findJob uid = some i ∧ i.stop = some (st, 0)

/-- A change of a job that leaves its failure. -/
theorem hasStop_modJob {s : State} {uid st : Nat} (h : HasStop uid st s) {f : Job → Job} (huid : ∀ i, (f i).uid = i.uid)
    (hstop : ∀ i, (f i).stop = i.stop) : HasStop uid st (s.modJob uid f) := by
  obtain ⟨i, hi, hs⟩ := h
  exact ⟨f i, by rw [findJob_modJob_same s uid huid, hi, Option.map_some], (hstop i).trans hs⟩

theorem HasStop.congr {s t : State} {uid st : Nat} (h : HasStop uid st s) (hjobs : t.jobs = s.jobs) : HasStop uid st t := by
  obtain ⟨i, hi, hs⟩ := h
  exact ⟨i, (findJob_congr hjobs uid).trans hi, hs⟩

theorem hasStop_failJob {s : State} {uid : Nat} {j : Job} (hj : s.findJob uid = some j) (hstop : j.stop = none) (st : Nat) (keep : Option Nat) :
    HasStop uid st (s.failJob uid st 0 keep) :=
  ⟨_, by rw [findJob_failJob, hj, Option.map_some], stopAs_of_none hstop st 0⟩

theorem hasStop_cutInput {s : State} {uid : Nat} {j : Job} (hj : s.findJob uid = some j) (hstop : j.stop = none) (st k off : Nat) :
    HasStop uid st (s.cutInput uid st 0 k off) :=
  ⟨_, by rw [findJob_cutInput, hj, Option.map_some], stopAs_of_none hstop st 0⟩

/-- A job that has stopped keeps its first failure. -/
theorem hasStop_cutInputs (l : List Nat) {uid st st' off : Nat} {s : State} (h : HasStop uid st s) :
    HasStop uid st (l.foldl (fun a i => a.cutInput uid st' 0 i off) s) := by
  induction l generalizing s with
  | nil => exact h
  | cons k l ih =>
    obtain ⟨i, hi, hs⟩ := h
    exact ih ⟨_, by rw [findJob_cutInput, hi, Option.map_some], by show i.stopAs st' 0 = _; rw [Job.stopAs, hs]⟩

theorem hasStop_dropRecs {s : State} {uid st : Nat} (h : HasStop uid st s) (keep : Rec → Bool) : HasStop uid st (s.dropRecs uid keep) := by
  obtain ⟨i, hi, hs⟩ := h
  exact ⟨{ i with recs := i.recs.filter keep }, by rw [findJob_dropRecs, hi, Option.map_some], hs⟩

theorem faultStop_dropRecs (s : State) (uid : Nat) (keep : Rec → Bool) : FaultStop s (s.dropRecs uid keep) := rfl

theorem faultStop_modJob (s : State) (uid : Nat) (f : Job → Job) : FaultStop s (s.modJob uid f) := rfl

theorem JobsOnly.stop {s t : State} (h : JobsOnly s t) : FaultStop s t := by rw [FaultStop, h]

theorem rewindRecs_keeps {s : State} {uid st : Nat} (h : HasStop uid st s) (cut : Nat) :
    FaultStop s (s.rewindRecs uid cut) ∧ HasStop uid st (s.rewindRecs uid cut) := by
  unfold State.rewindRecs State.onJob
  split
  · dsimp only
    split
    · exact ⟨faultStop_dropRecs _ _ _, hasStop_dropRecs h _⟩
    · refine ⟨(faultStop_dropRecs _ _ _).trans (faultStop_modJob _ _ _), hasStop_modJob (hasStop_dropRecs h _) (fun i => ?_) (fun i => ?_)⟩
      · dsimp only
        split <;> rfl
      · dsimp only
        split <;> rfl
  · exact ⟨.refl s, h⟩

theorem trimHalves_keeps {s : State} {uid st : Nat} (h : HasStop uid st s) (keep : Nat) :
    FaultStop s (s.trimHalves uid keep) ∧ HasStop uid st (s.trimHalves uid keep) := by
  have hmod (f : Job → Nat) : HasStop uid st (s.modJob uid (fun j => { j with segIdx := f j })) := hasStop_modJob h (fun _ => rfl) (fun _ => rfl)
  exact ⟨rfl, (hmod _).congr rfl⟩

theorem cutInputs_only (l : List Nat) (uid st off : Nat) (s : State) : FaultStop s (l.foldl (fun a i => a.cutInput uid st 0 i off) s) := by
  induction l generalizing s with
  | nil => exact .refl s
  | cons k l ih => exact ((cutInput_only s uid st 0 k off).stop).trans (ih _)

/-- A job that had not failed stops with the status of the fault, wherever in its stream it stood. -/
theorem stopAtFault_shows {s : State} {j : Job} (hj : s.findJob j.uid = some j) (hstop : j.stop = none) (x : Xfer) (st : Nat) :
    FaultStop s (s.stopAtFault j x st).1 ∧ HasStop j.uid st (s.stopAtFault j x st).1 := by
  have hkeep (b : Nat) : FaultStop s ((s.failJob j.uid st 0 (some b)).trimHalves j.uid b) ∧
      HasStop j.uid st ((s.failJob j.uid st 0 (some b)).trimHalves j.uid b) :=
    have htrim := trimHalves_keeps (hasStop_failJob hj hstop st (some b)) b
    ⟨(failJob_only s j.uid st 0 (some b)).stop.trans htrim.1, htrim.2⟩
  have hcut (k off : Nat) : FaultStop s (s.cutInput j.uid st 0 k off) ∧ HasStop j.uid st (s.cutInput j.uid st 0 k off) :=
    ⟨(cutInput_only s _ _ _ _ _).stop, hasStop_cutInput hj hstop st k off⟩
  have hrewind (off cut : Nat) : FaultStop s ((s.cutInput j.uid st 0 0 off).rewindRecs j.uid cut) ∧
      HasStop j.uid st ((s.cutInput j.uid st 0 0 off).rewindRecs j.uid cut) :=
    have h := rewindRecs_keeps (hcut 0 off).2 cut
    ⟨(hcut 0 off).1.trans h.1, h.2⟩
  have hcuts (k off b : Nat) (l : List Nat) :
      let t := (((k :: l).foldl (fun a i => a.cutInput j.uid st 0 i off) s).trimHalves j.uid b).modJob j.uid (fun j => { j with
        limit := minOpt j.limit b })
      FaultStop s t ∧ HasStop j.uid st t :=
    have htrim := trimHalves_keeps (hasStop_cutInputs l (st' := st) (off := off) (hcut k off).2) b
    ⟨(((hcut k off).1.trans (cutInputs_only l j.uid st off _)).trans htrim.1).trans (faultStop_modJob _ _ _),
      hasStop_modJob htrim.2 (fun _ => rfl) (fun _ => rfl)⟩
  unfold State.stopAtFault
  dsimp only
  split
  · split
    · split
      · exact hrewind _ _
      · exact hrewind _ _
    · split
      · split
        · exact hcuts _ _ _ _
        · exact hcut _ _
      · split
        · exact hcuts _ _ _ _
        · exact hcut _ _
  · exact hkeep _
  · split
    · split
      · exact hkeep _
      · split
        · exact hkeep _
        · exact hkeep _
    · exact hkeep _
  · split
    · split
      · exact hkeep _
      · exact hkeep _
    · exact hkeep _

/-- The fault is counted, and where the function takes page requests one goes out (04 R143). -/
def State.faultCounted (s : State) (x : Xfer) : State :=
  if bitOf s.pins.priEn x.via then (s.bump .stgFaultsCount 1).send (.pageRequest x.via (x.addr / 4096 * 4096)) else s.bump .stgFaultsCount 1

def State.faultNoted (s : State) (x : Xfer) (e : Entry) : State :=
  (s.faultCounted x).logRec 10 e.ctx e.ring (e.ctx + 64 * e.ring + 256 * e.desc.tag) (natLe 8 x.addr)

/-- How a first fault stops its job: not to be gone on with, for want of a record, or to be gone on with from that record. -/
def faultStatus (pri : Bool) (id : Option Nat) : Nat :=
  if ¬ pri then stPageFault else match id with | none => stSaveFull | some _ => stPageFaultResumable

/-- The job stopped, with what a RESUME needs. -/
def State.faultMarked (s : State) (j : Job) (x : Xfer) (pri : Bool) (id : Option Nat) : State :=
  (s.stopAtFault j x (faultStatus pri id)).1.modJob j.uid (fun k => { k with faultAddr := x.addr, saveId := id.getD 0, priSent := pri })

/-- The record of a job that may be gone on with. -/
def State.faultSaved (s : State) (j : Job) (x : Xfer) (pri : Bool) (n : Nat) : State :=
  let a := s.faultMarked j x pri (some n)
  let r : Saved :=
    { ctx := j.ctx, id := n, desc := j.desc, job := (s.stopAtFault j x stPageFaultResumable).2.2,
      restart := (s.stopAtFault j x stPageFaultResumable).2.1 }
  let b : State := { a with saved := upsert (fun y => y.ctx == j.ctx && y.id == n) r a.saved }
  match b.findJob j.uid with
  | some k => b.saveLattice k (1 + n)
  | none => b

/-- The state after a first fault of a job. -/
def State.faulted (s : State) (j : Job) (x : Xfer) (pri : Bool) (id : Option Nat) : State :=
  match pri, id with
  | true, some n => s.faultSaved j x true n
  | _, _ => s.faultMarked j x pri id

theorem faultNoted_only (s : State) (x : Xfer) (e : Entry) :
    s.faultNoted x e = { s with
      regs := (s.faultNoted x e).regs, yeljo := (s.faultNoted x e).yeljo, out := (s.faultNoted x e).out } ∧
      (s.faultNoted x e).get .stgFaultsCount = satAdd 32 (s.get .stgFaultsCount) 1 ∧
      (bitOf s.pins.priEn x.via = true → Out.pageRequest x.via (x.addr / 4096 * 4096) ∈ (s.faultNoted x e).out) := by
  obtain ⟨hlog, hregs⟩ := logRec_only (s.faultCounted x) 10 e.ctx e.ring (e.ctx + 64 * e.ring + 256 * e.desc.tag) (natLe 8 x.addr)
  have hcount : (s.faultCounted x).get .stgFaultsCount = satAdd 32 (s.get .stgFaultsCount) 1 := by
    unfold State.faultCounted
    split
    · exact get_bump_same s .stgFaultsCount 1
    · exact get_bump_same s .stgFaultsCount 1
  have honly : s.faultCounted x = { s with regs := (s.faultCounted x).regs, out := (s.faultCounted x).out } := by
    unfold State.faultCounted
    split <;> rfl
  refine ⟨?_, (get_of_keepsRegs hregs (by decide)).trans hcount, fun hpri => ?_⟩
  · unfold State.faultNoted
    rw [hlog, honly]
  · have hout : (s.faultNoted x e).out = (s.faultCounted x).out := by
      unfold State.faultNoted
      rw [hlog]
    rw [hout, State.faultCounted, if_pos hpri]
    exact List.mem_append_right _ List.mem_cons_self

theorem freeSave_congr {s t : State} (h : t.saved = s.saved) (ctx : Nat) : freeSave t ctx = freeSave s ctx := by
  unfold freeSave State.savedRec
  rw [h]

/-- A fault of a job, once noted: `again` where the job had stopped at a fault before, `id` the record that it may be saved in. -/
def State.faultTail (s : State) (j : Job) (x : Xfer) (pri again : Bool) (id : Option Nat) : State :=
  let st := faultStatus pri id
  let p := s.stopAtFault j x st
  let s5 := p.1.modJob j.uid (fun k =>
    if j.stop.isSome ∧ ¬ again then k else { k with faultAddr := x.addr, saveId := id.getD 0, priSent := pri })
  match id with
  | some i =>
    if st ≠ stPageFaultResumable ∨ (j.stop.isSome ∧ ¬ again) ∨ (again ∧ (s.savedRec j.ctx i).any (fun r => r.restart ≤ p.2.1)) then s5
    else
      let r : Saved := { ctx := j.ctx, id := i, desc := j.desc, job := p.2.2, restart := p.2.1 }
      let s6 : State := { s5 with saved := upsert (fun y => y.ctx == j.ctx && y.id == i) r s5.saved }
      match s6.findJob j.uid with
      | some k => s6.saveLattice k (1 + i)
      | none => s6
  | none => s5

theorem faultTail_first {j : Job} (hstop : j.stop = none) (s : State) (x : Xfer) (pri : Bool) (id : Option Nat) :
    s.faultTail j x pri false id = s.faulted j x pri id := by
  unfold State.faultTail
  rw [hstop]
  cases id with
  | none => cases pri <;> rfl
  | some n => cases pri <;> rfl

theorem pageFault_first {s : State} {x : Xfer} {j : Job} {e : Entry} (hj : s.findJob x.job = some j) (he : s.findEntry j.uid = some e)
    (hplain : isSnapJob s j.uid = false) (hstop : j.stop = none) (hop : e.desc.opcode ≠ opResume) :
    s.pageFault x = (s.faultNoted x e).faulted j x (bitOf s.pins.priEn x.via) (freeSave s j.ctx) := by
  have honly : s.faultCounted x = { s with regs := (s.faultCounted x).regs, out := (s.faultCounted x).out } := by
    unfold State.faultCounted
    split <;> rfl
  have hj' : (s.faultCounted x).findJob x.job = some j := by rw [honly]; exact hj
  have he' : (s.faultCounted x).findEntry j.uid = some e := by rw [honly]; exact he
  have hplain' : isSnapJob (s.faultCounted x) j.uid = false := by rw [honly]; exact hplain
  have hfree : freeSave (s.faultNoted x e) j.ctx = freeSave s j.ctx := freeSave_congr (by rw [(faultNoted_only s x e).1]) _
  unfold State.pageFault
  dsimp only
  rw [← State.faultCounted, hj']
  dsimp only
  rw [if_neg (by simp [hplain']), he']
  dsimp only
  have htail : (s.faultNoted x e).faultTail j x (bitOf s.pins.priEn x.via) (match j.stop with | some (st, _) => st == stPageFaultResumable | none => false)
      (if (match j.stop with | some (st, _) => st == stPageFaultResumable | none => false) then some j.saveId
        else if e.desc.opcode = opResume then some (e.desc.arg % 16) else freeSave (s.faultNoted x e) j.ctx) =
      (s.faultNoted x e).faulted j x (bitOf s.pins.priEn x.via) (freeSave s j.ctx) := by
    rw [hstop]
    dsimp only
    rw [if_neg (by decide), if_neg hop, hfree]
    exact faultTail_first hstop _ _ _ _
  exact htail

section
variable {s : State} {j : Job} (hj : s.findJob j.uid = some j) (hstop : j.stop = none) (x : Xfer) (pri : Bool)
include hj hstop

/-- The job as a fault marks it. -/
theorem faultMarked_shows (id : Option Nat) :
    FaultStop s (s.faultMarked j x pri id) ∧ ∃ i, (s.faultMarked j x pri id).findJob j.uid = some i ∧ i.stop = some (faultStatus pri id, 0) ∧
      i.saveId = id.getD 0 ∧ i.faultAddr = x.addr := by
  obtain ⟨honly, i, hi, his⟩ := stopAtFault_shows hj hstop x (faultStatus pri id)
  refine ⟨honly.trans (faultStop_modJob _ _ _), { i with faultAddr := x.addr, saveId := id.getD 0, priSent := pri }, ?_, his, rfl, rfl⟩
  exact (findJob_modJob_same _ j.uid (f := fun k => { k with faultAddr := x.addr, saveId := id.getD 0, priSent := pri }) (fun _ => rfl)).trans
    (congrArg _ hi)

/-- The record of a job that may be gone on with. -/
theorem faultSaved_shows (n : Nat) :
    let t := s.faultSaved j x true n
    t.regs = s.regs ∧ t.build = s.build ∧ (∀ o ∈ s.out, o ∈ t.out) ∧
      (∃ i, t.findJob j.uid = some i ∧ i.stop = some (stPageFaultResumable, 0) ∧
      i.saveId = n ∧ i.faultAddr = x.addr) ∧ ∃ r, t.savedRec j.ctx n = some r ∧ r.desc = j.desc := by
  intro t
  obtain ⟨honly, i, hi, his, hid, haddr⟩ := faultMarked_shows hj hstop x true (some n)
  let r : Saved :=
    { ctx := j.ctx, id := n, desc := j.desc, job := (s.stopAtFault j x stPageFaultResumable).2.2,
      restart := (s.stopAtFault j x stPageFaultResumable).2.1 }
  let b : State := { s.faultMarked j x true (some n) with
    saved := upsert (fun y => y.ctx == j.ctx && y.id == n) r (s.faultMarked j x true (some n)).saved }
  have hb : b.findJob j.uid = some i := hi
  have ht : t = b.saveLattice i (1 + n) := by
    show (match b.findJob j.uid with | some k => b.saveLattice k (1 + n) | none => b) = _
    rw [hb]
  have hlat : BeatsOnly b t := by
    rw [ht, State.saveLattice]
    split
    · exact beatsOnly_fabWrite _ _ _ _ _ _
    · rfl
  have hout : ∀ o ∈ b.out, o ∈ t.out := by
    rw [ht, State.saveLattice]
    split
    · exact fun o ho => (steady_fabWrite _ _ _ _ _ _).out.subset ho
    · exact fun o ho => ho
  refine ⟨?_, ?_, fun o ho => hout o ?_, ⟨i, ?_, his, hid, haddr⟩, r, ?_, rfl⟩
  · rw [hlat]
    show (s.faultMarked j x true (some n)).regs = s.regs
    rw [honly]
  · rw [hlat]
    show (s.faultMarked j x true (some n)).build = s.build
    rw [honly]
  · show o ∈ (s.faultMarked j x true (some n)).out
    rw [honly]
    exact ho
  · rw [hlat]
    exact hi
  · rw [hlat]
    exact find?_upsert_same (by simp [r]) _

end

theorem keepsFault_regs {s t : State} (h : FaultStop s t) : t.regs = s.regs ∧ t.build = s.build ∧ t.out = s.out ∧ t.saved = s.saved := by
  rw [h]
  exact ⟨rfl, rfl, rfl, rfl⟩

/-- What a first fault leaves, by the function's PRI and the record that is free. -/
theorem faulted_shows {s : State} {j : Job} (hj : s.findJob j.uid = some j) (hstop : j.stop = none) (x : Xfer) (pri : Bool) (id : Option Nat) :
    let t := s.faulted j x pri id
    t.regs = s.regs ∧ t.build = s.build ∧ (∀ o ∈ s.out, o ∈ t.out) ∧
      (pri = false → t.saved = s.saved ∧ ∃ i, t.findJob j.uid = some i ∧ i.stop = some (stPageFault, 0)) ∧
      (pri = true → (id = none → t.saved = s.saved ∧ ∃ i, t.findJob j.uid = some i ∧ i.stop = some (stSaveFull, 0)) ∧
        ∀ n, id = some n → (∃ i, t.findJob j.uid = some i ∧ i.stop = some (stPageFaultResumable, 0) ∧ i.saveId = n ∧ i.faultAddr = x.addr) ∧
          ∃ r, t.savedRec j.ctx n = some r ∧ r.desc = j.desc) := by
  intro t
  have hmarked (hst : t = s.faultMarked j x pri id) : t.regs = s.regs ∧ t.build = s.build ∧ (∀ o ∈ s.out, o ∈ t.out) ∧ t.saved = s.saved ∧
      ∃ i, t.findJob j.uid = some i ∧ i.stop = some (faultStatus pri id, 0) := by
    obtain ⟨honly, i, hi, his, -⟩ := faultMarked_shows hj hstop x pri id
    obtain ⟨hregs, hbuild, hout, hsaved⟩ := keepsFault_regs honly
    rw [hst]
    exact ⟨hregs, hbuild, fun o ho => by rw [hout]; exact ho, hsaved, i, hi, his⟩
  cases pri with
  | false =>
    obtain ⟨hregs, hbuild, hout, hjob⟩ := hmarked (by cases id <;> rfl)
    exact ⟨hregs, hbuild, hout, fun _ => hjob, fun h => absurd h Bool.false_ne_true⟩
  | true =>
    cases id with
    | none =>
      obtain ⟨hregs, hbuild, hout, hjob⟩ := hmarked rfl
      exact ⟨hregs, hbuild, hout, fun h => absurd h.symm Bool.false_ne_true, fun _ => ⟨fun _ => hjob, fun n hn => by cases hn⟩⟩
    | some n =>
      obtain ⟨hregs, hbuild, hout, hjob, hrec⟩ := faultSaved_shows hj hstop x n
      refine ⟨hregs, hbuild, hout, fun h => absurd h.symm Bool.false_ne_true, fun _ => ⟨fun h => absurd h (Option.some_ne_none n), fun m hm => ?_⟩⟩
      cases hm
      exact ⟨hjob, hrec⟩

/-! ### The fall of the host link -/

/-- Only jobs, and what is asked for them, change; nothing more is asked of the host. -/
structure HostLost (s t : State) : Prop where
  only : JobsOnly s t
  waits : s.pendHost = [] → t.pendHost = []
  ops : (∀ x ∈ s.xfers, isHostOp x.kind = false) → ∀ x ∈ t.xfers, isHostOp x.kind = false

theorem HostLost.refl (s : State) : HostLost s s := ⟨.refl s, id, id⟩

theorem HostLost.trans {s t u : State} (h : HostLost s t) (k : HostLost t u) : HostLost s u :=
  ⟨h.only.trans k.only, k.waits ∘ h.waits, k.ops ∘ h.ops⟩

/-- Requests that are only marked as lost keep their kinds. -/
theorem kinds_map {l : List Xfer} {f : Xfer → Xfer} (hf : ∀ x, (f x).kind = x.kind) (h : ∀ x ∈ l, isHostOp x.kind = false) :
    ∀ x ∈ l.map f, isHostOp x.kind = false := by
  intro x hx
  obtain ⟨y, hy, rfl⟩ := List.mem_map.mp hx
  rw [hf, h y hy]

theorem hostLost_failJob (s : State) (uid st detail : Nat) (keep : Option Nat) : HostLost s (s.failJob uid st detail keep) := by
  refine ⟨failJob_only s uid st detail keep, fun h => ?_, fun h => kinds_map (fun x => ?_) h⟩
  · show List.filter _ s.pendHost = []
    rw [h, List.filter_nil]
  · dsimp only
    split <;> rfl

theorem hostLost_cutInput (s : State) (uid st detail k off : Nat) : HostLost s (s.cutInput uid st detail k off) := by
  refine ⟨cutInput_only s uid st detail k off, fun h => ?_, fun h => kinds_map (fun x => ?_) h⟩
  · show List.filter _ s.pendHost = []
    rw [h, List.filter_nil]
  · dsimp only
    split <;> rfl

section
variable {s : State} (hsnap : s.allSnaps = [])
include hsnap

theorem isSnapJob_noSnap (job : Nat) : isSnapJob s job = false := by
  rw [isSnapJob, hsnap]
  rfl

theorem useFailed_noJob {job : Nat} (hj : s.findJob job = none) (u : XUse) (st detail : Nat) : s.useFailed job u st detail = s := by
  unfold State.useFailed
  rw [hj]
  dsimp only
  split
  · exact if_pos (by rw [hsnap]; simp)
  · rfl

theorem useFailed_noSnap (job : Nat) (u : XUse) (st detail : Nat) : HostLost s (s.useFailed job u st detail) := by
  cases hj : s.findJob job with
  | none => rw [useFailed_noJob hsnap hj]; exact .refl s
  | some j =>
    unfold State.useFailed
    rw [hj]
    dsimp only
    rw [if_neg (by simp [isSnapJob_noSnap hsnap])]
    split
    · exact hostLost_failJob _ _ _ _ _
    · exact hostLost_failJob _ _ _ _ _
    · exact hostLost_failJob _ _ _ _ _
    · exact hostLost_cutInput _ _ _ _ _ _
    · exact hostLost_failJob _ _ _ _ _

theorem useFailed_otherJob {job n : Nat} (hn : n ≠ job) (u : XUse) (st detail : Nat) : (s.useFailed job u st detail).findJob n = s.findJob n := by
  cases hj : s.findJob job with
  | none => rw [useFailed_noJob hsnap hj]
  | some j =>
    unfold State.useFailed
    rw [hj]
    dsimp only
    rw [if_neg (by simp [isSnapJob_noSnap hsnap])]
    split
    · exact findJob_failJob_other s hn _ _ _
    · exact findJob_failJob_other s hn _ _ _
    · exact findJob_failJob_other s hn _ _ _
    · exact findJob_cutInput_other s hn _ _ _ _
    · exact findJob_failJob_other s hn _ _ _

end

/-- Operations that fail one after the other: each job of theirs stops with the failure. -/
theorem failures_shows {α : Type} (l : List α) (job : α → Nat) (use : α → XUse) (st detail : Nat) {s : State} (hsnap : s.allSnaps = []) :
    let t := l.foldl (fun a x => a.useFailed (job x) (use x) st detail) s
    HostLost s t ∧ ∀ n j, s.findJob n = some j → (j.stop = none ∨ j.stop = some (st, detail)) → ∃ i, t.findJob n = some i ∧
      (i.stop = none ∨ i.stop = some (st, detail)) ∧ ((j.stop = some (st, detail) ∨ ∃ x ∈ l, job x = n) → i.stop = some (st, detail)) := by
  induction l generalizing s with
  | nil =>
    refine ⟨.refl s, fun n j hj hstop => ⟨j, hj, hstop, fun h => h.elim id fun ⟨x, hx, _⟩ => absurd hx List.not_mem_nil⟩⟩
  | cons x l ih =>
    have hone := useFailed_noSnap hsnap (job x) (use x) st detail
    have hsnap' : (s.useFailed (job x) (use x) st detail).allSnaps = [] := by rw [State.allSnaps, hone.only.ckpt]; exact hsnap
    obtain ⟨hrest, hstops⟩ := ih hsnap'
    refine ⟨hone.trans hrest, fun n j hj hstop => ?_⟩
    by_cases hn : n = job x
    · subst hn
      obtain ⟨i, hi, his⟩ := useFailed_stops hj (isSnapJob_noSnap hsnap _) (use x) st detail
      have hfail : i.stop = some (st, detail) := by
        rw [his, Job.stopAs]
        rcases hstop with h | h <;> rw [h]
      obtain ⟨k, hk, hks, hkfail⟩ := hstops _ i hi (.inr hfail)
      exact ⟨k, hk, hks, fun _ => hkfail (.inl hfail)⟩
    · obtain ⟨k, hk, hks, hkfail⟩ := hstops n j ((useFailed_otherJob hsnap hn _ _ _).trans hj) hstop
      refine ⟨k, hk, hks, fun h => hkfail (h.imp id fun ⟨y, hy, hyn⟩ => ?_)⟩
      rcases List.mem_cons.mp hy with rfl | hy
      · exact absurd hyn.symm hn
      · exact ⟨y, hy, hyn⟩

/-- The state in which the host link has just fallen. -/
def State.linkLost (s : State) : State :=
  { s with pins := { s.pins with hostLinkUp := false }, xfers := s.xfers.filter (fun x => !isHostOp x.kind), pendHost := [], atsInv := [] }

/-- What was asked of the host has failed. -/
def State.hostFailed (s : State) : State :=
  s.pendHost.foldl (fun a p => a.useFailed p.job p.use stHostError 3)
    ((s.xfers.filter (fun x => isHostOp x.kind)).foldl (fun a x => a.useFailed x.job x.use stHostError 3) s.linkLost)

theorem hostFailed_shows {s : State} (hsnap : s.ckpt.snap = none) (htail : s.ckpt.tail = []) :
    HostLost s.linkLost s.hostFailed ∧ ∀ n j, s.findJob n = some j → j.stop = none → (∃ x ∈ s.xfers, isHostOp x.kind = true ∧ x.job = n) →
      ∃ i, s.hostFailed.findJob n = some i ∧ i.stop = some (stHostError, 3) := by
  have hnone : s.linkLost.allSnaps = [] := by
    show s.ckpt.snap.toList ++ s.ckpt.tail = []
    rw [hsnap, htail]
    rfl
  obtain ⟨hlost, hstops⟩ := failures_shows (s.xfers.filter (fun x => isHostOp x.kind)) (·.job) (·.use) stHostError 3 hnone
  generalize ha : (s.xfers.filter (fun x => isHostOp x.kind)).foldl (fun a x => a.useFailed x.job x.use stHostError 3) s.linkLost = a at hlost hstops
  have hnone' : a.allSnaps = [] := by rw [State.allSnaps, hlost.only.ckpt]; exact hnone
  obtain ⟨hwaits, hwstops⟩ := failures_shows s.pendHost (·.job) (·.use) stHostError 3 hnone'
  have hall : s.hostFailed = s.pendHost.foldl (fun a p => a.useFailed p.job p.use stHostError 3) a := by rw [State.hostFailed, ha]
  rw [hall]
  refine ⟨hlost.trans hwaits, fun n j hj hstop ⟨x, hx, hop, hjob⟩ => ?_⟩
  obtain ⟨i, hi, -, hfail⟩ := hstops n j hj (.inl hstop)
  have hfailed := hfail (.inr ⟨x, List.mem_filter.mpr ⟨hx, hop⟩, hjob⟩)
  obtain ⟨k, hk, -, hkfail⟩ := hwstops n i hi (.inr hfailed)
  exact ⟨k, hk, hkfail (.inl hfailed)⟩

/-! ### Translations -/

theorem exec_atsPasses {s : State} {tag : Nat} {x : Xfer} (hx : s.xfers.find? (fun x => x.kind == .ats && x.tag == tag) = some x)
    (huse : x.use ≠ .side) (hdata : x.data = []) :
    exec (.atsTranslationResponse tag true) s = .next (finishState s ((s.dropXfer x).hostIssue (atsOp x)).goOn) := by
  show execAtsTranslationResponse tag true s = _
  unfold execAtsTranslationResponse
  rw [hx]
  dsimp only
  rw [if_neg (fun h => huse h.2), if_pos (.inl rfl), if_pos (by simp [hdata]), finish]

theorem exec_atsWrites {s : State} {tag : Nat} {x : Xfer} (hx : s.xfers.find? (fun x => x.kind == .ats && x.tag == tag) = some x)
    (huse : x.use ≠ .side) (hdata : x.data ≠ []) :
    exec (.atsTranslationResponse tag true) s = .next (finishState s
      (({ s with xfers := s.xfers.map (fun (y : Xfer) => if y = x then { y with kind := .hostReady } else y) } : State).hostReadies.goOn)) := by
  show execAtsTranslationResponse tag true s = _
  unfold execAtsTranslationResponse
  rw [hx]
  dsimp only
  rw [if_neg (fun h => huse h.2), if_pos (.inl rfl), if_neg (by simpa using hdata), finish]

theorem exec_atsFails {s : State} {tag : Nat} {x : Xfer} (hx : s.xfers.find? (fun x => x.kind == .ats && x.tag == tag) = some x)
    (huse : x.use ≠ .side) (hreplay : s.replaying = false) :
    exec (.atsTranslationResponse tag false) s = .next (finishState s (((s.dropXfer x).pageFault x).hostReadies).goOn) := by
  show execAtsTranslationResponse tag false s = _
  unfold execAtsTranslationResponse
  rw [hx]
  dsimp only
  rw [if_neg (fun h => huse h.2), if_neg (by simp [hreplay]), finish]

theorem savedRec_congr {s t : State} (h : t.saved = s.saved) (ctx n : Nat) : t.savedRec ctx n = s.savedRec ctx n := by
  rw [State.savedRec, h, State.savedRec]

/-! ### Invalidations -/

theorem atsInvalidation_shows (s : State) (fn : Nat) :
    let tags := (s.xfers.filter (fun x => (x.kind == .hostRead || x.kind == .hostAck) && x.via == fn)).map (fun x => x.tag)
    ∃ t, exec (.atsInvalidation fn) s = .next t ∧ KeepsRegs msgFlds s t ∧ t.xfers = s.xfers ∧ t.jobs = s.jobs ∧
      (tags = [] → Out.atsDone fn ∈ t.out ∧ t.atsInv = s.atsInv) ∧ (tags ≠ [] → t.atsInv = s.atsInv ++ [(fn, tags)]) := by
  intro tags
  have hexec : exec (.atsInvalidation fn) s =
      .next (finishState s (if tags.isEmpty then s.send (.atsDone fn) else { s with atsInv := s.atsInv ++ [(fn, tags)] })) := rfl
  by_cases htags : tags = []
  · refine ⟨finishState s (s.send (.atsDone fn)), by rw [hexec, if_pos (by simp [htags])], keepsRegs_finishState (by decide) rfl
      (keepsRegs_of_regs rfl rfl), finishState_xfers _ _, finishState_jobs _ _, fun _ =>
      ⟨mem_out_finishState (List.mem_append_right _ List.mem_cons_self), finishState_atsInv _ _⟩, fun h => absurd htags h⟩
  · refine ⟨finishState s { s with atsInv := s.atsInv ++ [(fn, tags)] }, by rw [hexec, if_neg (by simpa using htags)], keepsRegs_finishState (by decide)
      rfl (keepsRegs_of_regs rfl rfl), finishState_xfers _ _, finishState_jobs _ _, fun h => absurd h htags, fun _ => finishState_atsInv _ _⟩

theorem atsSettle_done {s : State} {fn tag : Nat} {tags : List Nat} (h : (fn, tags) ∈ s.atsInv) (hall : ∀ n ∈ tags, n = tag) :
    Out.atsDone fn ∈ (s.atsSettle tag).out := by
  refine List.mem_append_right _ (List.mem_map.mpr ⟨(fn, []), List.mem_filter.mpr ⟨List.mem_map.mpr ⟨(fn, tags), h, ?_⟩, rfl⟩, rfl⟩)
  have hnone : tags.filter (· != tag) = [] := List.filter_eq_nil_iff.mpr fun n hn => by simp [hall n hn]
  rw [hnone]

theorem atsSettle_waits {s : State} {fn tag : Nat} {tags : List Nat} (h : (fn, tags) ∈ s.atsInv) (hone : ∃ n ∈ tags, n ≠ tag) :
    (fn, tags.filter (fun n => n != tag)) ∈ (s.atsSettle tag).atsInv := by
  obtain ⟨n, hn, hne⟩ := hone
  refine List.mem_filter.mpr ⟨List.mem_map.mpr ⟨(fn, tags), h, rfl⟩, ?_⟩
  simp only [Bool.not_eq_true', List.isEmpty_eq_false_iff, ne_eq]
  exact List.ne_nil_of_mem (List.mem_filter.mpr ⟨hn, by simpa using hne⟩)

end Sys2Proof.Machine

namespace Sys2Proof.Proofs

open Sys2Proof.Machine Sys2Proof.Safety

/-- Settles O42: `State.hostIssue`, `State.pageFault` by the function's PRI and the free record, and `State.hostFailed`. -/
theorem hostAccess : Obligations.HostAccess := by
  unfold Obligations.HostAccess
  refine ⟨⟨fun s tag x hx huse => ⟨fun hdata => ?_, fun hdata => exec_atsWrites hx huse hdata, fun j e hreplay hj he hplain hstop hop => ?_⟩,
    atsInvalidation_shows, fun s fn tag tags h => ⟨atsSettle_done h, atsSettle_waits h⟩⟩, fun s hsnap htail => ?_⟩
  · refine ⟨(s.dropXfer x).hostIssue (atsOp x), exec_atsPasses hx huse hdata, ?_, hostXfer s.uid .hostRead (atsOp x), ?_, rfl, rfl, rfl, rfl, rfl⟩ <;>
      (unfold State.hostIssue; rw [if_pos (by simp [atsOp, hdata])]; rfl)
  · refine ⟨_, exec_atsFails hx huse hreplay, ?_⟩
    obtain ⟨honly, hcount, hrequest⟩ := faultNoted_only (s.dropXfer x) x e
    have hfirst := pageFault_first (s := s.dropXfer x) hj he hplain hstop hop
    generalize (s.dropXfer x).faultNoted x e = m at honly hcount hrequest hfirst
    have hjm : m.findJob j.uid = some j := by
      rw [honly, findJob_uid hj]
      exact hj
    have hsaved : m.saved = s.saved := by rw [honly]; rfl
    obtain ⟨hregs, hbuild, hout, hplainly, hpri⟩ := faulted_shows hjm hstop x (bitOf s.pins.priEn x.via) (freeSave s j.ctx)
    obtain ⟨hready, hreadyOut⟩ := issueOnly_hostReadies ((s.dropXfer x).pageFault x)
    have hfault : (s.dropXfer x).pageFault x = m.faulted j x (bitOf s.pins.priEn x.via) (freeSave s j.ctx) := hfirst
    rw [findJob_uid hj, hsaved] at hplainly hpri
    rw [← hfault] at hregs hbuild hout hplainly hpri
    have hfind (n : Nat) : ((s.dropXfer x).pageFault x).hostReadies.findJob n = ((s.dropXfer x).pageFault x).findJob n :=
      findJob_congr (by rw [hready]) n
    have hsaves : ((s.dropXfer x).pageFault x).hostReadies.saved = ((s.dropXfer x).pageFault x).saved := by rw [hready]
    have hrecs (n : Nat) : ((s.dropXfer x).pageFault x).hostReadies.savedRec j.ctx n = ((s.dropXfer x).pageFault x).savedRec j.ctx n :=
      savedRec_congr hsaves _ n
    rw [hfind, hsaves]
    refine ⟨?_, hplainly, fun h => ⟨hreadyOut.subset (hout _ (hrequest h)), (hpri h).1, fun n hn => ?_⟩⟩
    · have hsame : ((s.dropXfer x).pageFault x).hostReadies.get .stgFaultsCount = m.get .stgFaultsCount :=
        keepsRegs_of_regs (fs := []) (by rw [hready, hbuild]) (by rw [hready, hregs]) .stgFaultsCount 0 List.not_mem_nil
      exact hsame.trans hcount
    · rw [hrecs]
      exact (hpri h).2 n hn
  · obtain ⟨hlost, hstops⟩ := hostFailed_shows hsnap htail
    refine ⟨s.hostFailed, rfl, by rw [hlost.only]; rfl, by rw [hlost.only]; rfl, hlost.waits rfl, hlost.ops fun x hx => ?_, by rw [hlost.only]; rfl,
      by rw [hlost.only]; rfl, fun j hj hstop hx => hstops j.uid j hj hstop hx⟩
    simpa using (List.mem_filter.mp hx).2

end Sys2Proof.Proofs
end

section
/-! Tile boundaries, lane changes, patrol, substitution and ECC windows (08 R223, R224; 17 R476 to R482). -/
namespace Sys2Proof.Machine

open Safety

/-! ### A lattice job at another lane count -/

section
variable {s : State} {j : Job} {l : LatCfg} (hlat : j.lat = some l) (hstop : j.stop = none)
include hlat hstop

theorem reshape_gone (hnone : s.logicalOf 2 = 0) : s.reshape j =
    if needsLattice j l then (s.failJob j.uid stLatticeReshaped 0 (some j.nextBlk)).modJob j.uid (fun x => { x with latGone := true }) else s := by
  unfold State.reshape
  rw [hlat]
  dsimp only
  rw [if_neg (by simp [hstop]), if_pos hnone]

theorem reshape_lanes (hsome : s.logicalOf 2 ≠ 0) : s.reshape j =
    if l.lanes = s.get .latStatLanes then s
    else if rowOpen j (s.get .latStatLanes) then
      ((s.up .latStatReshaped).bump .latReshapedJobsCount 1).failJob j.uid stLatticeReshaped 0 (some j.nextBlk)
    else s.modJob j.uid (fun j => j.withLanes (s.get .latStatLanes)) := by
  unfold State.reshape
  rw [hlat]
  dsimp only
  rw [if_neg (by simp [hstop]), if_neg hsome]

end

theorem withLanes_eq {j : Job} {l : LatCfg} (hlat : j.lat = some l) (lanes : Nat) :
    j.withLanes lanes = { j with lat := some { l with lanes := lanes } } := by
  rw [Job.withLanes, hlat]
  rfl

/-! ### A tile boundary -/

/-- A replay that has diverged is frozen, and classes that lost a unit serve with fewer. -/
def State.tileStart (s : State) (ofs : Nat) : State :=
  let s0 := s.at_ ofs
  let s1 : State := if s0.yeljo.stopped ∧ s0.flag .yljStatDiverged then { s0 with yeljo := { s0.yeljo with frozen := true } } else s0
  (List.range 8).foldl (fun a c => a.dropClass c) s1

/-- Substitutions may complete. -/
def State.substsFree (s : State) : State :=
  { s with sealPipes := [], patina := { s.patina with substs := s.patina.substs.map (fun x => { x with tile := true }) } }

/-- Jobs go on at the lanes of now, and a promised job takes the half it waits for. -/
def State.tileTurn (s : State) : State := (s.substsFree.jobs.foldl (fun a j => a.reshape j) s.substsFree).preempt

/-- The work before the feeds of a tile boundary. -/
def State.tileWork (s : State) : State := s.tileTurn.landingTurn.park

/-- The feeds of a tile boundary. -/
def State.feedAll (s : State) : State := (s.jobs.map (fun j => j.uid)).foldl (fun a n => a.pumpFeed n true) s

theorem execTileBoundary_eq (ofs : Nat) (s : State) : execTileBoundary ofs s = if s.holdingUp then finish s s else
    finish s (if (s.tileStart ofs).tileWork.feedAll.yeljo.frozen then (s.tileStart ofs).tileWork else
      (s.tileStart ofs).tileWork.feedAll.goOnAt true) := by
  unfold execTileBoundary State.feedAll State.tileWork State.tileTurn State.substsFree State.tileStart
  dsimp only

theorem exec_tileBoundary {s : State} (h : s.holdingUp = false) (ofs : Nat) :
    exec (.tileBoundary ofs) s = .next (finishState s (if (s.tileStart ofs).tileWork.feedAll.yeljo.frozen then (s.tileStart ofs).tileWork else
      (s.tileStart ofs).tileWork.feedAll.goOnAt true)) := by
  show execTileBoundary ofs s = _
  rw [execTileBoundary_eq, if_neg (by simp [h]), finish]

theorem reshape_patina (s : State) (j : Job) : (s.reshape j).patina = s.patina := by
  unfold State.reshape
  split
  · rfl
  · dsimp only
    split
    · rfl
    · split
      · split <;> rfl
      · split
        · rfl
        · split <;> rfl

theorem reshapes_patina (l : List Job) (s : State) : (l.foldl (fun a j => a.reshape j) s).patina = s.patina := by
  induction l generalizing s with
  | nil => rfl
  | cons j l ih => exact (ih _).trans (reshape_patina s j)

theorem closeFill_patina (s : State) (short : Bool) : (s.closeFill short).patina = s.patina := by
  have hset (a : Bool) (h : Half) : (s.setHalf a h).patina = s.patina := by cases a <;> rfl
  unfold State.closeFill
  extract_lets h s1
  split
  · rfl
  · split
    · exact hset _ _
    · split
      · exact hset _ _
      · exact hset _ _

theorem preempt_patina (s : State) : s.preempt.patina = s.patina := by
  unfold State.preempt
  dsimp only
  split
  · split
    · exact closeFill_patina _ _
    · rfl
  · rfl

/-- Parked contexts change no job, no substitution and no turn at the landing buffers. -/
theorem park_keeps (s : State) : s.park.jobs = s.jobs ∧ s.park.patina = s.patina ∧ s.park.yielded = s.yielded := by
  unfold State.park
  generalize ((s.jobs.map (·.ctx)).dedup.filter _) = l
  induction l generalizing s with
  | nil => exact ⟨rfl, rfl, rfl⟩
  | cons c l ih =>
    rw [List.foldl_cons]
    refine (fun (h : _ ∧ _ ∧ _) => ⟨(ih _).1.trans h.1, (ih _).2.1.trans h.2.1, (ih _).2.2.trans h.2.2⟩) ?_
    dsimp only
    split
    · unfold State.saveLattice
      split
      · rw [beatsOnly_fabWrite]
        exact ⟨rfl, rfl, rfl⟩
      · exact ⟨rfl, rfl, rfl⟩
    · exact ⟨rfl, rfl, rfl⟩

theorem tileTurn_substs (s : State) : ∀ x ∈ s.tileTurn.patina.substs, x.tile = true := by
  intro x hx
  rw [State.tileTurn, preempt_patina, reshapes_patina] at hx
  obtain ⟨y, -, rfl⟩ := List.mem_map.mp hx
  rfl

/-! ### Patrol -/

theorem patrolStep_units (s : State) : s.patrolStep.patina.units = s.patina.units ∧ s.patrolStep.build = s.build := by
  unfold State.patrolStep
  split
  · exact ⟨rfl, rfl⟩
  · dsimp only
    split
    · exact ⟨rfl, rfl⟩
    · split <;> exact ⟨rfl, rfl⟩

theorem unit_of_units {s t : State} (hunits : t.patina.units = s.patina.units) (hbuild : t.build = s.build) (c p : Nat) : t.unit c p = s.unit c p := by
  rw [State.unit, hunits, hbuild, State.unit]

/-- A unit that fails has worn once more. -/
theorem failUnit_wear (s : State) (c p : Nat) : ((s.failUnit c p).unit c p).wear = min ((s.unit c p).wear + 1) (wearMax c) := by
  have hnames := unit_names s c p
  have hput (a : State) (u : PUnit) (hc : u.cls = c) (hp : u.phys = p) : (a.putUnit u).unit c p = u := by
    rw [← hc, ← hp]
    exact unit_putUnit_same a u
  unfold State.failUnit
  extract_lets u s1
  have h1 : s1.unit c p = { u with failed := true, wear := min (u.wear + 1) (wearMax c) } := hput s _ hnames.1 hnames.2
  split
  · rw [h1]
  · next k _ =>
    split
    · extract_lets s2
      have hlog : ((s2.logFirmware 2).up .patStatSubstBusy).patina = s2.patina ∧ ((s2.logFirmware 2).up .patStatSubstBusy).build = s2.build := by
        rw [State.up, State.set, State.setI, (logFirmware_only s2 2).1]
        exact ⟨rfl, rfl⟩
      generalize (s2.logFirmware 2).up .patStatSubstBusy = a at hlog
      have hpower : (a.logPower 3 c k 0).patina = s2.patina ∧ (a.logPower 3 c k 0).build = s2.build := by
        rw [(logPower_only a 3 c k 0).1]
        exact hlog
      have hall (n : Nat) : ((a.logPower 3 c k 0).addLost n).unit c p = s1.unit c p :=
        unit_congr (s := s2) ((addLost_keeps _ _).1.trans hpower.1) ((addLost_keeps _ _).2.trans hpower.2) c p
      rw [hall, h1]
    · exact congrArg PUnit.wear
        (hput s1 { u with failed := true, wear := min (u.wear + 1) (wearMax c), logical := none } hnames.1 hnames.2)

theorem unit_finishState {s t : State} (h : t.build = s.build) (c p : Nat) : (finishState s t).unit c p = t.unit c p := by
  rw [State.unit, finishState_patina, finishState_build, ← h, State.unit]

section
variable {s : State} (hen : s.flag .patCtrlPatrolEn = true) (hawake : s.awake = true) (hslot : s.now % max 1 (s.get .patPatrolPeriod) = 0)
include hen hawake hslot

theorem exec_patrolSlot_held (hheld : s.fwDown = true ∨ holdsBlock s (patrolUnit s).1 (patrolUnit s).2 = true) (a b : Bool) (n : Nat) :
    exec (.patrolSlot a b n) s = .next (finishState s s) := by
  show execPatrolSlot a b n s = _
  unfold execPatrolSlot
  rw [if_neg (by simp [hen, hawake, hslot]), if_pos (by simpa using hheld), finish]

theorem exec_patrolSlot_free (hfw : s.fwDown = false) (hfree : holdsBlock s (patrolUnit s).1 (patrolUnit s).2 = false)
    (hcls : (patrolUnit s).1 ≠ 6) (a b : Bool) (n : Nat) :
    exec (.patrolSlot a b n) s = .next (finishState s (if (s.unit (patrolUnit s).1 (patrolUnit s).2).failed ∨ a ∨ b then s.patrolStep
      else s.patrolStep.failUnit (patrolUnit s).1 (patrolUnit s).2)) := by
  show execPatrolSlot a b n s = _
  unfold execPatrolSlot
  rw [if_neg (by simp [hen, hawake, hslot]), if_neg (by simp [hfw, hfree])]
  dsimp only
  by_cases hfailed : (s.unit (patrolUnit s).1 (patrolUnit s).2).failed = true
  · rw [if_pos hfailed, if_pos (.inl hfailed), finish]
  · rw [if_neg hfailed, if_neg hcls, finish]
    simp [hfailed]

end

/-! ### Substitution -/

/-- The spare serves in the unit's place. -/
def State.substituted (s : State) (cls phys : Nat) (x : Subst) : State :=
  let s1 := (s.putUnit { s.unit cls phys with logical := none }).putUnit { s.unit cls x.spare with logical := some x.logical }
  { s1 with patina := { s1.patina with substs := s1.patina.substs.filter (fun y => !(y.cls == cls && y.phys == phys)) } }

/-- What shows it. -/
def State.substShown (s : State) (cls logical : Nat) : State :=
  let s3 := ((s.up .patStatSubst).bump .patSubstsCount 1).set .patStatSubstBusy (b2n (!s.patina.substs.isEmpty))
  let s4 := ((s3.set .patLastClass cls).set .patLastLogical logical).logPower 4 cls logical 0
  if sparesLeft s4 cls ≤ s4.get .patWarnSpareMin then s4.raiseWarn 1 else s4

theorem exec_substitutionDone {s : State} {cls phys : Nat} {x : Subst} (hx : s.patina.substs.find? (fun x => x.cls == cls && x.phys == phys) = some x)
    (htile : x.tile = true) (hfw : s.fwDown = false) (hup : s.holdingUp = false) (ofs : Nat) :
    exec (.substitutionDone cls phys ofs) s = .next (finishState s (((s.accrue ofs).substituted cls phys x).substShown cls x.logical)) := by
  show execSubstitutionDone cls phys ofs s = _
  unfold execSubstitutionDone
  rw [hx]
  dsimp only
  rw [if_neg (by simp [htile, hfw, hup])]
  rfl

theorem unit_putUnit_at (s : State) {u : PUnit} {c p : Nat} (hc : u.cls = c) (hp : u.phys = p) : (s.putUnit u).unit c p = u := by
  rw [← hc, ← hp]
  exact unit_putUnit_same s u

theorem substituted_shows (s : State) {cls phys : Nat} {x : Subst} (hne : phys ≠ x.spare) :
    let t := s.substituted cls phys x
    (t.unit cls phys).logical = none ∧ (t.unit cls x.spare).logical = some x.logical ∧
      (∀ y ∈ t.patina.substs, ¬ (y.cls = cls ∧ y.phys = phys)) ∧ t = { s with patina := t.patina } := by
  intro t
  obtain ⟨hcls, hphys⟩ := unit_names s cls phys
  obtain ⟨hcls', hspare⟩ := unit_names s cls x.spare
  have hunit (c p : Nat) : t.unit c p = ((s.putUnit { s.unit cls phys with logical := none }).putUnit
      { s.unit cls x.spare with logical := some x.logical }).unit c p := rfl
  refine ⟨?_, ?_, fun y hy => ?_, rfl⟩
  · rw [hunit, unit_putUnit_other _ { s.unit cls x.spare with logical := some x.logical } (fun h => hne (h.2.symm.trans hspare)),
      unit_putUnit_at s (u := { s.unit cls phys with logical := none }) hcls hphys]
  · rw [hunit, unit_putUnit_at _ (u := { s.unit cls x.spare with logical := some x.logical }) hcls' hspare]
  · have hkept := (List.mem_filter.mp hy).2
    rintro ⟨hc, hp⟩
    simp [hc, hp] at hkept

theorem substShown_shows (s : State) (cls logical : Nat) :
    let t := s.substShown cls logical
    t.patina = s.patina ∧ t.build = s.build ∧ t.jobs = s.jobs ∧ t.flag .patStatSubst = true ∧
      t.get .patSubstsCount = satAdd 32 (s.get .patSubstsCount) 1 ∧ t.get .patLastClass = cls % 8 := by
  intro t
  let s3 := ((s.up .patStatSubst).bump .patSubstsCount 1).set .patStatSubstBusy (b2n (!s.patina.substs.isEmpty))
  let s5 := (s3.set .patLastClass cls).set .patLastLogical logical
  let s4 := s5.logPower 4 cls logical 0
  obtain ⟨hlog, hlogRegs⟩ := logPower_only s5 4 cls logical 0
  have hkeep : KeepsRegs (logFlds ++ [.fjCkptWarnsCount, .fjCkptStatWarnPending, .patLastWarnCause, .patStatWarned]) s5 t ∧ KeepsAll s4 t := by
    show KeepsRegs _ s5 (if sparesLeft s4 cls ≤ s4.get .patWarnSpareMin then s4.raiseWarn 1 else s4) ∧ KeepsAll s4 (if _ then s4.raiseWarn 1 else s4)
    split
    · exact ⟨keepsRegs_trans (keepsRegs_mono (by simp) hlogRegs) (keepsRegs_mono (by simp) (keepsRegs_raiseWarn s4 1)), keepsAll_raiseWarn s4 1⟩
    · exact ⟨keepsRegs_mono (by simp) hlogRegs, rfl⟩
  obtain ⟨hregs, hall⟩ := hkeep
  have hpatina : s4.patina = s.patina ∧ s4.build = s.build ∧ s4.jobs = s.jobs := by
    show (s5.logPower 4 cls logical 0).patina = _ ∧ (s5.logPower 4 cls logical 0).build = _ ∧ (s5.logPower 4 cls logical 0).jobs = _
    rw [hlog]
    exact ⟨rfl, rfl, rfl⟩
  refine ⟨?_, ?_, ?_, ?_, ?_, ?_⟩
  · rw [hall]
    exact hpatina.1
  · rw [hall]
    exact hpatina.2.1
  · rw [hall]
    exact hpatina.2.2
  · rw [flag_of_keepsRegs hregs (by decide)]
    refine (flag_set_other _ _ (by decide)).trans ((flag_set_other _ _ (by decide)).trans ((flag_set_other _ _ (by decide)).trans ?_))
    rw [flag_bump_other _ 1 (by decide)]
    exact flag_up_same s _ (by decide)
  · rw [get_of_keepsRegs hregs (by decide)]
    refine (get_set_other _ _ (by decide)).trans ((get_set_other _ _ (by decide)).trans ((get_set_other _ _ (by decide)).trans ?_))
    rw [get_bump_same, get_up_other _ (by decide)]
    rfl
  · rw [get_of_keepsRegs hregs (by decide)]
    refine (get_set_other _ _ (by decide)).trans ?_
    exact (get_set _ _ _ _).trans (if_pos rfl)

/-! ### The ECC window -/

/-- The warnings of a window of ECC errors. -/
def State.eccWarned (s : State) : State :=
  let thr := s.get .patWarnEccThr
  let s1 := if s.patina.sramWin.any (fun x => x.2 ≥ thr) then s.raiseWarn 3 else s
  if s.get .patEccWinCount ≥ thr then s1.raiseWarn 4 else s1

theorem exec_eccWindowEnd {s : State} (h : s.now % 2 ^ (10 + s.get .patWarnWinLog2) = 0) :
    exec .eccWindowEnd s =
      .next (finishState s (({ s.eccWarned with patina := { s.eccWarned.patina with sramWin := [] } } : State).set .patEccWinCount 0)) := by
  show execEccWindowEnd s = _
  unfold execEccWindowEnd
  rw [if_neg (by simp [h])]
  rfl

theorem eccWarned_only (s : State) :
    KeepsAll s s.eccWarned ∧ KeepsRegs [.fjCkptWarnsCount, .fjCkptStatWarnPending, .patLastWarnCause, .patStatWarned] s s.eccWarned := by
  unfold State.eccWarned
  extract_lets thr s1
  have h1 : KeepsAll s s1 ∧ KeepsRegs [.fjCkptWarnsCount, .fjCkptStatWarnPending, .patLastWarnCause, .patStatWarned] s s1 := by
    unfold s1
    split
    · exact ⟨keepsAll_raiseWarn s 3, keepsRegs_raiseWarn s 3⟩
    · exact ⟨rfl, keepsRegs_refl _ _⟩
  split
  · refine ⟨?_, keepsRegs_trans h1.2 (keepsRegs_raiseWarn s1 4)⟩
    rw [KeepsAll, keepsAll_raiseWarn, h1.1]
  · exact h1

theorem eccWarned_quiet {s : State} (hcount : s.get .patEccWinCount < s.get .patWarnEccThr)
    (hwin : ∀ x ∈ s.patina.sramWin, x.2 < s.get .patWarnEccThr) : s.eccWarned = s := by
  have hnone : ¬ (s.patina.sramWin.any (fun x => x.2 ≥ s.get .patWarnEccThr) = true) := by
    simpa using hwin
  unfold State.eccWarned
  dsimp only
  rw [if_neg hnone, if_neg (by omega)]

theorem eccWarned_shows {s : State} (hcount : s.get .patWarnEccThr ≤ s.get .patEccWinCount) :
    s.eccWarned.flag .patStatWarned = true ∧ s.eccWarned.get .patLastWarnCause = 4 ∧ Out.sideband (sbPacket s 3 0 4) ∈ s.eccWarned.out := by
  unfold State.eccWarned
  extract_lets thr s1
  have hpos : s1.get .fjPosInst = s.get .fjPosInst := by
    unfold s1
    split
    · exact get_of_keepsRegs (keepsRegs_raiseWarn s 3) (by decide)
    · rfl
  obtain ⟨hcause, hout⟩ := raiseWarn_shows s1 (cause := 4) (by decide)
  rw [if_pos hcount, ← sbPacket_congr hpos]
  exact ⟨flag_up_same (s1.warned 4) .patStatWarned (by decide), hcause, hout⟩

end Sys2Proof.Machine

namespace Sys2Proof.Proofs

open Sys2Proof.Machine Sys2Proof.Safety

/-- Settles O45: `State.tileWork`, `State.reshape` by lanes, the patrol's unit, `State.substituted`, and the window's warnings. -/
theorem tilesAndPatina : Obligations.TilesAndPatina := by
  unfold Obligations.TilesAndPatina
  refine ⟨⟨fun s ofs hup => ?_, fun s ofs hup => ?_, fun s j l hj hlat hstop => ⟨fun hsome hsame => ?_, fun hsome hdiff hclosed => ?_,
    fun hsome hdiff hopen => ?_, fun hnone hdone => ?_, fun hnone hneeds => ?_⟩⟩,
    fun s a b n hen hawake hslot => ⟨fun hfw => ?_, fun hheld => ?_, fun hfw hfree hgood hcls ha hb => ?_, fun hfw hcls hpass => ?_⟩,
    fun s cls phys ofs x hx htile hfw hup hne => ?_, fun s hend => ?_⟩
  · refine ⟨finishState s s, ?_, keepsAll_finishState rfl, keepsRegs_finishState (by decide) rfl (keepsRegs_refl _ _)⟩
    show execTileBoundary ofs s = _
    exact if_pos hup
  · have hexec := exec_tileBoundary hup ofs
    generalize s.tileStart ofs = a at hexec
    obtain ⟨hjobs, hpatina, hyielded⟩ := park_keeps a.tileTurn.landingTurn
    refine ⟨a.tileTurn, a.tileWork, a.tileWork.feedAll, hexec, rfl, congrArg _ hjobs.symm, ?_, hyielded⟩
    rw [State.tileWork, hpatina]
    exact tileTurn_substs a
  · rw [reshape_lanes hlat hstop hsome, if_pos hsame]
  · rw [reshape_lanes hlat hstop hsome, if_neg hdiff, if_neg (by simp [hclosed])]
    refine ⟨?_, rfl⟩
    rw [findJob_modJob_same s j.uid (f := fun j => j.withLanes (s.get .latStatLanes)) (fun _ => rfl), hj, Option.map_some, withLanes_eq hlat]
  · rw [reshape_lanes hlat hstop hsome, if_neg hdiff, if_pos hopen]
    have hjobs : ((s.up .latStatReshaped).bump .latReshapedJobsCount 1).findJob j.uid = some j := hj
    refine ⟨?_, ?_, _, by rw [findJob_failJob, hjobs, Option.map_some], stopAs_of_none hstop _ _⟩
    · refine (flag_bump_other (s.up .latStatReshaped) (f := .latStatReshaped) (g := .latReshapedJobsCount) 1 (by decide)).trans ?_
      exact flag_up_same s _ (by decide)
    · refine (get_bump_same (s.up .latStatReshaped) .latReshapedJobsCount 1).trans ?_
      rw [get_up_other _ (by decide)]
      rfl
  · rw [reshape_gone hlat hstop hnone, if_neg (by simp [hdone])]
  · rw [reshape_gone hlat hstop hnone, if_pos hneeds]
    refine ⟨{ j.failed stLatticeReshaped 0 (some j.nextBlk) with latGone := true }, ?_, stopAs_of_none hstop _ _⟩
    rw [findJob_modJob_same _ j.uid (f := fun x => { x with latGone := true }) (fun _ => rfl), findJob_failJob, hj]
    rfl
  · refine ⟨_, exec_patrolSlot_held hen hawake hslot (.inl hfw) a b n, ?_, finishState_patina _ _,
      keepsRegs_finishState (by decide) rfl (keepsRegs_refl _ _)⟩
    show b2n (finishState s s).fwDown = 1
    rw [finishState_fwDown, hfw]
    rfl
  · exact ⟨_, exec_patrolSlot_held hen hawake hslot (.inr hheld) a b n, finishState_patina _ _,
      keepsRegs_finishState (by decide) rfl (keepsRegs_refl _ _)⟩
  · obtain ⟨hunits, hbuild⟩ := patrolStep_units s
    have hsame := unit_of_units hunits hbuild (patrolUnit s).1 (patrolUnit s).2
    refine ⟨_, exec_patrolSlot_free hen hawake hslot hfw hfree hcls a b n, ?_⟩
    rw [if_neg (by simp [hgood, ha, hb])]
    have hfailed := failUnit_fails s.patrolStep (patrolUnit s).1 (patrolUnit s).2
    have hwear := failUnit_wear s.patrolStep (patrolUnit s).1 (patrolUnit s).2
    rw [hsame] at hwear
    have hb := (keepsLock_failUnit s.patrolStep (patrolUnit s).1 (patrolUnit s).2).build.trans hbuild
    generalize s.patrolStep.failUnit (patrolUnit s).1 (patrolUnit s).2 = t at hfailed hwear hb
    rw [unit_finishState hb]
    exact ⟨hfailed, hwear⟩
  · obtain ⟨hunits, -⟩ := patrolStep_units s
    by_cases hheld : holdsBlock s (patrolUnit s).1 (patrolUnit s).2 = true
    · exact ⟨_, exec_patrolSlot_held hen hawake hslot (.inr hheld) a b n, by rw [finishState_patina]⟩
    · refine ⟨_, exec_patrolSlot_free hen hawake hslot hfw (by simpa using hheld) hcls a b n, ?_⟩
      rw [if_pos (.inr hpass), finishState_patina, hunits]
  · refine ⟨_, exec_substitutionDone hx htile hfw hup ofs, ?_⟩
    obtain ⟨haccrue, haccrueRegs⟩ := accrue_only s ofs
    obtain ⟨hgone, hserves, hsubsts, honly⟩ := substituted_shows (s.accrue ofs) (cls := cls) (phys := phys) (x := x) hne
    generalize (s.accrue ofs).substituted cls phys x = a at hgone hserves hsubsts honly
    obtain ⟨hpatina, hbuild, hjobs, hflag, hcount, hlast⟩ := substShown_shows a cls x.logical
    generalize a.substShown cls x.logical = b at hpatina hbuild hjobs hflag hcount hlast
    have hb : b.build = s.build := by rw [hbuild, honly, haccrue]
    have hfin (c p : Nat) : (finishState s b).unit c p = a.unit c p := (unit_finishState hb c p).trans (unit_congr hpatina hbuild c p)
    have hsame : a.get .patSubstsCount = s.get .patSubstsCount := by
      rw [honly]
      exact get_of_keepsRegs haccrueRegs (by decide)
    rw [hfin, hfin, flag_finishState hb (by decide), get_finishState hb (by decide), get_finishState hb (by decide), finishState_patina, hpatina,
      finishState_jobs, hjobs, hcount, hsame]
    exact ⟨hgone, hserves, hflag, rfl, hsubsts, hlast, by rw [honly, haccrue]⟩
  · obtain ⟨hall, hregs⟩ := eccWarned_only s
    refine ⟨_, exec_eccWindowEnd hend, ?_⟩
    generalize ha : ({ s.eccWarned with patina := { s.eccWarned.patina with sramWin := [] } } : State) = a
    have hb : (a.set .patEccWinCount 0).build = s.build := by
      rw [← ha, hall]
      rfl
    refine ⟨?_, ?_, fun hcount hwin => ?_, fun hcount => ?_⟩
    · refine (get_finishState hb (by decide)).trans ?_
      rw [get_set, if_pos rfl]
      rfl
    · rw [finishState_patina, ← ha, hall]
      rfl
    · refine keepsRegs_finishState (by decide) hb (keepsRegs_trans (t := a) ?_ (keepsRegs_set (by decide) a 0))
      rw [← ha, eccWarned_quiet hcount hwin]
      exact keepsRegs_of_regs rfl rfl
    · obtain ⟨hflag, hcause, hout⟩ := eccWarned_shows hcount
      refine ⟨?_, ?_, _, mem_out_finishState ?_, rfl⟩
      · rw [flag_finishState hb (by decide), flag_set_other _ _ (by decide), ← ha]
        exact hflag
      · refine (get_finishState hb (by decide)).trans ?_
        rw [get_set_other _ _ (by decide), ← ha]
        exact hcause
      · rw [← ha]
        exact hout

end Sys2Proof.Proofs
end

section
/-! Frames sent; acknowledgements, answers and NAKs (12 R328, R346; 15 R415, R416). -/
namespace Sys2Proof.Machine

open Safety

/-! ### Lengths -/

theorem length_natLe (n v : Nat) : (natLe n v).length = n := by
  induction n generalizing v with
  | zero => rfl
  | succ n ih => rw [natLe, List.length_cons, ih]

theorem length_natBe (n v : Nat) : (natBe n v).length = n := by rw [natBe, List.length_reverse, length_natLe]

theorem length_of_mem_chunks {α : Type} (n : Nat) (l : List α) : ∀ c ∈ chunks n l, c.length ≤ n := by
  unfold chunks
  generalize l.length = k
  induction k generalizing l with
  | zero => exact fun c hc => absurd hc List.not_mem_nil
  | succ k ih =>
    intro c hc
    rw [chunksFuel] at hc
    split at hc
    · exact absurd hc List.not_mem_nil
    · rcases List.mem_cons.mp hc with rfl | hc
      · exact List.length_take_le _ _
      · exact ih _ c hc

theorem mtuOf_le (s : State) (q : Nat) : mtuOf s q ≤ 4096 := by
  have h : 2 ^ min 2 (s.getI .xptQpAttrMtu q) ≤ 2 ^ 2 := Nat.pow_le_pow_right (by decide) (Nat.min_le_left _ _)
  unfold mtuOf
  omega

theorem length_ipBytes (s : State) (f : Fld) (i : Nat) : (ipBytes s f i).length = 16 := by
  simp [ipBytes, List.range, List.range.loop, length_natLe]

theorem length_ipHeader {e : IpEnds} (hsrc : e.src.length = 16) (hdst : e.dst.length = 16) (n : Nat) (masked : Bool) :
    (ipHeader e n masked).length ≤ 40 := by
  unfold ipHeader
  dsimp only
  split
  · simp only [List.length_append, length_natBe, List.length_drop, hsrc, hdst]
    omega
  · simp only [List.length_append, length_natBe, hsrc, hdst]
    omega

/-- A packet that a frame can carry: what follows the base header, and its bytes. -/
def SmallPacket (p : Packet) : Prop := p.ext.length ≤ 16 ∧ p.payload.length ≤ 4096

/-- A packet's frame is 60 B to 4,222 B long. -/
theorem length_packetFrame (s : State) (q : Nat) {p : Packet} (h : SmallPacket p) :
    60 ≤ (packetFrame s q p).length ∧ (packetFrame s q p).length ≤ 4222 := by
  obtain ⟨hext, hpayload⟩ := h
  have hip (n : Nat) (masked : Bool) : (ipHeader (ipEnds s q (!p.payload.isEmpty && p.op != opCnp)) n masked).length ≤ 40 :=
    length_ipHeader (length_ipBytes _ _ _) (length_ipBytes _ _ _) n masked
  have hudp (n : Nat) (masked : Bool) : (udpHeader n masked).length = 8 := by
    simp only [udpHeader, List.length_append, length_natBe]
  have hbase (note : Nat) : (baseHeader s q p note).length = 12 := by
    simp only [baseHeader, List.length_append, length_natBe]
  have hpad : (4 - p.payload.length % 4) % 4 ≤ 3 := by omega
  unfold packetFrame
  simp only [List.length_append, length_natLe, length_natBe, zeros, List.length_replicate, hudp, hbase]
  have := hip (8 + (12 + (p.ext.length + p.payload.length + (4 - p.payload.length % 4) % 4) + 4)) false
  omega

theorem smallPackets_message (s : State) (q psn : Nat) (ops : OpSet) (asks : Bool) {ext : Bool → Bool → Bytes} (hext : ∀ a b, (ext a b).length ≤ 16)
    (data : Bytes) : ∀ p ∈ messagePackets s q psn ops asks ext data, SmallPacket p := by
  intro p hp
  unfold messagePackets at hp
  dsimp only at hp
  obtain ⟨⟨d, i⟩, hd, rfl⟩ := List.mem_map.mp hp
  refine ⟨hext _ _, ?_⟩
  have hmem := (List.mem_zipIdx' hd).2
  have hpart : d ∈ (match chunks (mtuOf s q) data with | [] => [[]] | l => l) := hmem ▸ List.getElem_mem _
  split at hpart
  · rw [List.mem_singleton.mp hpart]
    exact Nat.zero_le _
  · exact (length_of_mem_chunks _ _ d hpart).trans (mtuOf_le s q)

theorem length_reth (addr key len : Nat) : (reth addr key len).length = 16 := by
  simp only [reth, List.length_append, length_natBe]

theorem length_aeth (syndrome : Nat) : (aeth syndrome).length = 4 := by
  simp only [aeth, List.length_append, length_natBe]

/-- Every packet of what the engine sends is small. -/
theorem smallPackets (s : State) {o : Out} {q : Nat} {ps : List Packet} (h : packetsOf s o = some (q, ps)) : ∀ p ∈ ps, SmallPacket p := by
  have hsend (q psn : Nat) (data : Bytes) : ∀ p ∈ messagePackets s q psn sendOps true (fun _ _ => []) data, SmallPacket p :=
    smallPackets_message s q psn sendOps true (fun _ _ => Nat.zero_le _) data
  have hack (op psn syndrome : Nat) : ∀ p ∈ [(⟨op, psn, false, aeth syndrome, []⟩ : Packet)], SmallPacket p := by
    intro p hp
    rw [List.mem_singleton.mp hp]
    exact ⟨by rw [length_aeth]; omega, Nat.zero_le _⟩
  unfold packetsOf at h
  dsimp only at h
  split at h
  · cases h
    exact smallPackets_message s _ _ _ _ (fun a _ => by cases a <;> simp [length_reth]) _
  · cases h
    intro p hp
    rw [List.mem_singleton.mp hp]
    exact ⟨by rw [length_reth], Nat.zero_le _⟩
  · cases h
    exact smallPackets_message s _ _ _ _ (fun a b => by cases a <;> cases b <;> simp [length_aeth]) _
  · cases h
    exact hsend _ _ _
  · cases h
    exact hack _ _ _
  · cases h
    exact hack _ _ _
  · cases h
    intro p hp
    rw [List.mem_singleton.mp hp]
    exact ⟨Nat.zero_le _, by simp [zeros]⟩
  · split at h
    · cases h
    · cases h
      exact hsend _ _ _
  · split at h
    · cases h
    · cases h
      exact hsend _ _ _
  · cases h

theorem framesOf_length (s : State) (o : Out) {l : Nat} {b : Bytes} (h : Out.frame l b ∈ framesOf s o) : 60 ≤ b.length ∧ b.length ≤ 4222 := by
  unfold framesOf at h
  split at h
  · next q ps hps =>
    obtain ⟨p, hp, heq⟩ := List.mem_map.mp h
    cases heq
    exact length_packetFrame s q (smallPackets s hps p hp)
  · exact absurd h List.not_mem_nil

theorem transmit_sends (s : State) (o f : Out) (h : f ∈ (s.transmit o).out) :
    f ∈ s.out ∨ f = o ∨ (f ∈ framesOf s o ∧ ∀ l b, f = Out.frame l b → bitOf s.pins.linkUp l = true) := by
  rcases List.mem_append.mp h with h | h
  · exact .inl h
  · rcases List.mem_cons.mp h with h | h
    · exact .inr (.inl h)
    · obtain ⟨hmem, hup⟩ := List.mem_filter.mp h
      refine .inr (.inr ⟨hmem, fun l b hf => ?_⟩)
      rw [hf] at hup
      exact hup

end Sys2Proof.Machine
end

section
/-! Acknowledgements, read responses and NAKs of the engine's own operations (12 R328, R346). -/
namespace Sys2Proof.Machine

open Safety

/-! ### What the end of an operation leaves -/

theorem opEnds_regs (s : State) (x : Xfer) (status : Nat) : KeepsRegs logFlds s (s.opEnds x status) := by
  unfold State.opEnds
  extract_lets k c u y s1
  have h1 : KeepsRegs logFlds s s1 := keepsRegs_of_regs rfl rfl
  split
  · exact keepsRegs_trans h1 (logRec_only _ _ _ _ _ _).2
  · exact h1

/-- Operations of no job that end, one after the other. -/
theorem sideEnds_shows (l : List Xfer) (hside : ∀ y ∈ l, y.use = .side) {s : State} (hreplay : s.replaying = false) :
    let t := l.foldl (fun a x => if waitsTurn a x then a else (a.opEnds x 0).ackUse x.job x.use) s
    t.xfers = l.foldl (fun a y => a.erase y) s.xfers ∧ t.qps = s.qps ∧ KeepsRegs logFlds s t := by
  induction l generalizing s with
  | nil => exact ⟨rfl, rfl, keepsRegs_refl _ _⟩
  | cons y l ih =>
    intro t
    have hone : (if waitsTurn s y then s else (s.opEnds y 0).ackUse y.job y.use) = s.opEnds y 0 := by
      rw [if_neg (by simp [waitsTurn, hreplay]), hside y List.mem_cons_self]
      rfl
    have hregs := opEnds_regs s y 0
    have honly := opEnds_only s y 0
    have ht : t = l.foldl (fun a x => if waitsTurn a x then a else (a.opEnds x 0).ackUse x.job x.use) (s.opEnds y 0) := by
      show List.foldl _ (if waitsTurn s y then s else (s.opEnds y 0).ackUse y.job y.use) l = _
      rw [hone]
    obtain ⟨hxfers, hqps, hkeep⟩ := ih (fun z hz => hside z (List.mem_cons_of_mem _ hz)) (s := s.opEnds y 0)
      ((flag_of_keepsRegs hregs (by decide)).trans hreplay)
    rw [ht]
    refine ⟨?_, ?_, keepsRegs_trans hregs hkeep⟩
    · rw [hxfers, honly]
      rfl
    · rw [hqps, honly]

theorem acked_none {s : State} {q psn : Nat} {x : Xfer} {l : List Xfer} (hm : messages s q = x :: l)
    (h : (upTo psn x && x.kind != .rdmaRead) = false) : s.acked q psn = s := by
  unfold State.acked
  rw [hm, List.takeWhile_cons_of_neg (by simp [h])]
  rfl

theorem acked_some {s : State} {q psn : Nat} (hreplay : s.replaying = false)
    (hne : (messages s q).takeWhile (fun x => upTo psn x && x.kind != .rdmaRead) ≠ [])
    (hside : ∀ y ∈ (messages s q).takeWhile (fun x => upTo psn x && x.kind != .rdmaRead), y.use = .side) :
    (s.acked q psn).xfers = ((messages s q).takeWhile (fun x => upTo psn x && x.kind != .rdmaRead)).foldl (fun a y => a.erase y) s.xfers ∧
      ((s.acked q psn).qp q).retries = 0 := by
  unfold State.acked
  extract_lets l y s1
  have hl : l.isEmpty = false := List.isEmpty_eq_false_iff.mpr hne
  have hs1 : s1 = s.putQp { s.qp q with retries := 0 } := by
    unfold s1
    rw [hl]
    rfl
  have hreplay1 : s1.replaying = false := by
    rw [hs1]
    exact hreplay
  obtain ⟨hxfers, hqps, -⟩ := sideEnds_shows l hside hreplay1
  refine ⟨hxfers.trans (by rw [hs1]; rfl), ?_⟩
  have hrow := qp_putQp_same s { s.qp q with retries := 0 }
  rw [show ({ s.qp q with retries := 0 } : Qp).qp = q from qp_qp s q] at hrow
  rw [qp_congr hqps, hs1, hrow]

/-! ### What a frame leaves of an entry's operations -/

theorem messages_congr {s t : State} (h : t.xfers = s.xfers) (q : Nat) : messages t q = messages s q := by
  rw [messages, h, messages]

theorem messages_via {s : State} {q : Nat} {x : Xfer} {l : List Xfer} (h : messages s q = x :: l) : x.via = q := by
  have hx : x ∈ messages s q := h ▸ List.mem_cons_self
  have hop := (List.mem_filter.mp hx).2
  simp only [Bool.and_eq_true, beq_iff_eq] at hop
  exact hop.2

theorem packets_congr {s t : State} {q : Nat} (h : t.getI .xptQpAttrMtu q = s.getI .xptQpAttrMtu q) (len : Nat) :
    packets t q len = packets s q len := by
  rw [packets, mtuOf, h, packets, mtuOf]

theorem wire_congr {s t : State} {x : Xfer} (hmtu : t.getI .xptQpAttrMtu x.via = s.getI .xptQpAttrMtu x.via)
    (hkey : t.getI .xptQpRkeyKey x.via = s.getI .xptQpRkeyKey x.via) : x.wire t = x.wire s := by
  unfold Xfer.wire
  rw [packets_congr hmtu, hkey]

/-- The engine hears the entry's frame, awake. -/
structure Heard (s t : State) (q : Nat) : Prop where
  wakes : WakeOnly s t
  ears : hears t (laneOf t q) = true
  rts : t.rts q = true
  awake : t.holdingUp = false

theorem heard_frameFor {s : State} {q : Nat} (hhears : hears s (laneOf s q) = true) (hrts : s.rts q = true) : Heard s (s.frameFor q) q := by
  have hwake := frameFor_only s q
  have hhold : (s.frameFor q).holdup = s.holdup := by rw [hwake.rest]
  have hlane : laneOf (s.frameFor q) q = laneOf s q := hwake.getI (by decide) q
  have heng : (s.frameFor q).eng = if s.eng = 3 then 2 else s.eng := by
    unfold State.frameFor
    rw [if_pos (by rw [hrts, Bool.and_true]; exact hhears)]
    exact (wake_only s).2.2
  unfold hears at hhears
  simp only [Bool.and_eq_true, Bool.or_eq_true, beq_iff_eq, Option.isNone_iff_eq_none] at hhears
  obtain ⟨⟨hstate, hnone⟩, hup⟩ := hhears
  have hcode : (s.frameFor q).eng = 1 ∨ (s.frameFor q).eng = 2 := by
    rw [heng]
    split <;> omega
  refine ⟨hwake, ?_, ?_, ?_⟩
  · unfold hears laneUp
    simp only [Bool.and_eq_true, Bool.or_eq_true, beq_iff_eq, Option.isNone_iff_eq_none]
    exact ⟨⟨.inl hcode, by rw [hhold, hnone]⟩, by rw [hlane, hwake.pins]; exact hup⟩
  · rw [State.rts, hwake.getI (by decide)]
    exact hrts
  · unfold State.holdingUp
    simp only [hhold, hnone, Option.isSome_none, Bool.false_or, beq_eq_false_iff_ne]
    omega

section
variable {s t : State} {q : Nat} (h : Heard s t q)
include h

theorem ackIn_heard (psn : Nat) : (t.ackIn q psn).xfers = (t.acked q psn).xfers ∧ (t.ackIn q psn).qps = (t.acked q psn).qps := by
  have hhold (a : State) (c : Instr) : (a.hold c).xfers = a.xfers ∧ (a.hold c).qps = a.qps := by
    unfold State.hold
    split <;> exact ⟨rfl, rfl⟩
  unfold State.ackIn
  rw [if_neg (by simp [h.ears]), if_neg (by simp [h.rts])]
  dsimp only
  split
  · exact ⟨rfl, rfl⟩
  · exact hhold _ _

theorem nakIn_heard {x : Xfer} {l : List Xfer} (hm : messages t q = x :: l) {psn : Nat} (hlate : upTo ((psn + 2 ^ 24 - 1) % 2 ^ 24) x = false)
    (kind : Nat) : t.nakIn q psn kind =
      if kind = 0 ∨ kind = 3 then (t.bump .xptNakRxCount 1).retry q psn stXptRetryExceeded
      else if kind = 2 then (t.bump .xptNakRxCount 1).qpError q stXptNakAccess else (t.bump .xptNakRxCount 1).qpError q stXptNakOp := by
  have hacked : (t.bump .xptNakRxCount 1).acked q ((psn + 2 ^ 24 - 1) % 2 ^ 24) = t.bump .xptNakRxCount 1 := acked_none hm (by rw [hlate]; rfl)
  have hmessages : messages (t.bump .xptNakRxCount 1) q = x :: l := hm
  unfold State.nakIn
  rw [if_neg (by simp [h.ears]), if_neg (by simp [h.rts])]
  extract_lets s1 s2
  have hs2 : s2 = t.bump .xptNakRxCount 1 := hacked
  rw [hs2, hmessages, if_neg (by simp)]

/-- A READ that is answered lands in its job's input. -/
theorem readAnswer_heard {x : Xfer} {l : List Xfer} (hreplay : t.replaying = false) (hm : messages t q = x :: l) (hkind : x.kind = .rdmaRead)
    {psn : Nat} (hin : (psn + 2 ^ 24 - firstPsn t x) % 2 ^ 24 < packets t q x.len) (data : Bytes) :
    t.readAnswer q psn data =
      ((((t.putQp { t.qp q with retries := 0 }).rxBytes x.len).opEnds x 0).landed x (sliceZ data 0 x.len)) := by
  have hacked (n : Nat) : t.acked q n = t := acked_none hm (by simp [hkind])
  unfold State.readAnswer
  rw [if_neg (by simp [h.ears]), if_neg (by simp [h.rts]), hm, List.find?_cons_of_pos]
  · show (if waitsTurn (t.acked q _) x = true then _ else _) = _
    rw [hacked, if_neg (by simp [waitsTurn, hreplay])]
  · rw [hkind, Bool.and_eq_true]
    exact ⟨rfl, decide_eq_true hin⟩

end

theorem out_transmits {α : Type} (l : List α) (o : α → Out) (s : State) : ∀ f ∈ s.out, f ∈ (l.foldl (fun a x => a.transmit (o x)) s).out := by
  induction l generalizing s with
  | nil => exact fun _ hf => hf
  | cons x l ih => exact fun f hf => ih _ f (List.mem_append_left _ hf)

theorem mem_transmits {α : Type} (l : List α) (o : α → Out) (s : State) : ∀ y ∈ l, o y ∈ (l.foldl (fun a x => a.transmit (o x)) s).out := by
  induction l generalizing s with
  | nil => exact fun y hy => absurd hy List.not_mem_nil
  | cons x l ih =>
    intro y hy
    rcases List.mem_cons.mp hy with rfl | hy
    · exact out_transmits l o _ _ (mem_transmit s (o y))
    · exact ih _ y hy

theorem resend_sends (s : State) (q psn : Nat) :
    ∀ y ∈ messages s q, upTo ((psn + 2 ^ 24 - 1) % 2 ^ 24) y = false → y.wire s ∈ (s.resend q psn).out := fun y hy hlate =>
  mem_transmits ((messages s q).filter (fun x => !(upTo ((psn + 2 ^ 24 - 1) % 2 ^ 24) x))) (fun x => x.wire s) s y
    (List.mem_filter.mpr ⟨hy, by rw [hlate]; rfl⟩)

/-- A NAK that leaves a retry: everything after it goes again. -/
theorem retry_resends {s : State} {q psn : Nat} (hleft : (s.qp q).retries < s.getI .xptQpAttrRetry q) (st : Nat) :
    ((s.retry q psn st).qp q).retries = (s.qp q).retries + 1 ∧ (s.retry q psn st).xfers = s.xfers ∧
      (s.retry q psn st).get .xptNakRxCount = s.get .xptNakRxCount ∧
      ∀ y ∈ messages s q, upTo ((psn + 2 ^ 24 - 1) % 2 ^ 24) y = false → y.wire s ∈ (s.retry q psn st).out := by
  obtain ⟨honly, hretries⟩ := retry_shows s psn st hleft
  refine ⟨hretries, ?_, get_of_keepsRegs honly.2 (by decide), fun y hy hlate => ?_⟩
  · rw [honly.1]
    rfl
  · have heq : s.retry q psn st = (s.putQp { s.qp q with retries := (s.qp q).retries + 1 }).resend q psn := if_neg (by simpa using hleft)
    rw [heq]
    exact resend_sends (s.putQp { s.qp q with retries := (s.qp q).retries + 1 }) q psn y hy hlate

end Sys2Proof.Machine

namespace Sys2Proof.Proofs

open Sys2Proof.Machine Sys2Proof.Safety

/-- Settles O48: the lengths of packets, and what the entry's first operation meets. -/
theorem operationsEnd : Obligations.OperationsEnd := by
  unfold Obligations.OperationsEnd
  refine ⟨fun s o => ⟨fun l b h => framesOf_length s o h, transmit_sends s o⟩, ?_⟩
  intro s qp psn kind data x l q before hhears hrts hreplay hm
  have hheard := heard_frameFor hhears hrts
  have hwake := hheard.wakes
  have hm' : messages (s.frameFor q) q = x :: l := by rw [messages_congr hwake.xfers, hm]
  have hreplay' : (s.frameFor q).replaying = false := (flag_of_keepsRegs hwake.regs (by decide)).trans hreplay
  have hpackets (n : Nat) : packets (s.frameFor q) q n = packets s q n := packets_congr (hwake.getI (by decide) q) n
  have hacks : exec (.rcAck qp psn) s = .next (finishState s ((s.frameFor q).ackIn q psn).goOn) := rfl
  obtain ⟨hackXfers, hackQps⟩ := ackIn_heard hheard psn
  refine ⟨fun hne hside => ⟨_, hacks, ?_⟩, fun hlate => ⟨_, hacks, ?_⟩, fun k off j hkind hin huse hj hk hcut hoff hearly => ?_,
    fun hlate => ⟨fun hkind hleft => ?_, fun st hst => ?_⟩⟩
  · rw [← hm'] at hne hside ⊢
    obtain ⟨hxfers, hretries⟩ := acked_some hreplay' hne hside
    rw [hackXfers, qp_congr hackQps, hxfers, hwake.xfers]
    exact ⟨rfl, hretries⟩
  · rw [hackXfers, hackQps, acked_none hm' (by rw [hlate]; rfl), hwake.xfers, hwake.qps]
    exact ⟨rfl, rfl⟩
  · have hvia : x.via = q := messages_via hm
    have hin' : (psn + 2 ^ 24 - firstPsn (s.frameFor q) x) % 2 ^ 24 < packets (s.frameFor q) q x.len := by
      rw [firstPsn, hvia, hpackets, ← hvia, ← firstPsn, hvia]
      exact hin
    obtain ⟨-, hdata, -⟩ := taking_shows j hk (sliceZ data 0 x.len)
    have honly := opEnds_only (((s.frameFor q).putQp { (s.frameFor q).qp q with retries := 0 }).rxBytes x.len) x 0
    generalize hu : (((s.frameFor q).putQp { (s.frameFor q).qp q with retries := 0 }).rxBytes x.len).opEnds x 0 = u at honly
    have hup : u.holdingUp = false := by
      rw [honly]
      exact hheard.awake
    have hj' : u.findJob x.job = some j := by
      rw [honly]
      exact (findJob_congr (t := s.frameFor q) (by rw [hwake.rest]) x.job).trans hj
    refine ⟨u.landInput x.job k off (sliceZ data 0 x.len), ?_, ?_, _, findJob_landInput _ hj' hcut hoff hearly, hdata⟩
    · have hexec : exec (.rdmaReadResponse qp psn data) s = .next (finishState s ((s.frameFor q).readAnswer q psn data).goOn) := rfl
      rw [hexec, readAnswer_heard hheard hreplay' hm' hkind hin', hu, landed_input huse hup]
    · rw [honly]
      show (s.frameFor q).xfers.erase x = _
      rw [hwake.xfers]
  · have hnak : exec (.nak qp psn kind) s = .next (finishState s ((s.frameFor q).nakIn q psn kind).goOn) := rfl
    have hqp : ((s.frameFor q).bump .xptNakRxCount 1).qp q = s.qp q := qp_congr hwake.qps q
    have hgetI (f : Fld) (hf : f ≠ .fjStateRetainPend) (hf' : f ≠ .xptNakRxCount) (i : Nat) :
        ((s.frameFor q).bump .xptNakRxCount 1).getI f i = s.getI f i := (getI_bump_other _ 1 i hf').trans (hwake.getI hf i)
    rw [nakIn_heard hheard hm' hlate, if_pos hkind] at hnak
    obtain ⟨hretries, hxfers, hcount, hout⟩ := retry_resends (s := (s.frameFor q).bump .xptNakRxCount 1) (q := q) (psn := psn)
      (by rw [hqp, hgetI _ (by decide) (by decide)]; exact hleft) stXptRetryExceeded
    refine ⟨_, hnak, ?_, ?_, fun y hy hy' => ?_, ?_⟩
    · rw [hcount, get_bump_same]
      exact congrArg (satAdd 32 · 1) (hwake.getI (by decide) 0)
    · rw [hretries, hqp]
    · rw [← wire_congr (s := s) (hgetI _ (by decide) (by decide) _) (hgetI _ (by decide) (by decide) _)]
      exact hout y (by rw [messages_congr (t := (s.frameFor q).bump .xptNakRxCount 1) (s := s.frameFor q) rfl, hm']; exact hy) hy'
    · rw [hxfers]
      exact hwake.xfers
  · have hnak : exec (.nak qp psn kind) s = .next (finishState s ((s.frameFor q).nakIn q psn kind).goOn) := rfl
    have hqp : ((s.frameFor q).bump .xptNakRxCount 1).qp q = s.qp q := qp_congr hwake.qps q
    have hretry : ((s.frameFor q).bump .xptNakRxCount 1).getI .xptQpAttrRetry q = s.getI .xptQpAttrRetry q :=
      (getI_bump_other _ 1 q (by decide)).trans (hwake.getI (by decide) q)
    have hrts' : ((s.frameFor q).bump .xptNakRxCount 1).rts q = true := by
      rw [State.rts, getI_bump_other _ 1 q (by decide)]
      exact hheard.rts
    rw [nakIn_heard hheard hm' hlate] at hnak
    rcases hst with ⟨hkind, hused, rfl⟩ | ⟨rfl, rfl⟩ | ⟨hkind, rfl⟩
    · rw [if_pos hkind, retry_error _ psn _ (by rw [hqp, hretry]; exact hused)] at hnak
      exact ⟨_, hnak, qpError_shows _ stXptRetryExceeded hrts'⟩
    · rw [if_neg (by decide), if_pos rfl] at hnak
      exact ⟨_, hnak, qpError_shows _ stXptNakAccess hrts'⟩
    · rw [if_neg (by omega), if_neg (by omega)] at hnak
      exact ⟨_, hnak, qpError_shows _ stXptNakOp hrts'⟩

end Sys2Proof.Proofs
end

section
/-! Requests of a peer (12 R328, R330, R333, R338; 10 R276, R280). -/
namespace Sys2Proof.Machine

open Safety

/-! ### What a frame's wake leaves of the checks -/

theorem frameFor_deaf {s : State} {q : Nat} (h : hears s (laneOf s q) = false ∨ s.rts q = false) : s.frameFor q = s := by
  unfold State.frameFor
  rw [if_neg]
  rcases h with h | h
  · rw [show hears s (s.getI .xptQpAttrLane q) = false from h]
    simp
  · rw [h]
    simp

theorem arrival_frameFor (s : State) (q psn : Nat) : arrival (s.frameFor q) q psn = arrival s q psn := by
  by_cases hears' : hears s (laneOf s q) = true
  · by_cases hrts : s.rts q = true
    · have h := heard_frameFor hears' hrts
      unfold arrival
      rw [h.ears, h.rts, hears', hrts, qp_congr h.wakes.qps]
    · rw [frameFor_deaf (.inr (by simpa using hrts))]
  · rw [frameFor_deaf (.inl (by simpa using hears'))]

theorem frameFor_unheard {s : State} {q psn : Nat} (h : arrival s q psn = .unheard) : s.frameFor q = s := by
  refine frameFor_deaf (.inl (Bool.eq_false_iff.mpr fun hears' => ?_))
  unfold arrival at h
  extract_lets d at h
  split at h
  · next hdeaf => exact hdeaf hears'
  split at h
  · cases h
  split at h
  · cases h
  split at h <;> cases h

theorem frameFor_refused {s : State} {q psn : Nat} (h : arrival s q psn = .refused) : s.frameFor q = s := by
  refine frameFor_deaf (.inr (Bool.eq_false_iff.mpr fun hrts => ?_))
  unfold arrival at h
  extract_lets d at h
  split at h
  · cases h
  split at h
  · cases h
  split at h <;> cases h

theorem arrival_expected {s : State} {q psn : Nat} (h : arrival s q psn = .expected) : Heard s (s.frameFor q) q := by
  unfold arrival at h
  split at h
  · cases h
  · next hears' =>
    split at h
    · cases h
    · next hrts => exact heard_frameFor (by simpa using hears') (by simpa using hrts)

section
variable {s t : State} (h : WakeOnly s t)
include h

theorem keyOp_wake (q key : Nat) : keyOp t q key = keyOp s q key := by
  rw [keyOp, h.xfers, keyOp]

theorem packets_wake (q n : Nat) : packets t q n = packets s q n := packets_congr (h.getI (by decide) q) n

theorem frames_wake : t.frames = s.frames := by
  have hwindow : t.window = s.window := funext fun i =>
    Prod.ext (h.getI (f := .grdWinBaseBase) (by decide) i) (congrArg (65536 * ·) (h.getI (f := .grdWinSizeSize) (by decide) i))
  rw [State.frames, State.windows, hwindow, State.frames, State.windows]

theorem reach_wake (q key addr len : Nat) (ok : Bool) : reach t q key addr len ok = reach s q key addr len ok := by
  have hreserve : reserveOf t q = reserveOf s q := by
    unfold reserveOf
    rw [h.getI (f := .xptQpAttrRes) (by decide) q, frames_wake h, show t.get .xptRkeyOwnKey = s.get .xptRkeyOwnKey from h.getI (by decide) 0,
      show t.get .fjMirrorBaseBase = s.get .fjMirrorBaseBase from h.getI (by decide) 0]
    extract_lets r
    rw [h.getI (f := .xptRkeyPeerKey) (by decide), h.getI (f := .fjPeerResBaseBase) (by decide),
      h.getI (f := .fjPeerResFramesFrames) (by decide)]
  rw [reach, hreserve, reach]

end

/-! ### A request that is refused -/

theorem refuse_shows {s : State} {q : Nat} (hrts : s.rts q = true) (psn : Nat) :
    (s.refuse q psn).build = s.build ∧ Out.rdmaNak q psn 2 ∈ (s.refuse q psn).out ∧
      (s.refuse q psn).get .xptDroppedCount = satAdd 32 (s.get .xptDroppedCount) 1 ∧ (s.refuse q psn).getI .xptQpStateState q = qpErr ∧
      (s.refuse q psn).getI .xptQpStateLastErr q = stXptNakAccess := by
  have hrts' : (s.dropped.transmit (.rdmaNak q psn 2)).rts q = true := by
    rw [transmit_only]
    show (s.dropped.getI .xptQpStateState q == qpRts) = true
    rw [State.dropped, getI_bump_other _ 1 q (by decide)]
    exact hrts
  obtain ⟨hstate, hlast⟩ := qpError_shows (s.dropped.transmit (.rdmaNak q psn 2)) stXptNakAccess hrts'
  have hkeeps := qpError_keeps (s.dropped.transmit (.rdmaNak q psn 2)) stXptNakAccess hrts'
  have hcount : ((s.dropped.transmit (.rdmaNak q psn 2)).qpFallen q stXptNakAccess).get .xptDroppedCount =
      satAdd 32 (s.get .xptDroppedCount) 1 := by
    rw [State.qpFallen, State.up, get_set_other _ _ (by decide), State.get, getI_setI_other _ _ (by simp), getI_setI_other _ _ (by simp)]
    exact get_bump_same s .xptDroppedCount 1
  exact ⟨hkeeps.build, hkeeps.out.subset (mem_transmit _ _), (hkeeps.fields .xptDroppedCount (by decide) 0).trans hcount, hstate, hlast⟩

/-! ### What is owed to a peer -/

/-- A write of this use is on its way to memory, or waits to be sent. -/
def Owed (s : State) (u : XUse) : Prop := (∃ x ∈ s.xfers, x.use = u) ∨ ∃ w ∈ s.pendWr, w.use = u

structure KeepsOwed (s t : State) : Prop where
  qps : t.qps = s.qps
  owed : ∀ u, Owed s u → Owed t u
  bytes : t.get .xptRxBytesBytes = s.get .xptRxBytesBytes

theorem KeepsOwed.refl (s : State) : KeepsOwed s s := ⟨rfl, fun _ h => h, rfl⟩

theorem KeepsOwed.trans {s t u : State} (h : KeepsOwed s t) (k : KeepsOwed t u) : KeepsOwed s u :=
  ⟨k.qps.trans h.qps, fun v hv => k.owed v (h.owed v hv), k.bytes.trans h.bytes⟩

theorem keepsOwed_ite {s t u : State} {c : Prop} [Decidable c] (h : KeepsOwed s t) (k : KeepsOwed s u) : KeepsOwed s (if c then t else u) := by
  split
  · exact h
  · exact k

/-- A change of nothing but other parts of the state keeps what is owed. -/
theorem keepsOwed_of {s t : State} (hqps : t.qps = s.qps) (hxfers : t.xfers = s.xfers) (hpend : t.pendWr = s.pendWr) (hregs : t.regs = s.regs) :
    KeepsOwed s t :=
  ⟨hqps, fun u hu => by rw [Owed, hxfers, hpend]; exact hu, by rw [State.get, State.getI, hregs]; rfl⟩

theorem keepsOwed_setI (s : State) {f : Fld} (i v : Nat) (h : f ≠ .xptRxBytesBytes) : KeepsOwed s (s.setI f i v) :=
  ⟨rfl, fun _ hu => hu, getI_setI_other _ _ (fun hfi => h hfi.1)⟩

theorem keepsOwed_peak (s : State) {f : Fld} (v : Nat) (h : f ≠ .xptRxBytesBytes) : KeepsOwed s (s.peak f v) :=
  keepsOwed_ite (keepsOwed_setI s 0 v h) (.refl s)

theorem keepsOwed_fabOffer (s : State) (w : PendWr) : KeepsOwed s (s.fabOffer w) := by
  unfold State.fabOffer
  split
  · exact ⟨rfl, fun u hu => hu.imp_left fun ⟨x, hx, hxu⟩ => ⟨x, List.mem_append_left _ hx, hxu⟩, rfl⟩
  · exact ⟨rfl, fun u hu => hu.imp_right fun ⟨x, hx, hxu⟩ => ⟨x, (mem_pendInsert _ _ _).mpr (.inr hx), hxu⟩, rfl⟩

theorem owed_fabOffer (s : State) (w : PendWr) : Owed (s.fabOffer w) w.use := by
  unfold State.fabOffer
  split
  · exact .inl ⟨_, List.mem_append_right _ List.mem_cons_self, rfl⟩
  · exact .inr ⟨w, (mem_pendInsert _ _ _).mpr (.inl rfl), rfl⟩

theorem keepsOwed_foldl {α : Type} (l : List α) (g : State → α → State) (h : ∀ s a, KeepsOwed s (g s a)) (s : State) :
    KeepsOwed s (l.foldl g s) := by
  induction l generalizing s with
  | nil => exact .refl s
  | cons a l ih => exact (h s a).trans (ih _)

theorem keepsOwed_fabWrite (s : State) (job : Nat) (use : XUse) (addr : Nat) (data : Bytes) (promised : Bool) :
    KeepsOwed s (s.fabWrite job use addr data promised) := keepsOwed_foldl _ _ (fun a _ => keepsOwed_fabOffer a _) s

theorem owed_fabWrite (s : State) (job : Nat) (use : XUse) (addr : Nat) {data : Bytes} (promised : Bool) (h : data ≠ []) :
    Owed (s.fabWrite job use addr data promised) use := by
  obtain ⟨a, l, rfl⟩ := List.exists_cons_of_ne_nil h
  have hbeats : ∃ b m, beatsOf addr (a :: l) = b :: m := ⟨_, _, rfl⟩
  obtain ⟨b, m, hb⟩ := hbeats
  unfold State.fabWrite
  rw [hb, List.foldl_cons]
  exact (keepsOwed_foldl m _ (fun a _ => keepsOwed_fabOffer a _) _).owed _ (owed_fabOffer s _)

/-! ### A write into a reserve -/

theorem keepsOwed_dropSets (s : State) (p : FptSet → Bool) : KeepsOwed s (s.dropSets p) :=
  .trans (t := { s with prints := s.prints.filter (fun x => !p x) }) (keepsOwed_of rfl rfl rfl rfl) (keepsOwed_setI _ 0 _ (by decide))

theorem keepsOwed_allocSet (s : State) (source step n good : Nat) : KeepsOwed s (s.allocSet source step n good) := by
  unfold State.allocSet
  extract_lets s1 sFull
  have h1 : KeepsOwed s s1 := keepsOwed_dropSets s _
  split
  · extract_lets s2 used
    have h2 : KeepsOwed s1 s2 := keepsOwed_of rfl rfl rfl rfl
    exact ((h1.trans h2).trans (keepsOwed_setI _ 0 _ (by decide))).trans (keepsOwed_peak _ _ (by decide))
  · have h2 : KeepsOwed s1 sFull := keepsOwed_of rfl rfl rfl rfl
    exact ((h1.trans h2).trans (keepsOwed_setI _ 0 _ (by decide))).trans (keepsOwed_setI _ 0 _ (by decide))

theorem keepsOwed_peerRecord (s : State) (j step frame : Nat) (data : Bytes) : KeepsOwed s (s.peerRecord j step frame data) := by
  unfold State.peerRecord
  split
  · refine keepsOwed_ite (.refl s) ?_
    exact .trans (t := { s with freeCtr := s.freeCtr + 1 }) (keepsOwed_of rfl rfl rfl rfl) (keepsOwed_fabWrite _ _ _ _ _ _)
  · exact .refl s

theorem keepsOwed_peerWrote (s : State) (j frames addr : Nat) (data : Bytes) : KeepsOwed s (s.peerWrote j frames addr data) := by
  unfold State.peerWrote
  extract_lets slot s1 size k off p s2
  have hslot (a : State) (k : Nat) : KeepsOwed a (slot a k) := by
    unfold slot
    extract_lets at_ st p' ck b c
    have hb : KeepsOwed a b := keepsOwed_of rfl rfl rfl rfl
    have hc : KeepsOwed a c := hb.trans (keepsOwed_of rfl rfl rfl rfl)
    exact keepsOwed_ite (keepsOwed_ite (keepsOwed_ite (hc.trans (keepsOwed_dropSets _ _)) hc) hb) (.refl a)
  have h1 : KeepsOwed s s1 := (hslot s 0).trans (hslot _ 1)
  have h2 : KeepsOwed s1 s2 := keepsOwed_ite (.refl _) (keepsOwed_allocSet _ _ _ _ _)
  exact keepsOwed_ite ((h1.trans h2).trans (keepsOwed_peerRecord _ _ _ _ _)) h1

/-- What a peer's acknowledgements leave: those still owed, the number expected, and the bytes counted. -/
theorem peerAckFuel_owed {q w : Nat} (n : Nat) {s : State} (howed : Owed s (.peer q w)) (hmem : w ∈ (s.qp q).acks) :
    w ∈ ((peerAckFuel q n s).qp q).acks ∧ ((peerAckFuel q n s).qp q).recvPsn = (s.qp q).recvPsn ∧
      (peerAckFuel q n s).get .xptRxBytesBytes = s.get .xptRxBytesBytes := by
  induction n generalizing s with
  | zero => exact ⟨hmem, rfl, rfl⟩
  | succ n ih =>
    unfold peerAckFuel
    split
    · exact ⟨hmem, rfl, rfl⟩
    · next p t hacks =>
      split
      · exact ⟨hmem, rfl, rfl⟩
      · next hnone =>
        have hne : p ≠ w := by
          rintro rfl
          refine hnone (Bool.or_eq_true _ _ ▸ howed.imp ?_ ?_)
          · exact fun ⟨x, hx, hu⟩ => List.any_eq_true.mpr ⟨x, hx, beq_iff_eq.mpr hu⟩
          · exact fun ⟨x, hx, hu⟩ => List.any_eq_true.mpr ⟨x, hx, beq_iff_eq.mpr hu⟩
        have hqp : ((s.putQp { s.qp q with acks := t }).transmit (.rdmaAck q p)).qp q = { s.qp q with acks := t } :=
          (congrArg (State.qp _) (qp_qp s q).symm).trans (qp_putQp_same s { s.qp q with acks := t })
        obtain ⟨hin, hrecv, hbytes⟩ := ih (s := (s.putQp { s.qp q with acks := t }).transmit (.rdmaAck q p)) howed (by
          rw [hqp]
          rw [hacks] at hmem
          exact (List.mem_cons.mp hmem).resolve_left hne.symm)
        exact ⟨hin, hrecv.trans (by rw [hqp]), hbytes⟩

end Sys2Proof.Machine
end

section
/-! Requests of a peer that pass (12 R330, R333, R338; 10 R276, R280). -/
namespace Sys2Proof.Machine

open Safety

theorem qp_received (s : State) (q n : Nat) : (s.received q n).qp q = { s.qp q with recvPsn := ((s.qp q).recvPsn + n) % 2 ^ 24 } :=
  (congrArg (State.qp _) (qp_qp s q).symm).trans (qp_putQp_same s { s.qp q with recvPsn := ((s.qp q).recvPsn + n) % 2 ^ 24 })

theorem rxBytes_counts (s : State) (n : Nat) : (s.rxBytes n).get .xptRxBytesBytes = (s.get .xptRxBytesBytes + n) % 2 ^ 64 :=
  getI_setI_same s .xptRxBytesBytes 0 _

theorem keepsOwed_wake (s : State) : KeepsOwed s s.wake :=
  have h := wakeOnly_wake s
  ⟨h.qps, fun u hu => by rw [Owed, h.xfers, show s.wake.pendWr = s.pendWr by rw [h.rest]]; exact hu, h.getI (by decide) 0⟩

/-- A write into a reserve is acknowledged when its bytes are placed. -/
theorem writeIn_passes {s : State} {q psn key addr : Nat} {data : Bytes} {x : Nat × Nat × Nat} (harr : arrival s q psn = .expected)
    (hkey : keyOp s q key = none) (hreach : reach s q key addr data.length (s.getI .xptQpAttrWrOk q == 1) = some x) (hdata : data ≠ []) :
    ((s.writeIn q psn key addr data).qp q).recvPsn = ((s.qp q).recvPsn + packets s q data.length) % 2 ^ 24 ∧
      (psn + packets s q data.length - 1) % 2 ^ 24 ∈ ((s.writeIn q psn key addr data).qp q).acks ∧
      (s.writeIn q psn key addr data).get .xptRxBytesBytes = (s.get .xptRxBytesBytes + data.length) % 2 ^ 64 := by
  obtain ⟨a, r, frames⟩ := x
  unfold State.writeIn
  extract_lets n last s1
  rw [harr, hkey, hreach]
  show ((State.peerAck _ q).qp q).recvPsn = _ ∧ _ ∈ ((State.peerAck _ q).qp q).acks ∧ (State.peerAck _ q).get .xptRxBytesBytes = _
  have hs1 : s1.qp q = { s.qp q with recvPsn := ((s.qp q).recvPsn + n) % 2 ^ 24 } := qp_received (s.rxBytes data.length) q n
  generalize hs0 : s1.putQp { s1.qp q with acks := (s1.qp q).acks ++ [last] } = s0
  have hqp0 : s0.qp q = { s1.qp q with acks := (s1.qp q).acks ++ [last] } := by
    rw [← hs0]
    exact (congrArg (State.qp _) (qp_qp s1 q).symm).trans (qp_putQp_same s1 { s1.qp q with acks := (s1.qp q).acks ++ [last] })
  have hbytes0 : s0.get .xptRxBytesBytes = (s.get .xptRxBytesBytes + data.length) % 2 ^ 64 := by
    rw [← hs0]
    exact rxBytes_counts s data.length
  have hw : KeepsOwed s0 (s0.wake.fabWrite 0 (.peer q last) a data true) := (keepsOwed_wake s0).trans (keepsOwed_fabWrite _ _ _ _ _ _)
  have howed := owed_fabWrite s0.wake 0 (.peer q last) a true hdata
  generalize s0.wake.fabWrite 0 (.peer q last) a data true = s2 at hw howed
  have h3 : KeepsOwed s2 (if r = 0 then s2 else s2.peerWrote (r - 1) frames addr data) :=
    keepsOwed_ite (.refl s2) (keepsOwed_peerWrote s2 _ _ _ _)
  generalize (if r = 0 then s2 else s2.peerWrote (r - 1) frames addr data) = s3 at h3 ⊢
  have h := hw.trans h3
  have hqp3 : s3.qp q = { s1.qp q with acks := (s1.qp q).acks ++ [last] } := (qp_congr h.qps q).trans hqp0
  obtain ⟨hin, hrecv, hbytes⟩ := peerAckFuel_owed (q := q) (w := last) (s3.qp q).acks.length (h3.owed _ howed) (by rw [hqp3]; simp)
  refine ⟨hrecv.trans ?_, hin, hbytes.trans (h.bytes.trans hbytes0)⟩
  rw [hqp3, hs1]

/-- Reading fabric memory changes no entry. -/
theorem qps_fabReadAll (s : State) (job : Nat) (use : Nat → XUse) (addr len : Nat) (promised : Bool) :
    (s.fabReadAll job use addr len promised).qps = s.qps := by
  have hread (a : State) (p : PendOp) : ((p.asRead a).getD a).qps = a.qps := by
    unfold PendOp.asRead
    split
    · unfold State.fabRead
      split
      · rfl
      · split
        · rfl
        · exact apply_ite State.qps _ _ _ |>.trans (ite_self _)
    · rfl
  have hoffer (a : State) (p : PendOp) (hp : p.kind = .fabRead) : (a.offerOp p).qps = a.qps := by
    unfold State.offerOp State.issueOp
    rw [if_pos hp]
    split
    · exact hread a p
    · rfl
  unfold State.fabReadAll
  generalize requestsOf s [(addr, len)] = l
  generalize hg : (fun (x : State × Nat) (r : Nat × Nat × List (Nat × Nat)) => _) = g
  have hstep (x : State × Nat) (r : Nat × Nat × List (Nat × Nat)) : (g x r).1.qps = x.1.qps := by
    rw [← hg]
    exact hoffer _ _ rfl
  generalize hx : (s, 0) = x
  rw [show s = x.1 by rw [← hx]]
  clear hx
  induction l generalizing x with
  | nil => rfl
  | cons r l ih => exact (ih (g x r)).trans (hstep x r)

/-- A read of a reserve waits for its bytes. -/
theorem readIn_passes {s : State} {q psn key addr len : Nat} {x : Nat × Nat × Nat} (harr : arrival s q psn = .expected)
    (hkey : keyOp s q key = none) (hreach : reach s q key addr len (s.getI .xptQpAttrRdOk q == 1) = some x) (hlen : 0 < len) :
    ((s.readIn q psn key addr len).qp q).recvPsn = ((s.qp q).recvPsn + packets s q len) % 2 ^ 24 ∧
      ((s.readIn q psn key addr len).qp q).reads = (s.qp q).reads ++ [⟨psn, len, []⟩] := by
  obtain ⟨ad, r, frames⟩ := x
  have hrecv := qp_received s q (packets s q len)
  generalize hs0 : s.received q (packets s q len) = s0 at hrecv
  have hqp : (s.readIn q psn key addr len).qp q = { s0.qp q with reads := (s0.qp q).reads ++ [⟨psn, len, []⟩] } := by
    unfold State.readIn
    rw [harr, hkey, hreach, hs0]
    show (State.qp (if len = 0 then _ else _) q) = _
    rw [if_neg hlen.ne']
    refine (qp_congr (qps_fabReadAll _ _ _ _ _ _) q).trans ?_
    exact (congrArg (State.qp _) (qp_qp s0 q).symm).trans (qp_putQp_same s0 { s0.qp q with reads := (s0.qp q).reads ++ [⟨psn, len, []⟩] })
  rw [hqp, hrecv]
  exact ⟨rfl, rfl⟩

/-! ### A SEND, and what is relayed of it -/

/-- An operation of this use is on its way, or waits for room. -/
def Relayed (s : State) (u : XUse) : Prop := (∃ x ∈ s.xfers, x.use = u) ∨ ∃ p ∈ s.pendOps, p.use = u

theorem remoteSend_shows (s : State) (p job : Nat) (use : XUse) (data : Bytes) :
    s.out <+: (s.remoteSend p job use data).out ∧ (∀ q, ((s.remoteSend p job use data).qp q).recvPsn = (s.qp q).recvPsn) ∧
      Relayed (s.remoteSend p job use data) use := by
  unfold State.remoteSend State.offerOp
  split
  · unfold State.issueOp
    rw [if_neg (by simp)]
    extract_lets n nv r y k x tcp s1 s2
    have hs1 : s1 = s.nextUid.putQp { y with sendPsn := (y.sendPsn + k) % 2 ^ 24 } := rfl
    have hpeak (a : State) (f : Fld) (v : Nat) : (a.peak f v).out = a.out ∧ (a.peak f v).qps = a.qps ∧ (a.peak f v).xfers = a.xfers := by
      unfold State.peak
      split <;> exact ⟨rfl, rfl, rfl⟩
    obtain ⟨hout, hqps, hxfers⟩ := hpeak s2 .xptOpsPeak s2.opsOut
    refine ⟨?_, fun q => ?_, .inl ⟨x, ?_, rfl⟩⟩
    · show s.out <+: (s2.peak .xptOpsPeak s2.opsOut).out
      rw [hout]
      exact List.prefix_append _ _
    · rw [show State.qp (State.set _ _ _) q = (s2.peak .xptOpsPeak s2.opsOut).qp q from rfl, qp_congr hqps]
      show (s1.qp q).recvPsn = _
      rw [hs1]
      exact recvPsn_putQp s.nextUid (y := { y with sendPsn := (y.sendPsn + k) % 2 ^ 24 }) (congrArg (fun n => (s.qp n).recvPsn) (qp_qp s r)).symm q
    · show x ∈ (s2.peak .xptOpsPeak s2.opsOut).xfers
      rw [hxfers]
      exact List.mem_append_right _ List.mem_cons_self
  · exact ⟨List.prefix_rfl, fun _ => rfl, .inr ⟨_, List.mem_append_right _ List.mem_cons_self, rfl⟩⟩

theorem batchIn_only (s : State) (b : Batch) : s.batchIn b = { s with ckpt := (s.batchIn b).ckpt } := by
  unfold State.batchIn
  split
  · rfl
  · split
    · rfl
    · split
      · split <;> rfl
      · rfl

/-- What becomes of a SEND whose buffer is free. -/
theorem sendIn_passes {s : State} {q psn : Nat} {bytes : Bytes} (harr : arrival s q psn = .expected) (hok : s.getI .xptQpAttrSendOk q = 1)
    (hlen : bytes.length ≤ 8192)
    (hfree : (s.xfers.filter (fun x => x.use == .relay q)).length + (s.pendOps.filter (fun p => p.use == .relay q)).length < 16) :
    Out.rdmaAck q ((psn + packets s q bytes.length - 1) % 2 ^ 24) ∈ (s.sendIn q psn bytes).out ∧
      ((s.sendIn q psn bytes).qp q).recvPsn = ((s.qp q).recvPsn + packets s q bytes.length) % 2 ^ 24 ∧
      (∀ p, isWriter s = false → nextQp s = some p → s.rts p = true → Relayed (s.sendIn q psn bytes) (.relay q)) := by
  unfold State.sendIn
  extract_lets n last s1 s2
  rw [harr]
  show _ ∈ (State.out (ite _ _ _)) ∧ ((State.qp (ite _ _ _) q).recvPsn = _) ∧ (∀ p, _ → _ → _ → Relayed (ite _ _ _) _)
  rw [if_neg (by omega), if_neg (by omega), if_neg (by omega)]
  have hack : Out.rdmaAck q last ∈ s1.out := (wakeOnly_wake _).out.subset (mem_transmit _ _)
  have hrecv : (s1.qp q).recvPsn = ((s.qp q).recvPsn + n) % 2 ^ 24 := by
    rw [qp_congr (wakeOnly_wake _).qps]
    exact congrArg Qp.recvPsn (qp_received (s.rxBytes bytes.length) q n)
  by_cases hwriter : isWriter s = true
  · rw [if_pos hwriter]
    exact ⟨hack, hrecv, fun p h => absurd hwriter (by simp [h])⟩
  · rw [if_neg hwriter, batchIn_only]
    have hs2 : (match nextQp s with | some p => if s.rts p then s1.remoteSend p 0 (.relay q) bytes else s1 | none => s1) = s2 := rfl
    clear_value s2
    show _ ∈ s2.out ∧ (s2.qp q).recvPsn = _ ∧ (∀ p, _ → _ → _ → Relayed s2 _)
    cases hnext : nextQp s with
    | none =>
      simp only [hnext] at hs2
      subst hs2
      exact ⟨hack, hrecv, fun p _ h => absurd h (by simp)⟩
    | some p =>
      simp only [hnext] at hs2
      obtain ⟨hout, hstay, hrelay⟩ := remoteSend_shows s1 p 0 (.relay q) bytes
      split at hs2
      · subst hs2
        exact ⟨hout.subset hack, (hstay q).trans hrecv, fun _ _ _ _ => hrelay⟩
      · next hidle =>
        subst hs2
        exact ⟨hack, hrecv, fun p' _ h hrts => absurd (Option.some.inj h ▸ hrts) hidle⟩

end Sys2Proof.Machine

namespace Sys2Proof.Machine

open Safety

theorem requests_unheard {s : State} {q psn : Nat} (h : arrival s q psn = .unheard) (key addr len : Nat) (data : Bytes) :
    s.writeIn q psn key addr data = s ∧ s.readIn q psn key addr len = s ∧ s.sendIn q psn data = s ∧ s.invalidateIn q psn key = s := by
  unfold State.writeIn State.readIn State.sendIn State.invalidateIn
  simp only [h, and_self]

theorem requests_refused {s : State} {q psn : Nat} (h : arrival s q psn = .refused) (key addr len : Nat) (data : Bytes) :
    s.writeIn q psn key addr data = s.dropped ∧ s.readIn q psn key addr len = s.dropped ∧ s.sendIn q psn data = s.dropped ∧
      s.invalidateIn q psn key = s.dropped := by
  unfold State.writeIn State.readIn State.sendIn State.invalidateIn
  simp only [h, and_self]

theorem requests_ahead {s : State} {q psn : Nat} (h : arrival s q psn = .ahead) (key addr len : Nat) (data : Bytes) :
    s.writeIn q psn key addr data = s.transmit (.rdmaNak q (s.qp q).recvPsn 0) ∧
      s.readIn q psn key addr len = s.transmit (.rdmaNak q (s.qp q).recvPsn 0) ∧
      s.sendIn q psn data = s.transmit (.rdmaNak q (s.qp q).recvPsn 0) ∧
      s.invalidateIn q psn key = s.transmit (.rdmaNak q (s.qp q).recvPsn 0) := by
  unfold State.writeIn State.readIn State.sendIn State.invalidateIn
  simp only [h, and_self]

theorem sends_behind {s : State} {q psn : Nat} (h : arrival s q psn = .behind) (key : Nat) (data : Bytes) :
    s.sendIn q psn data = s.transmit (.rdmaAck q ((psn + packets s q data.length - 1) % 2 ^ 24)) ∧
      s.invalidateIn q psn key = s.transmit (.rdmaAck q psn) := by
  unfold State.sendIn State.invalidateIn
  simp only [h, and_self]

theorem writeIn_behind {s : State} {q psn : Nat} (h : arrival s q psn = .behind) (key addr : Nat) {data : Bytes}
    (hacks : (psn + packets s q data.length - 1) % 2 ^ 24 ∉ (s.qp q).acks) :
    s.writeIn q psn key addr data = s.transmit (.rdmaAck q ((psn + packets s q data.length - 1) % 2 ^ 24)) := by
  unfold State.writeIn
  extract_lets n last s1
  simp only [h]
  exact if_neg fun h' => hacks (List.contains_iff_mem.mp h')

/-! ### Requests that no check lets through -/

theorem writeIn_barred {s : State} {q psn key addr : Nat} {data : Bytes} (h : arrival s q psn = .expected) (hkey : keyOp s q key = none)
    (hreach : reach s q key addr data.length (s.getI .xptQpAttrWrOk q == 1) = none) : s.writeIn q psn key addr data = s.refuse q psn := by
  unfold State.writeIn
  extract_lets n last s1
  simp only [h, hkey, hreach]

theorem readIn_barred {s : State} {q psn key addr len : Nat} (h : arrival s q psn = .expected) (hkey : keyOp s q key = none)
    (hreach : reach s q key addr len (s.getI .xptQpAttrRdOk q == 1) = none) : s.readIn q psn key addr len = s.refuse q psn := by
  unfold State.readIn
  simp only [h, hkey, hreach]

theorem sendIn_barred {s : State} {q psn : Nat} {data : Bytes} (h : arrival s q psn = .expected) (hok : s.getI .xptQpAttrSendOk q = 0) :
    s.sendIn q psn data = s.refuse q psn := by
  unfold State.sendIn
  extract_lets n last s1 s2
  simp only [h]
  exact if_pos hok

theorem sendIn_full {s : State} {q psn : Nat} {data : Bytes} (h : arrival s q psn = .expected) (hok : s.getI .xptQpAttrSendOk q = 1)
    (hlen : data.length ≤ 8192)
    (hfull : 16 ≤ (s.xfers.filter (fun x => x.use == .relay q)).length + (s.pendOps.filter (fun p => p.use == .relay q)).length) :
    s.sendIn q psn data = s.transmit (.rdmaNak q psn 3) := by
  unfold State.sendIn
  extract_lets n last s1 s2
  simp only [h]
  exact (if_neg (by omega)).trans ((if_neg (by omega)).trans (if_pos hfull))

/-- The state in which an operation's key is dead. -/
def State.keyDead (s : State) (q : Nat) (x : Xfer) : State :=
  { s.received q 1 with xfers := s.xfers.map (fun (y : Xfer) => if y = x then { y with key := none } else y) }

theorem keyDead_shows (s : State) (q : Nat) (x : Xfer) :
    ((s.keyDead q x).qp q).recvPsn = ((s.qp q).recvPsn + 1) % 2 ^ 24 ∧ (s.keyDead q x).jobs = s.jobs ∧
      (s.keyDead q x).xfers = s.xfers.map (fun y => if y = x then { y with key := none } else y) :=
  ⟨congrArg Qp.recvPsn (qp_received s q 1), rfl, rfl⟩

theorem invalidateIn_expected {s : State} {q psn : Nat} (h : arrival s q psn = .expected) (key : Nat) :
    (keyOp s q key = none → s.invalidateIn q psn key = s.refuse q psn) ∧
      ∀ x, keyOp s q key = some x → s.invalidateIn q psn key = (s.keyDead q x).transmit (.rdmaAck q psn) := by
  refine ⟨fun hkey => ?_, fun x hkey => ?_⟩
  · unfold State.invalidateIn
    simp only [h, hkey]
  · unfold State.invalidateIn
    simp only [h, hkey]
    rfl

theorem keepsRegs_transmit {s t : State} (h : WakeOnly s t) (o : Out) : KeepsRegs [.fjStateRetainPend] s (t.transmit o) := h.regs

end Sys2Proof.Machine

namespace Sys2Proof.Proofs

open Sys2Proof.Machine Sys2Proof.Safety

/-- Settles O47: a request acts on the state its frame wakes, whose checks are those of the state before; a write's acknowledgement stays owed as long
as a beat of it is on its way. -/
theorem peerRequests : Obligations.PeerRequests := by
  unfold Obligations.PeerRequests
  constructor
  · intro s qp psn key addr len data q cs
    have hwake := frameFor_only s q
    have hqp : (s.frameFor q).qp q = s.qp q := qp_congr hwake.qps q
    have harr := arrival_frameFor s q psn
    have hpackets (n : Nat) : packets (s.frameFor q) q n = packets s q n := packets_wake hwake q n
    have hwrite : exec (.rdmaWriteRequest qp psn key addr data) s = .next (finishState s ((s.frameFor q).writeIn q psn key addr data).goOn) := rfl
    have hread : exec (.rdmaReadRequest qp psn key addr len) s = .next (finishState s ((s.frameFor q).readIn q psn key addr len).goOn) := rfl
    have hbatch : exec (.fingerprintBatch qp psn data) s = .next (finishState s ((s.frameFor q).sendIn q psn data).goOn) := rfl
    have hnotice : exec (.commitNotice qp psn data) s = .next (finishState s ((s.frameFor q).sendIn q psn data).goOn) := rfl
    have hinval : exec (.sendWithInvalidate qp psn key) s = .next (finishState s ((s.frameFor q).invalidateIn q psn key)) := rfl
    refine ⟨fun c hc => ?_, fun hbehind => ?_, fun href => ?_, ⟨fun hdeaf => ?_, fun hahead => ?_⟩, fun hexp hkey => ?_⟩
    · refine ⟨fun hdeaf => ?_, fun href => ?_, fun hahead => ?_⟩
      · obtain ⟨h1, h2, h3, -⟩ := requests_unheard hdeaf key addr len data
        rw [frameFor_unheard hdeaf] at hwrite hread hbatch hnotice
        rw [h1] at hwrite
        rw [h2] at hread
        rw [h3] at hbatch hnotice
        simp only [cs, List.mem_cons, List.not_mem_nil, or_false] at hc
        rcases hc with rfl | rfl | rfl | rfl
        exacts [hwrite, hread, hbatch, hnotice]
      · obtain ⟨h1, h2, h3, -⟩ := requests_refused href key addr len data
        rw [frameFor_refused href] at hwrite hread hbatch hnotice
        rw [h1] at hwrite
        rw [h2] at hread
        rw [h3] at hbatch hnotice
        simp only [cs, List.mem_cons, List.not_mem_nil, or_false] at hc
        rcases hc with rfl | rfl | rfl | rfl
        exacts [hwrite, hread, hbatch, hnotice]
      · obtain ⟨h1, h2, h3, -⟩ := requests_ahead (harr.trans hahead) key addr len data
        rw [hqp] at h1 h2 h3
        rw [h1] at hwrite
        rw [h2] at hread
        rw [h3] at hbatch hnotice
        refine ⟨(s.frameFor q).transmit (.rdmaNak q (s.qp q).recvPsn 0), ?_, mem_transmit _ _, hwake.qps, hwake.regs⟩
        simp only [cs, List.mem_cons, List.not_mem_nil, or_false] at hc
        rcases hc with rfl | rfl | rfl | rfl
        exacts [hwrite, hread, hbatch, hnotice]
    · obtain ⟨hsend, hdead⟩ := sends_behind (harr.trans hbehind) key data
      rw [hpackets] at hsend
      rw [hsend] at hbatch hnotice
      rw [hdead] at hinval
      refine ⟨fun c hc => ⟨_, ?_, mem_transmit _ _, hwake.qps⟩, fun hacks => ?_, _, hinval, mem_out_finishState (mem_transmit _ _),
        (finishState_qps _ _).trans hwake.qps, (finishState_xfers _ _).trans hwake.xfers⟩
      · simp only [List.mem_cons, List.not_mem_nil, or_false] at hc
        rcases hc with rfl | rfl
        exacts [hbatch, hnotice]
      · rw [writeIn_behind (harr.trans hbehind) key addr (by rw [hpackets, hqp]; exact hacks), hpackets] at hwrite
        exact ⟨_, hwrite, mem_transmit _ _, hwake.qps⟩
    · rw [frameFor_refused href, (requests_refused href key addr len data).2.2.2] at hinval
      obtain ⟨hcount, hregs, hrest⟩ := dropped_shows s
      exact ⟨_, hinval, hcount, hregs, hrest⟩
    · rw [frameFor_unheard hdeaf, (requests_unheard hdeaf key addr len data).2.2.2] at hinval
      exact ⟨_, hinval, keepsRegs_finishState (u := s) (by decide) rfl (keepsRegs_refl _ _), keepsAll_finishState (u := s) rfl⟩
    · rw [(requests_ahead (harr.trans hahead) key addr len data).2.2.2, hqp] at hinval
      exact ⟨_, hinval, mem_out_finishState (mem_transmit _ _), (finishState_qps _ _).trans hwake.qps,
        (finishState_xfers _ _).trans hwake.xfers⟩
    · have hheard := arrival_expected hexp
      have hkey' : keyOp (s.frameFor q) q key = none := (keyOp_wake hwake q key).trans hkey
      obtain ⟨hbuild, hnak, hcount, hstate, hlast⟩ := refuse_shows hheard.rts psn
      have hcount' : ((s.frameFor q).refuse q psn).get .xptDroppedCount = satAdd 32 (s.get .xptDroppedCount) 1 :=
        hcount.trans (congrArg (satAdd 32 · 1) (hwake.getI (f := .xptDroppedCount) (by decide) 0))
      refine ⟨fun c hc hbar => ⟨(s.frameFor q).refuse q psn, ?_, hnak, hcount', hstate, hlast⟩, ?_⟩
      · simp only [List.mem_cons, List.not_mem_nil, or_false] at hc
        rcases hc with rfl | rfl
        · rw [hwrite, writeIn_barred (harr.trans hexp) hkey' (by
            rw [reach_wake hwake, hwake.getI (f := .xptQpAttrWrOk) (by decide)]
            exact hbar)]
        · rw [hread, readIn_barred (harr.trans hexp) hkey' (by
            rw [reach_wake hwake, hwake.getI (f := .xptQpAttrRdOk) (by decide)]
            exact hbar)]
      · rw [(invalidateIn_expected (harr.trans hexp) key).1 hkey'] at hinval
        exact ⟨_, hinval, mem_out_finishState hnak, (getI_finishState (f := .xptQpStateState) (hbuild.trans hwake.build) (by decide) q).trans hstate⟩
  · intro s qp psn key addr len data q w hexp
    have hwake := frameFor_only s q
    have hqp : (s.frameFor q).qp q = s.qp q := qp_congr hwake.qps q
    have harr := (arrival_frameFor s q psn).trans hexp
    have hheard := arrival_expected hexp
    have hpackets (n : Nat) : packets (s.frameFor q) q n = packets s q n := packets_wake hwake q n
    have hbytes : (s.frameFor q).get .xptRxBytesBytes = s.get .xptRxBytesBytes := hwake.getI (by decide) 0
    have hpend : (s.frameFor q).pendOps = s.pendOps := by rw [hwake.rest]
    have hsendOk : (s.frameFor q).getI .xptQpAttrSendOk q = s.getI .xptQpAttrSendOk q := hwake.getI (by decide) q
    refine ⟨fun hkey x hreach hne => ⟨_, rfl, ?_⟩, fun hkey x hreach hlen => ⟨_, rfl, ?_⟩, fun c hc => ?_, fun x hkey => ?_⟩
    · have h := writeIn_passes (x := x) harr ((keyOp_wake hwake q key).trans hkey) (by
        rw [reach_wake hwake, hwake.getI (f := .xptQpAttrWrOk) (by decide)]
        exact hreach) hne
      rw [hpackets, hqp, hbytes] at h
      exact h
    · have h := readIn_passes (x := x) harr ((keyOp_wake hwake q key).trans hkey) (by
        rw [reach_wake hwake, hwake.getI (f := .xptQpAttrRdOk) (by decide)]
        exact hreach) hlen
      rw [hpackets, hqp] at h
      exact h
    · have hexec : exec c s = .next (finishState s ((s.frameFor q).sendIn q psn data).goOn) := by
        simp only [List.mem_cons, List.not_mem_nil, or_false] at hc
        rcases hc with rfl | rfl <;> rfl
      refine ⟨fun hbar => ?_, fun hok hshort => ?_⟩
      · obtain ⟨-, hnak, -, hstate, hlast⟩ := refuse_shows hheard.rts psn
        rw [sendIn_barred harr (hsendOk.trans hbar)] at hexec
        exact ⟨_, hexec, hnak, hstate, hlast⟩
      · intro relays
        refine ⟨fun hfull => ?_, fun hfree => ⟨_, hexec, ?_⟩⟩
        · rw [sendIn_full harr (hsendOk.trans hok) hshort (by rw [hwake.xfers, hpend]; exact hfull)] at hexec
          exact ⟨_, hexec, mem_transmit _ _, hwake.qps⟩
        · obtain ⟨hack, hrecv, hrelay⟩ := sendIn_passes harr (hsendOk.trans hok) hshort (by rw [hwake.xfers, hpend]; exact hfree)
          rw [hpackets] at hack
          rw [hpackets, hqp] at hrecv
          refine ⟨hack, hrecv, fun p hwriter hnext hrts => hrelay p ?_ ?_ ?_⟩
          · rw [← hwriter, isWriter, isWriter, rank, rank, State.get, hwake.getI (by decide) 0]
            rfl
          · rw [← hnext, nextQp, nextQp, State.flag, State.get, State.get, hwake.getI (by decide) 0, hwake.getI (by decide) 0]
            rfl
          · rw [← hrts, State.rts, State.rts, hwake.getI (by decide) p]
    · have hinval : exec (.sendWithInvalidate qp psn key) s = .next (finishState s ((s.frameFor q).invalidateIn q psn key)) := rfl
      rw [(invalidateIn_expected harr key).2 x ((keyOp_wake hwake q key).trans hkey)] at hinval
      obtain ⟨hrecv, hjobs, hxfers⟩ := keyDead_shows (s.frameFor q) q x
      refine ⟨_, hinval, mem_out_finishState (mem_transmit _ _), ?_, ?_, ?_⟩
      · rw [qp_congr (finishState_qps _ _), qp_congr (s := (s.frameFor q).keyDead q x) (by rw [transmit_only]), hrecv, hqp]
      · rw [finishState_jobs, transmit_only]
        exact hjobs.trans (by rw [hwake.rest])
      · rw [finishState_xfers, transmit_only]
        exact hxfers.trans (by rw [hwake.xfers])

end Sys2Proof.Proofs
end

section
/-! IJTAG accesses, and the log and its replay (15 R427, R428; 18 R491 to R495). -/
namespace Sys2Proof.Machine

open Safety

theorem send_only (s : State) (o : Out) : KeepsAll s (s.send o) ∧ KeepsRegs msgFlds s (s.send o) ∧ o ∈ (s.send o).out :=
  ⟨rfl, fun _ _ _ => rfl, List.mem_append_right _ List.mem_cons_self⟩

/-- A command that only answers at the port. -/
theorem finish_send (s : State) (o : Out) : ∃ t, finish s (s.send o) = .next t ∧ o ∈ t.out ∧ KeepsAll s t ∧ KeepsRegs msgFlds s t :=
  ⟨_, rfl, mem_out_finishState (send_only s o).2.2, keepsAll_finishState (send_only s o).1,
    keepsRegs_finishState (u := s.send o) (by decide) rfl (send_only s o).2.1⟩

theorem regRead_only (s : State) (fn off size : Nat) : (s.regRead fn off size).2 = { s with latch := (s.regRead fn off size).2.latch } := by
  unfold State.regRead
  extract_lets byte plain
  split
  · rfl
  · split
    · rfl
    · split <;> rfl
    · rfl

/-- Each beat of a write is one access, sent or waiting. -/
theorem fabOffer_length (s : State) (w : PendWr) :
    (s.fabOffer w).xfers.length + (s.fabOffer w).pendWr.length = s.xfers.length + s.pendWr.length + 1 := by
  unfold State.fabOffer
  split
  · show (s.xfers ++ [_]).length + s.pendWr.length = _
    rw [List.length_append, List.length_singleton]
    omega
  · have hlen : (pendInsert w s.pendWr).length = s.pendWr.length + 1 := by
      unfold pendInsert
      split
      · exact ((List.perm_middle (a := w)).trans ((List.filter_append_perm (fun x => x.promised) s.pendWr).cons w)).length_eq
      · exact List.length_append
    show s.xfers.length + (pendInsert w s.pendWr).length = _
    omega

theorem fabWrite_length (s : State) (job : Nat) (use : XUse) (addr : Nat) (data : Bytes) (promised : Bool) :
    (s.fabWrite job use addr data promised).xfers.length + (s.fabWrite job use addr data promised).pendWr.length =
      s.xfers.length + s.pendWr.length + (beatsOf addr data).length := by
  unfold State.fabWrite
  induction beatsOf addr data generalizing s with
  | nil => rfl
  | cons b l ih =>
    have hone := fabOffer_length s ⟨job, use, b.1, b.2.1, b.2.2, promised⟩
    rw [List.foldl_cons, ih, hone, List.length_cons]
    omega

theorem warned_counts (s : State) (cause : Nat) : (s.warned cause).get .fjCkptWarnsCount = satAdd 32 (s.get .fjCkptWarnsCount) 1 := by
  unfold State.warned
  extract_lets s1 s2
  have h2 : s2.get .fjCkptWarnsCount = s1.get .fjCkptWarnsCount := by
    unfold s2
    split
    · exact get_set_other s1 1 (by decide)
    · rfl
  exact (get_set_other s2 cause (by decide)).trans (h2.trans (get_bump_same s .fjCkptWarnsCount 1))

/-- The state in which a record acts: at its stamp, with the record taken. -/
def State.stamped (s : State) (rec : Bytes) : State :=
  { s.at_ (fieldAt rec 4 2 % 2 ^ 13) with yeljo := { s.yeljo with pos := s.yeljo.pos + 1 } }

theorem applyRecord_edge (s : State) (index : Nat) {b : Bytes} (data : Bytes) (h : fieldAt b 6 1 % 32 = 1) :
    s.applyRecord index b data =
      { (if bitOf (fieldAt b 8 8) 37 then s.missEdge else s) with tick := { (if bitOf (fieldAt b 8 8) 37 then s.missEdge else s).tick with
          edge := if bitOf (fieldAt b 8 8) 37 then .outside else .inWindow (signed5 (fieldAt b 8 8 / 2 ^ 32)) } } := by
  unfold State.applyRecord
  simp only [h]

/-- What the records of edges, clocks and ends, and a WARN, do. -/
theorem applyRecord_shows (s : State) (rec data : Bytes) :
    let typ := fieldAt rec 6 1 % 32
    let a := fieldAt rec 8 8
    let u := (s.stamped rec).applyRecord s.yeljo.pos rec data
    (typ = 1 ∧ bitOf a 37 = false ∨ typ = 7 ∨ typ = 16 →
        u.yeljo.pos = s.yeljo.pos + 1 ∧ u.regs = s.regs ∧ u.entries = s.entries ∧ u.jobs = s.jobs) ∧
      (typ = 1 → bitOf a 37 = true → u.tick.edge = .outside ∧ u.get .tickStatMissed = satAdd 16 (s.get .tickStatMissed) 1 ∧
        u.flag .tickStatTickFault = true ∧ u.yeljo.pos = s.yeljo.pos + 1 ∧ u.entries = s.entries ∧ u.jobs = s.jobs) ∧
      (typ = 1 → bitOf a 37 = false → u.tick.edge = .inWindow (signed5 (a / 2 ^ 32))) ∧ (typ = 7 → u.tick.replayClock = some (a % 4)) ∧
      (typ = 16 → u.yeljo.stopped = true) ∧
      (typ = 8 → a % 16 = 6 → u.get .fjCkptWarnsCount = satAdd 32 (s.get .fjCkptWarnsCount) 1) := by
  intro typ a u
  have hclock (h : typ = 7) : u = { s.stamped rec with tick := { (s.stamped rec).tick with replayClock := some (a % 4) } } := by
    unfold u State.applyRecord
    simp only [show fieldAt rec 6 1 % 32 = 7 from h]
    rfl
  have hstop (h : typ = 16) : u = { s.stamped rec with yeljo := { (s.stamped rec).yeljo with stopped := true } } := by
    unfold u State.applyRecord
    simp only [show fieldAt rec 6 1 % 32 = 16 from h]
  have hwarn (h : typ = 8) (h6 : a % 16 = 6) : u = (s.stamped rec).warned (a / 2 ^ 20 % 256) := by
    unfold u State.applyRecord
    simp only [show fieldAt rec 6 1 % 32 = 8 from h]
    exact if_pos h6
  have hin (h : typ = 1) (hbit : bitOf a 37 = false) :
      u = { s.stamped rec with tick := { (s.stamped rec).tick with edge := .inWindow (signed5 (a / 2 ^ 32)) } } := by
    refine (applyRecord_edge (s.stamped rec) s.yeljo.pos data h).trans ?_
    rw [show bitOf (fieldAt rec 8 8) 37 = false from hbit]
    rfl
  have hout (h : typ = 1) (hbit : bitOf a 37 = true) :
      u = { (s.stamped rec).missEdge with tick := { (s.stamped rec).missEdge.tick with edge := .outside } } := by
    refine (applyRecord_edge (s.stamped rec) s.yeljo.pos data h).trans ?_
    rw [show bitOf (fieldAt rec 8 8) 37 = true from hbit]
    rfl
  refine ⟨?_, fun h hbit => ?_, fun h hbit => ?_, fun h => ?_, fun h => ?_, fun h h6 => ?_⟩
  · rintro (⟨h, hbit⟩ | h | h)
    · rw [hin h hbit]
      exact ⟨rfl, rfl, rfl, rfl⟩
    · rw [hclock h]
      exact ⟨rfl, rfl, rfl, rfl⟩
    · rw [hstop h]
      exact ⟨rfl, rfl, rfl, rfl⟩
  · obtain ⟨hcount, hfault, -, -, -, hall, -⟩ := missEdge_shows (s.stamped rec)
    rw [hout h hbit]
    refine ⟨rfl, hcount, hfault, ?_, ?_, ?_⟩
    · exact congrArg (fun t : State => t.yeljo.pos) hall
    · exact (congrArg State.entries hall :)
    · exact (congrArg State.jobs hall :)
  · rw [hin h hbit]
  · rw [hclock h]
  · rw [hstop h]
  · rw [hwarn h h6]
    exact warned_counts (s.stamped rec) _

end Sys2Proof.Machine

namespace Sys2Proof.Proofs

open Sys2Proof.Machine Sys2Proof.Safety

/-- Settles O60: an access only answers, or acts on the one part it names; a record acts on the state at its stamp. -/
theorem debugAndReplay : Obligations.DebugAndReplay := by
  unfold Obligations.DebugAndReplay
  refine ⟨fun s bank cls phys off size good => ⟨?_, fun n => ?_, fun hoff op hop => ?_, fun hon h0 h6 => ?_, fun hon heng => ?_, fun hon heng => ?_,
    fun hon heng => ?_, fun hon => ?_, fun hon hphys hgood hspare => ?_⟩, fun s hrec htick hup => ?_, fun s rec data hdue => ?_⟩
  · exact finish_send s _
  · obtain ⟨t, hexec, hout, hall, -⟩ := finish_send s (.tdo (natLe (ceilDiv n 8) (bypassBits bank n)))
    exact ⟨t, hexec, hout, hall⟩
  · have hanswer : ∃ o, exec (.ijtagAccess op) s = finish s (s.send o) := by
      simp only [List.mem_cons, List.not_mem_nil, or_false] at hop
      rcases hop with rfl | rfl | rfl | rfl <;> exact ⟨_, if_pos (by simp [hoff])⟩
    obtain ⟨o, ho⟩ := hanswer
    obtain ⟨t, hexec, -, hall, hregs⟩ := finish_send s o
    exact ⟨t, ho.trans hexec, hall, hregs⟩
  · have hexec : exec (.ijtagAccess (.bist bank good)) s = finish s (s.send (.tdo [2])) := (if_neg (by simp [hon])).trans (if_pos ⟨h0, h6⟩)
    obtain ⟨t, ht, hout, hall, -⟩ := finish_send s (.tdo [2])
    exact ⟨t, hexec.trans ht, hout, hall⟩
  · have hexec : exec (.ijtagAccess (.bist bank good)) s = finish s
        (({ s with ijtag := true, store := [], cache := [], tables := [], slots := [] }).send (.tdo (natLe 4 (bank + b2n good * 2 ^ 31)))) :=
      (if_neg (by simp [hon])).trans (if_neg (by omega))
    refine ⟨_, hexec, ?_⟩
    generalize Out.tdo (natLe 4 (bank + b2n good * 2 ^ 31)) = o
    exact ⟨finishState_ijtag _ _, finishState_store _ _, finishState_cache _ _, finishState_tables _ _, finishState_slots _ _, finishState_keys _ _,
      keepsRegs_finishState (by decide) rfl (keepsRegs_of_regs rfl rfl)⟩
  · have hexec : exec (.ijtagAccess (.patrol cls phys good)) s = finish s
        { s with ijtag := true, patina := { s.patina with urgent := s.patina.urgent ++ [(cls % 8, phys)] } } :=
      (if_neg (by simp [hon])).trans (if_pos heng)
    refine ⟨_, hexec, ?_⟩
    exact ⟨finishState_ijtag _ _, congrArg Patina.urgent (finishState_patina _ _), keepsRegs_finishState (by decide) rfl (keepsRegs_of_regs rfl rfl),
      finishState_entries _ _⟩
  · have hexec : exec (.ijtagAccess (.patrol cls phys good)) s = finish s
        (({ s with ijtag := true }).send (.tdo (natLe 4 (phys + b2n good * 2 ^ 31)))) :=
      (if_neg (by simp [hon])).trans (if_neg heng)
    refine ⟨_, hexec, ?_⟩
    generalize Out.tdo (natLe 4 (phys + b2n good * 2 ^ 31)) = o
    exact ⟨finishState_ijtag _ _, mem_out_finishState (send_only _ o).2.2, finishState_patina _ _,
      keepsRegs_finishState (by decide) rfl (keepsRegs_of_regs rfl rfl)⟩
  · have hexec : exec (.ijtagAccess (.read off size)) s = finish s
        ((s.regRead 64 off size).2.send (.tdo (natLe (min size 8) (s.regRead 64 off size).1))) := if_neg (by simp [hon])
    have honly := regRead_only s 64 off size
    have hbuild : (s.regRead 64 off size).2.build = s.build := by rw [honly]
    have hregs : (s.regRead 64 off size).2.regs = s.regs := by rw [honly]
    refine ⟨_, hexec, mem_out_finishState (send_only _ _).2.2, keepsRegs_finishState (by decide) hbuild (keepsRegs_of_regs hbuild hregs), ?_⟩
    rw [finishState_latch]
    generalize Out.tdo (natLe (min size 8) (s.regRead 64 off size).1) = o
    generalize (s.regRead 64 off size).2 = u at honly
    rw [KeepsAll, finishState_eq, honly]
    rfl
  · have hretire : s.retire (cls % 8) phys = s.failUnit (cls % 8) phys := if_neg (by
      rintro (h | h | h | h)
      · omega
      · omega
      · exact absurd h (by simp [hgood])
      · exact hspare h)
    have hexec : exec (.ijtagAccess (.retire cls phys)) s = finish s (s.failUnit (cls % 8) phys) := by
      rw [← hretire]
      exact if_neg (by simp [hon])
    refine ⟨_, hexec, ?_⟩
    rw [unit_finishState (keepsLock_failUnit s (cls % 8) phys).build]
    exact failUnit_fails s (cls % 8) phys
  · have hexec : exec .yeljoHeaderRewrite s = finish s (s.yljHeaderWrite false) := if_pos ⟨hrec, htick, by simp [hup]⟩
    have honly := beatsOnly_fabWrite s 0 .side (s.get .yljBaseBase) (yljHeader s false) false
    have hlen := fabWrite_length s 0 .side (s.get .yljBaseBase) (yljHeader s false) false
    have hbuild : (s.yljHeaderWrite false).build = s.build := (congrArg State.build honly :)
    have hregs : (s.yljHeaderWrite false).regs = s.regs := (congrArg State.regs honly :)
    refine ⟨_, hexec, keepsRegs_finishState (by decide) hbuild (keepsRegs_of_regs hbuild hregs), ?_, ?_, ?_, ?_⟩
    · exact (finishState_yeljo _ _).trans (congrArg State.yeljo honly :)
    · exact (finishState_entries _ _).trans (congrArg State.entries honly :)
    · exact (finishState_jobs _ _).trans (congrArg State.jobs honly :)
    · rw [finishState_xfers, finishState_pendWr]
      exact hlen
  · intro typ a
    refine ⟨_, if_neg (by simp [hdue]), ?_⟩
    exact applyRecord_shows s rec data

end Sys2Proof.Proofs
end

section
/-! Admission (02 R66, R68 to R70; 14 R391): what each decision leaves of a group and its entries. -/
namespace Sys2Proof.Machine

open Safety

/-! ### Groups -/

theorem findGroup_congr {s t : State} (h : t.groups = s.groups) (gid : Nat) : t.findGroup gid = s.findGroup gid := by
  rw [State.findGroup, h, State.findGroup]

theorem findGroup_modGroup_same (s : State) (gid : Nat) {f : Group → Group} (hf : ∀ g, (f g).gid = g.gid) :
    (s.modGroup gid f).findGroup gid = (s.findGroup gid).map f :=
  find?_replaceFirst_same _ (fun g => by rw [hf]) s.groups

theorem findGroup_modGroup_other (s : State) {gid k : Nat} (hne : gid ≠ k) {f : Group → Group} (hf : ∀ g, (f g).gid = g.gid) :
    (s.modGroup gid f).findGroup k = s.findGroup k :=
  find?_replaceFirst _ _ (fun g => by rw [hf]) (fun g hg => by simpa [eq_of_beq hg] using hne) s.groups

theorem message_groups (s : State) (fn v : Nat) : (s.message fn v).groups = s.groups := by
  have hall := (message_only s fn v).1
  unfold KeepsAll at hall
  rw [hall]

theorem logRec_groups (s : State) (typ ctx ring a : Nat) (b : Bytes) : (s.logRec typ ctx ring a b).groups = s.groups := by
  rw [(logRec_only s typ ctx ring a b).1]

theorem writeCmpl_groups (s : State) (c : Cmpl) : (s.writeCmpl c).groups = s.groups := by
  unfold State.writeCmpl
  extract_lets i n t b a s1 s2 s3 s4
  have h1 : s1.groups = s.groups := by
    unfold s1
    split
    · exact (congrArg State.groups (beatsOnly_fabWrite s 0 .side a b c.promised) :)
    · rfl
  have h3 : s3.groups = s.groups := by
    unfold s3
    split <;> exact h1
  have h4 : s4.groups = s.groups := (logRec_groups s3 _ _ _ _ _).trans h3
  split
  · exact (message_groups s4 _ _).trans h4
  · exact h4

theorem postCmpl_groups (s : State) (c : Cmpl) : (s.postCmpl c).groups = s.groups := by
  unfold State.postCmpl
  extract_lets r i
  split
  · exact writeCmpl_groups s c
  · rfl

/-! ### What the ends of entries keep -/

/-- The group of this number, where one stands, is refused or done. -/
def Turned (s : State) (gid : Nat) : Prop := ∀ h, s.findGroup gid = some h → h.stage = .refused ∨ h.stage = .done

/-- Entries end and nothing else happens to them: none becomes ready, none that has ended comes back, and no refused group is taken up. -/
structure Ending (s t : State) : Prop where
  ready : ∀ e ∈ t.entries, e.stage = .ready → e ∈ s.entries
  ended : ∀ u, Ended s u → Ended t u
  turned : ∀ gid, Turned s gid → Turned t gid

theorem Ending.refl (s : State) : Ending s s := ⟨fun _ h _ => h, fun _ h => h, fun _ h => h⟩

theorem Ending.trans {s t u : State} (h : Ending s t) (k : Ending t u) : Ending s u :=
  ⟨fun e he hr => h.ready e (k.ready e he hr) hr, fun v hv => k.ended v (h.ended v hv), fun g hg => k.turned g (h.turned g hg)⟩

theorem ending_of {s t : State} (he : t.entries = s.entries) (hg : t.groups = s.groups) : Ending s t :=
  ⟨fun e h _ => he ▸ h, fun _ => ended_of_entries he, fun gid h => by rw [Turned, findGroup_congr hg]; exact h⟩

theorem ending_foldl {α : Type} (l : List α) (g : State → α → State) (h : ∀ s a, Ending s (g s a)) (s : State) : Ending s (l.foldl g s) := by
  induction l generalizing s with
  | nil => exact .refl s
  | cons a l ih => exact (h s a).trans (ih _)

theorem turned_modGroup {s : State} {gid k : Nat} {f : Group → Group} (hgid : ∀ g, (f g).gid = g.gid)
    (hstage : ∀ g : Group, (f g).stage = g.stage ∨ (f g).stage = .refused ∨ (f g).stage = .done) (h : Turned s k) : Turned (s.modGroup gid f) k := by
  intro x hx
  by_cases hk : gid = k
  · rw [hk, findGroup_modGroup_same s k hgid] at hx
    obtain ⟨g, hg, rfl⟩ := Option.map_eq_some_iff.mp hx
    exact (hstage g).elim (fun hs => hs ▸ h g hg) id
  · rw [findGroup_modGroup_other s hk hgid] at hx
    exact h x hx

theorem ending_modGroup (s : State) (gid : Nat) {f : Group → Group} (hgid : ∀ g, (f g).gid = g.gid)
    (hstage : ∀ g : Group, (f g).stage = g.stage ∨ (f g).stage = .refused ∨ (f g).stage = .done) : Ending s (s.modGroup gid f) :=
  ⟨fun _ h _ => h, fun _ h => h, fun _ h => turned_modGroup hgid hstage h⟩

/-- Entries of one number leave. -/
theorem ending_filter {s t : State} {uid : Nat} (he : t.entries = s.entries.filter (fun x => x.uid != uid)) (hg : t.groups = s.groups) :
    Ending s t :=
  ⟨fun _ h _ => (List.mem_filter.mp (he ▸ h)).1, fun _ => ended_filter he, fun gid h => by rw [Turned, findGroup_congr hg]; exact h⟩

theorem ending_settleGroupFuel (n gid : Nat) (s : State) : Ending s (settleGroupFuel n gid s) := by
  induction n generalizing s with
  | zero => exact .refl s
  | succ n ih =>
    rw [settleGroupFuel]
    split
    · next g e _ _ =>
      split
      · exact .refl s
      · extract_lets rest last s1 s2 s3
        have h1 : Ending s s1 := ending_filter (uid := e.uid) rfl rfl
        have h2 : Ending s1 s2 := by
          unfold s2
          split
          · refine (ending_modGroup s1 gid (f := fun x => { x with covered := 0 }) (fun _ => rfl) (fun _ => .inl rfl)).trans ?_
            exact ending_foldl _ _ (fun a c => ending_of (postCmpl_entries a c) (postCmpl_groups a c)) _
          · exact ending_modGroup s1 gid (f := fun x => { x with covered := x.covered + 1 }) (fun _ => rfl) (fun _ => .inl rfl)
        have h3 : Ending s2 s3 := by
          unfold s3
          split
          · exact ending_modGroup s2 gid (f := fun x => { x with stage := .done }) (fun _ => rfl) (fun _ => .inr (.inr rfl))
          · exact .refl s2
        exact ((h1.trans h2).trans h3).trans (ih s3)
    · exact .refl s

theorem ending_settleRing (s : State) (ctx ring : Nat) : Ending s (s.settleRing ctx ring) :=
  ending_foldl _ _ (fun a gid => ending_settleGroupFuel _ gid a) s

/-- A change of the first entry of a number, to one that is not ready. -/
theorem mem_modEntry {s : State} {uid : Nat} {f : Entry → Entry} (hstage : ∀ e, (f e).stage ≠ .ready) {e : Entry}
    (h : e ∈ (s.modEntry uid f).entries) (hready : e.stage = .ready) : e ∈ s.entries := by
  have hmem (l : List Entry) : e ∈ replaceFirst (fun y => y.uid == uid) f l → e ∈ l := by
    induction l with
    | nil => exact id
    | cons a l ih =>
      rw [replaceFirst]
      split
      · intro h
        rcases List.mem_cons.mp h with rfl | h
        · exact absurd hready (hstage a)
        · exact List.mem_cons_of_mem a h
      · intro h
        rcases List.mem_cons.mp h with rfl | h
        · exact List.mem_cons_self
        · exact List.mem_cons_of_mem a (ih h)
  exact hmem s.entries h

theorem ending_endOne (s : State) (uid : Nat) (res : Result) : Ending s (s.endOne uid res) := by
  refine ⟨?_, fun u h => ended_endOne res (.inr h), ?_⟩
  all_goals unfold State.endOne
  all_goals split
  · exact fun _ h _ => h
  · next e _ =>
    extract_lets s1 s2
    have h2 : s2.entries = s1.entries := by
      unfold s2
      split <;> rfl
    have hback {x : Entry} (hx : x ∈ s2.entries) (hr : x.stage = .ready) : x ∈ s.entries :=
      mem_modEntry (s := s) (uid := uid) (f := fun e => { e with stage := .ended, res := res }) (fun _ => by simp) (h2 ▸ hx) hr
    split
    · exact fun x hx hr => hback hx hr
    · exact fun x hx hr => hback (((ending_settleGroupFuel _ e.gid s2).trans (ending_settleRing _ e.ctx e.ring)).ready x hx hr) hr
  · exact fun _ h => h
  · next e _ =>
    extract_lets s1 s2
    have h2 : s2.groups = s.groups := by
      unfold s2
      split <;> rfl
    have hturned {gid : Nat} (h : Turned s gid) : Turned s2 gid := by
      rw [Turned, findGroup_congr h2]
      exact h
    split
    · exact fun gid h => hturned h
    · exact fun gid h => ((ending_settleGroupFuel _ e.gid s2).trans (ending_settleRing _ e.ctx e.ring)).turned gid (hturned h)

theorem ending_wakeFence (s : State) (ctx ring : Nat) : Ending s (s.wakeFence ctx ring) := by
  unfold State.wakeFence
  split
  · split
    · exact ending_endOne s _ _
    · exact .refl s
  · exact .refl s

theorem ending_endEntry (s : State) (uid : Nat) (res : Result) : Ending s (s.endEntry uid res) := by
  unfold State.endEntry
  split
  · exact .refl s
  · exact (ending_endOne s uid res).trans (ending_wakeFence _ _ _)

/-! ### A group that is refused -/

/-- The check of its own that an entry fails, with its detail. -/
def ownCheck (s : State) (e : Entry) : Option (Nat × Nat) := match e.bad with | some b => some b | none => entryCheck s e.ctx e.desc

/-- What a refusal does to one entry of its group, by the check of its own that it fails: the FENCE that must wait stays, any other ends. -/
def State.refuseEntry (s : State) (own : Option (Nat × Nat)) (code : Nat) (e : Entry) : State :=
  let a1 := match own with | some (st, _) => if st = stPermRange then s.bump .pntRangeRefusalsCount 1 else s | none => s
  let a2 := if e.desc.opcode = opResume ∧ own.all (fun b => b.1 != stMalformed) then a1.freeSaved e.ctx (e.desc.arg % 16) else a1
  match own with
  | some (st, detail) => a2.endEntry e.uid { Result.of st with detail := detail, step := e.desc.step }
  | none =>
    if e.desc.opcode ≠ opFence then a2.endEntry e.uid { Result.of stNotAdmitted with resource := code, step := e.desc.step }
    else if fenceDone a2 e then a2.endEntry e.uid { Result.ok with step := e.desc.step }
    else a2.modEntry e.uid (fun x => { x with stage := .blocked })

theorem refuseGroup_eq (s : State) (gid code : Nat) :
    s.refuseGroup gid code =
      (groupEntries s gid).foldl (fun a e => a.refuseEntry (ownCheck s e) code e) (s.modGroup gid (fun g => { g with stage := .refused })) := rfl

/-- A refused entry ends, but for a FENCE that waits; nothing else ends or starts. -/
theorem refuseEntry_shows (s : State) (own : Option (Nat × Nat)) (code : Nat) (e : Entry) :
    (∀ x ∈ (s.refuseEntry own code e).entries, x.stage = .ready → x ∈ s.entries) ∧
      (∀ gid, Turned s gid → Turned (s.refuseEntry own code e) gid) ∧
      (e.desc.opcode ≠ opFence → Ended (s.refuseEntry own code e) e.uid) ∧
      ∀ u, (e.uid = u → e.desc.opcode ≠ opFence) → Ended s u → Ended (s.refuseEntry own code e) u := by
  unfold State.refuseEntry
  extract_lets a1 a2
  have h1 : Ending s a1 := by
    unfold a1
    split
    · split
      · exact ending_of rfl rfl
      · exact .refl s
    · exact .refl s
  have h2 : Ending s a2 := by
    unfold a2
    split
    · exact h1.trans (ending_of rfl rfl)
    · exact h1
  have hends (res : Result) := h2.trans (ending_endEntry a2 e.uid res)
  split
  · exact ⟨(hends _).ready, (hends _).turned, fun _ => ended_endEntry a2 e.uid _, fun u _ => (hends _).ended u⟩
  · split
    · exact ⟨(hends _).ready, (hends _).turned, fun _ => ended_endEntry a2 e.uid _, fun u _ => (hends _).ended u⟩
    · next hfence =>
      split
      · exact ⟨(hends _).ready, (hends _).turned, fun _ => ended_endEntry a2 e.uid _, fun u _ => (hends _).ended u⟩
      · refine ⟨fun x hx hr => h2.ready x (mem_modEntry (fun _ => by simp) hx hr) hr, h2.turned, fun h => absurd h hfence, fun u hu h => ?_⟩
        have hne : e.uid ≠ u := fun heq => hfence (hu heq)
        rw [Ended, findEntry_modEntry_other a2 (f := fun x => { x with stage := .blocked }) hne (fun _ => rfl)]
        exact h2.ended u h

/-- What a refusal leaves: the group is refused or done, nothing becomes ready, and its entries end, but for FENCEs. -/
def Refused (s t : State) (gid : Nat) : Prop :=
  Turned t gid ∧ (∀ e ∈ t.entries, e.stage = .ready → e ∈ s.entries) ∧
    ∀ e ∈ groupEntries s gid, (∀ f ∈ groupEntries s gid, f.uid = e.uid → f.desc.opcode ≠ opFence) → Ended t e.uid

theorem foldl_refuseEntry (own : Entry → Option (Nat × Nat)) (code : Nat) (l : List Entry) (s : State) :
    (∀ x ∈ (l.foldl (fun a e => a.refuseEntry (own e) code e) s).entries, x.stage = .ready → x ∈ s.entries) ∧
      (∀ gid, Turned s gid → Turned (l.foldl (fun a e => a.refuseEntry (own e) code e) s) gid) ∧
      ∀ u, (∀ f ∈ l, f.uid = u → f.desc.opcode ≠ opFence) → (Ended s u ∨ ∃ e ∈ l, e.uid = u) →
        Ended (l.foldl (fun a e => a.refuseEntry (own e) code e) s) u := by
  induction l generalizing s with
  | nil => exact ⟨fun _ h _ => h, fun _ h => h, fun u _ h => h.resolve_right (fun ⟨e, he, _⟩ => absurd he List.not_mem_nil)⟩
  | cons e l ih =>
    obtain ⟨hready, hturned, hends, hkeeps⟩ := refuseEntry_shows s (own e) code e
    obtain ⟨hready', hturned', hends'⟩ := ih (s.refuseEntry (own e) code e)
    refine ⟨fun x hx hr => hready x (hready' x hx hr) hr, fun gid h => hturned' gid (hturned gid h), fun u hf h => ?_⟩
    refine hends' u (fun f hfl => hf f (List.mem_cons_of_mem e hfl)) ?_
    rcases h with h | ⟨x, hx, hxu⟩
    · exact .inl (hkeeps u (hf e List.mem_cons_self) h)
    · rcases List.mem_cons.mp hx with rfl | hx
      · exact .inl (hxu ▸ hends (hf x List.mem_cons_self hxu))
      · exact .inr ⟨x, hx, hxu⟩

theorem refuseGroup_shows (s : State) (gid code : Nat) : Refused s (s.refuseGroup gid code) gid := by
  rw [refuseGroup_eq]
  obtain ⟨hready, hturned, hends⟩ := foldl_refuseEntry (ownCheck s) code (groupEntries s gid) (s.modGroup gid (fun g => { g with stage := .refused }))
  refine ⟨hturned gid fun x hx => ?_, hready, fun e he hf => hends e.uid hf (.inr ⟨e, he, rfl⟩)⟩
  rw [findGroup_modGroup_same s gid (f := fun g => { g with stage := .refused }) (fun _ => rfl)] at hx
  obtain ⟨g, -, rfl⟩ := Option.map_eq_some_iff.mp hx
  exact .inl rfl

/-! ### A group that is admitted -/

/-- The group admitted, with what it reserves, and its entries ready. -/
def State.admitted (s : State) (g : Group) (need : List Nat) : State :=
  let es := groupEntries s g.gid
  let s1 := s.modGroup g.gid (fun x =>
    { x with
      stage := .admitted, promised := x.deadline != 0, dueTick := x.closeTick + x.deadline, need := need,
      streams := (askOf s g es (testDeadline s g)).streams, writesWindow := writesWindows s es, holds := true, order := s.uid, mode := s.mode,
      since := s.now, points := es.any (usesPnt s) })
  { s1.nextUid with entries := s1.entries.map (fun e => if e.gid = g.gid ∧ e.stage = .fetched then { e with stage := .ready } else e) }

theorem admitted_shows {s : State} {g : Group} (hfind : s.findGroup g.gid = some g) (need : List Nat) :
    (s.admitted g need).entries = s.entries.map (fun e => if e.gid = g.gid ∧ e.stage = .fetched then { e with stage := .ready } else e) ∧
      (∃ h, (s.admitted g need).findGroup g.gid = some h ∧ h.stage = .admitted ∧ h.need = need ∧ h.holds = true ∧ h.promised = (g.deadline != 0) ∧
        h.dueTick = g.closeTick + g.deadline ∧ h.mode = s.mode) ∧ (s.admitted g need).out = s.out := by
  refine ⟨rfl, ?_, rfl⟩
  unfold State.admitted
  extract_lets es s1
  have hs1 : s1.findGroup g.gid = (s.findGroup g.gid).map _ := findGroup_modGroup_same s g.gid (fun _ => rfl)
  rw [hfind] at hs1
  exact ⟨_, hs1, rfl, rfl, rfl, rfl, rfl, rfl⟩

end Sys2Proof.Machine

namespace Sys2Proof.Proofs

open Sys2Proof.Machine Sys2Proof.Safety

/-- Settles O29: the four outcomes of a decision exclude each other, and a refusal ends the group's entries one by one. -/
theorem admissionDecides : Obligations.AdmissionDecides := by
  unfold Obligations.AdmissionDecides
  refine ⟨fun s gid g hfind hdue hawake => ?_, fun s g hfind => ?_⟩
  · show execAdmissionDecision gid s = _
    unfold execAdmissionDecision
    simp only [hfind]
    exact if_pos ⟨hdue, hawake⟩
  · intro es own a t refused
    refine ⟨fun hvl => ?_, fun hvl hown => ?_, fun hown hhold => ?_, fun hown hhold => ⟨fun need hneed => ?_, fun code hcode => ?_⟩⟩
    · have ht : t = s.modGroup g.gid (fun g => { g with stage := .held }) := if_pos hvl
      rw [ht, findGroup_modGroup_same s g.gid (f := fun g => { g with stage := .held }) (fun _ => rfl), hfind]
      exact ⟨rfl, rfl⟩
    · have ht : t = s.refuseGroup g.gid resOwnChecks := (if_neg (Bool.eq_false_iff.mp hvl)).trans (if_pos hown)
      show Refused s t g.gid
      rw [ht]
      exact refuseGroup_shows s g.gid resOwnChecks
    · have ht : t = s.modGroup g.gid (fun g => { g with stage := .held }) := by
        by_cases hvl : vlHolds s g es = true
        · exact if_pos hvl
        · exact (if_neg hvl).trans ((if_neg (Bool.eq_false_iff.mp hown)).trans (if_pos hhold))
      rw [ht, findGroup_modGroup_same s g.gid (f := fun g => { g with stage := .held }) (fun _ => rfl), hfind]
      exact ⟨rfl, rfl⟩
    · have hvl : ¬ vlHolds s g es = true := fun h => absurd hhold (by simp [mustHold, es, h])
      have ht : t = s.admitted g need := by
        refine (if_neg hvl).trans ((if_neg (Bool.eq_false_iff.mp hown)).trans ((if_neg (Bool.eq_false_iff.mp hhold)).trans ?_))
        simp only [es, a] at hneed ⊢
        rw [hneed]
        rfl
      rw [ht]
      exact admitted_shows hfind need
    · have hvl : ¬ vlHolds s g es = true := fun h => absurd hhold (by simp [mustHold, es, h])
      have ht : t = s.refuseGroup g.gid code := by
        refine (if_neg hvl).trans ((if_neg (Bool.eq_false_iff.mp hown)).trans ((if_neg (Bool.eq_false_iff.mp hhold)).trans ?_))
        simp only [es, a] at hcode ⊢
        rw [hcode]
      show Refused s t g.gid
      rw [ht]
      exact refuseGroup_shows s g.gid code

end Sys2Proof.Proofs
end

section
/-! The start of stream jobs (02 R66; 04 R121 to R144; 07 R212; 13 R356). -/
namespace Sys2Proof.Machine

open Safety

/-! ### What the preparation of a job leaves -/

/-- Entries, groups and rings stay, and the same jobs run. -/
structure SameWork (s t : State) : Prop where
  entries : t.entries = s.entries
  groups : t.groups = s.groups
  rings : t.rings = s.rings
  jobs : t.jobs.map (fun k => k.uid) = s.jobs.map (fun k => k.uid)

theorem SameWork.refl (s : State) : SameWork s s := ⟨rfl, rfl, rfl, rfl⟩

theorem SameWork.trans {s t u : State} (h : SameWork s t) (k : SameWork t u) : SameWork s u :=
  ⟨k.entries.trans h.entries, k.groups.trans h.groups, k.rings.trans h.rings, k.jobs.trans h.jobs⟩

theorem sameWork_openHandle (s : State) (ctx h alg : Nat) (key : Bytes) : SameWork s (s.openHandle ctx h alg key) := ⟨rfl, rfl, rfl, rfl⟩

theorem sameWork_initHandle (s : State) (e : Entry) (d : Desc) : SameWork s (s.initHandle e d) := by
  unfold State.initHandle
  split
  · split
    · exact sameWork_openHandle s _ _ _ _
    · exact .refl s
  · split
    · split
      · exact sameWork_openHandle s _ _ _ _
      · exact .refl s
    · exact .refl s

theorem sameWork_setHalf (s : State) (a : Bool) (h : Half) : SameWork s (s.setHalf a h) := by cases a <;> exact ⟨rfl, rfl, rfl, rfl⟩

theorem sameWork_modJob (s : State) (uid : Nat) {f : Job → Job} (hf : ∀ j, (f j).uid = j.uid) : SameWork s (s.modJob uid f) := by
  refine ⟨rfl, rfl, rfl, ?_⟩
  show (replaceFirst (fun j => j.uid == uid) f s.jobs).map _ = _
  induction s.jobs with
  | nil => rfl
  | cons j l ih =>
    rw [replaceFirst]
    split
    · rw [List.map_cons, List.map_cons, hf]
    · rw [List.map_cons, List.map_cons, ih]

theorem sameWork_closeFill (s : State) : SameWork s (s.closeFill false) := by
  rw [closeFill_eq]
  split
  · exact .refl s
  · split
    · exact sameWork_setHalf s _ _
    · exact (sameWork_setHalf s _ _).trans (sameWork_modJob _ _ (fun _ => rfl))

theorem sameWork_swapFlag (s : State) (e : Entry) : SameWork s (s.swapFlag e) := by
  unfold State.swapFlag
  extract_lets h
  split
  · exact sameWork_closeFill s
  · exact .refl s

theorem zeroSlots_jobs (s : State) (j : Job) : s.zeroSlots j = { s with
    regs := (s.zeroSlots j).regs, out := (s.zeroSlots j).out, xfers := (s.zeroSlots j).xfers, pendOps := (s.zeroSlots j).pendOps,
    qps := (s.zeroSlots j).qps, uid := (s.zeroSlots j).uid } := by
  have honly : OpOnly s (s.zeroSlots j) := foldl_opOnly _ _ (fun a d => by
    split
    · exact nvmeWrite_only _ _ _ _ _ _ _ _
    · exact .refl a) s
  exact honly.1

/-! ### Starting a job -/

theorem startJob_bars {s : State} {e : Entry} {d : Desc} {st : Nat} (h : startBar s e d = some st) (plan : Option SrcPlan) :
    s.startJob e d plan = s.endEntry e.uid { Result.of st with step := e.desc.step } := by
  unfold State.startJob
  rw [h]
  rfl

/-- A job that nothing bars joins those that run, and the streams go on from there. -/
theorem startJob_adds {s : State} {e : Entry} (h : startBar s e e.desc = none) (plan : Option SrcPlan) :
    ∃ u : State, s.startJob e e.desc plan = u.launch e.uid ∧ AddsJob s u e := by
  unfold State.startJob
  rw [h]
  extract_lets s1 j j1 s2
  have h1 : SameWork s s1 := (sameWork_initHandle s e e.desc).trans (sameWork_swapFlag _ e)
  have hadds : AddsJob s s2 e := ⟨h1.entries, h1.groups, h1.rings, s1.jobs, j1, rfl, h1.jobs, rfl, rfl, rfl, rfl, rfl, rfl, rfl, rfl, rfl⟩
  refine ⟨_, rfl, ?_⟩
  split
  · rw [AddsJob, zeroSlots_jobs]
    exact hadds
  · exact hadds

/-- The commands of the second format that take their turn and start the streams of their entry; a CHAIN does where it is outbound. -/
theorem exec_plain (s : State) {ctx ring : Nat} (img : List StepImage) (x : Instr × Nat)
    (h : x ∈ [(.copy ctx ring, opCopy), (.chain ctx ring img, opChain), (.sealJob ctx ring, opSeal), (.openJob ctx ring, opOpen),
      (.digest ctx ring, opDigest), (.digestFinal ctx ring, opDigestFinal), (.lattice ctx ring, opLattice)]) :
    ∃ name body, exec x.1 s = startFeeder name ctx ring x.2 false s body ∧
      ∀ (e : Entry) t, (x.2 = opChain → e.desc.inbound = false) → body e t = t.startPlain e := by
  simp only [List.mem_cons, List.not_mem_nil, or_false] at h
  rcases h with rfl | rfl | rfl | rfl | rfl | rfl | rfl
  case inr.inl =>
    refine ⟨"CHAIN", fun e t => if e.desc.inbound then t.startFrom e img else t.startPlain e, rfl, fun e t h => ?_⟩
    exact if_neg (by simp [h rfl])
  · exact ⟨"COPY", fun e t => t.startPlain e, rfl, fun _ _ _ => rfl⟩
  · exact ⟨"SEAL", fun e t => t.startPlain e, rfl, fun _ _ _ => rfl⟩
  · exact ⟨"OPEN", fun e t => t.startPlain e, rfl, fun _ _ _ => rfl⟩
  · exact ⟨"DIGEST", fun e t => t.startPlain e, rfl, fun _ _ _ => rfl⟩
  · exact ⟨"DIGEST_FINAL", fun e t => t.startPlain e, rfl, fun _ _ _ => rfl⟩
  · exact ⟨"LATTICE", fun e t => t.startPlain e, rfl, fun _ _ _ => rfl⟩

end Sys2Proof.Machine

namespace Sys2Proof.Proofs

open Sys2Proof.Machine Sys2Proof.Safety

/-- Settles O38: each of these commands starts the job of the entry's own streams, the seven of the second format when the handle's turn has come. -/
theorem streamJobsStart : Obligations.StreamJobsStart := by
  unfold Obligations.StreamJobsStart
  intro s ctx ring img e v1 x hx hstarts
  have hrun (hturn : v1 = false → feedTurn s e = true) (hchain : x.2 = opChain → e.desc.inbound = false) :
      exec x.1 s = .next (finishState s ((started s e).startJob e e.desc none)) := by
    cases v1
    case true =>
      have hexec : ∃ name, exec x.1 s = startEntry name ctx ring x.2 true s (fun e t => t.startPlain e) := by
        simp only [if_true, List.mem_cons, List.not_mem_nil, or_false] at hx
        rcases hx with rfl | rfl | rfl
        exacts [⟨"V1_COPY", rfl⟩, ⟨"V1_SEAL", rfl⟩, ⟨"V1_OPEN", rfl⟩]
      obtain ⟨name, hexec⟩ := hexec
      exact hexec.trans (startEntry_of_starts hstarts name _)
    case false =>
      obtain ⟨name, body, hexec, hbody⟩ := exec_plain s img x hx
      rw [hexec, startFeeder_of_starts hstarts (hturn rfl), hbody e _ hchain]
      rfl
  refine ⟨fun hv1 hturn => ?_, fun hturn hchain => ⟨fun st hbar => ?_, fun hbar => ?_⟩⟩
  · subst hv1
    obtain ⟨name, body, hexec, -⟩ := exec_plain s img x hx
    rw [hexec]
    exact ⟨name, by simp only [startFeeder, hstarts.1, if_neg (Bool.eq_false_iff.mp hturn), notDue]⟩
  · rw [hrun hturn hchain, startJob_bars hbar]
  · obtain ⟨u, hu, hadds⟩ := startJob_adds hbar none
    exact ⟨u, by rw [hrun hturn hchain, hu], hadds⟩

end Sys2Proof.Proofs
end

section
/-! The start of jobs from a shard (04 R141; 10 R291 to R293; 11). -/
namespace Sys2Proof.Machine

open Safety

/-! ### SWAP_IN and CHAIN -/

section
variable {s : State} {e : Entry} {o : Obj} {img : List StepImage} (hobj : e.desc.obj = some o)
include hobj

theorem startFrom_down {st : Nat} (h : farBar s o = some st) :
    s.startFrom e img = s.endEntry e.uid { Result.of st with step := e.desc.step } := by
  unfold State.startFrom State.startSwap
  simp only [hobj, h]
  rfl

theorem startFrom_planned {p : SrcPlan} (h : farBar s o = none) (hplan : swapPlan s e.ctx e.desc o img = .ok p) :
    s.startFrom e img = s.startJob e e.desc (some p) := by
  unfold State.startFrom State.startSwap
  simp only [hobj, h, hplan]

theorem startFrom_unplanned {st : Nat} {a : List (Nat × Nat)} (h : farBar s o = none) (hplan : swapPlan s e.ctx e.desc o img = .error (st, a)) :
    s.startFrom e img = s.endEntry e.uid { Result.of st with step := e.desc.step } := by
  unfold State.startFrom State.startSwap
  simp only [hobj, h, hplan]
  rfl

/-! ### RESTORE -/

theorem startRestore_bars {st : Nat} (h : startBar s e e.desc = some st) :
    s.startRestoreOf e img = s.endEntry e.uid { Result.of st with step := e.desc.step } := by
  unfold State.startRestoreOf State.startRestore
  simp only [hobj, h]
  rfl

section
variable (h : startBar s e e.desc = none) (hcommon : e.desc.flags.common = true)
include h hcommon

theorem startRestore_common {n : Nat}
    (hn : commonFrom (s.initHandle e e.desc) e.ctx e.desc o img (stepsIn o.step e.desc.step img) [] = .ok n) :
    s.startRestoreOf e img = (s.initHandle e e.desc).endEntry e.uid { Result.ok with step := n } := by
  unfold State.startRestoreOf State.startRestore
  simp only [hobj, h, hcommon, if_true, hn]

theorem startRestore_mixed {r : List (Nat × Nat)}
    (hr : commonFrom (s.initHandle e e.desc) e.ctx e.desc o img (stepsIn o.step e.desc.step img) [] = .error r) :
    s.startRestoreOf e img = (s.initHandle e e.desc).reportAndEnd e e.desc o stMixedStep r := by
  unfold State.startRestoreOf State.startRestore
  simp only [hobj, h, hcommon, if_true, hr]

end

/-- The raw length that a plan gives, through the lattice and the Pointing unit, is not that of the destination. -/
def lengthDiffers (s : State) (d : Desc) (p : SrcPlan) : Bool :=
  match p.raw, d.dst with
  | some n, some r => latLen (d.latCfg (s.get .latStatLanes)) (pointLen d.pnt n) != r.total
  | _, _ => false

theorem startRestore_planned {m : Maq} {segs : List SegPlan} {i : StepImage} {p : SrcPlan} (h : startBar s e e.desc = none)
    (hcommon : e.desc.flags.common = false) (hphase : phaseAt s e.ctx e.desc.step e.desc o img = .good m segs)
    (hpick : pickImage s e.ctx e.desc.step o img = some i) (hplan : planOf s e.desc o i m segs = .ok p) :
    s.startRestoreOf e img =
      match headerBar s e.ctx e.desc p with
      | some st => s.endEntry e.uid { Result.of st with step := e.desc.step }
      | none =>
        if lengthDiffers s e.desc p then s.endEntry e.uid { Result.of stLengthMismatch with step := e.desc.step } else s.startJob e e.desc (some p) := by
  unfold State.startRestoreOf State.startRestore
  simp only [hobj, h, hcommon, hphase, hpick, hplan, Bool.false_eq_true, if_false]
  rfl

theorem startRestore_unplanned {m : Maq} {segs : List SegPlan} {i : StepImage} {st : Nat} (h : startBar s e e.desc = none)
    (hcommon : e.desc.flags.common = false) (hphase : phaseAt s e.ctx e.desc.step e.desc o img = .good m segs)
    (hpick : pickImage s e.ctx e.desc.step o img = some i) (hplan : planOf s e.desc o i m segs = .error st) :
    s.startRestoreOf e img = s.endEntry e.uid { Result.of st with step := e.desc.step } := by
  unfold State.startRestoreOf State.startRestore
  simp only [hobj, h, hcommon, hphase, hpick, hplan, Bool.false_eq_true, if_false]
  rfl

/-- A Mould of a container that is not valid is counted, and shown. -/
def State.mouldBad (s : State) (ctx : Nat) : State :=
  (((s.bump .cdrCheckFailsCount 1).set .cdrFailInfoStatus stMouldInvalid).set .cdrFailInfoCtx ctx).set .cdrFailInfoCheck 0

theorem startRestore_failed {st : Nat} {r : List (Nat × Nat)} (h : startBar s e e.desc = none) (hcommon : e.desc.flags.common = false)
    (hphase : phaseAt s e.ctx e.desc.step e.desc o img = .fail st r) :
    s.startRestoreOf e img = (if st = stMouldInvalid then s.mouldBad e.ctx else s).reportAndEnd e e.desc o st r := by
  unfold State.startRestoreOf State.startRestore
  simp only [hobj, h, hcommon, hphase, Bool.false_eq_true, if_false]
  split
  · next hst =>
    rw [hst]
    rfl
  · rfl

end

theorem reportAndEnd_nil (s : State) (e : Entry) (d : Desc) (o : Obj) (st : Nat) :
    s.reportAndEnd e d o st [] = s.endEntry e.uid { Result.of st with step := e.desc.step } := by
  unfold State.reportAndEnd
  rw [List.take_nil]
  rfl

theorem mouldBad_shows (s : State) (ctx : Nat) : (s.mouldBad ctx).get .cdrCheckFailsCount = satAdd 32 (s.get .cdrCheckFailsCount) 1 ∧
    (s.mouldBad ctx).get .cdrFailInfoStatus = stMouldInvalid := by
  unfold State.mouldBad
  constructor
  · rw [get_set_other _ _ (by decide), get_set_other _ _ (by decide), get_set_other _ _ (by decide)]
    exact get_bump_same s .cdrCheckFailsCount 1
  · rw [get_set_other _ _ (by decide), get_set_other _ _ (by decide)]
    exact get_set_same _ _ (by decide)

end Sys2Proof.Machine

namespace Sys2Proof.Proofs

open Sys2Proof.Machine Sys2Proof.Safety

/-- Settles O39: the plan of a container, the bars and the lengths are those of the state in which the entry is started. -/
theorem shardJobsStart : Obligations.ShardJobsStart := by
  unfold Obligations.ShardJobsStart
  intro s ctx ring img e
  refine ⟨fun x hx hstarts hturn hin => ?_, fun v1 => ?_⟩
  · have hexec : exec x.1 s = .next (finishState s ((started s e).startFrom e img)) := by
      simp only [List.mem_cons, List.not_mem_nil, or_false] at hx
      rcases hx with rfl | rfl
      · exact startFeeder_of_starts hstarts hturn "SWAP_IN" (fun e t => t.startFrom e img)
      · refine (startFeeder_of_starts hstarts hturn "CHAIN" (fun e t => if e.desc.inbound then t.startFrom e img else t.startPlain e)).trans ?_
        rw [if_pos (hin rfl)]
    have hjob (plan : Option SrcPlan) (hplan : (started s e).startFrom e img = (started s e).startJob e e.desc plan)
        (hbar : startBar (started s e) e e.desc = none) :
        ∃ u : State, exec x.1 s = .next (finishState s (u.launch e.uid)) ∧ AddsJob (started s e) u e := by
      obtain ⟨u, hu, hadds⟩ := startJob_adds hbar plan
      exact ⟨u, by rw [hexec, hplan, hu], hadds⟩
    refine ⟨fun hobj hbar => hjob none ?_ hbar, fun o st hobj hdown => ?_, fun o hobj hup => ⟨fun st a hplan => ?_, fun p st hplan hbar => ?_,
      fun p hplan hbar => hjob (some p) (startFrom_planned hobj hup hplan) hbar⟩⟩
    · unfold State.startFrom State.startSwap
      simp only [hobj]
    · rw [hexec, startFrom_down hobj hdown]
    · rw [hexec, startFrom_unplanned hobj hup hplan]
    · rw [hexec, startFrom_planned hobj hup hplan, startJob_bars hbar]
  · intro c hstarts hturn o hobj barred
    have hexec : exec c s = .next (finishState s ((started s e).startRestoreOf e img)) := by
      cases v1
      case true => exact startEntry_of_starts hstarts "V1_RESTORE" (fun e t => t.startRestoreOf e img)
      case false => exact startFeeder_of_starts hstarts (hturn rfl) "RESTORE" (fun e t => t.startRestoreOf e img)
    refine ⟨fun st hbar => ?_, fun hbar hcommon => ?_, fun hbar hcommon m segs i p hphase hpick hplan => ?_, fun hbar hcommon =>
      ⟨fun m segs i st hphase hpick hplan => ?_, fun st r hphase => ?_⟩⟩
    · exact hexec.trans (by rw [startRestore_bars hobj hbar])
    · intro v
      exact ⟨fun n hn => by rw [hexec, startRestore_common hobj hbar hcommon hn], fun r hr => by rw [hexec, startRestore_mixed hobj hbar hcommon hr]⟩
    · intro bad
      rw [startRestore_planned hobj hbar hcommon hphase hpick hplan] at hexec
      have hbad : lengthDiffers (started s e) e.desc p = bad := rfl
      refine ⟨fun st hhead => ?_, fun hhead hdiff => ?_, fun hhead hsame => ?_⟩
      · rw [hhead] at hexec
        exact hexec
      · rw [hhead, hbad, hdiff] at hexec
        exact hexec
      · rw [hhead, hbad, hsame] at hexec
        obtain ⟨u, hu, hadds⟩ := startJob_adds hbar (some p)
        exact ⟨u, hexec.trans (by simp only [Bool.false_eq_true, if_false, hu]), hadds⟩
    · exact hexec.trans (by rw [startRestore_unplanned hobj hbar hcommon hphase hpick hplan])
    · rw [startRestore_failed hobj hbar hcommon hphase] at hexec
      refine ⟨fun hst => ?_, fun hst hnil => ?_, fun hst hnil => ?_⟩
      · rw [hexec, if_neg hst]
      · rw [if_neg hst, hnil, reportAndEnd_nil] at hexec
        exact hexec
      · rw [if_pos hst, hnil, reportAndEnd_nil] at hexec
        obtain ⟨hrest, hregs⟩ := endEntry_only ((started s e).mouldBad e.ctx) e.uid { Result.of st with step := e.desc.step }
        obtain ⟨hcount, hstatus⟩ := mouldBad_shows (started s e) e.ctx
        have hbuild : (((started s e).mouldBad e.ctx).endEntry e.uid { Result.of st with step := e.desc.step }).build = s.build := by
          rw [hrest]
          rfl
        refine ⟨_, hexec, ended_finishState (ended_endEntry _ _ _), ?_, ?_, ?_⟩
        · rw [finishState_jobs, hrest]
          rfl
        · rw [get_finishState hbuild (by decide)]
          exact (hregs _ 0 (by decide)).trans hcount
        · rw [get_finishState hbuild (by decide)]
          exact (hregs _ 0 (by decide)).trans hstatus

end Sys2Proof.Proofs
end

section
/-! SNAP, MOULD_LOAD, PERM_LOAD and RESUME (04 R144; 05 R175; 09 R250, R255 to R259; 10 R274). -/
namespace Sys2Proof.Machine

open Safety

/-! ### The end of a job -/

/-- What a job's end leaves of stores, slots and registers: a table goes only if it was kept for a job. -/
structure JobEnded (s t : State) : Prop where
  build : t.build = s.build
  store : t.store = s.store
  tables : ∃ p : TableSlot → Bool, t.tables = s.tables.filter (fun x => !(x.dying && p x))
  regs : KeepsRegs (entryFlds ++ [.fjIrqDoneKey]) s t

theorem jobEnded_of {s t : State} (hbuild : t.build = s.build) (hstore : t.store = s.store) (htables : t.tables = s.tables)
    (hregs : KeepsRegs (entryFlds ++ [.fjIrqDoneKey]) s t) : JobEnded s t :=
  ⟨hbuild, hstore, ⟨fun _ => false, by rw [htables]; simp⟩, hregs⟩

theorem JobEnded.trans {s t u : State} (h : JobEnded s t) (k : JobEnded t u) : JobEnded s u := by
  obtain ⟨p, hp⟩ := h.tables
  obtain ⟨q, hq⟩ := k.tables
  refine ⟨k.build.trans h.build, k.store.trans h.store, ⟨fun x => p x || q x, ?_⟩, keepsRegs_trans h.regs k.regs⟩
  rw [hq, hp, List.filter_filter]
  refine List.filter_congr fun x _ => ?_
  show _ = !(x.dying && (p x || q x))
  cases x.dying <;> cases p x <;> cases q x <;> rfl

theorem jobEnded_settleErases (s : State) : JobEnded s s.settleErases ∧ s.settleErases.entries = s.entries := by
  unfold State.settleErases
  extract_lets due
  split
  · refine ⟨jobEnded_of rfl rfl rfl ?_, rfl⟩
    exact keepsRegs_trans (t := { s with keys := s.keys.map (fun x => if due x then x.erase else x) }) (keepsRegs_of_regs rfl rfl)
      (keepsRegs_up _ (by decide))
  · exact ⟨jobEnded_of rfl rfl rfl (keepsRegs_refl _ _), rfl⟩

theorem jobEnded_releaseJob (s : State) (j : Job) : JobEnded s (s.releaseJob j) ∧ (s.releaseJob j).entries = s.entries := by
  unfold State.releaseJob
  extract_lets s1 s2 s3 s4
  have h2 : JobEnded s s2 ∧ s2.entries = s.entries := by
    unfold s2
    split <;> exact ⟨jobEnded_of rfl rfl rfl (keepsRegs_of_regs rfl rfl), rfl⟩
  have h4 : JobEnded s2 s4 ∧ s4.entries = s2.entries := ⟨jobEnded_of rfl rfl rfl (keepsRegs_of_regs rfl rfl), rfl⟩
  have h5 : JobEnded s4 s4.settleTables := ⟨rfl, rfl, ⟨fun x => !tableInUse s4 x.ctx x.slot, rfl⟩, keepsRegs_of_regs rfl rfl⟩
  obtain ⟨h6, he6⟩ := jobEnded_settleErases s4.settleTables
  exact ⟨((h2.1.trans h4.1).trans h5).trans h6, he6.trans (h4.2.trans h2.2)⟩

theorem jobEnded_endEntry (s : State) (uid : Nat) (res : Result) : JobEnded s (s.endEntry uid res) := by
  obtain ⟨hrest, hregs⟩ := endEntry_only s uid res
  refine jobEnded_of ?_ ?_ ?_ (keepsRegs_mono (by simp) hregs) <;> rw [hrest]

/-- The end of a job ends its entry. -/
theorem endJob_ends (s : State) (j : Job) : JobEnded s (s.endJob j) ∧ Ended (s.endJob j) j.uid := by
  unfold State.endJob
  split
  · next hnone =>
    obtain ⟨h, hentries⟩ := jobEnded_releaseJob s j
    refine ⟨h, ended_of_entries hentries ?_⟩
    rw [Ended, hnone]
    rfl
  · next e _ =>
    extract_lets faulted r sv r1 r2 s1
    have h1 : JobEnded s s1 := by
      unfold s1
      split
      · exact jobEnded_of rfl rfl rfl (keepsRegs_of_regs rfl rfl)
      · split <;> exact jobEnded_of rfl rfl rfl (keepsRegs_of_regs rfl rfl)
    exact ⟨(h1.trans (jobEnded_releaseJob s1 j).1).trans (jobEnded_endEntry _ _ _), ended_endEntry _ _ _⟩

theorem JobEnded.getI {s t : State} (h : JobEnded s t) {f : Fld} (hf : f ∉ entryFlds ++ [.fjIrqDoneKey]) (i : Nat) : t.getI f i = s.getI f i :=
  h.regs f i hf

theorem JobEnded.mem {s t : State} (h : JobEnded s t) : (∀ x ∈ t.tables, x ∈ s.tables) ∧ ∀ x ∈ s.tables, x.dying = false → x ∈ t.tables := by
  obtain ⟨p, hp⟩ := h.tables
  rw [hp]
  exact ⟨fun x hx => (List.mem_filter.mp hx).1, fun x hx hlive => List.mem_filter.mpr ⟨hx, by simp [hlive]⟩⟩

theorem find?_filter_kept {α : Type} {p q : α → Bool} {a : α} (hq : q a = true) {l : List α} (h : l.find? p = some a) :
    (l.filter q).find? p = some a := by
  induction l with
  | nil => contradiction
  | cons b l ih =>
    rw [List.find?_cons] at h
    cases hb : p b with
    | true =>
      rw [hb] at h
      cases h
      rw [List.filter_cons, if_pos hq, List.find?_cons, hb]
    | false =>
      rw [hb] at h
      rw [List.filter_cons]
      split
      · rw [List.find?_cons, hb]
        exact ih h
      · exact ih h

theorem JobEnded.table {s t : State} (h : JobEnded s t) {ctx slot : Nat} {x : TableSlot} (hx : s.table ctx slot = some x) (hlive : x.dying = false) :
    t.table ctx slot = some x := by
  obtain ⟨p, hp⟩ := h.tables
  rw [State.table, hp]
  exact find?_filter_kept (by simp [hlive]) hx

/-- Other rows of a list stay when one is put into it. -/
theorem mem_upsert_other {α : Type} {p : α → Bool} {a x : α} (hx : p x = false) (hne : x ≠ a) (l : List α) : x ∈ upsert p a l ↔ x ∈ l := by
  induction l with
  | nil => simp [upsert, hne]
  | cons b l ih =>
    rw [upsert]
    cases hb : p b with
    | true =>
      have hxb : x ≠ b := by
        rintro rfl
        rw [hb] at hx
        cases hx
      simp [hne, hxb]
    | false => simp [ih]

/-! ### What a load brings in -/

theorem endLoad_mould {s : State} {j : Job} (hop : j.opcode = opMouldLoad) :
    (∀ m, parseMould j.main = some m → s.endLoad j =
      ({ s with store := upsert (fun x => x.ctx == j.ctx && x.entry == j.desc.arg % 8) ⟨j.ctx, j.desc.arg % 8, m⟩ s.store }).endJob j) ∧
      (parseMould j.main = none → s.endLoad j =
        ((((s.set .cdrFailInfoStatus stMouldInvalid).set .cdrFailInfoCtx j.ctx).set .cdrFailInfoCheck 0).bump .cdrCheckFailsCount 1).endJob
          { j with stop := some (stMouldInvalid, 0) }) := by
  unfold State.endLoad
  rw [if_pos hop]
  exact ⟨fun m hm => by simp only [hm], fun hm => by simp only [hm]⟩

theorem endLoad_perm {s : State} {j : Job} (hop : j.opcode = opPermLoad) :
    (∀ p, parsePerm (s.vl j.ctx) j.main = .table p → s.endLoad j = (s.installTable j.ctx (j.desc.arg % 8) p).endJob j) ∧
      (parsePerm (s.vl j.ctx) j.main = .range → s.endLoad j =
        (s.bump .pntRangeRefusalsCount 1).endJob { j with stop := some (stPermRange, 0) }) ∧
      (parsePerm (s.vl j.ctx) j.main = .malformed → s.endLoad j = s.endJob { j with stop := some (stMalformed, 0) }) := by
  unfold State.endLoad
  rw [if_neg (by rw [hop]; decide)]
  exact ⟨fun p hp => by simp only [hp], fun hp => by simp only [hp], fun hp => by simp only [hp]⟩

/-- Every load ends its entry. -/
theorem endLoad_ends (s : State) (j : Job) : Ended (s.endLoad j) j.uid := by
  unfold State.endLoad
  extract_lets fail k
  split
  · split
    · exact (endJob_ends _ j).2
    · exact (endJob_ends _ { j with stop := some (stMouldInvalid, 0) }).2
  · split
    · exact (endJob_ends _ j).2
    · exact (endJob_ends _ { j with stop := some (stPermRange, 0) }).2
    · exact (endJob_ends _ { j with stop := some (stMalformed, 0) }).2

/-- The number of a context's next load. -/
def nextLoad (s : State) (ctx : Nat) : Nat := if s.getI .pntLoadctrCount ctx = 2 ^ 32 - 1 then 2 else s.getI .pntLoadctrCount ctx + 1

theorem installTable_shows (s : State) (ctx slot : Nat) (p : PermTable) :
    (s.installTable ctx slot p).tables =
        upsert (fun x => x.ctx == ctx && x.slot == slot) ⟨ctx, slot, { p with loadNo := nextLoad s ctx }, false⟩ s.tables ∧
      (s.installTable ctx slot p).getI .pntLoadctrCount ctx = nextLoad s ctx := by
  have hlt : s.getI .pntLoadctrCount ctx < 2 ^ 32 := getI_lt s .pntLoadctrCount ctx (Nat.one_lt_two_pow (by decide))
  unfold State.installTable nextLoad
  extract_lets wrap s1 n s2
  have hn : n = if s.getI .pntLoadctrCount ctx = 2 ^ 32 - 1 then 2 else s.getI .pntLoadctrCount ctx + 1 := by
    unfold n s1
    by_cases hwrap : s.getI .pntLoadctrCount ctx = 2 ^ 32 - 1
    · rw [if_pos hwrap, if_pos hwrap, getI_setI_same]
      rfl
    · rw [if_neg hwrap, if_neg hwrap]
  have htables : s1.tables = s.tables := by
    unfold s1
    split <;> rfl
  have hsmall : n < 2 ^ 32 := by
    rw [hn]
    split <;> omega
  rw [← hn]
  refine ⟨congrArg _ htables, ?_⟩
  exact (getI_setI_same s1 .pntLoadctrCount ctx n).trans (Nat.mod_eq_of_lt hsmall)

/-! ### RESUME -/

section
variable {s : State} {e : Entry}

theorem startResume_none (h : s.savedRec e.ctx (e.desc.arg % 16) = none) :
    s.startResume e = s.endEntry e.uid { Result.of stMalformed with step := e.desc.step } := by
  unfold State.startResume
  simp only [h]
  rfl

variable {r : Saved} (hrec : s.savedRec e.ctx (e.desc.arg % 16) = some r)
include hrec

/-- What a record that is used up leaves, and its job's result so far. -/
theorem startResume_table (h : tableKept s e.ctx r.job = false) : ∃ res, s.startResume e = (s.freeSaved e.ctx r.id).endEntry e.uid res := by
  unfold State.startResume
  simp only [hrec, if_pos (Bool.eq_false_iff.mp h)]
  exact ⟨_, rfl⟩

theorem startResume_row (h : tableKept s e.ctx r.job = true) (hrow : rowOpen r.job (s.get .latStatLanes) = true) :
    ∃ res, s.startResume e = (((s.freeSaved e.ctx r.id).up .latStatReshaped).bump .latReshapedJobsCount 1).endEntry e.uid res := by
  unfold State.startResume
  simp only [hrec, if_neg (not_not_intro h), if_pos hrow]
  exact ⟨_, rfl⟩

theorem startResume_bars (h : tableKept s e.ctx r.job = true) (hrow : rowOpen r.job (s.get .latStatLanes) = false)
    (hbar : (startBar s e r.desc).isSome = true) : ∃ res, s.startResume e = (s.freeSaved e.ctx r.id).endEntry e.uid res := by
  obtain ⟨st, hst⟩ := Option.isSome_iff_exists.mp hbar
  unfold State.startResume
  simp only [hrec, if_neg (not_not_intro h), if_neg (Bool.eq_false_iff.mp hrow), hst]
  exact ⟨_, rfl⟩

/-- The saved job goes on under the entry, at the lanes of now. -/
theorem startResume_goesOn (h : tableKept s e.ctx r.job = true) (hrow : rowOpen r.job (s.get .latStatLanes) = false)
    (hbar : startBar s e r.desc = none) :
    ∃ u : State, s.startResume e = u.launch e.uid ∧ u.entries = s.entries ∧
      ∃ j : Job, u.jobs = s.jobs ++ [j] ∧ j.uid = e.uid ∧ j.doneBytes = r.job.doneBytes ∧ j.nextBlk = r.job.nextBlk ∧ j.inps = r.job.inps ∧
        j.blks = r.job.blks ∧ ∀ l, j.lat = some l → l.lanes = s.get .latStatLanes := by
  unfold State.startResume
  simp only [hrec, if_neg (not_not_intro h), if_neg (Bool.eq_false_iff.mp hrow), hbar]
  generalize hj : ({ r.job.withLanes (s.get .latStatLanes) with
    uid := e.uid, promised := ((s.findGroup e.gid).getD (Group.fresh 0 0 0 0)).promised } : Job) = j
  have honly := (loadLattice_only { s with jobs := s.jobs ++ [j] } j (1 + r.id)).1
  refine ⟨_, rfl, (congrArg State.entries honly :), j, (congrArg State.jobs honly :), ?_⟩
  subst hj
  refine ⟨rfl, rfl, rfl, rfl, rfl, fun l hl => ?_⟩
  obtain ⟨l', -, rfl⟩ := Option.map_eq_some_iff.mp hl
  rfl

end

/-- What the end of an entry after a change of nothing that it shows leaves. -/
theorem finish_endEntry {s v : State} (uid : Nat) (res : Result) (hbuild : v.build = s.build) :
    Ended (finishState s (v.endEntry uid res)) uid ∧ (finishState s (v.endEntry uid res)).jobs = v.jobs ∧
      (finishState s (v.endEntry uid res)).saved = v.saved ∧ KeepsRegs entryFlds v (finishState s (v.endEntry uid res)) := by
  obtain ⟨hrest, hregs⟩ := endEntry_only v uid res
  have hb : (v.endEntry uid res).build = v.build := by rw [hrest]
  refine ⟨ended_finishState (ended_endEntry v uid res), ?_, ?_, fun f i hf => ?_⟩
  · rw [finishState_jobs, hrest]
  · rw [finishState_saved, hrest]
  · have hpba : f ≠ .fjMsixPbaPending := fun he => hf (he ▸ by decide)
    rw [getI_finishState (hb.trans hbuild) hpba, hregs f i hf]

end Sys2Proof.Machine

namespace Sys2Proof.Proofs

open Sys2Proof.Machine Sys2Proof.Safety

/-- Settles O40: a load changes its entry or slot before the job ends, whose end lets go only what was kept for it; a RESUME acts on the record
that it names. -/
theorem snapsLoadsAndResume : Obligations.SnapsLoadsAndResume := by
  unfold Obligations.SnapsLoadsAndResume
  refine ⟨fun s ctx ring e v1 hstarts => ?_, fun s ctx ring data e x hx hstarts => ?_, fun s j => ?_, fun s ctx ring e hstarts hturn => ?_⟩
  · have hexec : exec (if v1 then .v1Snap ctx ring else .snap ctx ring) s = .next (finishState s ((started s e).startSnap e)) := by
      cases v1
      case true => exact startEntry_of_starts hstarts "V1_SNAP" (fun e t => t.startSnap e)
      case false => exact startEntry_of_starts hstarts "SNAP" (fun e t => t.startSnap e)
    refine ⟨_, hexec, ?_, ?_, ?_, keepsRegs_finishState (by decide) rfl (keepsRegs_of_regs rfl rfl)⟩
    · rw [finishState_ckpt]
      rfl
    · rw [finishState_entries]
      rfl
    · rw [finishState_ckpt, finishState_entries, KeepsAll, finishState_eq]
      rfl
  · have hexec : exec x.1 s = .next (finishState s ((started s e).startJob e e.desc none)) := by
      simp only [List.mem_cons, List.not_mem_nil, or_false] at hx
      rcases hx with rfl | rfl
      · exact startEntry_of_starts hstarts "MOULD_LOAD" (fun e t => t.startPlain e)
      · exact startEntry_of_starts hstarts "PERM_LOAD" (fun e t => t.startPlain e)
    refine ⟨fun st hbar => ?_, fun hbar => ?_⟩
    · rw [hexec, startJob_bars hbar]
    · obtain ⟨u, hu, hadds⟩ := startJob_adds hbar none
      exact ⟨u, by rw [hexec, hu], hadds⟩
  · intro t k n
    refine ⟨endLoad_ends s j, fun hop => ⟨fun m hm => ?_, fun hm => ?_⟩, fun hop => ⟨fun p hp => ?_, fun hp => ?_, fun hp => ?_⟩⟩
    · have ht : t.store = upsert (fun x => x.ctx == j.ctx && x.entry == k) ⟨j.ctx, k, m⟩ s.store :=
        (congrArg State.store ((endLoad_mould hop).1 m hm)).trans (endJob_ends _ j).1.store
      rw [ht]
      refine ⟨find?_upsert_same (by simp) _, fun x hx => mem_upsert_other ?_ ?_ _⟩
      · simpa using hx
      · rintro rfl
        exact hx ⟨rfl, rfl⟩
    · have ht : t = _ := (endLoad_mould hop).2 hm
      have hends := (endJob_ends ((((s.set .cdrFailInfoStatus stMouldInvalid).set .cdrFailInfoCtx j.ctx).set .cdrFailInfoCheck 0).bump
        .cdrCheckFailsCount 1) { j with stop := some (stMouldInvalid, 0) }).1
      rw [← ht] at hends
      refine ⟨hends.store, (hends.getI (by decide) 0).trans ?_, (hends.getI (by decide) 0).trans ?_, (hends.getI (by decide) 0).trans ?_⟩
      · refine (get_bump_same _ .cdrCheckFailsCount 1).trans ?_
        rw [get_set_other _ _ (by decide), get_set_other _ _ (by decide), get_set_other _ _ (by decide)]
        rfl
      · refine (getI_bump_other _ 1 0 (by decide)).trans ?_
        show ((_ : State).get .cdrFailInfoStatus) = _
        rw [get_set_other _ _ (by decide), get_set_other _ _ (by decide)]
        exact get_set_same _ _ (by decide)
      · refine (getI_bump_other _ 1 0 (by decide)).trans ?_
        show ((_ : State).get .cdrFailInfoCtx) = _
        rw [get_set_other _ _ (by decide), get_set, if_pos rfl]
        rfl
    · have ht : t = _ := (endLoad_perm hop).1 p hp
      have hends := (endJob_ends (s.installTable j.ctx (j.desc.arg % 8) p) j).1
      rw [← ht] at hends
      obtain ⟨htables, hcount⟩ := installTable_shows s j.ctx (j.desc.arg % 8) p
      refine ⟨hends.table ?_ rfl, (hends.getI (by decide) j.ctx).trans hcount, fun x hx hother hlive => ?_⟩
      · rw [State.table, htables]
        exact find?_upsert_same (by simp [k]) _
      · refine hends.mem.2 x ?_ hlive
        rw [htables, mem_upsert_other (by simpa using hother)]
        · exact hx
        · rintro rfl
          exact hother ⟨rfl, rfl⟩
    · have ht : t = _ := (endLoad_perm hop).2.1 hp
      have hends := (endJob_ends (s.bump .pntRangeRefusalsCount 1) { j with stop := some (stPermRange, 0) }).1
      rw [← ht] at hends
      exact ⟨(hends.getI (by decide) 0).trans (get_bump_same s .pntRangeRefusalsCount 1), hends.mem⟩
    · have ht : t = _ := (endLoad_perm hop).2.2 hp
      have hends := (endJob_ends s { j with stop := some (stMalformed, 0) }).1
      rw [← ht] at hends
      exact hends.mem
  · have hexec : exec (.resume ctx ring) s = .next (finishState s ((started s e).startResume e)) :=
      startFeeder_of_starts hstarts hturn "RESUME" (fun e t => t.startResume e)
    refine ⟨fun hnone => by rw [hexec, startResume_none (s := started s e) hnone], fun r hrec => ?_⟩
    have hrec' : (started s e).savedRec e.ctx (e.desc.arg % 16) = some r := hrec
    refine ⟨fun hkept => ?_, fun hkept hrow => ?_, fun hkept hrow hbar => ?_, fun hkept hrow hbar => ?_⟩
    · obtain ⟨res, hres⟩ := startResume_table hrec' hkept
      rw [hres] at hexec
      obtain ⟨hended, hjobs, hsaved, hregs⟩ := finish_endEntry (s := s) (v := (started s e).freeSaved e.ctx r.id) e.uid res rfl
      exact ⟨_, hexec, hended, hjobs, hregs, hsaved⟩
    · obtain ⟨res, hres⟩ := startResume_row hrec' hkept hrow
      rw [hres] at hexec
      obtain ⟨hended, hjobs, hsaved, hregs⟩ := finish_endEntry (s := s)
        (v := (((started s e).freeSaved e.ctx r.id).up .latStatReshaped).bump .latReshapedJobsCount 1) e.uid res rfl
      refine ⟨_, hexec, hended, hjobs, ?_, hsaved, ?_, ?_⟩
      · refine (congrArg (· != 0) (hregs .latStatReshaped 0 (by decide))).trans ?_
        exact (flag_bump_other _ 1 (by decide)).trans (flag_up_same _ _ (by decide))
      · refine (hregs .latReshapedJobsCount 0 (by decide)).trans ?_
        refine (get_bump_same _ .latReshapedJobsCount 1).trans ?_
        rw [get_up_other _ (by decide)]
        rfl
      · refine keepsRegs_trans ?_ (keepsRegs_mono (by simp) hregs)
        exact keepsRegs_trans (keepsRegs_up ((started s e).freeSaved e.ctx r.id) (f := .latStatReshaped) (by decide))
          (keepsRegs_bumpI (f := .latReshapedJobsCount) (by decide) _ 0 1)
    · obtain ⟨res, hres⟩ := startResume_bars hrec' hkept hrow hbar
      rw [hres] at hexec
      obtain ⟨hended, hjobs, -, hregs⟩ := finish_endEntry (s := s) (v := (started s e).freeSaved e.ctx r.id) e.uid res rfl
      exact ⟨_, hexec, hended, hjobs, hregs⟩
    · obtain ⟨u, hu, hentries, j, hjobs, hrest⟩ := startResume_goesOn hrec' hkept hrow hbar
      exact ⟨u, by rw [hexec, hu], hentries, j, hjobs, hrest⟩

end Sys2Proof.Proofs
end
